-- ==== Sys2Proof/Word.lean ====
section
/-! DEFINITION. The word types of the Ulubo's registers, queue items, bank words and octets (02_conventions.md R43),
and their plainest arithmetic. -/

namespace Sys2Proof

/-- One octet of the capture store, of a dictionary value or of a frame on a bus. -/
abbrev Byte := BitVec 8

/-- A 64-bit word: a queue item, a bank word, the contents of a dictionary subindex. -/
abbrev Word := BitVec 64

/-- A BAR0 register, a lane setting word. -/
abbrev Word32 := BitVec 32

/-- The 53-bit frame number (R39). -/
abbrev FrameNo := BitVec 53

/-- A timestamp: frame in [63:11], sample in [10:6], fraction in [5:0] (R36). -/
abbrev Stamp := BitVec 64

end Sys2Proof
end

