-- ==== Sys2Proof/Syntax.lean ====
section
/-! DEFINITION. The commands and events of the Ulubo capture engine module: one constructor per row of the table of
operations and events, with the operands that reach the module from outside. A dictionary write carries its path and the
value; an event carries the unit in which it happens and what the world outside supplies (log entry 6). -/

namespace Sys2Proof

/-- The three paths to the object dictionary (R475). -/
inductive Path where
  | host | can | sloe
  deriving DecidableEq, Repr

/-- How a field that both the dictionary and BAR0 hold is reached: BAR0, or a dictionary path. -/
inductive Via where
  | bar
  | dict (p : Path)
  deriving DecidableEq, Repr

/-- Producer and consumer classes of queues (R415). -/
inductive QClass where
  | none | host | controlCore | recordWriter | dma | sloeFwd | sloeRx | errorPost
  deriving DecidableEq, Repr

/-- The voltages, in microvolt against GND, at the two contacts of one lane over the samples of one frame: a sample that a
list does not reach is 0 V. They are taken as the comparators see them, with tap error and noise (R71). -/
structure LaneIn where
  lane : Nat
  p : List Int
  n : List Int
  deriving DecidableEq, Repr

/-- How a TLP of the host reaches the function: whole, poisoned (R444, R466), or with an ECRC that does not agree (R437). -/
inductive TlpState where
  | good
  | poisoned
  | badEcrc
  deriving DecidableEq, Repr

/-- What the contacts carry during one frame: lane voltages (a lane not listed is at 0 V), and where TRIG_IN0, TRIG_IN1 and SYNC_IN lie by
sample (true: above the rising threshold; false: below the hysteresis band; none, and a sample that a list does not reach: inside the band,
R536, R550); and the domains whose pattern engine does not get in time the
drive frame that it reads for this frame (R317); whether the fine tuning word of the sample clock lies within the outer sixteenth of
its range (R332); the store addresses that meet an uncorrectable error when a DMA channel reads them in this frame (R444). -/
structure FrameIn where
  lanes : List LaneIn
  trig0 : List (Option Bool)
  trig1 : List (Option Bool)
  sync : List (Option Bool)
  late : List Nat
  outer : Bool
  bad : List Nat
  deriving DecidableEq, Repr

/-- What a probe test found when it drove one contact (R90): the lane and the contact (0 P, 1 N); `own`, the peak-to-peak swing
at the driven contact in microvolt; `rest`, the movement of the resting voltage; the swings heard on the same contact of the
lower and upper neighbour and, from P, on N; `zs`, the source impedance of R87 in ohm. -/
structure ProbeResult where
  lane : Nat
  contact : Nat
  own : Nat
  rest : Nat
  lower : Nat
  upper : Nat
  pn : Nat
  zs : Nat
  deriving DecidableEq, Repr

/-- A link that a module found at one of its own ports (R367): that port, the device ID and the port of the module at its other end,
and the Sloe protocol version in force on it. -/
structure ChainLink where
  own : Nat
  peer : Nat
  far : Nat
  version : Nat
  deriving DecidableEq, Repr

/-- A module that a discovery found (R367): its device ID, its UP links, whether it is a MASTER, and the number below
which the master's forwarded requests were first sent before its last cold start (R488; 0: it has had none since any of them). -/
structure ChainMember where
  id : Nat
  links : List ChainLink
  master : Bool
  coldBefore : Nat
  deriving DecidableEq, Repr

/-- A link that is lost (R365, R368): that of port `p`, or a link of the tree beyond the neighbour of port `p`. -/
inductive LostLink where
  | own (p : Nat)
  | beyond (p : Nat)
  deriving DecidableEq, Repr

/-- A measure of a link that is complete (R369): the port, and whether the neighbour, where it is the parent, is itself aligned. -/
structure MeasuredLink where
  port : Nat
  ready : Bool
  deriving DecidableEq, Repr

/-- What a completed discovery gives a member (R367, R368): the ports of its links to children, the master's ID, its depth, Dmax, the
number of modules, its parent port, H and the chain mask, and the modules below it with the ports through which they are reached (R487). The
master has all this from its own discovery: `found`, what a discovery found that a dictionary request had asked for (R367, R475). -/
structure ChainInfo where
  children : List Nat
  masterId : Nat
  depth : Nat
  dmax : Nat
  modules : Nat
  parent : Nat
  horizon : Nat
  mask : Nat
  below : List (Nat × Nat)
  found : List ChainMember
  deriving DecidableEq, Repr

/-- What a port's training found (R361 to R363): TX port and far port, corrections, far device ID, the far side's versions. -/
structure Training where
  txPort : Nat
  farPort : Nat
  corrections : Nat
  farId : Nat
  farLow : Nat
  farHigh : Nat
  deriving DecidableEq, Repr

/-- A descriptor of a DMA channel as fetched from host memory (R448): its four words. -/
structure Descriptor where
  w0 : Nat
  w1 : Nat
  w2 : Nat
  w3 : Nat
  deriving DecidableEq, Repr

/-- What the host's configuration writes set (R437, R440, R456 to R458, R465, R466): Bus Master Enable, MSI-X Enable and Function
Mask, the tag limit of R456 (32, 256 or 1,024), Max_Read_Request_Size and Max_Payload_Size, PTM Enable, LTR Mechanism Enable, the
link power states enabled (bit 0 L0s, 1 L0p, 2 L1) and the L1 PM Substates enabled (bit 0 L1.1 and 1 L1.2 under ASPM, 2 and 3 the same
under PCI-PM), ECRC Generation and Check Enable, Completion Timeout Value, the base addresses of the three BARs; the bits of AER's
uncorrectable and correctable status written 1, its masks and the severity of the uncorrectable errors, and the error messages enabled (bit
0 correctable, 1 non-fatal, 2 fatal, 3 Unsupported Request); and what link training yields: rate and width as 0x7100 codes them, FLIT
mode. -/
structure HostConfig where
  bme : Bool
  msix : Bool
  fmask : Bool
  tags : Nat
  maxRead : Nat
  ptm : Bool
  ltr : Bool
  aspm : Nat
  rate : Nat
  width : Nat
  flit : Bool
  maxPayload : Nat
  l1ss : Nat
  ecrcGen : Bool
  ecrcCheck : Bool
  cplTimeout : Nat
  bar0 : Nat
  bar2 : Nat
  bar4 : Nat
  aerClear : Nat
  aerMask : Nat
  aerSeverity : Nat
  aerCorMask : Nat
  aerCorClear : Nat
  errReport : Nat
  deriving DecidableEq, Repr

/-- What start-up found (R516, R517): a rail out of regulation; HBM stacks trained; the banks that failed their test and the pods
whose calibration failed, as masks; the time from VIN valid, in ms. -/
structure StartUp where
  rail : Bool
  hbm : Nat
  bankFail : Nat
  podFail : Nat
  ms : Nat
  deriving DecidableEq, Repr

/-- What of an SDO or USDO transfer arrives (R480, R491): the segment that begins a segmented one, a further segment of it, the octet that
makes it whole, or a segment with the wrong toggle bit or an unknown command specifier. -/
inductive SdoPart where
  | begins
  | further
  | whole
  | toggle
  | specifier
  deriving DecidableEq, Repr

/-- An SDO or USDO transfer (R491): a download or an upload, the USDO client's node ID (none: the classical SDO channel), whether it is a
broadcast, and what of it arrives. -/
structure SdoTransfer where
  write : Bool
  client : Option Nat
  broadcast : Bool
  part : SdoPart
  deriving DecidableEq, Repr

/-- Who pushes or pops: a class and an instance (R415). -/
structure Agent where
  cls : QClass
  inst : Nat
  deriving DecidableEq, Repr

/-- A sticky flag or a clear field: a subindex reached over a dictionary path, or a bit of a BAR0 register (R49, R51). -/
inductive FlagRef where
  | dict (p : Path) (idx sub : Nat)
  | bar (off i : Nat)
  deriving DecidableEq, Repr

/-- The commands and events: each stands for the row of its name in the table of operations and events. -/
inductive Instr where
  /-- FRAME_TICK (R19): At each frame tick every pipeline stage advances one frame for all lanes, domains and stores; the
  boundary before the next frame, of which `inp` gives what the contacts carry. -/
  | frameTick (inp : FrameIn)
  /-- PTU_TIMEOUT (R194): An SPI idle timeout or an SSI or BiSS-C monoflop timeout expires and ends the transaction; unit `u`.
  -/
  | ptuTimeout (u : Nat)
  /-- TIMEBASE_WRAP (R40): The frame number returns to 0, the epoch count increases and every armed domain gets a TIMEBASE_WRAP
  record. -/
  | timebaseWrap
  /-- TIMER_EXPIRED (R156): A running sequencer timer reaches its preset and its EXPIRED term becomes true; timer `m` of domain
  `t`. -/
  | timerExpired (t : Nat) (m : Nat)
  /-- TRIG_OUT_PULSE_END (R154): A TRIG_OUT pulse has run out its WIDTH and the output is deasserted; output `o`, at physical
  sample `e` of the running frame. -/
  | trigOutPulseEnd (o : Nat) (e : Nat)
  /-- FORCED_TRIGGER_EFFECT (R166): A forced trigger acts at sample 0 of the second frame after its request as a TRIG of class
  FORCED, or is cancelled by an earlier stop; domain `t`. -/
  | forcedTriggerEffect (t : Nat)
  /-- LEAVE_STOPPING (R29): Every sample of a stopping domain has been committed, and the domain becomes UNARMED; domain `t`. -/
  | leaveStopping (t : Nat)
  /-- POD_ASSIGN_WRITE (R22): A write of 0x5000 moves a pod to a domain or to none when both domains are IDLE; pod `n` goes to
  domain `v`, 0xFF none. -/
  | podAssignWrite (p : Path) (n : Nat) (v : Nat)
  /-- MODE_WRITE (R28): A write of 0x5001 sets the mode of a domain under the rules of R28; mode `v` of domain `t`. -/
  | modeWrite (p : Path) (t : Nat) (v : Nat)
  /-- FRAME_NOW_LO_READ (R35): A read of FRAME_NOW_LO returns the low half of the frame number and latches the high half. -/
  | frameNowLoRead
  /-- REGISTER_WRITE (R55): A BAR0 write to a register that has no row of its own is served, or is rejected and recorded; `size`
  octets of value `v` at offset `off`. -/
  | registerWrite (off : Nat) (size : Nat) (v : Nat)
  /-- FLAG_CLEAR (R49): A write of 1 to a sticky flag clears it unless hardware sets it in the same cycle; `v` is written to a
  flag; `hwSet`: hardware sets it in the same fabric cycle. -/
  | flagClear (f : FlagRef) (v : Nat) (hwSet : Bool)
  /-- COUNTER_CLEAR (R51): A write of 1 to a clear field clears an event counter; `v` is written to a clear field; `event`: an
  event falls in the same fabric cycle. -/
  | counterClear (f : FlagRef) (v : Nat) (event : Bool)
  /-- HOST_ABI_WRITE (R63): A proposal written to HOST_ABI is negotiated, and a host ABI version may come into force; the
  version proposed. -/
  | hostAbiWrite (v : Nat)
  /-- WINDOW_WRITE (R69): A write of a pod's ladder window or input configuration is checked and starts settling; pod `n`: sub 1
  the window word, 2 the input configuration. -/
  | windowWrite (p : Path) (n : Nat) (sub : Nat) (v : Nat)
  /-- WINDOW_SETTLED (R70): A window or input configuration change has settled, and WINDOW_SETTLING clears; pod `n`. -/
  | windowSettled (n : Nat)
  /-- LANE_SETTING_WRITE (R551): A write of RISE, FALL, glitch width, deskew or polarity applies from sample 0 of frame N + 2;
  the setting word of lane `l`. -/
  | laneSettingWrite (p : Path) (l : Nat) (v : Nat)
  /-- DITHER_WRITE (R72): A write of the pod's dither setting applies to samples taken from frame N + 2; pod `n`. -/
  | ditherWrite (p : Path) (n : Nat) (v : Nat)
  /-- HEALTH_MODE_WRITE (R88): A write of the pod health mode takes effect at the next visit; pod `n`. -/
  | healthModeWrite (p : Path) (n : Nat) (v : Nat)
  /-- CONTACT_OVERVOLTAGE (R85): A contact crosses the overvoltage trip, or returns from it, and OVERVOLT follows; contact P (0)
  or N (1) of a lane. -/
  | contactOvervoltage (lane : Nat) (contact : Nat) (above : Bool)
  /-- HEALTH_VISIT_END (R87): The health converter ends its 2 ms visit to a contact and updates CONNECTION and ORIENT; pod
  `n`, the source impedances at the P and N of the visited lane in ohm, of which the visit finds its contact's, the swings at
  them in microvolt. -/
  | healthVisitEnd (n : Nat) (zp : Nat) (zn : Nat) (swingP : Nat) (swingN : Nat)
  /-- PROBE_TEST_START (R89): A write of 1 to 0x3010.02 requests a probe test of the selected pods. -/
  | probeTestStart (p : Path) (v : Nat)
  /-- PROBE_TEST_END (R90): A probe test ends and sets the short flags and CONNECTION of the tested lanes; with what the test
  found. -/
  | probeTestEnd (rs : List ProbeResult)
  /-- RECAL_START (R91): A write of 1 to 0x3011.02 requests ladder recalibration of the selected pods. -/
  | recalStart (p : Path) (v : Nat)
  /-- RECAL_END (R91): A pod ladder recalibration completes and the pod returns to service; pod `n`. -/
  | recalEnd (n : Nat)
  /-- MAINTENANCE_ACTIVITY_START (R400): The maintenance engine starts a waiting activity once all of its resources are free. -/
  | maintenanceActivityStart
  /-- DETECTOR_PERIOD_END (R110): A pod's detector period ends, and MAX, MIN, MEAN and RMS are latched; pod `n`. -/
  | detectorPeriodEnd (n : Nat)
  /-- INDIGO_SYNC_REQUEST (R123): A write to 0x4010.01 or INDIGO_SYNC_REQ requests a synchronising reset. -/
  | indigoSyncRequest (w : Via) (v : Nat)
  /-- INDIGO_SYNC_RESET (R123): A synchronising reset takes effect: the rounds realign, histories clear and S is set. -/
  | indigoSyncReset
  /-- INDIGO_ENGINE_WRITE (R125): An engine enable, rank or decimation write restarts that engine; engine `e`: sub 1 enable, 2
  rank, 4 decimation. -/
  | indigoEngineWrite (p : Path) (e : Nat) (sub : Nat) (v : Nat)
  /-- INDIGO_OUTPUT (R118): An engine produces an output at an output round and updates zones and threshold events; engine `e`.
  -/
  | indigoOutput (e : Nat)
  /-- BANK_REQUEST (R127): A bank request starts a cross-fade, becomes pending or completes at once; engine `e`, coefficient
  bank 0 A or 1 B. -/
  | bankRequest (w : Via) (e : Nat) (v : Nat)
  /-- FADE_END (R128): A cross-fade reaches its last output, the named bank becomes active and any pending request is served;
  engine `e`. -/
  | fadeEnd (e : Nat)
  /-- COEFFICIENT_WRITE (R129): A write of a coefficient or tap count is refused for an active or fading bank; coefficient bank
  `k` of engine `e`: sub 0 the tap count, 1 to 64 the coefficient h(sub − 1). -/
  | coefficientWrite (p : Path) (k : Nat) (e : Nat) (sub : Nat) (v : Nat)
  /-- THRESHOLD_WRITE (R132): A write of U, L or H is checked against the others and applies at the next output; lane `l`: sub 1
  U, 2 L, 3 H. -/
  | thresholdWrite (p : Path) (l : Nat) (sub : Nat) (v : Nat)
  /-- ARM (R171): The ARM command checks the domain's resources and arms it, with counters, store and engines set up in the
  following frames; domain `t`. -/
  | arm (w : Via) (t : Nat)
  /-- STOP (R172): The STOP command stops an armed domain after sample 31 of the next frame; domain `t`. -/
  | stop (w : Via) (t : Nat)
  /-- FORCE_TRIGGER (R166): The FORCE_TRIGGER command requests a forced trigger of an armed domain; domain `t`. -/
  | forceTrigger (w : Via) (t : Nat)
  /-- PTU_ASSIGN_WRITE (R182): A write of 0x5800 assigns a protocol term unit to a domain or to none; unit `u` goes to domain
  `v`, 0xFF none. -/
  | ptuAssignWrite (p : Path) (u : Nat) (v : Nat)
  /-- PTU_STANDARD_WRITE (R198): A write of a unit's standard loads that standard's default options and parameters; unit `u`. -/
  | ptuStandardWrite (p : Path) (u : Nat) (v : Nat)
  /-- REGION_ALLOCATION_WRITE (R204): A write of 0x6000 allocates, moves or removes a region and clears the units involved;
  region `r`, 8 the stimulus region: first unit in [15:0], units in [31:16]. -/
  | regionAllocationWrite (p : Path) (r : Nat) (v : Nat)
  /-- REGION_CLEAR (R208): A write of 0x6001.06 clears the named regions; the regions of a mask. -/
  | regionClear (p : Path) (v : Nat)
  /-- STORE_COMMIT (R18): The store controller commits a frame's records, which become readable; domain `t`. -/
  | storeCommit (t : Nat)
  /-- HWM_WRITE (R235): A write of the high watermark is evaluated against the fill at once; domain `t`. -/
  | hwmWrite (p : Path) (t : Nat) (v : Nat)
  /-- PEAK_RESET (R235): A peak reset sets the peak fill to the fill in force; domain `t`. -/
  | peakReset (w : Via) (t : Nat) (v : Nat)
  /-- POST_TRIGGER_STOP (R226): The post-trigger count runs out and the ring capture ends with a store stop; domain `t`. -/
  | postTriggerStop (t : Nat)
  /-- SEGMENT_LENGTH_CLOSE (R229): A segment reaches its length limit L and closes with reason LENGTH; domain `t`. -/
  | segmentLengthClose (t : Nat)
  /-- DEFERRED_SEGMENT_OPEN (R230): A deferred segment opens at c + 65 with LATE_OPEN; domain `t`. -/
  | deferredSegmentOpen (t : Nat)
  /-- BAR4_READ (R444): A BAR4 read returns store contents and is poisoned on an uncorrectable error; `len` octets at offset
  `x`; `bad` are the store addresses that read with an uncorrectable error. -/
  | bar4Read (x : Nat) (len : Nat) (bad : List Nat)
  /-- BAR4_WRITE (R211): A BAR4 write lands in the stimulus region, held on a first write to a CLEAR unit, or is discarded;
  octets at offset `x`; `bad`: how the write reaches the function. -/
  | bar4Write (x : Nat) (data : List Byte) (bad : TlpState)
  /-- STORE_LO_READ (R249): A read of FILL_LO, PEAK_LO, FIRST_TS_LO or SEGMENTS_LO latches the matching HI register; domain `t`:
  0 FILL_LO, 1 PEAK_LO, 2 FIRST_TS_LO, 3 SEGMENTS_LO. -/
  | storeLoRead (t : Nat) (which : Nat)
  /-- TRIG_TS_LO_READ (R181): A read of TRIG_TS_LO latches the other trigger stamp registers from the same set; domain `t`. -/
  | trigTsLoRead (t : Nat)
  /-- INDIGO_SYNC_LO_READ (R142): A read of INDIGO_SYNC_LO latches the high half of S. -/
  | indigoSyncLoRead
  /-- WINDOW_END (R272): A timed or segment measurement window ends; domain `t`. -/
  | windowEnd (t : Nat)
  /-- RESULTS_LATCH (R276): The results of a window are latched and queued for MEAS records; the unit of pod `n`. -/
  | resultsLatch (n : Nat)
  /-- LIMIT_COMPARE (R285): The limit entries are compared with latched results and violations become known; domain `t`. -/
  | limitCompare (t : Nat)
  /-- MASK_HOLDOFF_END (R288): The holdoff after violation N runs out and the domain stops with reason MASK; domain `t`. -/
  | maskHoldoffEnd (t : Nat)
  /-- MASK_TS_LO_READ (R302): A read of MASK_TS_LO latches MASK_TS_HI; domain `t`. -/
  | maskTsLoRead (t : Nat)
  /-- SNAPSHOT_COMMAND (R282): A snapshot command sets a histogram snapshot boundary; histogram engine `h`. -/
  | snapshotCommand (p : Path) (h : Nat) (v : Nat)
  /-- SNAPSHOT_READOUT_START (R282): At Fb + 6 the engine starts reading out and clearing the closed half of its bank; histogram
  engine `h`. -/
  | snapshotReadoutStart (h : Nat)
  /-- SNAPSHOT_READOUT_END (R283): A histogram readout ends, and after a final snapshot the bank is returned; histogram engine
  `h`. -/
  | snapshotReadoutEnd (h : Nat)
  /-- DRIVE_ENABLE_WRITE (R304): A write of the drive enable mask enables or disables lane drivers; pod `n`. -/
  | driveEnableWrite (p : Path) (n : Nat) (v : Nat)
  /-- IDLE_LEVEL_WRITE (R305): A write of the idle levels changes the rest state of enabled idle lanes; pod `n`. -/
  | idleLevelWrite (p : Path) (n : Nat) (v : Nat)
  /-- DRIVER_LEVELS_WRITE (R306): A write of VOH and VOL is checked and applied; pod `n`. -/
  | driverLevelsWrite (p : Path) (n : Nat) (v : Nat)
  /-- LAUNCH_AT_CONTACT (R312): Bit slot 0 of a launched pattern reaches the contact, and the launch is counted and stamped;
  domain `t`. -/
  | launchAtContact (t : Nat)
  /-- PASS_END (R312): A pattern completes a pass, starts the next one or ends and applies its end action; domain `t`. -/
  | passEnd (t : Nat)
  /-- DRIVER_SHORT (R318): A driver at its current limit for 2 µs is latched off, and DRIVER_SHORT is set; lane `l`. -/
  | driverShort (l : Nat)
  /-- DRIVER_REENABLE (R319): A write to the re-enable field clears a lane's short-off bit; pod `n`. -/
  | driverReenable (p : Path) (n : Nat) (v : Nat)
  /-- CLOCK_CONFIG_WRITE (R328): A write of reference, multiplier, source, rate or bandwidth is checked and starts acquisition;
  sub 1 declared frequency, 2 multiplier, 3 source select, 4 rate, 5 bandwidth. -/
  | clockConfigWrite (p : Path) (sub : Nat) (v : Nat)
  /-- LOCK (R334): The loop meets the lock criterion and enters LOCKED_REF or LOCKED_TCXO; `outer`: the fine word lies in the
  outer sixteenth of its range. -/
  | lock (outer : Bool)
  /-- BAND_ENTRY_WRITE (R330): A write of a band table entry is checked and stored; entry `i`. -/
  | bandEntryWrite (p : Path) (i : Nat) (v : Nat)
  /-- BAND_FACTORY_RELOAD (R331): A write to 0x2110.81 reloads the band table from the fuses. -/
  | bandFactoryReload (p : Path) (v : Nat)
  /-- REFCLK_OUT_SOURCE_WRITE (R329): A write of 0x2100.06 changes the source of REFCLK_OUT. -/
  | refclkOutSourceWrite (p : Path) (v : Nat)
  /-- PHASE_TARGET_WRITE (R335): A write of the target phase offset replaces the old target at the next step; the target in
  two's complement. -/
  | phaseTargetWrite (w : Via) (v : Nat)
  /-- PHASE_STEP (R335): At the end of its step interval the loop moves the phase offset by one unit toward the target. -/
  | phaseStep
  /-- LOCK_LOST (R337): The loop loses lock to the reference and starts coasting, with COAST_BEGIN records; the loss cause. -/
  | lockLost (cause : Nat)
  /-- REFERENCE_QUALIFIED (R340): The reference has stayed present and in frequency for the qualification time. -/
  | referenceQualified
  /-- JUMP_MEASURED (R341): The jump J is known, COAST_END is written, and the loop slews or steps; the jump measured, in SSU.
  -/
  | jumpMeasured (j : Int)
  /-- SLEW_END (R342): A slew has removed the jump and the loop is LOCKED_REF. -/
  | slewEnd
  /-- FALLBACK (R345): The coast limit is reached and the loop falls back to the TCXO. -/
  | fallback
  /-- CLK_JUMP_LO_READ (R352): A read of CLK_JUMP_LO latches CLK_JUMP_HI. -/
  | clkJumpLoRead
  /-- SYNC_IN_EVENT (R357): SYNC_IN rises and a slip is requested, accepted or refused; at sample `e` of the running frame. -/
  | syncInEvent (e : Nat)
  /-- SYNC_SLIP (R353): An accepted slip moves the frame boundary at frame A, with a synchronising reset and SYNC_SLIP records.
  -/
  | syncSlip
  /-- FRAME_LOAD (R359): A frame number load applies at frame A, with a synchronising reset and FRAME_LOAD records. -/
  | frameLoad
  /-- CHAIN_LOAD_WRITE (R375): A write of 0x2220.07 requests a chain-wide frame number load. -/
  | chainLoadWrite (p : Path) (v : Nat)
  /-- SLOE_TRAINING_COMPLETE (R361): A Sloe port completes training and its protocol version is negotiated; port `p`. -/
  | sloeTrainingComplete (p : Nat) (x : Training)
  /-- SLOE_FRAME_MESSAGE (R364): A frame message arrives over a Sloe link and its vectors, measure and command are taken; port
  `p`: the words of the message, which arrives `off` SSU into the running frame. -/
  | sloeFrameMessage (p : Nat) (off : Nat) (ws : List Nat)
  /-- LINK_LOSS (R365): A Sloe link fails by loss of signal or by sixteen discarded messages, with an ERROR record; the
  link that is lost. -/
  | linkLoss (l : LostLink)
  /-- DISCOVERY (R367): A write of 1 to 0x2200.03 on a master starts chain discovery; with the modules that the discovery finds.
  -/
  | discovery (p : Path) (v : Nat) (found : List ChainMember)
  /-- DISCOVERY_COMPLETE (R367): Discovery completes, H is set and the chain becomes FORMED. -/
  | discoveryComplete (x : ChainInfo)
  /-- ALIGNMENT (R369): A member completes its measure and aligns to its parent by local load, slip and phase change; the link
  measured. -/
  | alignment (x : MeasuredLink)
  /-- ALIGN_TRACK (R370): Every 256 frames an aligned member rewrites its phase target, and may set ALIGN_LOST. -/
  | alignTrack
  /-- HORIZON_WRITE (R373): A write of the trigger horizon H is checked and copied to every member; `refused`: a member refuses
  the copy. -/
  | horizonWrite (p : Path) (v : Nat) (refused : Bool)
  /-- CHAIN_MASK_WRITE (R373): A write of the chain mask is checked and copied to every member; `refused`: a member refuses the
  copy. -/
  | chainMaskWrite (p : Path) (v : Nat) (refused : Bool)
  /-- HANDOVER_REQUEST (R389): A handover request changes a bank's owner by compare-and-set on its generation; bank `k`,
  expected generation, new owner. -/
  | handoverRequest (w : Via) (k : Nat) (gen : Nat) (new : Nat)
  /-- BANK_POWER_REQUEST (R397): A SET_POWER request sets a bank's requested power state; bank `k`: 0 ON, 1 RETENTION, 2 OFF. -/
  | bankPowerRequest (w : Via) (k : Nat) (v : Nat)
  /-- BANK_KEEP_REQUEST (R397): A SET_KEEP request sets or clears a bank's KEEP bit; bank `k`. -/
  | bankKeepRequest (w : Via) (k : Nat) (keep : Bool)
  /-- RECLAIM (R403): A reclaim aborts a bank test and returns the borrowed bank to its lender; bank `k`. -/
  | reclaim (w : Via) (k : Nat)
  /-- BANK_CLEARING_END (R391): A bank ends its clearing and is Unowned and zero; bank `k`. -/
  | bankClearingEnd (k : Nat)
  /-- BANK_WINDOW_ACCESS (R394): A host access of the bank window is served on a Host bank or denied; `len` octets at an offset
  of the bank window. -/
  | bankWindowAccess (write : Bool) (off : Nat) (len : Nat) (data : Nat)
  /-- ADD64 (R395): A BANK_ATOMIC_CMD of ADD64 adds the operand to a Host bank word and returns the old word; on the word that
  BANK_ATOMIC_ADDR names, with the operand registers. -/
  | add64
  /-- ADD32X2 (R395): A BANK_ATOMIC_CMD of ADD32X2 adds both halves independently and returns the old word; on the word that
  BANK_ATOMIC_ADDR names, with the operand registers. -/
  | add32x2
  /-- SWAP64 (R395): A BANK_ATOMIC_CMD of SWAP64 replaces the word and returns the old one; on the word that BANK_ATOMIC_ADDR
  names, with the operand registers. -/
  | swap64
  /-- BANK_ATOMIC_OLD_LO_READ (R411): A read of BANK_ATOMIC_OLD_LO latches BANK_ATOMIC_OLD_HI. -/
  | bankAtomicOldLoRead
  /-- BANK_TEST_INTERVAL (R401): The bank test interval expires and the engine borrows the next eligible bank; the banks whose
  owner has made no access for the idle time. -/
  | bankTestInterval (idle : List Nat)
  /-- BANK_TEST_REQUEST (R401): A write of 0x7012.0A requests a test of a named bank at the next interval; bank `v`; `idle`: its
  owner has made no access for the idle time. -/
  | bankTestRequest (p : Path) (v : Nat) (idle : Bool)
  /-- BANK_TEST_END (R402): A bank test ends, returns the bank or retires it; 0 the bank passes, 1 the spare's read-back fails,
  2 the march fails. -/
  | bankTestEnd (outcome : Nat)
  /-- RETIREMENT_RESET (R410): A write of 0x7012.09 clears the retirement map in flash. -/
  | retirementReset (p : Path) (v : Nat)
  /-- PATROL_SCRUB_READ (R404): Patrol scrub reads a unit and corrects or reports errors; at a store address: 0 no error, 1
  corrected, 2 uncorrectable; the pass ends here; it overran its time. -/
  | patrolScrubRead (addr : Nat) (kind : Nat) (passEnd : Bool) (late : Bool)
  /-- BAND_TABLE_VERIFY (R406): The verify interval expires and the band table is compared with its shadow; entries that an
  upset has changed, with their words. -/
  | bandTableVerify (upsets : List (Nat × Nat))
  /-- QUEUE_PUSH (R425): A producer pushes an item, which is accepted or dropped and reported by a gap marker; `ended`: the END
  tag; `upset`: an upset has changed a pointer copy. -/
  | queuePush (a : Agent) (q : Nat) (prio : Nat) (data : Nat) (ended : Bool) (upset : Bool)
  /-- QUEUE_POP (R420): A consumer pops the next readable item, or stalls; `upset`: an upset has changed a pointer copy. -/
  | queuePop (a : Agent) (q : Nat) (upset : Bool)
  /-- POP_BURST (R423): A POP_BURST read returns several items, only the first of which waits; `len` octets. -/
  | popBurst (q : Nat) (len : Nat) (upset : Bool)
  /-- HOST_POP_TIMEOUT (R423): A host pop reaches the stall limit and returns the empty token; queue `q`. -/
  | hostPopTimeout (q : Nat)
  /-- MARK (R422): The MARK command sets the mark to R; queue `q`. -/
  | mark (a : Agent) (q : Nat) (upset : Bool)
  /-- REWIND (R422): The REWIND command sets R to the mark or to F; queue `q`. -/
  | rewind (a : Agent) (q : Nat) (upset : Bool)
  /-- RELEASE (R422): The RELEASE command frees every item read and invalidates the mark; queue `q`. -/
  | release (a : Agent) (q : Nat) (upset : Bool)
  /-- QCFG_WRITE (R417): A write of a queue's configuration word enables, disables or reconfigures the queue; queue `q`; through
  the dictionary, the queue that the path has selected. -/
  | qcfgWrite (w : Via) (q : Nat) (v : Nat)
  /-- QEND_WRITE (R434): A write of a queue's endpoint word sets its producer and consumer; queue `q`; through the dictionary,
  the queue that the path has selected. -/
  | qendWrite (w : Via) (q : Nat) (v : Nat)
  /-- PERST_DEASSERT (R439): PERST_N is deasserted and configuration requests receive RRS until configuration space is loaded.
  -/
  | perstDeassert
  /-- CONFIG_SPACE_READY (R439): Configuration space is loaded and RRS ends; with what the host's configuration writes set. -/
  | configSpaceReady (c : HostConfig)
  /-- WIN_STAGED_WRITE (R445): A write of STAGED in WIN_w changes only the staged base; window `w`. -/
  | winStagedWrite (w : Nat) (v : Nat)
  /-- WIN_COMMIT (R445): A WIN_COMMIT write commits staged bases for TLPs decoded after it; the windows of a mask. -/
  | winCommit (mask : Nat)
  /-- WINDOW_DRAIN_END (R446): Every TLP translated under the old bases has drained, and PENDING clears. -/
  | windowDrainEnd
  /-- DMA_ENABLE (R471): A write of ENABLE in DMA_CTRL runs a channel, or returns it to IDLE; channel `c`: the word written to
  DMA_CTRL. -/
  | dmaEnable (c : Nat) (v : Nat)
  /-- DMA_ABORT (R460): A write of ABORT halts a channel and writes ABORTED descriptors; channel `c`: ABORT with the other
  fields as they stand. -/
  | dmaAbort (c : Nat)
  /-- DMA_TAIL_WRITE (R447): A write of DMA_TAIL posts descriptors to the channel; channel `c`. -/
  | dmaTailWrite (c : Nat) (v : Nat)
  /-- DESCRIPTOR_COMPLETE (R451): A DMA descriptor completes and writes its word 3, status word and MSI-X; channel `c`; `bad`
  are the store addresses that read with an uncorrectable error. -/
  | descriptorComplete (c : Nat) (bad : List Nat)
  /-- DMA_READ_COMPLETION (R459): A completion for a DMA read arrives, and its data land or are dropped as LATE_CPL; `bad`: how the
  completion reaches the function. -/
  | dmaReadCompletion (tag : Nat) (data : List Byte) (bad : TlpState)
  /-- COMPLETION_TIMEOUT (R466): A DMA read times out and the channel halts with cause TIMEOUT; the read of a tag. -/
  | completionTimeout (tag : Nat)
  /-- BME_CLEAR (R459): Bus Master Enable is cleared and every running channel halts with cause BME. -/
  | bmeClear
  /-- D3HOT_ENTRY (R461): The function enters D3hot, answers only configuration requests and halts its channels. -/
  | d3hotEntry
  /-- FLR (R462): A function-level reset stops domains, resets host-side state and clears the store. -/
  | flr
  /-- FLR_COMPLETE (R462): The FLR completes and configuration space returns to defaults. -/
  | flrComplete
  /-- CONVENTIONAL_RESET (R464): PERST_N, hot reset or link down acts as an FLR and retrains the link; `perst`: PERST_N is its
  cause. -/
  | conventionalReset (perst : Bool)
  /-- PTM_REQUEST (R458): A write of REQUEST, or the end of a PTM interval, starts a PTM dialog; asked for by a write of
  REQUEST, or the interval has ended; `off` SSU into the running frame. -/
  | ptmRequest (asked : Bool) (off : Nat)
  /-- PTM_DIALOG_COMPLETE (R458): A PTM dialog yields a new correlation pair; the PTM Master Time in ns. -/
  | ptmDialogComplete (th : Nat)
  /-- PTM_DEV_LO_READ (R458): A read of PTM_DEV_LO latches the rest of the PTM pair. -/
  | ptmDevLoRead
  /-- LINK_IDLE_ENTRY (R465): The link idle time expires and the endpoint enters L0s, L0p or L1; 1 L0s, 2 L0p, 3 L1. -/
  | linkIdleEntry (st : Nat)
  /-- MAILBOX_REQUEST (R484): The dictionary server pops a request packet from Q0 and checks its form. -/
  | mailboxRequest
  /-- DICT_READ (R474): A dictionary READ returns the value of a subindex; `off` and `len` count for a DOMAIN. -/
  | dictRead (p : Path) (idx : Nat) (sub : Nat) (off : Nat) (len : Nat)
  /-- DICT_WRITE (R474): A dictionary WRITE to a subindex with no row of its own is checked and applied; the octets of the
  value. -/
  | dictWrite (p : Path) (idx : Nat) (sub : Nat) (data : List Byte)
  /-- CAN_SDO_REQUEST (R491): An SDO or USDO transfer is received whole on the CAN path and served; `x` says whose it is and, of one that
  is not yet whole, what arrives. -/
  | canSdoRequest (x : SdoTransfer) (idx : Nat) (sub : Nat) (data : List Byte)
  /-- SDO_SEGMENT_TIMEOUT (R491): One second passes without a segment and the transfer is aborted. -/
  | sdoSegmentTimeout
  /-- SLOE_DICT_REQUEST (R487): A forwarded request arrives over Sloe bulk traffic and is served on the SLOE path; the master's
  device ID, the request's number, its words. -/
  | sloeDictRequest (master : Nat) (no : Nat) (ws : List Nat)
  /-- FORWARD_RETRANSMIT (R488): Once a lost route returns, the master resends a pending forwarded request; the request's
  number. -/
  | forwardRetransmit (no : Nat)
  /-- NMT_START (R492): NMT start puts the CAN communication into OPERATIONAL. -/
  | nmtStart
  /-- NMT_STOP (R492): NMT stop puts the CAN communication into STOPPED. -/
  | nmtStop
  /-- NMT_ENTER_PRE_OPERATIONAL (R492): NMT enter pre-operational puts the CAN communication into PRE-OPERATIONAL. -/
  | nmtEnterPreOperational
  /-- NMT_RESET_COMMUNICATION (R492): NMT reset communication reloads the communication group and sends boot-up. -/
  | nmtResetCommunication
  /-- NMT_RESET_NODE (R492): NMT reset node reloads the communication group and sends boot-up, touching nothing else. -/
  | nmtResetNode
  /-- HEARTBEAT (R491): The heartbeat producer time expires and a heartbeat is sent. -/
  | heartbeat
  /-- EMCY_TRANSMIT (R493): An emergency message waiting in the queue is sent once the inhibit time has passed. -/
  | emcyTransmit
  /-- STORE_PARAMETERS (R495): A write of the save signature to 0x1010 takes an image and starts a flash write; sub 1 all, 2
  communication group, 3 application group. -/
  | storeParameters (p : Path) (sub : Nat) (v : Nat)
  /-- FLASH_WRITE_END (R495): The background flash write of a store or restore-default ends and its response is sent; whether
  the flash write succeeded. -/
  | flashWriteEnd (ok : Bool)
  /-- RESTORE_DEFAULTS (R498): A write of the load signature to 0x1011 removes groups from the stored image; sub 1 all, 2
  communication group, 3 application group. -/
  | restoreDefaults (p : Path) (sub : Nat) (v : Nat)
  /-- VIN_VALID (R516): VIN becomes valid and a cold start begins; NODEID[6:0]. -/
  | vinValid (straps : Nat)
  /-- MODULE_READY (R516): Cold start completes with the dictionary restore, or the module becomes FAILED; what start-up found.
  -/
  | moduleReady (x : StartUp)
  /-- VIN_LOSS (R503): VIN stops being valid and all state not held in flash is lost. -/
  | vinLoss
  /-- VIN_RANGE_CHANGE (R505): VIN leaves or enters the operating range, and SUPPLY is set on onset; VIN in mV. -/
  | vinRangeChange (mv : Nat)
  /-- VIN_OVERVOLTAGE_OFF (R503): VIN above 44 V stops the power stages. -/
  | vinOvervoltageOff
  /-- SUPPLY_REVERSAL (R506): A reversal of VIN sets the non-volatile latch reported at the next cold start. -/
  | supplyReversal
  /-- POWER_STATE_REQUEST (R510): A power state request is checked and, when accepted, starts entry; PS0 to PS5. -/
  | powerStateRequest (w : Via) (v : Nat)
  /-- POWER_ENTRY_COMPLETE (R511): Entry into the requested power state completes. -/
  | powerEntryComplete
  /-- WAKE_N (R513): WAKE_N held low for 1 µs returns the module to PS0. -/
  | wakeN
  /-- WAKE_LANE (R514): A wake lane changes in the chosen direction and returns the module to PS0; the direction of the change
  of h. -/
  | wakeLane (l : Nat) (rise : Bool)
  /-- TRIG_IN_WAKE (R513): A chosen TRIG_IN edge returns the module to PS0; TRIG_IN0 or TRIG_IN1 and the direction of its edge.
  -/
  | trigInWake (i : Nat) (rise : Bool)
  /-- CAN_WAKEUP_PATTERN (R513): The ISO 11898-2 wake-up pattern returns the module from PS4. -/
  | canWakeupPattern
  /-- WAKE_EXIT (R515): The module returns to PS0, resumes the frame number and restarts its Indigo engines; the TCXO cycles
  counted while the clock was stopped. -/
  | wakeExit (c : Nat)
  /-- PS5_RESUME_READY (R518): Exit from PS5 restores the resume image and reaches ready. -/
  | ps5ResumeReady
  /-- TEMPERATURE_MEASURE (R519): The die temperature is measured every 1 ms and acted on; in 0.1 °C. -/
  | temperatureMeasure (t : Int)
  /-- CAN_POLARITY_MEASURE (R521): At each start of frame the CAN polarity is measured and may be established as NORMAL or
  SWAPPED; V(CAN_H) − V(CAN_L) in mV. -/
  | canPolarityMeasure (mv : Int)
  /-- CAN_BUS_STATE_CHANGE (R523): The CAN bus becomes error-passive or recovers from bus-off, and an emergency message is
  raised; 0 ERROR_ACTIVE, 1 ERROR_PASSIVE, 2 BUS_OFF, with the error counters. -/
  | canBusStateChange (st : Nat) (tx : Nat) (rx : Nat)
  /-- LOG_CLEAR (R529): A write of 0x8000.02 empties the error log. -/
  | logClear (p : Path) (v : Nat)
  /-- REFERENCE_CONDITION_CHANGE (R340): Reference edges appear, break or leave their frequency tolerance while the loop is not
  locked to the reference, which starts or restarts qualification and updates the reference condition; edges present, and the
  frequency measured in mHz. -/
  | referenceConditionChange (present : Bool) (mHz : Nat)
  /-- SLOE_SIGNAL_PRESENT (R361): Signal appears on the lanes of an enabled Sloe port, and the port enters or re-enters
  TRAINING; port `p`. -/
  | sloeSignalPresent (p : Nat)
  /-- SLOE_TRAINING_LANES_TIMEOUT (R361): A direction has signal but its four lanes have not all trained within 2 ms, so the
  port stays in TRAINING with cause LANES; port `p`. -/
  | sloeTrainingLanesTimeout (p : Nat)
  /-- RETURN_TO_D0 (R461): The host returns the function from D3hot to D0, keeping all state, after which memory requests are
  served again. -/
  | returnToD0
  /-- LINK_POWER_STATE_EXIT (R465): The host brings the link out of L0s, L0p or L1 back to full L0. -/
  | linkPowerStateExit
  /-- FORWARDED_RESPONSE (R487): A member's response to a forwarded request arrives at the master over bulk traffic and is
  pushed unchanged into the master's response ring; the request's number and the words of the response. -/
  | forwardedResponse (no : Nat) (ws : List Nat)
  /-- RECLAIM_COMPLETE (R403): Once the aborted march and the copy-back end, the borrowed bank returns to its lender with its
  generation increased, and the spare is released. -/
  | reclaimComplete
  /-- BANK_WAKE_COMPLETE (R397): A bank woken from RETENTION or OFF reaches ON, after clearing when it was OFF, and the accesses
  waiting on it are served; bank `k`. -/
  | bankWakeComplete (k : Nat)
  /-- HOUR_COUNTER_SAVE (R526): Every hour the hour counters of 0x2000 advance and are written to flash. -/
  | hourCounterSave
  deriving DecidableEq, Repr

end Sys2Proof
end

