-- ==== Sys2Proof/Machine/Bits.lean ====
section
/-! DEFINITION. Bit fields, byte order, two's complement, saturating counts and REAL32 (02_conventions.md R36 to R46). -/

namespace Sys2Proof.Machine

/-- Bits [lo+len-1 : lo] of a number. -/
def bits (w lo len : Nat) : Nat := w / 2 ^ lo % 2 ^ len

/-- Bit `i` of a number. -/
def bit (w i : Nat) : Bool := w / 2 ^ i % 2 == 1

/-- The value 1 or 0 of a flag. -/
def b2n (b : Bool) : Nat := if b then 1 else 0

/-- Replace bit `i` of `w`. -/
def putBit (w i : Nat) (v : Bool) : Nat :=
  if bit w i == v then w else if v then w + 2 ^ i else w - 2 ^ i

/-- Replace bits [lo+len-1 : lo] of `w` by `v` (taken modulo 2^len). -/
def putBits (w lo len v : Nat) : Nat := w - bits w lo len * 2 ^ lo + v % 2 ^ len * 2 ^ lo

/-- Two's complement reading of the low `len` bits (R43). -/
def signed (w len : Nat) : Int :=
  let v := w % 2 ^ len
  if v < 2 ^ (len - 1) then (v : Int) else (v : Int) - (2 ^ len : Nat)

/-- Two's complement coding of an integer in `len` bits. -/
def unsigned (i : Int) (len : Nat) : Nat := (i % ((2 ^ len : Nat) : Int)).toNat

/-- All-ones of a field of `len` bits. -/
def ones (len : Nat) : Nat := 2 ^ len - 1

/-- A measured quantity that exceeds its field is written as all-ones (R45); an event counter stops there (R46). -/
def satTo (len v : Nat) : Nat := min v (ones len)

/-- An integer limited to the range [lo, hi]. -/
def clampI (lo hi v : Int) : Int := if v < lo then lo else if v > hi then hi else v

/-- The `n` octets of a number, least significant first (R43). -/
def toLe : Nat → Nat → List Byte
  | 0, _ => []
  | n + 1, v => BitVec.ofNat 8 v :: toLe n (v / 256)

/-- The number that octets spell, least significant first. -/
def ofLe : List Byte → Nat
  | [] => 0
  | b :: bs => b.toNat + 256 * ofLe bs

/-- The octets of a list of 64-bit words. -/
def wordsToLe : List Nat → List Byte
  | [] => []
  | w :: ws => toLe 8 w ++ wordsToLe ws

/-- Octets packed into 64-bit words from byte 0, the last word zero-padded (R482). `n` bounds the words taken. -/
def leToWords : Nat → List Byte → List Nat
  | 0, _ => []
  | n + 1, bs => if bs.isEmpty then [] else ofLe (bs.take 8) :: leToWords n (bs.drop 8)

/-- Smallest whole number not below a / b. -/
def ceilDiv (a b : Nat) : Nat := if b = 0 then 0 else (a + b - 1) / b

/-- The number of bits of a number (0 for 0). -/
def bitLength (n : Nat) : Nat := if n = 0 then 0 else Nat.log2 n + 1

/-- Number of set bits among bits 0 to n - 1. -/
def popCount : Nat → Nat → Nat
  | 0, _ => 0
  | n + 1, w => b2n (bit w n) + popCount n w

/-- The positions 0 to n - 1 whose bit is set, rising. -/
def setBits (n w : Nat) : List Nat := (List.range n).filter (bit w)

/-- The number with exactly the bits of a list set. -/
def maskOf : List Nat → Nat
  | [] => 0
  | i :: is => let m := maskOf is; if bit m i then m else m + 2 ^ i

/-- The round to nearest, ties toward +infinity, of num / den (R117). -/
def roundHalfUp (num : Int) (den : Nat) : Int := (2 * num + (den : Int)) / (2 * (den : Int))

/-- Nearest whole number to a non-negative num / den, ties to even. -/
def roundEven (num den : Nat) : Nat :=
  let q := num / den
  let r := num % den
  if 2 * r < den then q else if den < 2 * r then q + 1 else if q % 2 = 0 then q else q + 1

/-- The binary exponent e with 2^e ≤ num / den < 2^(e+1), for num, den > 0. -/
def ratExp (num den : Nat) : Int :=
  let e : Int := (Nat.log2 num : Int) - (Nat.log2 den : Int)
  let big : Bool := if 0 ≤ e then decide (den * 2 ^ e.toNat ≤ num) else decide (den ≤ num * 2 ^ (-e).toNat)
  if big then e else e - 1

/-- The binary32 coding of a non-negative num / den with a sign, rounded to nearest, ties to even (R43; the rounding is
the model's choice, log entry 8). Values beyond the largest finite one become infinity. -/
def real32Of (neg : Bool) (num den : Nat) : Nat :=
  let s := if neg then 2 ^ 31 else 0
  if num = 0 then 0
  else
    let e := max (ratExp num den) (-126)
    let sh : Int := 23 - e
    let m := if 0 ≤ sh then roundEven (num * 2 ^ sh.toNat) den else roundEven num (den * 2 ^ (-sh).toNat)
    -- m in [0, 2^24]; adding the exponent field carries a mantissa that rounded up
    let ef : Nat := if m < 2 ^ 23 then 0 else (e + 127).toNat
    let w := if m < 2 ^ 23 then m else ef * 2 ^ 23 + (m - 2 ^ 23)
    s + min w 0x7F800000

/-- REAL32 of a rational number. -/
def real32 (q : Rat) : Nat := real32Of (decide (q < 0)) q.num.natAbs q.den

/-- One halving step of the integer square root, `n` of them: Newton's rule from above. -/
def sqrtIter (x : Nat) : Nat → Nat → Nat
  | 0, g => g
  | n + 1, g => let g' := (g + x / g) / 2; if g' < g then sqrtIter x n g' else g

/-- The whole part of the square root. -/
def isqrt (x : Nat) : Nat := if x = 0 then 0 else sqrtIter x (Nat.log2 x + 8) (2 ^ (Nat.log2 x / 2 + 1))

/-- REAL32 of the square root of a non-negative rational: the root is taken to 2^-64 relative, with a sticky bit. -/
def real32Sqrt (q : Rat) : Nat :=
  if q ≤ 0 then 0
  else
    let n := q.num.natAbs * q.den * 2 ^ 256
    let r := isqrt n
    let r' := if r * r = n then 2 * r else 2 * r + 1
    real32Of false r' (q.den * 2 ^ 129)

/-- REAL32 that is a NaN (R473). -/
def isNaN32 (w : Nat) : Bool := bits w 23 8 == 255 && bits w 0 23 != 0

/-- The timestamp of frame number `f`, sample `s`, fraction `x` (R36). -/
def stampOf (f s x : Nat) : Nat := (f % 2 ^ 53) * 2048 + s % 32 * 64 + x % 64

/-- A timestamp moved by a signed count of SSU, modulo 2^64 (R42). -/
def stampAdd (t : Nat) (d : Int) : Nat := (((t : Int) + d) % ((2 ^ 64 : Nat) : Int)).toNat

/-- The signed difference b - a of two timestamps, from `a` to `b` (R42). -/
def stampDiff (a b : Nat) : Int := signed ((b + 2 ^ 64 - a % 2 ^ 64) % 2 ^ 64) 64

end Sys2Proof.Machine
end

