-- ==== Sys2Proof/Machine/OdTable.lean ====
section
/-! DEFINITION. The object dictionary's subindices as the chapters' tables give them (R499): range of indices, range of
subindices, type (R473), access class (R474), default, and the range check of a written value where it is one number. -/

namespace Sys2Proof.Machine

/-- Data types (R473). -/
inductive OdType where
  | bool | u8 | u16 | u32 | u64 | i8 | i16 | i32 | i64 | real | str | domain
  deriving DecidableEq, Repr

/-- Access classes (R474). -/
inductive Acc where
  | const | ro | wo | rw | rws
  deriving DecidableEq, Repr

/-- The range of a written value: `any` value of the type; from `lo` to `hi`; that or one more value; signed from `-neg` to
`hi`; only the bits of a mask (the rest reserved); a sticky flag cleared by writing 1 (R49); `form`: fields that
`formOk` checks. -/
inductive Chk where
  | any | rng (lo hi : Nat) | rngOr (lo hi x : Nat) | rngI (neg hi : Nat) | mask (m : Nat) | w1c | form
  deriving DecidableEq, Repr

/-- One row of a chapter's table: indices `lo` to `hi`, subindices `a` to `b`. -/
structure OdRow where
  lo : Nat
  hi : Nat
  a : Nat
  b : Nat
  ty : OdType
  acc : Acc
  dflt : Nat
  chk : Chk
  deriving DecidableEq, Repr

/-- Indices 0x1000 onward (R500). -/
def od10 : List OdRow := [
  ⟨0x1000, 0x1000, 0, 0, .u32, .const, 0, .any⟩,
  ⟨0x1001, 0x1001, 0, 0, .u8, .ro, 0, .any⟩,
  ⟨0x1008, 0x1008, 0, 0, .str, .const, 0, .any⟩,
  ⟨0x1009, 0x1009, 0, 0, .str, .const, 0, .any⟩,
  ⟨0x100A, 0x100A, 0, 0, .str, .const, 0, .any⟩,
  ⟨0x1010, 0x1010, 0, 0, .u8, .const, 3, .any⟩,
  ⟨0x1010, 0x1010, 1, 3, .u32, .rw, 1, .any⟩,
  ⟨0x1011, 0x1011, 0, 0, .u8, .const, 3, .any⟩,
  ⟨0x1011, 0x1011, 1, 3, .u32, .rw, 1, .any⟩,
  ⟨0x1014, 0x1014, 0, 0, .u32, .ro, 0, .any⟩,
  ⟨0x1015, 0x1015, 0, 0, .u16, .rw, 0, .any⟩,
  ⟨0x1017, 0x1017, 0, 0, .u16, .rw, 0, .any⟩,
  ⟨0x1018, 0x1018, 0, 0, .u8, .const, 4, .any⟩,
  ⟨0x1018, 0x1018, 1, 1, .u32, .const, 0, .any⟩,
  ⟨0x1018, 0x1018, 2, 2, .u32, .const, 0, .any⟩,
  ⟨0x1018, 0x1018, 3, 3, .u32, .const, 0, .any⟩,
  ⟨0x1018, 0x1018, 4, 4, .u32, .const, 0, .any⟩]

/-- Indices 0x1E00 onward (R65, R501, R502). -/
def od1E_0 : List OdRow := [
  ⟨0x1E00, 0x1E00, 0, 0, .u8, .const, 7, .any⟩,
  ⟨0x1E00, 0x1E00, 1, 1, .u16, .const, 1, .any⟩,
  ⟨0x1E00, 0x1E00, 2, 2, .u16, .const, 1, .any⟩,
  ⟨0x1E00, 0x1E00, 3, 3, .u16, .const, 1, .any⟩,
  ⟨0x1E00, 0x1E00, 4, 4, .u16, .const, 2, .any⟩,
  ⟨0x1E00, 0x1E00, 5, 5, .u16, .ro, 0, .any⟩,
  ⟨0x1E00, 0x1E00, 6, 6, .u16, .const, 1, .any⟩,
  ⟨0x1E00, 0x1E00, 7, 7, .u16, .const, 2, .any⟩,
  ⟨0x1E01, 0x1E01, 0, 0, .u8, .const, 4, .any⟩,
  ⟨0x1E01, 0x1E01, 1, 1, .u8, .ro, 0, .any⟩,
  ⟨0x1E01, 0x1E01, 2, 2, .u8, .rw, 0x7F, (.rng 1 127)⟩,
  ⟨0x1E01, 0x1E01, 3, 3, .u8, .ro, 0, .any⟩,
  ⟨0x1E01, 0x1E01, 4, 4, .u8, .rw, 0, (.mask 0x3)⟩,
  ⟨0x1E03, 0x1E03, 0, 0, .u8, .const, 7, .any⟩,
  ⟨0x1E03, 0x1E03, 1, 1, .u8, .ro, 0, .any⟩,
  ⟨0x1E03, 0x1E03, 2, 2, .u8, .ro, 0, .any⟩,
  ⟨0x1E03, 0x1E03, 3, 3, .u32, .ro, 0, .any⟩,
  ⟨0x1E03, 0x1E03, 4, 4, .u16, .ro, 0, .any⟩,
  ⟨0x1E03, 0x1E03, 5, 5, .u32, .ro, 0, .any⟩,
  ⟨0x1E03, 0x1E03, 6, 6, .u8, .ro, 0, .any⟩,
  ⟨0x1E03, 0x1E03, 7, 7, .u32, .ro, 0, .any⟩,
  ⟨0x1E04, 0x1E04, 0, 0, .domain, .ro, 0, .any⟩,
  ⟨0x1E10, 0x1E10, 0, 0, .u8, .const, 5, .any⟩,
  ⟨0x1E10, 0x1E10, 1, 1, .u32, .ro, 0, .any⟩,
  ⟨0x1E10, 0x1E10, 2, 2, .bool, .rw, 0, .w1c⟩,
  ⟨0x1E10, 0x1E10, 3, 3, .u32, .ro, 0, .any⟩,
  ⟨0x1E10, 0x1E10, 4, 4, .bool, .wo, 0, .any⟩,
  ⟨0x1E10, 0x1E10, 5, 5, .u8, .ro, 0, .any⟩,
  ⟨0x1E20, 0x1E20, 0, 0, .u8, .const, 0xC, .any⟩,
  ⟨0x1E20, 0x1E20, 1, 1, .bool, .rw, 1, .any⟩]

/-- Indices 0x1E00 onward (R502). -/
def od1E_1 : List OdRow := [
  ⟨0x1E20, 0x1E20, 2, 2, .u8, .rw, 2, (.rng 0 3)⟩,
  ⟨0x1E20, 0x1E20, 3, 3, .u8, .rw, 2, (.rng 0 5)⟩,
  ⟨0x1E20, 0x1E20, 4, 4, .u8, .rw, 0x50, (.rng 50 90)⟩,
  ⟨0x1E20, 0x1E20, 5, 5, .u8, .rw, 0x4B, (.rng 50 90)⟩,
  ⟨0x1E20, 0x1E20, 6, 6, .bool, .rw, 0, .any⟩,
  ⟨0x1E20, 0x1E20, 7, 7, .u8, .ro, 0, .any⟩,
  ⟨0x1E20, 0x1E20, 8, 8, .u8, .ro, 0, .any⟩,
  ⟨0x1E20, 0x1E20, 9, 9, .u8, .ro, 0, .any⟩,
  ⟨0x1E20, 0x1E20, 10, 10, .u8, .ro, 0, .any⟩,
  ⟨0x1E20, 0x1E20, 11, 11, .u32, .ro, 0, .any⟩,
  ⟨0x1E20, 0x1E20, 12, 12, .bool, .wo, 0, .any⟩]

/-- Indices 0x1E00 onward. -/
def od1E : List OdRow := od1E_0 ++ od1E_1

/-- Indices 0x2000 onward (R527, R528). -/
def od20_0 : List OdRow := [
  ⟨0x2000, 0x2000, 0, 0, .u8, .const, 7, .any⟩,
  ⟨0x2000, 0x2000, 1, 1, .i16, .ro, 0, .any⟩,
  ⟨0x2000, 0x2000, 2, 2, .i16, .ro, 0x8000, .any⟩,
  ⟨0x2000, 0x2000, 3, 3, .u16, .ro, 0, .any⟩,
  ⟨0x2000, 0x2000, 4, 4, .u16, .ro, 0, .any⟩,
  ⟨0x2000, 0x2000, 5, 5, .u32, .ro, 0, .any⟩,
  ⟨0x2000, 0x2000, 6, 6, .u32, .ro, 0, .any⟩,
  ⟨0x2000, 0x2000, 7, 7, .u32, .ro, 0, .any⟩,
  ⟨0x2001, 0x2001, 0, 0, .u8, .ro, 0, .any⟩,
  ⟨0x2002, 0x2002, 0, 0, .u8, .const, 7, .any⟩,
  ⟨0x2002, 0x2002, 1, 1, .u8, .wo, 0, .any⟩,
  ⟨0x2002, 0x2002, 2, 2, .u8, .ro, 0, .any⟩,
  ⟨0x2002, 0x2002, 3, 3, .u8, .rw, 9, (.mask 0xF)⟩,
  ⟨0x2002, 0x2002, 4, 4, .u8, .ro, 0, .any⟩,
  ⟨0x2002, 0x2002, 5, 5, .u32, .ro, 0, .any⟩,
  ⟨0x2002, 0x2002, 6, 6, .u64, .ro, 0, .any⟩,
  ⟨0x2002, 0x2002, 7, 7, .u32, .ro, 0, .any⟩,
  ⟨0x2003, 0x2003, 0, 0, .u8, .const, 4, .any⟩,
  ⟨0x2003, 0x2003, 1, 1, .u8, .rw, 0xFF, (.rngOr 0 31 255)⟩,
  ⟨0x2003, 0x2003, 2, 2, .u16, .rw, 0, .any⟩,
  ⟨0x2003, 0x2003, 3, 3, .u32, .rw, 0, .any⟩,
  ⟨0x2003, 0x2003, 4, 4, .u8, .rw, 0, (.mask 0xF)⟩,
  ⟨0x2004, 0x2004, 0, 0, .u8, .const, 5, .any⟩,
  ⟨0x2004, 0x2004, 1, 1, .u8, .ro, 0, .any⟩,
  ⟨0x2004, 0x2004, 2, 2, .u16, .ro, 0, .any⟩,
  ⟨0x2004, 0x2004, 3, 3, .u32, .ro, 0, .any⟩,
  ⟨0x2004, 0x2004, 4, 4, .u8, .ro, 0, .any⟩,
  ⟨0x2004, 0x2004, 5, 5, .u8, .ro, 0, .any⟩,
  ⟨0x2005, 0x2005, 0, 0, .u8, .const, 0xC, .any⟩,
  ⟨0x2005, 0x2005, 1, 1, .u8, .ro, 0, .any⟩]

/-- Indices 0x2000 onward (R34, R65, R528). -/
def od20_1 : List OdRow := [
  ⟨0x2005, 0x2005, 2, 2, .bool, .rw, 0, .w1c⟩,
  ⟨0x2005, 0x2005, 3, 3, .u32, .ro, 0, .any⟩,
  ⟨0x2005, 0x2005, 4, 4, .bool, .wo, 0, .any⟩,
  ⟨0x2005, 0x2005, 5, 5, .bool, .rw, 0, .w1c⟩,
  ⟨0x2005, 0x2005, 6, 6, .u32, .ro, 0, .any⟩,
  ⟨0x2005, 0x2005, 7, 7, .bool, .wo, 0, .any⟩,
  ⟨0x2005, 0x2005, 8, 8, .bool, .rw, 0, .w1c⟩,
  ⟨0x2005, 0x2005, 9, 9, .u8, .rw, 0, (.rng 0 2)⟩,
  ⟨0x2005, 0x2005, 10, 10, .u8, .ro, 0, .any⟩,
  ⟨0x2005, 0x2005, 11, 11, .u32, .ro, 0, .any⟩,
  ⟨0x2005, 0x2005, 12, 12, .bool, .wo, 0, .any⟩,
  ⟨0x2006, 0x2006, 0, 0, .u8, .const, 3, .any⟩,
  ⟨0x2006, 0x2006, 1, 1, .u16, .rw, 0x3FF, (.mask 0x3FF)⟩,
  ⟨0x2006, 0x2006, 2, 2, .u16, .ro, 0, .any⟩,
  ⟨0x2006, 0x2006, 3, 3, .u32, .ro, 0, .any⟩,
  ⟨0x2010, 0x2010, 0, 0, .u8, .const, 4, .any⟩,
  ⟨0x2010, 0x2010, 1, 1, .u64, .ro, 0, .any⟩,
  ⟨0x2010, 0x2010, 2, 2, .u8, .const, 0x20, .any⟩,
  ⟨0x2010, 0x2010, 3, 3, .u8, .const, 4, .any⟩,
  ⟨0x2010, 0x2010, 4, 4, .real, .ro, 0x45C80000, .any⟩,
  ⟨0x2011, 0x2011, 0, 0, .u8, .const, 3, .any⟩,
  ⟨0x2011, 0x2011, 1, 1, .u32, .ro, 0, .any⟩,
  ⟨0x2011, 0x2011, 2, 2, .u8, .const, 0x40, .any⟩,
  ⟨0x2011, 0x2011, 3, 3, .u8, .const, 0x35, .any⟩]

/-- Indices 0x2000 onward. -/
def od20 : List OdRow := od20_0 ++ od20_1

/-- Indices 0x2100 onward (R347, R348, R349). -/
def od21_0 : List OdRow := [
  ⟨0x2100, 0x2100, 0, 0, .u8, .const, 8, .any⟩,
  ⟨0x2100, 0x2100, 1, 1, .u32, .rw, 0, .any⟩,
  ⟨0x2100, 0x2100, 2, 2, .u8, .rw, 0, .any⟩,
  ⟨0x2100, 0x2100, 3, 3, .u8, .rw, 0, .any⟩,
  ⟨0x2100, 0x2100, 4, 4, .u64, .rw, 0x48C27395000, .any⟩,
  ⟨0x2100, 0x2100, 5, 5, .u8, .rw, 1, .any⟩,
  ⟨0x2100, 0x2100, 6, 6, .u8, .rw, 0, .any⟩,
  ⟨0x2100, 0x2100, 7, 7, .u64, .ro, 0xFA00000000, .any⟩,
  ⟨0x2100, 0x2100, 8, 8, .u64, .ro, 0x48C27395000, .any⟩,
  ⟨0x2101, 0x2101, 0, 0, .u8, .const, 0x10, .any⟩,
  ⟨0x2101, 0x2101, 1, 1, .u8, .ro, 0, .any⟩,
  ⟨0x2101, 0x2101, 2, 2, .u8, .ro, 0, .any⟩,
  ⟨0x2101, 0x2101, 3, 3, .u8, .ro, 0, .any⟩,
  ⟨0x2101, 0x2101, 4, 4, .real, .ro, 0, .any⟩,
  ⟨0x2101, 0x2101, 5, 5, .i32, .ro, 0, .any⟩,
  ⟨0x2101, 0x2101, 6, 6, .u8, .ro, 0xFF, .any⟩,
  ⟨0x2101, 0x2101, 7, 7, .u8, .ro, 0, .any⟩,
  ⟨0x2101, 0x2101, 8, 8, .bool, .rw, 0, .w1c⟩,
  ⟨0x2101, 0x2101, 9, 9, .u32, .ro, 0, .any⟩,
  ⟨0x2101, 0x2101, 10, 10, .bool, .wo, 0, .any⟩,
  ⟨0x2101, 0x2101, 11, 11, .bool, .rw, 0, .w1c⟩,
  ⟨0x2101, 0x2101, 12, 12, .u32, .ro, 0, .any⟩,
  ⟨0x2101, 0x2101, 13, 13, .bool, .wo, 0, .any⟩,
  ⟨0x2101, 0x2101, 14, 14, .bool, .rw, 0, .w1c⟩,
  ⟨0x2101, 0x2101, 15, 15, .u32, .ro, 0, .any⟩,
  ⟨0x2101, 0x2101, 16, 16, .bool, .wo, 0, .any⟩,
  ⟨0x2102, 0x2102, 0, 0, .u8, .const, 4, .any⟩,
  ⟨0x2102, 0x2102, 1, 1, .i32, .rw, 0, .any⟩,
  ⟨0x2102, 0x2102, 2, 2, .i32, .ro, 0, .any⟩,
  ⟨0x2102, 0x2102, 3, 3, .u16, .rw, 1, (.rng 1 65535)⟩]

/-- Indices 0x2100 onward (R349, R350, R351). -/
def od21_1 : List OdRow := [
  ⟨0x2102, 0x2102, 4, 4, .u32, .ro, 0, .any⟩,
  ⟨0x2103, 0x2103, 0, 0, .u8, .const, 8, .any⟩,
  ⟨0x2103, 0x2103, 1, 1, .u32, .rw, 0x9502F90, .any⟩,
  ⟨0x2103, 0x2103, 2, 2, .u8, .rw, 0x10, (.rng 10 20)⟩,
  ⟨0x2103, 0x2103, 3, 3, .u32, .rw, 0x20000, (.rng 1024 4294967295)⟩,
  ⟨0x2103, 0x2103, 4, 4, .u8, .rw, 0, (.rng 0 2)⟩,
  ⟨0x2103, 0x2103, 5, 5, .u16, .rw, 0x64, (.rng 1 1000)⟩,
  ⟨0x2103, 0x2103, 6, 6, .i64, .ro, 0, .any⟩,
  ⟨0x2103, 0x2103, 7, 7, .i64, .ro, 0, .any⟩,
  ⟨0x2103, 0x2103, 8, 8, .u32, .ro, 0, .any⟩,
  ⟨0x2104, 0x2104, 0, 0, .u8, .const, 0x18, .any⟩,
  ⟨0x2104, 0x2104, 1, 8, .bool, .rw, 0, .w1c⟩,
  ⟨0x2104, 0x2104, 9, 16, .u32, .ro, 0, .any⟩,
  ⟨0x2104, 0x2104, 17, 24, .bool, .wo, 0, .any⟩,
  ⟨0x2110, 0x2110, 0, 0, .u8, .const, 0x84, .any⟩,
  ⟨0x2110, 0x2110, 1, 128, .u64, .rw, 0, .any⟩,
  ⟨0x2110, 0x2110, 129, 129, .bool, .wo, 0, .any⟩,
  ⟨0x2110, 0x2110, 130, 130, .bool, .rw, 0, .w1c⟩,
  ⟨0x2110, 0x2110, 131, 131, .u32, .ro, 0, .any⟩,
  ⟨0x2110, 0x2110, 132, 132, .bool, .wo, 0, .any⟩]

/-- Indices 0x2100 onward. -/
def od21 : List OdRow := od21_0 ++ od21_1

/-- Indices 0x2200 onward (R379, R380, R381). -/
def od22_0 : List OdRow := [
  ⟨0x2200, 0x2200, 0, 0, .u8, .const, 0xE, .any⟩,
  ⟨0x2200, 0x2200, 1, 1, .u16, .rw, 0, (.rng 1 65534)⟩,
  ⟨0x2200, 0x2200, 2, 2, .u8, .rw, 0, (.rng 0 1)⟩,
  ⟨0x2200, 0x2200, 3, 3, .bool, .wo, 0, .any⟩,
  ⟨0x2200, 0x2200, 4, 4, .u8, .ro, 0, .any⟩,
  ⟨0x2200, 0x2200, 5, 5, .u16, .ro, 0, .any⟩,
  ⟨0x2200, 0x2200, 6, 6, .u16, .ro, 0, .any⟩,
  ⟨0x2200, 0x2200, 7, 7, .u16, .ro, 0, .any⟩,
  ⟨0x2200, 0x2200, 8, 8, .u16, .ro, 1, .any⟩,
  ⟨0x2200, 0x2200, 9, 9, .u8, .ro, 0xFF, .any⟩,
  ⟨0x2200, 0x2200, 10, 10, .u8, .ro, 0, .any⟩,
  ⟨0x2200, 0x2200, 11, 11, .i64, .ro, 0, .any⟩,
  ⟨0x2200, 0x2200, 12, 12, .bool, .rw, 0, .w1c⟩,
  ⟨0x2200, 0x2200, 13, 13, .u32, .ro, 0, .any⟩,
  ⟨0x2200, 0x2200, 14, 14, .bool, .wo, 0, .any⟩,
  ⟨0x2201, 0x2201, 0, 0, .u8, .const, 0xD, .any⟩,
  ⟨0x2201, 0x2201, 1, 1, .u8, .rw, 0, (.rng 0 2)⟩,
  ⟨0x2201, 0x2201, 2, 2, .u8, .rw, 0, (.rng 0 31)⟩,
  ⟨0x2201, 0x2201, 3, 3, .u32, .rw, 0x400, (.rng 1024 4294967295)⟩,
  ⟨0x2201, 0x2201, 4, 4, .bool, .rw, 0, .any⟩,
  ⟨0x2201, 0x2201, 5, 5, .u64, .rw, 0, (.rng 0 9007199254740991)⟩,
  ⟨0x2201, 0x2201, 6, 6, .i16, .ro, 0, .any⟩,
  ⟨0x2201, 0x2201, 7, 7, .u8, .ro, 0, .any⟩,
  ⟨0x2201, 0x2201, 8, 8, .bool, .rw, 0, .w1c⟩,
  ⟨0x2201, 0x2201, 9, 9, .u32, .ro, 0, .any⟩,
  ⟨0x2201, 0x2201, 10, 10, .bool, .wo, 0, .any⟩,
  ⟨0x2201, 0x2201, 11, 11, .u32, .ro, 0, .any⟩,
  ⟨0x2201, 0x2201, 12, 12, .u64, .ro, 0, .any⟩,
  ⟨0x2201, 0x2201, 13, 13, .u32, .rw, 0, .any⟩,
  ⟨0x2210, 0x2213, 0, 0, .u8, .const, 0xD, .any⟩]

/-- Indices 0x2200 onward (R381, R382). -/
def od22_1 : List OdRow := [
  ⟨0x2210, 0x2213, 1, 1, .bool, .rw, 1, .any⟩,
  ⟨0x2210, 0x2213, 2, 2, .u8, .ro, 0, .any⟩,
  ⟨0x2210, 0x2213, 3, 3, .u8, .ro, 0, .any⟩,
  ⟨0x2210, 0x2213, 4, 4, .u16, .ro, 0, .any⟩,
  ⟨0x2210, 0x2213, 5, 5, .u16, .ro, 0, .any⟩,
  ⟨0x2210, 0x2213, 6, 6, .u8, .ro, 0, .any⟩,
  ⟨0x2210, 0x2213, 7, 7, .u16, .ro, 0, .any⟩,
  ⟨0x2210, 0x2213, 8, 8, .u8, .ro, 0, .any⟩,
  ⟨0x2210, 0x2213, 9, 9, .u32, .ro, 0, .any⟩,
  ⟨0x2210, 0x2213, 10, 10, .bool, .rw, 0, .w1c⟩,
  ⟨0x2210, 0x2213, 11, 11, .u32, .ro, 0, .any⟩,
  ⟨0x2210, 0x2213, 12, 12, .bool, .wo, 0, .any⟩,
  ⟨0x2210, 0x2213, 13, 13, .u32, .ro, 0, .any⟩,
  ⟨0x2220, 0x2220, 0, 0, .u8, .const, 7, .any⟩,
  ⟨0x2220, 0x2220, 1, 1, .u16, .rw, 0x40, .any⟩,
  ⟨0x2220, 0x2220, 2, 2, .u64, .rw, 0, .any⟩,
  ⟨0x2220, 0x2220, 3, 3, .u16, .ro, 2, .any⟩,
  ⟨0x2220, 0x2220, 4, 4, .bool, .rw, 0, .w1c⟩,
  ⟨0x2220, 0x2220, 5, 5, .u32, .ro, 0, .any⟩,
  ⟨0x2220, 0x2220, 6, 6, .bool, .wo, 0, .any⟩,
  ⟨0x2220, 0x2220, 7, 7, .u64, .wo, 0, .any⟩,
  ⟨0x2230, 0x2237, 0, 0, .u8, .const, 2, .any⟩,
  ⟨0x2230, 0x2237, 1, 1, .u8, .rws, 0xFF, (.rngOr 0 63 255)⟩,
  ⟨0x2230, 0x2237, 2, 2, .u8, .rws, 0xFF, (.rngOr 0 63 255)⟩,
  ⟨0x2240, 0x2240, 0, 0, .u8, .const, 8, .any⟩,
  ⟨0x2240, 0x2240, 1, 8, .u32, .rw, 0, .form⟩]

/-- Indices 0x2200 onward. -/
def od22 : List OdRow := od22_0 ++ od22_1

/-- Indices 0x3000 onward (R97). -/
def od30 : List OdRow := [
  ⟨0x3010, 0x3011, 0, 0, .u8, .const, 4, .any⟩,
  ⟨0x3010, 0x3011, 1, 1, .u32, .rw, 0, .any⟩,
  ⟨0x3010, 0x3011, 2, 2, .bool, .wo, 0, .any⟩,
  ⟨0x3010, 0x3011, 3, 3, .u8, .ro, 0, .any⟩,
  ⟨0x3010, 0x3011, 4, 4, .u32, .ro, 0, .any⟩]

/-- Indices 0x3100 onward (R98). -/
def od31 : List OdRow := [
  ⟨0x3100, 0x311F, 0, 0, .u8, .const, 0xA, .any⟩,
  ⟨0x3100, 0x311F, 1, 1, .u32, .rws, 0x1C20FCE0, .any⟩,
  ⟨0x3100, 0x311F, 2, 2, .u8, .rws, 0, (.rng 0 1)⟩,
  ⟨0x3100, 0x311F, 3, 3, .u8, .rws, 2, (.rng 0 2)⟩,
  ⟨0x3100, 0x311F, 4, 4, .u8, .rw, 1, (.rng 0 2)⟩,
  ⟨0x3100, 0x311F, 5, 5, .real, .ro, 0x3E800000, .any⟩,
  ⟨0x3100, 0x311F, 6, 6, .i16, .ro, 0, .any⟩,
  ⟨0x3100, 0x311F, 7, 7, .bool, .rw, 0, .w1c⟩,
  ⟨0x3100, 0x311F, 8, 8, .u32, .ro, 0, .any⟩,
  ⟨0x3100, 0x311F, 9, 9, .bool, .wo, 0, .any⟩,
  ⟨0x3100, 0x311F, 10, 10, .u8, .ro, 0, .any⟩]

/-- Indices 0x3200 onward (R99). -/
def od32 : List OdRow := [
  ⟨0x3200, 0x321F, 0, 0, .u8, .const, 0x10, .any⟩,
  ⟨0x3200, 0x321F, 1, 16, .u32, .rws, 0x78, .any⟩]

/-- Indices 0x3300 onward (R100). -/
def od33 : List OdRow := [
  ⟨0x3300, 0x331F, 0, 0, .u8, .const, 0x10, .any⟩,
  ⟨0x3300, 0x331F, 1, 16, .u16, .ro, 0, .any⟩]

/-- Indices 0x3400 onward (R101). -/
def od34 : List OdRow := [
  ⟨0x3400, 0x341F, 0, 0, .u8, .const, 0x10, .any⟩,
  ⟨0x3400, 0x341F, 1, 16, .i16, .const, 0, .any⟩]

/-- Indices 0x3800 onward (R321). -/
def od38 : List OdRow := [
  ⟨0x3800, 0x381F, 0, 0, .u8, .const, 9, .any⟩,
  ⟨0x3800, 0x381F, 1, 1, .u32, .rws, 0x19C80000, .any⟩,
  ⟨0x3800, 0x381F, 2, 2, .u16, .rws, 0, .any⟩,
  ⟨0x3800, 0x381F, 3, 3, .u32, .rws, 0, .any⟩,
  ⟨0x3800, 0x381F, 4, 4, .u16, .ro, 0, .any⟩,
  ⟨0x3800, 0x381F, 5, 5, .u16, .ro, 0, .any⟩,
  ⟨0x3800, 0x381F, 6, 6, .u16, .wo, 0, .any⟩,
  ⟨0x3800, 0x381F, 7, 7, .bool, .rw, 0, .w1c⟩,
  ⟨0x3800, 0x381F, 8, 8, .u32, .ro, 0, .any⟩,
  ⟨0x3800, 0x381F, 9, 9, .bool, .wo, 0, .any⟩]

/-- Indices 0x3900 onward (R322). -/
def od39 : List OdRow := [
  ⟨0x3900, 0x397F, 0, 0, .u8, .const, 0xD, .any⟩,
  ⟨0x3900, 0x397F, 1, 1, .u32, .rws, 0, .form⟩,
  ⟨0x3900, 0x397F, 2, 2, .u64, .rws, 0, .any⟩,
  ⟨0x3900, 0x397F, 3, 3, .u32, .rws, 1, (.rng 1 4294967295)⟩,
  ⟨0x3900, 0x397F, 4, 4, .u32, .rws, 1, .any⟩,
  ⟨0x3900, 0x397F, 5, 5, .u32, .rws, 0, .any⟩,
  ⟨0x3900, 0x397F, 6, 13, .u32, .rws, 0xFFFFFFFF, .any⟩]

/-- Indices 0x3A00 onward (R323). -/
def od3A : List OdRow := [
  ⟨0x3A00, 0x3A07, 0, 0, .u8, .const, 0xD, .any⟩,
  ⟨0x3A00, 0x3A07, 1, 1, .u8, .ro, 0, .any⟩,
  ⟨0x3A00, 0x3A07, 2, 2, .u8, .ro, 0xFF, .any⟩,
  ⟨0x3A00, 0x3A07, 3, 3, .u32, .ro, 0, .any⟩,
  ⟨0x3A00, 0x3A07, 4, 4, .u64, .ro, 0, .any⟩,
  ⟨0x3A00, 0x3A07, 5, 5, .u32, .ro, 0, .any⟩,
  ⟨0x3A00, 0x3A07, 6, 6, .bool, .rw, 0, .w1c⟩,
  ⟨0x3A00, 0x3A07, 7, 7, .u32, .ro, 0, .any⟩,
  ⟨0x3A00, 0x3A07, 8, 8, .bool, .wo, 0, .any⟩,
  ⟨0x3A00, 0x3A07, 9, 9, .bool, .rw, 0, .w1c⟩,
  ⟨0x3A00, 0x3A07, 10, 10, .u32, .ro, 0, .any⟩,
  ⟨0x3A00, 0x3A07, 11, 11, .bool, .wo, 0, .any⟩,
  ⟨0x3A00, 0x3A07, 12, 12, .u8, .rws, 0, (.mask 0x1)⟩,
  ⟨0x3A00, 0x3A07, 13, 13, .u8, .ro, 0xFF, .any⟩]

/-- Indices 0x4000 onward (R136). -/
def od40 : List OdRow := [
  ⟨0x4010, 0x4010, 0, 0, .u8, .const, 4, .any⟩,
  ⟨0x4010, 0x4010, 1, 1, .bool, .wo, 0, .any⟩,
  ⟨0x4010, 0x4010, 2, 2, .u64, .ro, 0, .any⟩,
  ⟨0x4010, 0x4010, 3, 3, .u32, .ro, 0, .any⟩,
  ⟨0x4010, 0x4010, 4, 4, .u8, .const, 0x40, .any⟩]

/-- Indices 0x4100 onward (R137). -/
def od41 : List OdRow := [
  ⟨0x4100, 0x411F, 0, 0, .u8, .const, 4, .any⟩,
  ⟨0x4100, 0x411F, 1, 1, .u8, .rw, 0x10, (.rng 4 24)⟩,
  ⟨0x4100, 0x411F, 2, 2, .u8, .rw, 0xA, (.rng 0 20)⟩,
  ⟨0x4100, 0x411F, 3, 3, .u32, .ro, 0, .any⟩,
  ⟨0x4100, 0x411F, 4, 4, .u64, .ro, 0, .any⟩]

/-- Indices 0x4400 onward (R138). -/
def od44 : List OdRow := [
  ⟨0x4400, 0x45FF, 0, 0, .u8, .const, 7, .any⟩,
  ⟨0x4400, 0x45FF, 1, 1, .real, .ro, 0, .any⟩,
  ⟨0x4400, 0x45FF, 2, 2, .real, .ro, 0, .any⟩,
  ⟨0x4400, 0x45FF, 3, 3, .real, .ro, 0, .any⟩,
  ⟨0x4400, 0x45FF, 4, 4, .real, .ro, 0, .any⟩,
  ⟨0x4400, 0x45FF, 5, 5, .real, .ro, 0, .any⟩,
  ⟨0x4400, 0x45FF, 6, 6, .real, .ro, 0, .any⟩,
  ⟨0x4400, 0x45FF, 7, 7, .u16, .ro, 0, .any⟩]

/-- Indices 0x4600 onward (R139). -/
def od46 : List OdRow := [
  ⟨0x4600, 0x463F, 0, 0, .u8, .const, 0xD, .any⟩,
  ⟨0x4600, 0x463F, 1, 1, .bool, .rws, 0, .any⟩,
  ⟨0x4600, 0x463F, 2, 2, .u8, .rws, 0, .form⟩,
  ⟨0x4600, 0x463F, 3, 3, .u8, .ro, 0, .any⟩,
  ⟨0x4600, 0x463F, 4, 4, .u16, .rws, 1, (.rng 1 256)⟩,
  ⟨0x4600, 0x463F, 5, 5, .u8, .ro, 0, .any⟩,
  ⟨0x4600, 0x463F, 6, 6, .u8, .wo, 0, .any⟩,
  ⟨0x4600, 0x463F, 7, 7, .u16, .rw, 0x40, (.rng 1 4096)⟩,
  ⟨0x4600, 0x463F, 8, 8, .u8, .ro, 0, .any⟩,
  ⟨0x4600, 0x463F, 9, 9, .u8, .rw, 1, (.rng 1 64)⟩,
  ⟨0x4600, 0x463F, 10, 10, .u8, .rw, 1, (.rng 1 64)⟩,
  ⟨0x4600, 0x463F, 11, 11, .u32, .ro, 0x7E0, .any⟩,
  ⟨0x4600, 0x463F, 12, 12, .u16, .ro, 0, .any⟩,
  ⟨0x4600, 0x463F, 13, 13, .u8, .ro, 3, .any⟩]

/-- Indices 0x4700 onward (R140). -/
def od47 : List OdRow := [
  ⟨0x4700, 0x477F, 0, 0, .u8, .const, 0x40, .any⟩,
  ⟨0x4700, 0x477F, 1, 1, .i16, .rw, 0x4000, .any⟩,
  ⟨0x4700, 0x477F, 2, 64, .i16, .rw, 0, .any⟩]

/-- Indices 0x4800 onward (R141). -/
def od48 : List OdRow := [
  ⟨0x4800, 0x49FF, 0, 0, .u8, .const, 8, .any⟩,
  ⟨0x4800, 0x49FF, 1, 1, .i16, .rw, 0x4000, .any⟩,
  ⟨0x4800, 0x49FF, 2, 2, .i16, .rw, 0xFFFFFFFFFFFFC000, .any⟩,
  ⟨0x4800, 0x49FF, 3, 3, .u16, .rw, 0x100, .any⟩,
  ⟨0x4800, 0x49FF, 4, 4, .u8, .ro, 0, .any⟩,
  ⟨0x4800, 0x49FF, 5, 5, .i16, .ro, 0, .any⟩,
  ⟨0x4800, 0x49FF, 6, 6, .u8, .ro, 0, .any⟩,
  ⟨0x4800, 0x49FF, 7, 7, .u16, .const, 0, .any⟩,
  ⟨0x4800, 0x49FF, 8, 8, .u16, .const, 0, .any⟩]

/-- Indices 0x5000 onward (R25, R33). -/
def od50 : List OdRow := [
  ⟨0x5000, 0x5000, 0, 0, .u8, .const, 0x20, .any⟩,
  ⟨0x5000, 0x5000, 1, 32, .u8, .rws, 0xFF, (.rngOr 0 7 255)⟩,
  ⟨0x5001, 0x5001, 0, 0, .u8, .const, 8, .any⟩,
  ⟨0x5001, 0x5001, 1, 8, .u8, .rw, 0, .any⟩,
  ⟨0x5002, 0x5002, 0, 0, .u8, .const, 2, .any⟩,
  ⟨0x5002, 0x5002, 1, 1, .u16, .ro, 0, .any⟩,
  ⟨0x5002, 0x5002, 2, 2, .u16, .const, 0, .any⟩]

/-- Indices 0x5100 onward (R175). -/
def od51 : List OdRow := [
  ⟨0x5100, 0x5107, 0, 0, .u8, .const, 0xE, .any⟩,
  ⟨0x5100, 0x5107, 1, 1, .u8, .wo, 0, .any⟩,
  ⟨0x5100, 0x5107, 2, 2, .u8, .ro, 0, .any⟩,
  ⟨0x5100, 0x5107, 3, 3, .u8, .ro, 0, .any⟩,
  ⟨0x5100, 0x5107, 4, 4, .u8, .ro, 0, .any⟩,
  ⟨0x5100, 0x5107, 5, 5, .u8, .rws, 0, (.mask 0x1)⟩,
  ⟨0x5100, 0x5107, 6, 6, .bool, .rw, 0, .w1c⟩,
  ⟨0x5100, 0x5107, 7, 7, .u32, .ro, 0, .any⟩,
  ⟨0x5100, 0x5107, 8, 8, .bool, .wo, 0, .any⟩,
  ⟨0x5100, 0x5107, 9, 9, .bool, .rw, 0, .w1c⟩,
  ⟨0x5100, 0x5107, 10, 10, .u32, .ro, 0, .any⟩,
  ⟨0x5100, 0x5107, 11, 11, .bool, .wo, 0, .any⟩,
  ⟨0x5100, 0x5107, 12, 12, .bool, .rw, 0, .w1c⟩,
  ⟨0x5100, 0x5107, 13, 13, .u32, .ro, 0, .any⟩,
  ⟨0x5100, 0x5107, 14, 14, .bool, .wo, 0, .any⟩]

/-- Indices 0x5200 onward (R176). -/
def od52 : List OdRow := [
  ⟨0x5200, 0x527F, 0, 0, .u8, .const, 8, .any⟩,
  ⟨0x5200, 0x527F, 1, 4, .u32, .rws, 0, .form⟩,
  ⟨0x5200, 0x527F, 5, 5, .u16, .rws, 0, .form⟩,
  ⟨0x5200, 0x527F, 6, 6, .u32, .rws, 0, .form⟩,
  ⟨0x5200, 0x527F, 7, 7, .u16, .rws, 0, .form⟩,
  ⟨0x5200, 0x527F, 8, 8, .u32, .rws, 0, .form⟩]

/-- Indices 0x5300 onward (R177). -/
def od53 : List OdRow := [
  ⟨0x5300, 0x537F, 0, 0, .u8, .const, 0x21, .any⟩,
  ⟨0x5300, 0x537F, 1, 1, .u8, .rws, 0, (.mask 0x1)⟩,
  ⟨0x5300, 0x537F, 2, 17, .u32, .rws, 0, .any⟩,
  ⟨0x5300, 0x537F, 18, 33, .u32, .rws, 0, .any⟩]

/-- Indices 0x5400 onward (R177). -/
def od54 : List OdRow := [
  ⟨0x5400, 0x547F, 0, 0, .u8, .const, 4, .any⟩,
  ⟨0x5400, 0x547F, 1, 1, .u16, .rws, 0, (.rng 0 511)⟩,
  ⟨0x5400, 0x547F, 2, 2, .u8, .rws, 1, (.mask 0x3)⟩,
  ⟨0x5400, 0x547F, 3, 3, .u32, .rws, 1, (.rng 1 4294967295)⟩,
  ⟨0x5400, 0x547F, 4, 4, .u32, .rws, 0xFFFFFFFF, .form⟩]

/-- Indices 0x5500 onward (R178, R179, R180). -/
def od55 : List OdRow := [
  ⟨0x5500, 0x5507, 0, 0, .u8, .const, 0x20, .any⟩,
  ⟨0x5500, 0x5507, 1, 8, .u8, .rws, 1, (.rng 0 1)⟩,
  ⟨0x5500, 0x5507, 9, 16, .u64, .rws, 0, .any⟩,
  ⟨0x5500, 0x5507, 17, 24, .u64, .rws, 1, .any⟩,
  ⟨0x5500, 0x5507, 25, 32, .u64, .ro, 0, .any⟩,
  ⟨0x5510, 0x5517, 0, 0, .u8, .const, 0x11, .any⟩,
  ⟨0x5510, 0x5517, 1, 8, .u64, .rws, 1, (.rng 1 281474976710655)⟩,
  ⟨0x5510, 0x5517, 9, 16, .u64, .ro, 0, .any⟩,
  ⟨0x5510, 0x5517, 17, 17, .u16, .ro, 0, .any⟩,
  ⟨0x5520, 0x5527, 0, 0, .u8, .const, 7, .any⟩,
  ⟨0x5520, 0x5527, 1, 1, .u64, .ro, 0, .any⟩,
  ⟨0x5520, 0x5527, 2, 2, .u32, .ro, 0, .any⟩,
  ⟨0x5520, 0x5527, 3, 3, .u64, .ro, 0, .any⟩,
  ⟨0x5520, 0x5527, 4, 4, .u64, .ro, 0, .any⟩,
  ⟨0x5520, 0x5527, 5, 5, .u64, .ro, 0, .any⟩,
  ⟨0x5520, 0x5527, 6, 6, .u64, .ro, 0, .any⟩,
  ⟨0x5520, 0x5527, 7, 7, .u32, .ro, 0, .any⟩,
  ⟨0x5530, 0x5537, 0, 0, .u8, .const, 0x29, .any⟩,
  ⟨0x5530, 0x5537, 1, 8, .u32, .rws, 0, .form⟩,
  ⟨0x5530, 0x5537, 9, 40, .u8, .rws, 0xFF, (.rngOr 0 7 255)⟩,
  ⟨0x5530, 0x5537, 41, 41, .u8, .rws, 8, (.rng 0 63)⟩,
  ⟨0x5540, 0x5540, 0, 0, .u8, .const, 2, .any⟩,
  ⟨0x5540, 0x5540, 1, 2, .u32, .rw, 0x10F, .form⟩]

/-- Indices 0x5800 onward (R197, R198, R200, R201). -/
def od58 : List OdRow := [
  ⟨0x5800, 0x5800, 0, 0, .u8, .const, 0x10, .any⟩,
  ⟨0x5800, 0x5800, 1, 16, .u8, .rws, 0xFF, .form⟩,
  ⟨0x5810, 0x581F, 0, 0, .u8, .const, 0xB, .any⟩,
  ⟨0x5810, 0x581F, 1, 1, .u8, .rws, 0, (.rng 0 9)⟩,
  ⟨0x5810, 0x581F, 2, 5, .u16, .rws, 0xFFFF, (.rngOr 0 511 65535)⟩,
  ⟨0x5810, 0x581F, 6, 6, .u32, .rws, 0, .form⟩,
  ⟨0x5810, 0x581F, 7, 7, .u32, .rws, 0, .form⟩,
  ⟨0x5810, 0x581F, 8, 8, .u32, .rws, 0, .form⟩,
  ⟨0x5810, 0x581F, 9, 9, .u8, .rws, 0, (.rng 0 1)⟩,
  ⟨0x5810, 0x581F, 10, 10, .u8, .rws, 0, (.rng 0 2)⟩,
  ⟨0x5810, 0x581F, 11, 11, .i32, .rws, 0, .any⟩,
  ⟨0x5830, 0x583F, 0, 0, .u8, .const, 9, .any⟩,
  ⟨0x5830, 0x583F, 1, 1, .u32, .rws, 0, .any⟩,
  ⟨0x5830, 0x583F, 2, 2, .u32, .rws, 0, .any⟩,
  ⟨0x5830, 0x583F, 3, 3, .u64, .rws, 0, .any⟩,
  ⟨0x5830, 0x583F, 4, 4, .u64, .rws, 0, .any⟩,
  ⟨0x5830, 0x583F, 5, 5, .u8, .rws, 0, (.mask 0xF)⟩,
  ⟨0x5830, 0x583F, 6, 7, .u32, .rws, 0, .any⟩,
  ⟨0x5830, 0x583F, 8, 9, .u32, .rws, 0, .any⟩,
  ⟨0x5850, 0x585F, 0, 0, .u8, .const, 0xA, .any⟩,
  ⟨0x5850, 0x585F, 1, 1, .u8, .ro, 0, .any⟩,
  ⟨0x5850, 0x585F, 2, 2, .u32, .ro, 0, .any⟩,
  ⟨0x5850, 0x585F, 3, 3, .u32, .ro, 0, .any⟩,
  ⟨0x5850, 0x585F, 4, 4, .bool, .rw, 0, .w1c⟩,
  ⟨0x5850, 0x585F, 5, 5, .u32, .ro, 0, .any⟩,
  ⟨0x5850, 0x585F, 6, 6, .bool, .wo, 0, .any⟩,
  ⟨0x5850, 0x585F, 7, 7, .bool, .rw, 0, .w1c⟩,
  ⟨0x5850, 0x585F, 8, 8, .u32, .ro, 0, .any⟩,
  ⟨0x5850, 0x585F, 9, 9, .bool, .wo, 0, .any⟩,
  ⟨0x5850, 0x585F, 10, 10, .i32, .ro, 0, .any⟩]

/-- Indices 0x6000 onward (R242). -/
def od60 : List OdRow := [
  ⟨0x6000, 0x6000, 0, 0, .u8, .const, 9, .any⟩,
  ⟨0x6000, 0x6000, 1, 8, .u32, .rws, 0, .form⟩,
  ⟨0x6000, 0x6000, 9, 9, .u32, .rw, 0, .form⟩,
  ⟨0x6001, 0x6001, 0, 0, .u8, .const, 6, .any⟩,
  ⟨0x6001, 0x6001, 1, 1, .u16, .const, 0, .any⟩,
  ⟨0x6001, 0x6001, 2, 2, .u32, .const, 0x200000, .any⟩,
  ⟨0x6001, 0x6001, 3, 3, .u16, .ro, 0, .any⟩,
  ⟨0x6001, 0x6001, 4, 4, .u16, .const, 0, .any⟩,
  ⟨0x6001, 0x6001, 5, 5, .u16, .ro, 0, .any⟩,
  ⟨0x6001, 0x6001, 6, 6, .u16, .wo, 0, .any⟩]

/-- Indices 0x6100 onward (R244). -/
def od61 : List OdRow := [
  ⟨0x6100, 0x6107, 0, 0, .u8, .const, 8, .any⟩,
  ⟨0x6100, 0x6107, 1, 1, .u8, .rws, 0, (.rng 0 16)⟩,
  ⟨0x6100, 0x6107, 2, 2, .u8, .rws, 0, (.rng 0 2)⟩,
  ⟨0x6100, 0x6107, 3, 3, .u64, .rws, 0xFFFFFFFFFFFFFFFF, .any⟩,
  ⟨0x6100, 0x6107, 4, 4, .u32, .rws, 0x10, (.rng 1 4294967295)⟩,
  ⟨0x6100, 0x6107, 5, 5, .u64, .rws, 0xFFFFFFFFFFFFFFFF, (.rng 1 0xFFFFFFFFFFFFFFFF)⟩,
  ⟨0x6100, 0x6107, 6, 6, .u16, .rws, 0x200, (.rng 64 11264)⟩,
  ⟨0x6100, 0x6107, 7, 7, .u8, .rws, 0, (.mask 0x3)⟩,
  ⟨0x6100, 0x6107, 8, 8, .u64, .rw, 0xFFFFFFFFFFFFFFFF, .any⟩]

/-- Indices 0x6200 onward (R245). -/
def od62 : List OdRow := [
  ⟨0x6200, 0x6207, 0, 0, .u8, .const, 7, .any⟩,
  ⟨0x6200, 0x6207, 1, 1, .u16, .rws, 0xFFFF, (.rngOr 2 4095 65535)⟩,
  ⟨0x6200, 0x6207, 2, 7, .u8, .rws, 0, (.rng 0 3)⟩]

/-- Indices 0x6300 onward (R246). -/
def od63 : List OdRow := [
  ⟨0x6300, 0x6307, 0, 0, .u8, .const, 0x10, .any⟩,
  ⟨0x6300, 0x6307, 1, 1, .u8, .ro, 0, .any⟩,
  ⟨0x6300, 0x6307, 2, 2, .u8, .ro, 0, .any⟩,
  ⟨0x6300, 0x6307, 3, 3, .u64, .ro, 0, .any⟩,
  ⟨0x6300, 0x6307, 4, 4, .u64, .ro, 0, .any⟩,
  ⟨0x6300, 0x6307, 5, 5, .u64, .ro, 0, .any⟩,
  ⟨0x6300, 0x6307, 6, 6, .u64, .ro, 0, .any⟩,
  ⟨0x6300, 0x6307, 7, 7, .u32, .ro, 0, .any⟩,
  ⟨0x6300, 0x6307, 8, 8, .u32, .ro, 0, .any⟩,
  ⟨0x6300, 0x6307, 9, 9, .u32, .ro, 0, .any⟩,
  ⟨0x6300, 0x6307, 10, 10, .bool, .wo, 0, .any⟩,
  ⟨0x6300, 0x6307, 11, 11, .bool, .rw, 0, .w1c⟩,
  ⟨0x6300, 0x6307, 12, 12, .u32, .ro, 0, .any⟩,
  ⟨0x6300, 0x6307, 13, 13, .bool, .wo, 0, .any⟩,
  ⟨0x6300, 0x6307, 14, 14, .bool, .rw, 0, .w1c⟩,
  ⟨0x6300, 0x6307, 15, 15, .u32, .ro, 0, .any⟩,
  ⟨0x6300, 0x6307, 16, 16, .bool, .wo, 0, .any⟩]

/-- Indices 0x6400 onward (R247). -/
def od64 : List OdRow := [
  ⟨0x6400, 0x6407, 0, 0, .u8, .const, 6, .any⟩,
  ⟨0x6400, 0x6407, 1, 1, .u64, .ro, 0, .any⟩,
  ⟨0x6400, 0x6407, 2, 2, .bool, .rw, 0, .w1c⟩,
  ⟨0x6400, 0x6407, 3, 3, .u32, .ro, 0, .any⟩,
  ⟨0x6400, 0x6407, 4, 4, .bool, .wo, 0, .any⟩,
  ⟨0x6400, 0x6407, 5, 5, .u64, .ro, 0, .any⟩,
  ⟨0x6400, 0x6407, 6, 6, .bool, .wo, 0, .any⟩]

/-- Indices 0x6800 onward (R296, R297, R298). -/
def od68 : List OdRow := [
  ⟨0x6800, 0x6807, 0, 0, .u8, .const, 2, .any⟩,
  ⟨0x6800, 0x6807, 1, 1, .u8, .rws, 1, (.rng 0 1)⟩,
  ⟨0x6800, 0x6807, 2, 2, .u8, .rws, 0x10, (.rng 4 30)⟩,
  ⟨0x6810, 0x682F, 0, 0, .u8, .const, 6, .any⟩,
  ⟨0x6810, 0x682F, 1, 1, .u16, .rws, 0, .any⟩,
  ⟨0x6810, 0x682F, 2, 2, .u8, .rws, 0, (.mask 0x3)⟩,
  ⟨0x6810, 0x682F, 3, 3, .u8, .rws, 4, (.rng 2 64)⟩,
  ⟨0x6810, 0x682F, 4, 4, .bool, .rw, 0, .w1c⟩,
  ⟨0x6810, 0x682F, 5, 5, .u32, .ro, 0, .any⟩,
  ⟨0x6810, 0x682F, 6, 6, .bool, .wo, 0, .any⟩,
  ⟨0x6840, 0x6847, 0, 0, .u8, .const, 0xE, .any⟩,
  ⟨0x6840, 0x6847, 1, 1, .u16, .rws, 1, .any⟩,
  ⟨0x6840, 0x6847, 2, 2, .u64, .rws, 0, (.rng 0 281474976710655)⟩,
  ⟨0x6840, 0x6847, 3, 3, .u8, .rws, 0, (.mask 0x3)⟩,
  ⟨0x6840, 0x6847, 4, 4, .u8, .rws, 0, (.rng 0 15)⟩,
  ⟨0x6840, 0x6847, 5, 5, .u8, .ro, 0, .any⟩,
  ⟨0x6840, 0x6847, 6, 6, .u32, .ro, 0, .any⟩,
  ⟨0x6840, 0x6847, 7, 7, .u64, .ro, 0, .any⟩,
  ⟨0x6840, 0x6847, 8, 8, .bool, .rw, 0, .w1c⟩,
  ⟨0x6840, 0x6847, 9, 9, .u32, .ro, 0, .any⟩,
  ⟨0x6840, 0x6847, 10, 10, .bool, .wo, 0, .any⟩,
  ⟨0x6840, 0x6847, 11, 11, .bool, .rw, 0, .w1c⟩,
  ⟨0x6840, 0x6847, 12, 12, .u32, .ro, 0, .any⟩,
  ⟨0x6840, 0x6847, 13, 13, .bool, .wo, 0, .any⟩,
  ⟨0x6840, 0x6847, 14, 14, .u32, .ro, 0, .any⟩,
  ⟨0x6850, 0x68CF, 0, 0, .u8, .const, 3, .any⟩,
  ⟨0x6850, 0x68CF, 1, 1, .u32, .rws, 0, .form⟩,
  ⟨0x6850, 0x68CF, 2, 2, .u64, .rws, 0, .any⟩,
  ⟨0x6850, 0x68CF, 3, 3, .u64, .rws, 0xFFFFFFFFFFFFFFFF, .any⟩]

/-- Indices 0x6900 onward (R299). -/
def od69 : List OdRow := [
  ⟨0x6900, 0x6907, 0, 0, .u8, .const, 0x13, .any⟩,
  ⟨0x6900, 0x6907, 1, 1, .bool, .rws, 0, .any⟩,
  ⟨0x6900, 0x6907, 2, 2, .i16, .rws, 0, (.rngI 256 255)⟩,
  ⟨0x6900, 0x6907, 3, 3, .u16, .rws, 1, (.rng 1 256)⟩,
  ⟨0x6900, 0x6907, 4, 19, .u32, .rws, 0, .any⟩,
  ⟨0x6910, 0x6917, 0, 0, .u8, .const, 0x40, .any⟩,
  ⟨0x6910, 0x6917, 1, 64, .u32, .rws, 0xF0F0F0F0, .any⟩]

/-- Indices 0x6A00 onward (R300). -/
def od6A : List OdRow := [
  ⟨0x6A00, 0x6A0F, 0, 0, .u8, .const, 0x15, .any⟩,
  ⟨0x6A00, 0x6A0F, 1, 1, .u8, .rws, 0xFF, (.rngOr 0 7 255)⟩,
  ⟨0x6A00, 0x6A0F, 2, 2, .u8, .rws, 0, .form⟩,
  ⟨0x6A00, 0x6A0F, 3, 3, .u16, .rws, 0xFFFF, (.rng 0 511)⟩,
  ⟨0x6A00, 0x6A0F, 4, 4, .u16, .rws, 0xFFFF, .any⟩,
  ⟨0x6A00, 0x6A0F, 5, 5, .u8, .rws, 0, (.mask 0x3)⟩,
  ⟨0x6A00, 0x6A0F, 6, 6, .u8, .rws, 0xA, .form⟩,
  ⟨0x6A00, 0x6A0F, 7, 7, .u8, .rws, 0, (.rng 0 40)⟩,
  ⟨0x6A00, 0x6A0F, 8, 8, .i64, .rws, 0, .any⟩,
  ⟨0x6A00, 0x6A0F, 9, 9, .u8, .rws, 8, (.mask 0xF)⟩,
  ⟨0x6A00, 0x6A0F, 10, 10, .bool, .wo, 0, .any⟩,
  ⟨0x6A00, 0x6A0F, 11, 11, .u8, .ro, 0, .any⟩,
  ⟨0x6A00, 0x6A0F, 12, 12, .u8, .ro, 0xFF, .any⟩,
  ⟨0x6A00, 0x6A0F, 13, 13, .u32, .ro, 0, .any⟩,
  ⟨0x6A00, 0x6A0F, 14, 14, .bool, .rw, 0, .w1c⟩,
  ⟨0x6A00, 0x6A0F, 15, 15, .u32, .ro, 0, .any⟩,
  ⟨0x6A00, 0x6A0F, 16, 16, .bool, .wo, 0, .any⟩,
  ⟨0x6A00, 0x6A0F, 17, 17, .bool, .rw, 0, .w1c⟩,
  ⟨0x6A00, 0x6A0F, 18, 18, .u32, .ro, 0, .any⟩,
  ⟨0x6A00, 0x6A0F, 19, 19, .bool, .wo, 0, .any⟩,
  ⟨0x6A00, 0x6A0F, 20, 20, .u32, .ro, 0, .any⟩,
  ⟨0x6A00, 0x6A0F, 21, 21, .bool, .wo, 0, .any⟩]

/-- Indices 0x7000 onward (R408, R409, R410). -/
def od70_0 : List OdRow := [
  ⟨0x7000, 0x7000, 0, 0, .u8, .const, 5, .any⟩,
  ⟨0x7000, 0x7000, 1, 1, .u8, .ro, 0, .any⟩,
  ⟨0x7000, 0x7000, 2, 2, .u8, .ro, 0, .any⟩,
  ⟨0x7000, 0x7000, 3, 3, .u64, .ro, 0, .any⟩,
  ⟨0x7000, 0x7000, 4, 4, .u64, .ro, 0, .any⟩,
  ⟨0x7000, 0x7000, 5, 5, .u64, .ro, 0, .any⟩,
  ⟨0x7001, 0x7001, 0, 0, .u8, .const, 2, .any⟩,
  ⟨0x7001, 0x7001, 1, 1, .u32, .wo, 0, .any⟩,
  ⟨0x7001, 0x7001, 2, 2, .u32, .wo, 0, .any⟩,
  ⟨0x7002, 0x7002, 0, 0, .u8, .const, 0x40, .any⟩,
  ⟨0x7002, 0x7002, 1, 64, .u32, .ro, 0, .any⟩,
  ⟨0x7010, 0x7010, 0, 0, .u8, .const, 0xA, .any⟩,
  ⟨0x7010, 0x7010, 1, 1, .u8, .rw, 0xF, (.mask 0xF)⟩,
  ⟨0x7010, 0x7010, 2, 2, .u8, .ro, 0, .any⟩,
  ⟨0x7010, 0x7010, 3, 3, .u8, .ro, 0, .any⟩,
  ⟨0x7010, 0x7010, 4, 4, .u32, .rw, 0x3E8, (.rng 10 4294967295)⟩,
  ⟨0x7010, 0x7010, 5, 5, .u32, .rw, 0x3E8, (.rng 10 4294967295)⟩,
  ⟨0x7010, 0x7010, 6, 6, .u8, .rw, 3, (.mask 0x3)⟩,
  ⟨0x7010, 0x7010, 7, 7, .u32, .rw, 0x15180, (.rng 60 4294967295)⟩,
  ⟨0x7010, 0x7010, 8, 8, .u32, .rw, 0x3C, (.rng 1 4294967295)⟩,
  ⟨0x7010, 0x7010, 9, 9, .u32, .ro, 0, .any⟩,
  ⟨0x7010, 0x7010, 10, 10, .u8, .ro, 0xFF, .any⟩,
  ⟨0x7011, 0x7011, 0, 0, .u8, .const, 8, .any⟩,
  ⟨0x7011, 0x7011, 1, 1, .u32, .ro, 0, .any⟩,
  ⟨0x7011, 0x7011, 2, 2, .u32, .ro, 0, .any⟩,
  ⟨0x7011, 0x7011, 3, 3, .u32, .ro, 0, .any⟩,
  ⟨0x7011, 0x7011, 4, 4, .bool, .rw, 0, .w1c⟩,
  ⟨0x7011, 0x7011, 5, 5, .u32, .ro, 0, .any⟩,
  ⟨0x7011, 0x7011, 6, 6, .bool, .wo, 0, .any⟩,
  ⟨0x7011, 0x7011, 7, 7, .u64, .ro, 0, .any⟩]

/-- Indices 0x7000 onward (R410, R435, R436). -/
def od70_1 : List OdRow := [
  ⟨0x7011, 0x7011, 8, 8, .u16, .ro, 0, .any⟩,
  ⟨0x7012, 0x7012, 0, 0, .u8, .const, 0xB, .any⟩,
  ⟨0x7012, 0x7012, 1, 1, .u32, .ro, 0, .any⟩,
  ⟨0x7012, 0x7012, 2, 2, .u32, .ro, 0, .any⟩,
  ⟨0x7012, 0x7012, 3, 3, .u8, .ro, 0xFF, .any⟩,
  ⟨0x7012, 0x7012, 4, 4, .bool, .rw, 0, .w1c⟩,
  ⟨0x7012, 0x7012, 5, 5, .u32, .ro, 0, .any⟩,
  ⟨0x7012, 0x7012, 6, 6, .bool, .wo, 0, .any⟩,
  ⟨0x7012, 0x7012, 7, 7, .u8, .ro, 0xFF, .any⟩,
  ⟨0x7012, 0x7012, 8, 8, .u8, .ro, 0xFF, .any⟩,
  ⟨0x7012, 0x7012, 9, 9, .bool, .wo, 0, .any⟩,
  ⟨0x7012, 0x7012, 10, 10, .u8, .wo, 0, .any⟩,
  ⟨0x7012, 0x7012, 11, 11, .u32, .ro, 0, .any⟩,
  ⟨0x7080, 0x7080, 0, 0, .u8, .const, 6, .any⟩,
  ⟨0x7080, 0x7080, 1, 1, .u16, .rw, 0xC8, (.rng 0 5000)⟩,
  ⟨0x7080, 0x7080, 2, 2, .u16, .ro, 2, .any⟩,
  ⟨0x7080, 0x7080, 3, 3, .bool, .rw, 0, .w1c⟩,
  ⟨0x7080, 0x7080, 4, 4, .u32, .ro, 0, .any⟩,
  ⟨0x7080, 0x7080, 5, 5, .bool, .wo, 0, .any⟩,
  ⟨0x7080, 0x7080, 6, 6, .u16, .ro, 0, .any⟩,
  ⟨0x7081, 0x7081, 0, 0, .u8, .const, 0xA, .any⟩,
  ⟨0x7081, 0x7081, 1, 1, .u16, .rw, 0, (.rng 0 4095)⟩,
  ⟨0x7081, 0x7081, 2, 2, .u32, .rw, 0x4000000, .any⟩,
  ⟨0x7081, 0x7081, 3, 3, .u32, .rw, 0, .any⟩,
  ⟨0x7081, 0x7081, 4, 4, .u32, .ro, 0, .any⟩,
  ⟨0x7081, 0x7081, 5, 5, .u32, .ro, 0, .any⟩,
  ⟨0x7081, 0x7081, 6, 6, .u32, .ro, 0, .any⟩,
  ⟨0x7081, 0x7081, 7, 7, .u8, .rw, 0, (.mask 0x3)⟩,
  ⟨0x7081, 0x7081, 8, 8, .u32, .ro, 0, .any⟩,
  ⟨0x7081, 0x7081, 9, 9, .u8, .ro, 0, .any⟩]

/-- Indices 0x7000 onward (R436). -/
def od70_2 : List OdRow := [
  ⟨0x7081, 0x7081, 10, 10, .u8, .wo, 0, .any⟩]

/-- Indices 0x7000 onward. -/
def od70 : List OdRow := od70_0 ++ od70_1 ++ od70_2

/-- Indices 0x7100 onward (R468, R469). -/
def od71 : List OdRow := [
  ⟨0x7100, 0x7100, 0, 0, .u8, .const, 7, .any⟩,
  ⟨0x7100, 0x7100, 1, 1, .u8, .ro, 0, .any⟩,
  ⟨0x7100, 0x7100, 2, 2, .u8, .ro, 0, .any⟩,
  ⟨0x7100, 0x7100, 3, 3, .bool, .ro, 0, .any⟩,
  ⟨0x7100, 0x7100, 4, 4, .u8, .ro, 0, .any⟩,
  ⟨0x7100, 0x7100, 5, 5, .bool, .ro, 0, .any⟩,
  ⟨0x7100, 0x7100, 6, 6, .u16, .rw, 0x400, (.rng 16 1024)⟩,
  ⟨0x7100, 0x7100, 7, 7, .u32, .ro, 0, .any⟩,
  ⟨0x7101, 0x7101, 0, 0, .u8, .const, 6, .any⟩,
  ⟨0x7101, 0x7101, 1, 1, .u16, .rw, 0x3E8, (.rng 256 65535)⟩,
  ⟨0x7101, 0x7101, 2, 2, .u16, .rw, 0x10, (.rng 1 65535)⟩,
  ⟨0x7101, 0x7101, 3, 3, .u8, .rw, 4, .form⟩,
  ⟨0x7101, 0x7101, 4, 4, .u16, .rw, 0x40, (.rng 8 65535)⟩,
  ⟨0x7101, 0x7101, 5, 5, .u32, .ro, 0, .any⟩,
  ⟨0x7101, 0x7101, 6, 6, .u32, .ro, 0, .any⟩]

/-- Indices 0x8000 onward (R529). -/
def od80 : List OdRow := [
  ⟨0x8000, 0x8000, 0, 0, .u8, .const, 3, .any⟩,
  ⟨0x8000, 0x8000, 1, 1, .u32, .ro, 0, .any⟩,
  ⟨0x8000, 0x8000, 2, 2, .bool, .wo, 0, .any⟩,
  ⟨0x8000, 0x8000, 3, 3, .u8, .rw, 0xFF, .any⟩,
  ⟨0x8001, 0x8001, 0, 0, .u8, .const, 0x40, .any⟩,
  ⟨0x8001, 0x8001, 1, 64, .u64, .ro, 0, .any⟩,
  ⟨0x8002, 0x8002, 0, 0, .u8, .const, 0x40, .any⟩,
  ⟨0x8002, 0x8002, 1, 64, .u64, .ro, 0, .any⟩]

/-- The rows that may hold an index, by its high octet. -/
def odPage (p : Nat) : List OdRow :=
  match p with
  | 0x10 => od10
  | 0x1E => od1E
  | 0x20 => od20
  | 0x21 => od21
  | 0x22 => od22
  | 0x30 => od30
  | 0x31 => od31
  | 0x32 => od32
  | 0x33 => od33
  | 0x34 => od34
  | 0x38 => od38
  | 0x39 => od39
  | 0x3A => od3A
  | 0x40 => od40
  | 0x41 => od41
  | 0x44 => od44
  | 0x45 => od44
  | 0x46 => od46
  | 0x47 => od47
  | 0x48 => od48
  | 0x49 => od48
  | 0x50 => od50
  | 0x51 => od51
  | 0x52 => od52
  | 0x53 => od53
  | 0x54 => od54
  | 0x55 => od55
  | 0x58 => od58
  | 0x60 => od60
  | 0x61 => od61
  | 0x62 => od62
  | 0x63 => od63
  | 0x64 => od64
  | 0x68 => od68
  | 0x69 => od69
  | 0x6A => od6A
  | 0x70 => od70
  | 0x71 => od71
  | 0x80 => od80
  | _ => []

/-- Whether a row holds a subindex of an index. -/
def OdRow.holds (r : OdRow) (idx sub : Nat) : Bool := r.lo ≤ idx && idx ≤ r.hi && r.a ≤ sub && sub ≤ r.b

/-- The row of a subindex, if it exists. -/
def odRow? (idx sub : Nat) : Option OdRow := (odPage (idx / 256)).find? (fun r => r.holds idx sub)

/-- Whether any subindex of an index exists. -/
def odIndexExists (idx : Nat) : Bool := (odPage (idx / 256)).any (fun r => r.lo ≤ idx && idx ≤ r.hi)

/-- Octets of a fixed-size type; 0 for a string or a DOMAIN. -/
def OdType.size : OdType → Nat
  | .bool | .u8 | .i8 => 1
  | .u16 | .i16 => 2
  | .u32 | .i32 | .real => 4
  | .u64 | .i64 => 8
  | .str | .domain => 0

/-- Whether values of the type are two's complement. -/
def OdType.isSigned : OdType → Bool
  | .i8 | .i16 | .i32 | .i64 => true
  | _ => false

/-- What a subindex that nothing has written reads as; 0 where no row holds it. -/
def odDefault (key : Nat) : BitVec 64 :=
  match odRow? (key / 256) (key % 256) with
  | some r => BitVec.ofNat 64 r.dflt
  | none => 0

end Sys2Proof.Machine
end

