-- ==== Sys2Proof/Machine/Sparse.lean ====
section
/-! DEFINITION. Data by number, in one canonical form: keys strictly rising, and no entry equal to what an unlisted key
reads as. The capture store's bytes, the dictionary registers and the per-unit state are kept this way, so that equal
contents are equal data. -/

namespace Sys2Proof.Machine

/-- What key `k` reads as: its entry, or the default `d k`. -/
def look {α : Type} (d : Nat → α) : List (Nat × α) → Nat → α
  | [], k => d k
  | (a, v) :: m, k => if a = k then v else look d m k

/-- Drop every entry whose key satisfies `p`: those keys read as the default again. -/
def dropKeys {α : Type} (p : Nat → Bool) : List (Nat × α) → List (Nat × α)
  | [] => []
  | (a, v) :: m => if p a then dropKeys p m else (a, v) :: dropKeys p m

/-- Enter key `k` before the first larger key. -/
def insertKey {α : Type} : List (Nat × α) → Nat → α → List (Nat × α)
  | [], k, x => [(k, x)]
  | (a, v) :: m, k, x => if k < a then (k, x) :: (a, v) :: m else (a, v) :: insertKey m k x

/-- Make key `k` read as `x`; an entry equal to the default is not kept. -/
def place {α : Type} [DecidableEq α] (d : Nat → α) (m : List (Nat × α)) (k : Nat) (x : α) : List (Nat × α) :=
  if x = d k then dropKeys (fun a => a == k) m else insertKey (dropKeys (fun a => a == k) m) k x

/-- Every key is at least `b`, keys rise strictly, and no entry equals the default. -/
def canonFrom {α : Type} [DecidableEq α] (d : Nat → α) : Nat → List (Nat × α) → Bool
  | _, [] => true
  | b, (a, v) :: m => decide (b ≤ a) && decide (v ≠ d a) && canonFrom d (a + 1) m

/-- The canonical form. -/
def canon {α : Type} [DecidableEq α] (d : Nat → α) (m : List (Nat × α)) : Bool := canonFrom d 0 m

/-- Give key `k` the entry `x`, whatever the default is. -/
def upsert {α : Type} (m : List (Nat × α)) (k : Nat) (x : α) : List (Nat × α) := (k, x) :: m.filter (fun e => e.1 != k)

end Sys2Proof.Machine
end

