-- ==== Sys2Proof/Config.lean ====
section
/-! DEFINITION. What an implementation fixes and the spec leaves open: every constant here is opaque, so no proof can use a
value of it. Where State's counter `free` is an operand, each use of the value is a fresh one. -/

namespace Sys2Proof

/-- The dither draw j of a lane's sample, before it is taken modulo 16 (FULL) or 8 (HALF). R72 specifies neither the
generator nor its starting states: by lane and by the count of the physical sample. -/
opaque Config.dither : Nat → Nat → BitVec 4

/-- The code of a lane's sample while its pod reads WINDOW_SETTLING; R70: "the pod's codes are not specified". -/
opaque Config.settlingCode : Nat → Nat → BitVec 4

/-- The factory-fused COARSE code of a band table entry (R330): it differs from module to module. -/
opaque Config.fusedCoarse : Nat → BitVec 12

/-- What the module measures of itself and no command carries: the mean phase error (0x2101.05) and the input power (0x2000.04), by
the frame and the count of dictionary requests at which it is read. -/
opaque Config.phaseError : Nat → Nat → BitVec 32
opaque Config.inputPower : Nat → Nat → BitVec 16

/-- The residual skew of a lane in fs as the factory measured it (R82, R101); read within ±5,000. -/
opaque Config.residualSkew : Nat → BitVec 16

/-- Vendor identifier assigned by CiA, less 1 (R553): it is never 0. -/
opaque Config.vendorLess : Fin 4294967295

/-- The vendor identifier. -/
def Config.vendorId : BitVec 32 := BitVec.ofNat 32 (Config.vendorLess.val + 1)

/-- The identifier that the PCI-SIG assigned to Farros Microsystems (R438), another than CiA's. -/
opaque Config.pciVendor : BitVec 16

/-- Die revision and firmware revision of this module, less 1 (R553): each counts from 1. -/
opaque Config.dieLess : Fin 65535
opaque Config.firmwareLess : Fin 65535

/-- Die revision and firmware revision. -/
def Config.dieRevision : BitVec 16 := BitVec.ofNat 16 (Config.dieLess.val + 1)
def Config.firmwareRevision : BitVec 16 := BitVec.ofNat 16 (Config.firmwareLess.val + 1)

/-- Serial number of this module, less 1 (R553): it is never 0. -/
opaque Config.serialLess : Fin 4294967295

/-- The serial number. -/
def Config.serialNumber : BitVec 32 := BitVec.ofNat 32 (Config.serialLess.val + 1)

/-- The text of 0x100A.00: by position, which of the 95 characters 0x20 to 0x7E (R473); the text's length less 1 (R553: 1 to 16
characters). -/
opaque Config.versionGlyph : Nat → Fin 95
opaque Config.versionLength : BitVec 4

/-- A character of the text. -/
def Config.versionChar (i : Nat) : BitVec 8 := BitVec.ofNat 8 (0x20 + (Config.versionGlyph i).val)

/-- The stored image as flash holds it (R496, R501): its octets, and its length, by the sequence number of the copy. -/
opaque Config.imageOctet : Nat → Nat → BitVec 8
opaque Config.imageLength : Nat → BitVec 20

/-- The CRC-32 over those octets (R496), by the same number. -/
opaque Config.imageCrc : Nat → BitVec 32

/-- How many further octets CiA 1301 gives an emergency message (R493). -/
opaque Config.emcyFurther : BitVec 6

/-- A value that nothing in the spec fixes, fresh at each use: the counter `free` of State is its operand. -/
opaque Config.freeValue : Nat → BitVec 64

end Sys2Proof
end

