-- ==== Sys2Proof/Machine/State.lean ====
section
/-! DEFINITION. The machine's state as plain data, its faults and refusals, and the state after reset. -/

namespace Sys2Proof.Machine

/-- Which of the two ordering codes the module is (R3). -/
inductive Part where
  | h48 | h24
  deriving DecidableEq, Repr

/-- The module's time: `abs`, frame ticks since cold start, never loaded (the model's own scheduling count); `frame`, the
frame number in force (R39); `wrapDue`, the frame number has returned to 0 and R40 is not yet carried out; `phys`, physical
samples at the contacts up to the start of the running frame (R355); `jumps`, the frames whose number did not follow from the one before
(a load, a start of the clock), newest first: the place in `abs` and the number. -/
structure Time where
  abs : Nat
  frame : FrameNo
  wrapDue : Bool
  phys : Nat
  jumps : List (Nat × Nat)
  deriving DecidableEq, Repr

/-- One lane over one frame in the pipeline: the setting word in force, corrected codes c and amplitudes A by sample, and,
once stage F+1 has run, hysteresis bits h and filtered bits f (R84). -/
structure LanePkt where
  set : Nat
  c : List Nat
  a : List Nat
  h : List Bool
  f : List Bool
  deriving DecidableEq, Repr

/-- One frame in the pipeline stages F to F+5 (R19): its place in the model's count, its number, the first void position
(32: none, R353), whether a slip lies before its sample 0, whether a slip or a frame load does (R272), the physical sample at its
sample 0, the levels of TRIG_IN0
and TRIG_IN1 and of every lane, and the markers set for its samples (R316) as domain * 8 + marker with the sample. -/
structure Packet where
  abs : Nat
  num : Nat
  voidFrom : Nat
  brk : Bool
  cut : Bool
  phys : Nat
  trig0 : List Bool
  trig1 : List Bool
  lanes : List (Nat × LanePkt)
  deriving DecidableEq, Repr

/-- Detector accumulators of the running period: maximum, minimum, sum of A, sum of A squared, samples (R110). -/
structure Det where
  max : Nat
  min : Nat
  sum : Nat
  sq : Nat
  n : Nat
  deriving DecidableEq, Repr

/-- An Indigo output of a lane as the sequencer sees it (R121, R134): the position at which its term is merged, the zone
after it, its event kinds as bits (0 ENTER_ABOVE, 1 LEAVE_ABOVE, 2 ENTER_BELOW, 3 LEAVE_BELOW), its flags as bits (0 COARSE,
1 FADING, 2 SAT), the output Y and the timestamp of its represented instant t (R120). -/
structure IndPoint where
  pos : Nat
  zone : Nat
  events : Nat
  flags : Nat
  y : Int
  t : Nat
  deriving DecidableEq, Repr

/-- What a lane holds between frames. -/
structure Lane where
  raw : List (Nat × Int)          -- the deskew buffer: the last 64 codes with their dither offsets, oldest first (R81), after the
                                  -- 16 that it needs again where a slip voids the last samples taken (R353)
  set : Nat                       -- lane setting word in force for the newest frame (R99)
  pend : List (Nat × Nat)         -- setting words written, with the frame from which each applies (R551)
  h : Bool                        -- hysteresis bit after the last sample of stage F+1 (R77)
  f : Bool                        -- filtered bit likewise (R79)
  hSince : Nat                    -- position at which h last changed (R148)
  last64 : List Nat               -- the latest 64 corrected codes that the detectors took, oldest first (R109)
  sums : List (Nat × List Nat)    -- M at samples 7, 15, 23 and 31 of the latest frames, newest first (R109, R124)
  det : Option Det                -- detector accumulators of the running period (R110)
  latch : Option Det              -- those of an ended period not yet latched
  envU : Rat                      -- upper envelope, in A units (R111)
  envL : Rat                      -- lower envelope
  ov : Nat                        -- overvoltage of contact P (bit 0) and N (bit 1) (R85)
  held : Option (Nat × Int)       -- code held while the pod is out of service (R93)
  conP : Nat                      -- class of contact P as last found, coded as CONNECTION; 0 never tested (R87)
  conN : Nat                      -- class of contact N likewise
  ind : List IndPoint             -- latest Indigo outputs, newest first
  deriving DecidableEq, Repr

/-- What a pod holds beside its registers: the window (as written) and input configuration in force (R68, R66), the dither
setting in force and those written with the frame from which each applies (R551), the
activity that holds the pod (0 none, 1 probe test, 2 recalibration, R93), the temperature at its last calibration (R92), the
detector period exponent in force and the number of the last frame of a period not yet latched (R110, R137); the contact that
the health converter visits (twice the lane in the pod, plus 1 for N), the health mode of that visit, and whether its test
current was kept off or stopped (R88). -/
structure Pod where
  win : Nat
  se : Bool
  dith : Nat
  dithPend : List (Nat × Nat)
  act : Nat
  calTemp : Int
  factory : Bool
  detP : Nat
  detEnd : Nat
  visit : Nat
  visitMode : Nat
  visitCut : Bool
  deriving DecidableEq, Repr

/-- A cross-fade (R127): the bank faded in, the outputs made, the length L as taken at its first output. -/
structure Fade where
  target : Nat
  done : Nat
  len : Nat
  deriving DecidableEq, Repr

/-- An output round of an engine as records show it (R263): the frame with whose records it is staged, the timestamp t of
slot 0, and the outputs of the slots that have been compared. -/
structure IndRound where
  abs : Nat
  t0 : Nat
  outs : List IndPoint
  deriving DecidableEq, Repr

/-- What an engine has decided of an output round (R118, R120, R124, R127): the round and its slot 0's window end, the frame with whose
records it is staged, output i of a fade of length len from one bank to another, a coarse output, g in force. -/
structure OutDec where
  r : Nat
  n0 : Nat
  abs : Nat
  i : Nat
  len : Nat
  old : Nat
  new : Nat
  coarse : Bool
  g : Nat
  deriving DecidableEq, Repr

/-- What an Indigo engine holds beside its registers: the bank requests, and per slot the latest boxcar inputs X and
rank-filter outputs z, newest first (R116, R117), the latest output rounds, and what was decided of those whose later slots are still to
come, newest first. -/
structure Engine where
  fade : Option Fade
  pendBank : Option Nat
  xs : List (Nat × List Int)
  zs : List (Nat × List Int)
  rounds : List IndRound
  decs : List OutDec
  deriving DecidableEq, Repr

/-- A stop that has been decided (R172): the last evaluated position, the source's place in the order of R172, the stop
reason, and the frame in which it becomes known. -/
structure StopReq where
  pos : Nat
  rank : Nat
  reason : Nat
  known : Nat
  deriving DecidableEq, Repr

/-- A timer of a domain: `due` is the position from which EXPIRED is true (0: STOPPED); `expired`, the state reads EXPIRED
(R156). -/
structure Timer where
  due : Nat
  expired : Bool
  deriving DecidableEq, Repr

/-- A width unit: whether a pulse is being measured, the position of its first edge, and whether its timeout has been
reported (R147). -/
structure Width where
  on : Bool
  start : Nat
  told : Bool
  deriving DecidableEq, Repr

/-- A clock slot of a STATE domain: the instant of the last used edge (absolute position in SSU, plus 1; 0 none) and the
number of state samples since arm (R169, R262). -/
structure ClockSlot where
  last : Nat
  index : Nat
  deriving DecidableEq, Repr

/-- The sequencer of a domain beside its registers. -/
structure Dom where
  first : Option Nat              -- first evaluated frame (R171)
  evaluated : Nat                 -- positions below this one have been evaluated
  stops : List StopReq            -- every stop requested since arm, in their order (R172, R173)
  forced : List Nat               -- frames of requested forced triggers, each a frame once (R166)
  placed : Bool                   -- the current capture unit has its trigger (R152)
  timers : List (Nat × Timer)
  widths : List (Nat × Width)
  clocks : List (Nat × ClockSlot)
  deriving DecidableEq, Repr

/-- A trigger output: a pulse is in progress, the physical sample at which it runs out, assertions on their way to the contact
as (frame, sample), and whether the output is asserted at each physical sample of the running frame (R154). -/
structure TrigOut where
  on : Bool
  stopAt : Nat
  coming : List (Nat × Nat)
  wave : List Bool
  deriving DecidableEq, Repr
/-- One ring of a queue, or one sub-ring of a queue in priority order: the pointers W, R, F and M, each held twice, whether
the mark is valid, whether the newest item written carried END, and the pending drop count (R419, R426, R429). -/
structure Ring where
  w : Nat
  r : Nat
  f : Nat
  m : Nat
  w2 : Nat
  r2 : Nat
  f2 : Nat
  m2 : Nat
  mOk : Bool
  lastEnd : Bool
  pend : Nat
  deriving DecidableEq, Repr

/-- A producer's packet that waits, for its turn or for the ring's bank to wake: its priority, its words, and whether its END item is
among them (R396, R416). -/
structure HeldPush where
  by_ : Agent
  prio : Nat
  words : List Nat
  ended : Bool
  deriving DecidableEq, Repr

/-- What the host has asked of a queue's window and waits (R423, R432): a read of a number of items, one whose wait for an item is 0 and
that stands only behind another access or for the bank's wake, a command, 1 MARK,
2 REWIND, 3 RELEASE, a push with its priority and END, or a read of COUNT. -/
inductive HostWait where
  | read (n : Nat)
  | poll (n : Nat)
  | command (c : Nat)
  | push (prio data : Nat) (ended : Bool)
  | count
  deriving DecidableEq, Repr

/-- A queue: configuration and endpoint words (R434), its rings (sub-rings in priority order), the packet being pushed (by
whom, in which sub-ring, with its rest dropped), the packet being read and as MARK and RELEASE recorded it, the sticky flags
with their counters, the waiting hardware packets, host accesses and on-chip consumers. -/
structure Queue where
  cfg : Nat
  ends : Nat
  rings : List (Nat × Ring)
  open_ : Option Agent
  prio : Nat
  dropping : Bool
  reading : Option Nat
  mReading : Option Nat
  fReading : Option Nat
  gap : Bool
  reset : Bool
  drops : Nat
  resets : Nat
  held : List HeldPush
  hostReads : List HostWait       -- host accesses that wait, in the order they arrived (R423, R432)
  stalled : List Agent            -- on-chip consumers that found nothing (R423)
  deriving DecidableEq, Repr

/-- What changes the capture store's contents: octets from an address on, or all octets from `lo` to below `hi` cleared
(R208). -/
inductive MemOp where
  | write (addr : Nat) (data : List Byte)
  | clear (lo hi : Nat)
  deriving DecidableEq, Repr

/-- One frame's records of a domain on their way to the store: the frame, the bytes still to be written, how many bytes of
records lie in staging outside its reserve before the first is written, the words to be written with their store addresses,
the next write offset and the write position after them, and the timestamp of the last stored sample (R220, R221, R212, R234). -/
structure StagedFrame where
  abs : Nat
  left : Nat
  recs : Nat
  writes : List (Nat × List Nat)
  nextOff : Option Nat
  endPos : Nat
  lastTs : Option Nat
  deriving DecidableEq, Repr

/-- The open segment of a segmented capture, or one that has closed and is not yet in its slot (R229 to R232). -/
structure Segment where
  seq : Nat
  slot : Nat
  o : Nat                         -- position of the open sample
  openTs : Nat
  openClass : Nat
  reqTs : Nat
  dead : Nat
  late : Bool
  gap : Bool
  dropped : Nat
  repDropped : Nat
  firstTs : Option Nat
  trig : Option (List Nat)        -- the six words of its trigger stamp set (R179)
  woff : Nat                      -- next write offset, from the slot's first byte
  lastFit : Option Nat            -- last position of the last frame whose records fit (R229)
  deriving DecidableEq, Repr

/-- A segment of the running capture as a mask unit looks for it (R289): slot, sequence number, open and close positions. -/
structure SegSpan where
  slot : Nat
  seq : Nat
  o : Nat
  c : Option Nat
  deriving DecidableEq, Repr

/-- A deferred SEG_OPEN: the position at which it opens and the requested instant (R230). -/
structure Deferred where
  at_ : Nat
  reqTs : Nat
  deriving DecidableEq, Repr

/-- A block of a ring capture that still holds records: its number since arm and the timestamp of its first data item. -/
structure RingBlock where
  no : Nat
  firstTs : Option Nat
  deriving DecidableEq, Repr

/-- A run of dropped frames not yet reported: number of the first, frames, report records lost with them (R222). -/
structure GapRun where
  first : Nat
  frames : Nat
  reports : Nat
  deriving DecidableEq, Repr

/-- The store controller of a domain beside its registers. Write positions count bytes since arm and never wrap; blocks are
64 KiB of them (R212, R225, R234). -/
structure StoreDom where
  live : Bool                     -- the domain has a region and is capturing (R238)
  fifo : Bool                     -- the region was armed as the FIFO of a STREAM (R233)
  base : Nat                      -- store address of the region at arm
  size : Nat                      -- its bytes
  slots : Nat
  slotBytes : Nat
  pods : Nat                      -- pods at arm, as a mask (R256)
  wpos : Nat                      -- ring and FIFO: write position
  cpos : Nat                      -- FIFO: write position committed
  rpos : Nat                      -- FIFO: position up to which space is freed
  blocks : List RingBlock         -- ring: retained blocks, newest first
  trigBlock : Option Nat          -- ring: block that holds the data of the trigger's action sample
  trigPos : Option Nat            -- ring: position of the trigger's action sample
  trig : Option (List Nat)        -- ring: the six words of the trigger stamp set (R179)
  postStop : Option Nat           -- ring: position after which the post-trigger count ends (R226)
  gapCount : Nat                  -- frames dropped in the running ring capture
  gapRun : Option GapRun
  lastTs : Nat                    -- timestamp of the last stored sample
  seg : Option Segment            -- the open segment
  closing : Option (Nat × Nat × Segment)   -- last closed segment: close position, close reason, and its contents
  zeroDue : Bool                  -- the open segment's header area is still to be written with zeros (R228)
  hdrDue : Bool                   -- the closed segment's SEG_HDR is still to be written
  deferred : Option Deferred
  nextSeq : Nat
  history : List SegSpan          -- the segments opened last, newest first
  firstPos : Nat                  -- position of the first evaluated sample
  reports : List (Nat × List Nat)   -- report records bound for the region with the frame that produces each, in order of production
  heldReports : List (List Nat)   -- report records that wait for the next segment (R255)
  released : Nat                  -- frames below this one have been released to the store
  staged : List StagedFrame       -- oldest first
  deriving DecidableEq, Repr
/-- What a CAN FD decoder holds of the frame in progress (R186, R187): the last bit and the length of its run; the bits without
and with dynamic stuff bits, newest first; stuff bits seen; stage (0 header, 1 data, 2 CRC of a classical frame, 3 CRC field
of an FD frame, 4 delimiter); the bits of the CRC field, newest first; header field word; data octets expected and taken;
whether the data-phase period runs; an error of the CRC field as context flags. -/
structure CanSt where
  last : Bool
  run : Nat
  data : List Bool
  raw : List Bool
  stuffed : Nat
  stage : Nat
  crc : List Bool
  hdr : Nat
  len : Nat
  got : Nat
  fast : Bool
  err : Nat
  deriving DecidableEq, Repr

/-- A protocol term unit beside its registers (R185 to R196): hunting or in a transaction; the decoder's place in it
(`phase`), the bits taken so far (newest first), the count of the next timed bit, the anchor t0 in absolute SSU, the INDEX
of the next item, four working words whose use the standard gives, the position counter, the term marks (sequencer
position, whether the item matched; newest first), the DECODE records awaiting the record writer, oldest first, and the record
of a CAN FD END item whose ACK slot is still to be read, with the instant of that read in absolute SSU (R189). -/
structure Ptu where
  hunting : Bool
  phase : Nat
  bits : List Bool
  k : Nat
  t0 : Nat
  index : Nat
  x : Nat
  y : Nat
  z : Nat
  u : Nat
  pos : Int
  can : CanSt
  marks : List (Nat × Bool)
  buf : List (List Nat)
  ack : Option (Nat × List Nat)
  deriving DecidableEq, Repr

/-- What a measurement unit has gathered of one lane over a window (R274, R275). Instants are absolute SSU, plus 1 (0: none). -/
structure MeasAcc where
  edges : Nat
  glitches : Nat
  first : Nat
  last : Nat
  perFirst : Nat
  perLast : Nat
  perN : Nat
  perMin : Nat
  perMax : Nat
  rise : Nat
  fall : Nat
  sumH : Nat
  nH : Nat
  sumL : Nat
  nL : Nat
  hiSum : Int
  hiN : Nat
  loSum : Int
  loN : Nat
  vMax : Int
  vMin : Int
  coarse : Bool
  deriving DecidableEq, Repr

/-- A window that has ended and is not yet latched: first and last position, kind, the frame in which its results are
latched, and the lanes' accumulators (R276). -/
structure EndedWin where
  start : Nat
  stop : Nat
  segment : Bool
  latchAt : Nat
  indigo : Bool
  accs : List (Nat × MeasAcc)
  deriving DecidableEq, Repr

/-- A latched window's results: the frame in which the limit entries are compared, and the 14 words of each lane's MEAS
record (R265). -/
structure Latched where
  compareAt : Nat
  endTs : Nat
  lastPos : Nat
  recs : List (List Nat)          -- every lane's results, for the comparison
  deriving DecidableEq, Repr

/-- The measurement unit of a pod: first position of the running window, its accumulators, the last position of a window
whose end is known and not yet applied, ended windows, latched windows to compare, and the two places of windows whose MEAS
records await output, with the first frame of their output (R276, R277). -/
structure Meas where
  start : Option Nat
  accs : List (Nat × MeasAcc)
  endDue : Option Nat
  ended : List EndedWin
  latched : List Latched
  places : List (Nat × List (List Nat))
  deriving DecidableEq, Repr

/-- A violation that has become known (R284 to R287): VIOLATION_TS, kind, lane, entry, item, MEASURED, LIMIT, position of
the violating sample. -/
structure Violation where
  ts : Nat
  kind : Nat
  lane : Nat
  entry : Nat
  item : Nat
  measured : Nat
  limit : Nat
  pos : Nat
  deriving DecidableEq, Repr

/-- An amplitude-time window: the action sample of its trigger and the samples already compared (R286). -/
structure AmpWin where
  a : Nat
  done : Nat
  deriving DecidableEq, Repr

/-- The mask unit of a domain beside its registers: the amplitude-time window in comparison and the last sample of the one
last opened, violations found and not yet numbered, MASK_VIOL records awaiting the record writer (the words and whether
the record has the place kept for violation N), the protected slot, whether violation N has requested a stop, and
the bytes of an emergency message to be handed over in the next frame (R290). -/
structure Mask where
  amps : List AmpWin
  lastOpened : Option Int
  found : List Violation
  recs : List (List Nat)
  protect : Option Nat
  requested : Bool
  emcy : Option (List Byte)
  deriving DecidableEq, Repr

/-- A histogram readout: the half read, the next bin, the snapshot's timestamp and number, bins read and not yet in a
record, whether it is the final one (R282, R283). -/
structure Readout where
  half : Nat
  next : Nat
  ts : Nat
  no : Nat
  first : Nat
  bins : List Nat
  touched : List Nat
  final : Bool
  deriving DecidableEq, Repr

/-- A histogram engine beside its registers: the domain whose capture it serves, the half that accumulates, the bins touched in
the running interval, boundaries waiting as (position, final), last edges in absolute SSU plus 1, the readout. -/
structure Hist where
  dom : Nat
  half : Nat
  touched : List Nat
  prevTouched : List Nat                 -- bins touched in the interval that waits for its readout
  bounds : List (Nat × Bool)
  dueStart : Option (Nat × Nat × Bool)   -- boundary position, frame in which the readout begins, final
  prev : Nat
  rise : Nat
  fall : Nat
  ref : Nat
  readout : Option Readout
  nextNo : Nat
  deriving DecidableEq, Repr

/-- A launch on its way to the contact: contact position, pattern, whether it is the safe pattern (R312, R315). -/
structure Launch where
  at_ : Nat
  pat : Nat
  safe : Bool
  deriving DecidableEq, Repr

/-- A running pattern: descriptor number, whether it is the safe pattern, physical sample of the running pass's bit slot 0,
the pass from 1, and the last pass it may run (0: as its loop count says) (R312 to R315). -/
structure PatRun where
  pat : Nat
  safe : Bool
  start : Nat
  pass : Nat
  lastPass : Nat
  deriving DecidableEq, Repr

/-- The pattern engine of a domain beside its registers: staged drive frames of each pattern named at arm (pattern, octets),
later drive frames as read from the region when they fell due (pattern, drive frame, octets; newest first, R311), launches
waiting, the running pattern, the lock of R315, the markers set by position, the drive frame that did not arrive in
time as its first physical sample (R317), launches that have reached the contact (position, pattern, whether it is the safe
pattern, whether a driver of it was enabled) and pass ends not yet recorded (position, the pass that begins, 0 where the pattern
has ended; whether it is the safe pattern), and the pattern that ran at the first physical sample of the newest frame (R355). -/
structure Stim where
  staged : List (Nat × List Byte)
  blocks : List (Nat × Nat × List Byte)
  launches : List Launch
  run : Option PatRun
  before : Option PatRun
  locked : Bool
  marks : List (Nat × Nat)
  late : Option Nat
  reached : List (Nat × Nat × Bool × Bool)
  ends : List (Nat × Nat × Bool)
  used : Nat                       -- stimulus octets read from the store for the newest frame (R220)
  deriving DecidableEq, Repr

/-- A lane driver: its rest state (0 HIZ, 1 LOW, 2 HIGH) and what it drives at the contact over the newest frame, by sample
(0 high-impedance, 1 VOL, 2 VOH) (R304, R305). -/
structure Driver where
  rest : Nat
  wave : List Nat
  deriving DecidableEq, Repr
/-- A bank: owner code, generation, lender code while borrowed, power state and requested power state (0 ON, 1 RETENTION,
2 OFF), KEEP, whether it is a firmware bank, borrowed, CLEARING, or waking (R387, R391, R393, R396, R397). -/
structure Bank where
  owner : Nat
  gen : Nat
  lender : Nat
  power : Nat
  want : Nat
  keep : Bool
  firmware : Bool
  borrowed : Bool
  clearing : Bool
  waking : Bool
  used : Option Nat
  deriving DecidableEq, Repr

/-- A maintenance activity that waits or runs on pods (R399): the probe test with its pods, or the recalibration of one pod,
requested through 0x3011 or by the engine itself (`auto`, R405). -/
structure Activity where
  probe : Bool
  auto : Bool
  pods : List Nat
  deriving DecidableEq, Repr

/-- The running bank test (R401, R402): target, lender, spare, and whether a reclaim has aborted it. -/
structure BankTest where
  target : Nat
  lender : Nat
  spare : Option Nat
  aborted : Bool
  deriving DecidableEq, Repr

/-- A host access of a bank that waits for a wake or a reclaim (R394, R395): 0 read, 1 write, 2 ADD64, 3 ADD32X2, 4 SWAP64; the
word, the half for a 32-bit access (0 low, 1 high, 2 both), and the data or operand. -/
structure BankOp where
  bank : Nat
  kind : Nat
  word : Nat
  half : Nat
  data : Nat
  deriving DecidableEq, Repr

/-- The maintenance engine (R399 to R406) and the accesses that wait on banks: waiting and running activities in order, the
bank test and the requested targets in order, the scrub's uncorrectable addresses of the running pass and the unit that it has read last in
it, the octets of each host read that waits for an atomic
operation, and the banks that hardware owners hold as owner code * 16 + unit, plus 1 of the bank. -/
structure Maint where
  waiting : List Activity
  running : List Activity
  test : Option BankTest
  testReqs : List Nat
  probeMask : Nat                  -- pods of the last accepted probe test request (R97)
  recalMask : Nat                  -- pods of the last accepted recalibration request
  ops : List BankOp
  scrubSeen : List Nat
  scrubAt : Option Nat
  oldReads : List Nat
  verifyEnd : Nat                  -- frame at which the running band-table verify has ended (R406)
  scrubbing : Bool                 -- a scrub pass runs (R404, R409)
  holds : List (Nat × Nat)
  deriving DecidableEq, Repr

/-- An entry of the band table (R330): COARSE code, VALID, lowest and highest DCO frequency in kHz. -/
structure Band where
  coarse : Nat
  valid : Bool
  lo : Nat
  hi : Nat
  deriving DecidableEq, Repr

/-- The sample clock beside its registers: whether the frame grid runs; the number of the next frame where it does not follow
from the last one (at a start and after a sleep); band table entries and shadow entries that differ from the fuses; whether
BAND_MARGIN has been set in this acquisition; measured reference frequency in mHz; the frame from which qualification counts
with the time then in force; the frame at which coasting begins, with the coast limit then in force, once it is decided; a jump
that is known and takes effect at a frame, with the method (true: slew); the frame at which a slew began and its limit; the
frame of the last phase step, none before the first; whether the coast limit has been reached and the loop falls back at the boundary
passed (R330 to R345). -/
structure Clk where
  run : Bool
  next : Option Nat
  bands : List (Nat × Band)
  shadow : List (Nat × Band)
  waits : List (Option (Nat × Band))   -- entry writes, and reloads (none), that wait for the end of a verify (R406)
  margin : Bool
  refMHz : Nat
  qualFrom : Option (Nat × Nat)
  coast : Option (Nat × Nat)
  jump : Option (Nat × Int × Bool)
  slew : Option (Nat × Nat)
  stepAt : Option Nat
  fall : Bool
  deriving DecidableEq, Repr
/-- A Sloe port beside its registers: consecutive discarded messages; messages averaged, the sums of this side's measures and of
the far side's (R369); this side's latest measure; ARMED_ANY of the latest message; the frame, in the model's count, in which the
next message counts as received (R372). -/
structure SloePort where
  bad : Nat
  n : Nat
  own : Int
  far : Int
  mine : Option Int
  armedAny : Bool
  next : Option Nat
  deriving DecidableEq, Repr

/-- Chain bits that a message carries: the frame, in the model's count, in which they count as received, the bits, whether they are
damaged, and downward CHAIN_FRAME (R365, R372). -/
structure ChainBits where
  at_ : Nat
  bits : Nat
  bad : Bool
  tag : Nat
  deriving DecidableEq, Repr

/-- A downward command waiting to be sent (R364, R375): the first frame whose message may carry it, command, argument, CMD_FRAME. -/
structure ChainCmd where
  at_ : Nat
  cmd : Nat
  arg : Nat
  frame : Nat
  deriving DecidableEq, Repr

/-- A module of the tree that a discovery builds (R367): its device ID, its depth, the master's port through which it is reached,
whether it is a leaf for its version 1 link, whether it has started cold since the discovery before (R488). -/
structure ChainNode where
  id : Nat
  depth : Nat
  port : Nat
  leaf : Bool
  coldBefore : Nat                 -- requests numbered below were first sent before its last cold start (R488)
  deriving DecidableEq, Repr

/-- Where the response to a dictionary request goes: to the path alone; to a USDO client, or none, over the SDO channel (R491); into the
response ring of Q0 under its TAG (R483); to the master whose request it forwards, by the master's device ID, its number and the TAG
(R487, R488); nowhere, once Q0 has lost its messages (R486). -/
inductive ReplyTo where
  | path
  | sdo (client : Option Nat)
  | mailbox (tag : Nat)
  | forwarded (master no tag : Nat)
  | nowhere
  deriving DecidableEq, Repr

/-- A discovery that a dictionary request has asked for: the chain state before it, and the request that awaits its response (R367). -/
structure Asked where
  was : Nat
  path : Path
  back : ReplyTo
  deriving DecidableEq, Repr

/-- The chain beside its registers: ports; chain bits received upward and downward; downward commands waiting to be sent; the modules of
the tree that the latest discovery built, on a member those below it (R364 to R375, R487); on a member, whose packet is being relayed
towards the master, and the packets that wait behind it, each with its queue of the master in the place of a priority (R378); the
dictionary request of a discovery that runs. -/
structure Chain where
  ports : List (Nat × SloePort)
  ups : List ChainBits
  downs : List ChainBits
  cmds : List ChainCmd
  found : List ChainNode
  relay : Option Agent
  relayHeld : List HeldPush
  asked : Option Asked
  deriving DecidableEq, Repr

/-- What becomes due at a frame tick and is then carried out by its own event or, at its bound, by the frame tick. -/
inductive Task where
  | detectorLatch (pod : Nat)                       -- R110
  | indigoRank (e r k : Nat) (xs : List Int) (ms : List Nat) -- R121, R124: X of round r of slots from k on, M at their windows' ends
  | indigoFir (e r k : Nat) (zs : List Int) (ms : List Nat)  -- R121: their rank-filter outputs
  | indigoSlots (e abs k : Nat) (outs : List IndPoint) -- R121: outputs of slots from k on that are still to be compared
  | indigoSync                                      -- R123
  deriving DecidableEq, Repr

/-- A task with the first frame in which it may be carried out and the last. -/
structure Due where
  task : Task
  at_ : Nat
  by_ : Nat
  deriving DecidableEq, Repr

/-- The answer that the last command got: status code (R58), CiA abort code (R480), data. -/
structure Resp where
  status : Nat
  abort : Nat
  data : List Byte
  deriving DecidableEq, Repr

/-- What left the module. -/
inductive Output where
  | msix (vector : Nat)
  | latency (us : Nat)                              -- an LTR message with the latency that the device tolerates (R465)
  | hostWrite (addr : Nat) (data : List Byte) (poisoned : Bool)
  | hostRead (addr len tag : Nat)
  | bar4Data (addr : Nat) (data : List Byte) (poisoned : Bool)
  | pcieError (kind : Nat)                          -- an error message: 0 correctable, 1 non-fatal, 2 fatal (R466)
  | unsupported (write : Bool)                      -- a memory request that the function does not serve
  | bankData (bank word data : Nat)                 -- answer of a bank window read or of a read of BANK_ATOMIC_OLD_LO
  | popped (q : Nat) (words : List Nat)             -- answer of a host read of POP, POP_BURST or COUNT (R423, R424, R432)
  | delivered (q : Nat) (reader : Agent) (data tags : Nat)
  | can (cob : Nat) (data : List Byte)
  | sloe (port : Nat) (words : List Nat)
  | forwarded (port q data : Nat) (end_ : Bool)     -- an item on its way to a queue of the master (R378)
  | refclkGlitch                                    -- the one glitch of REFCLK_OUT at a change of its source (R329)
  | answer (p : Path) (tag status abort : Nat) (data : List Byte)   -- of a whole SDO, USDO or Sloe transfer
  deriving DecidableEq, Repr

/-- A slip or a frame number load that has been accepted: the frame A at which it applies in the model's count, the slip s,
the number that frame A receives if loaded, and whether it is one that A_last counts (R353, R358, R359, R369). -/
structure SlipLoad where
  at_ : Nat
  s : Int
  load : Option Nat
  counts : Bool
  deriving DecidableEq, Repr

/-- The slips (R353 to R359): what is accepted and waits for its frame A, A_last in the numbering in force, a slip and a load that
have taken effect and whose reset and records are still to be made (with the number that the frame would have had); SYNC_IN at
the positions of the running frame and at the last position before it, none before the first since the clock started (R357, R550),
and the sample from which rises are still to be taken; SYNC_OUT over the running frame by physical sample (R355, R360); the logic values
last decided of SYNC_IN, TRIG_IN0 and TRIG_IN1 (R550). -/
structure Sync where
  wait : List SlipLoad
  aLast : Option Nat
  slipDue : Option Int
  loadDue : Option Nat
  level : List Bool
  before : Option Bool
  from_ : Nat
  out : List Bool
  syncIn : Bool
  trig0 : Bool
  trig1 : Bool
  deriving DecidableEq, Repr

/-- An outstanding non-posted read of the device (R456): tag, channel, whether it fetches a descriptor, its place (ring index, or
octet of the descriptor's data), octets, and whether its channel no longer wants it (R459). -/
structure DmaRead where
  tag : Nat
  chan : Nat
  fetch : Bool
  pos : Nat
  len : Nat
  late : Bool
  deriving DecidableEq, Repr

/-- A DMA channel (R447, R471): control word without ABORT, ring and status write addresses, TAIL, HEAD, DONE, ABORTED, state (0 IDLE, 1
RUNNING, 2 HALTED), cause, last status; the descriptors fetched and not completed, oldest first, and those whose fetch completed before
that of one ahead of them in the ring, by index; status and octets of the one being served, once it has begun; octets of its host data
asked for, and those that have arrived by place; octets that it has written to the host, and whether its queue has had no further item
readable (kind 2); whether a kind 4 descriptor has reported the end of the bound domain's capture. -/
structure Dma where
  ctrl : Nat
  ring : Nat
  wb : Nat
  tail : Nat
  head : Nat
  done : Nat
  aborted : Nat
  st : Nat
  cause : Nat
  last : Nat
  fetched : List Descriptor
  early : List (Nat × Descriptor)
  cur : Option (Nat × Nat)
  asked : Nat
  got : List (Nat × List Byte)
  sent : Nat
  dry : Bool
  ended : Bool
  deriving DecidableEq, Repr

/-- What the function's capability structures announce (R437, R457). What the table of R437 does not list is absent. -/
structure PcieCaps where
  rates : Nat                      -- link rates supported, 1 to this code
  widths : List Nat
  maxPayload : Nat
  maxRead : Nat
  extendedTag : Bool
  tag10 : Bool
  tag14 : Bool
  msixVectors : Nat
  msixTable : Nat                  -- offset in BAR0 (R457)
  msixPba : Nat
  intPin : Nat
  aer : Bool
  ecrc : Bool
  ptmRequester : Bool
  ptmResponder : Bool
  flr : Bool
  d3hot : Bool
  noSoftReset : Bool
  aspmL0s : Bool
  aspmL1 : Bool
  l1ss : Nat                       -- bits 0 ASPM L1.1, 1 ASPM L1.2, 2 PCI-PM L1.1, 3 PCI-PM L1.2
  l0p : Bool
  ltr : Bool
  deriving DecidableEq, Repr

/-- The identification registers of the configuration header (R438), its three 64-bit BARs as they read: base address, type and
prefetchable bit (R440), and what its capability structures announce. -/
structure ConfigHeader where
  vendor : BitVec 16
  device : BitVec 16
  classCode : BitVec 24
  revision : BitVec 8
  subVendor : BitVec 16
  subsystem : BitVec 16
  bar0 : BitVec 64
  bar2 : BitVec 64
  bar4 : BitVec 64
  caps : PcieCaps
  deriving DecidableEq, Repr

/-- The PCI Express function (15_pcie_endpoint.md): the configuration header, once configuration space is loaded (R438); PERST_N
asserted; configuration space loaded (R439); D3hot (R461); an FLR or conventional reset in progress, and whether its effect on the
store, queues and banks is still to come (R462); the host's configuration; link power state (0 L0, 1 L0s, 2 L0p, 3 L1, 4 L1.1, 5
L1.2); a PTM dialog runs, the frame in which the interval last began one, dialogs asked for while one ran (R458); window bases in
force and staged that are not the default; old translations drain; DMA channels, the channel whose turn is next (R447) and outstanding
reads; the AER Uncorrectable Error Status register (R466). -/
structure Pcie where
  header : Option ConfigHeader
  perst : Bool
  loaded : Bool
  d3 : Bool
  flr : Bool
  flrDue : Bool
  cfg : HostConfig
  link : Nat
  ptm : Bool
  ptmAt : Option Nat
  ptmWant : Nat
  wins : List (Nat × Nat × Nat)
  drain : Bool
  dma : List (Nat × Dma)
  turn : Nat
  reads : List DmaRead
  aer : Nat
  aerCor : Nat
  deriving DecidableEq, Repr

/-- An emergency message waiting in the queue of R493: code, error register, five manufacturer bytes. -/
structure Emcy where
  code : Nat
  err : Nat
  bytes : List Byte
  deriving DecidableEq, Repr

/-- A stored image (R495, R496): sequence number, layout version, product code, the CRC-32 stored with it, and of each group, where the
image has it, the values that differ from their defaults, by register. -/
structure Image where
  seq : Nat
  version : Nat
  product : Nat
  crc : BitVec 32
  comm : Option (List (Nat × Word))
  app : Option (List (Nat × Word))
  deriving DecidableEq, Repr

/-- The resume image of PS5 (R511): stored values, pods' calibration temperatures, band entry in use, error log. -/
structure Resume where
  vals : List (Nat × Word)
  cal : List (Nat × Int × Bool)
  band : Nat
  log : List (Nat × Word)
  deriving DecidableEq, Repr

/-- What the module keeps without supply: retirement map (R402), image copies A and B (R496), resume image, hour counters and cold
starts (R526, R527), the reversal latch (R506). -/
structure Flash where
  retired : Nat
  copyA : Option Image
  copyB : Option Image
  resume : Option Resume
  hours : Nat
  hoursVin : Nat
  colds : Nat
  reversed : Bool
  deriving DecidableEq, Repr

/-- Supply and power states beside their registers: VIN valid; straps NODEID[6:0] sampled at cold start; the state being entered; the
wake source held during entry; an exit to PS0 in progress, and the state requested after it; no arm until the first lock after a
sleep (R515). -/
structure Power where
  on : Bool
  straps : Nat
  entry : Option Nat
  held : Nat
  waking : Bool
  after : Option Nat
  lockWait : Bool
  deriving DecidableEq, Repr

/-- A background flash write (R495, R498): into copy A or B, the image, and the request that awaits its response. -/
structure FlashJob where
  toA : Bool
  img : Image
  path : Path
  back : ReplyTo
  idx : Nat
  sub : Nat
  deriving DecidableEq, Repr

/-- A request that the master has forwarded (R488): its number, target, and packet. -/
structure Forward where
  no : Nat
  target : Nat
  words : List Nat
  deriving DecidableEq, Repr

/-- A response that a member keeps (R488): master, number, packet. -/
structure Kept where
  master : Nat
  no : Nat
  words : List Nat
  deriving DecidableEq, Repr

/-- A request of the CAN path that is accepted and not yet served (R477): its USDO client, none for SDO, and what it asks. -/
structure CanWait where
  client : Option Nat
  write : Bool
  idx : Nat
  sub : Nat
  data : List Byte
  deriving DecidableEq, Repr

/-- The dictionary server beside its objects: the background write, responses that wait for room (R485), forwarded requests and the
number of the next, kept responses newest first, requests of the CAN path that wait for one being served. -/
structure Server where
  job : Option FlashJob
  wait : List (List Nat)
  fwd : List Forward
  fwdNo : Nat
  kept : List Kept
  later : List CanWait
  deriving DecidableEq, Repr

/-- The CAN port's bit timing and termination, in the codes of 0x1E20.02 to .06 (R490, R502). -/
structure CanTiming where
  nominal : Nat
  data : Nat
  nominalPoint : Nat
  dataPoint : Nat
  termination : Bool
  deriving DecidableEq, Repr

/-- The CAN port beside 0x1E20 (R490 to R494, R521): the bit timing and the polarity mode in force, which written values replace at a
reset of communication; consecutive frames measured as NORMAL and as SWAPPED, whether the boot-up message has been sent, and the open
segmented transfers by USDO client, none for the SDO channel, the longest without a segment first. -/
structure Can where
  timing : CanTiming
  mode : Nat
  normal : Nat
  swapped : Nat
  bootSent : Bool
  sessions : List (Option Nat)
  deriving DecidableEq, Repr

/-- Everything the module holds but the capture store's octets and the queue of commands. -/
structure Block where
  part : Part
  regs : List (Nat × Word)          -- dictionary registers by index * 256 + subindex
  bar : List (Nat × Nat)            -- what only BAR0 holds, by offset * 8 + field
  time : Time
  packets : List Packet             -- frames in the pipeline, newest first
  lanes : List (Nat × Lane)
  pods : List (Nat × Pod)
  engines : List (Nat × Engine)
  syncAbs : Nat                     -- frame S of the last synchronising reset, in the model's count (R123)
  doms : List (Nat × Dom)
  outs : List (Nat × TrigOut)
  vectors : List (Nat × Nat)        -- trigger vectors sent, by frame (R153)
  casc : List (Nat × Nat)           -- received cascade bits, by the frame to which they apply (R371, R372)
  ptus : List (Nat × Ptu)
  stores : List (Nat × StoreDom)
  mops : List MemOp                 -- changes of the store's contents made by the running command, oldest first
  units : List (Nat × Nat)          -- validity map: 0 CLEAR, 1 FILLING, 2 VALID (R207)
  meas : List (Nat × Meas)
  masks : List (Nat × Mask)
  hists : List (Nat × Hist)
  stims : List (Nat × Stim)
  drivers : List (Nat × Driver)
  banks : List (Nat × Bank)
  maint : Maint
  words : List (Nat × Word)         -- bank words by bank * 65536 + index (R384)
  tags : List (Nat × Nat)           -- tag store of the queue manager, by the same key (R413)
  queues : List (Nat × Queue)
  selectors : List (Nat × Nat)      -- selected queue of each path (R436)
  errs : List (Nat × Nat)           -- errors of each class since cold start (R269)
  emcy : List Emcy                  -- oldest first (R493)
  logWait : List Nat                -- log subindices whose timestamp is that of the first frame after exit (R524)
  lastErr : Nat                     -- 0x1001.00 and the enabled active alert causes as last evaluated (R523, R525)
  lastAlert : Nat
  pcie : Pcie
  sync : Sync
  chain : Chain
  flash : Flash
  power : Power
  server : Server
  canPort : Can
  clk : Clk
  due : List Due
  resp : Resp
  out : List Output                 -- newest first
  free : Nat
  deriving DecidableEq, Repr

/-- The maintenance engine with nothing to do. -/
def Maint.none : Maint :=
  { waiting := [], running := [], test := Option.none, testReqs := [], probeMask := 0, recalMask := 0, ops := [], scrubSeen := [], scrubAt := Option.none,
    oldReads := [], verifyEnd := 0, scrubbing := false, holds := [] }

/-- The sample clock OFF (R330, R333). -/
def Clk.off : Clk :=
  { run := false, next := none, bands := [], shadow := [], waits := [], margin := false, refMHz := 0, qualFrom := none, fall := false, coast := none,
    jump := none, slew := none, stepAt := none }

/-- The PCI Express function before configuration space is loaded: PERST_N asserted, 512 B reads, 128 B payloads and 32 tags (R437,
R439). -/
def Pcie.off : Pcie :=
  { header := none, perst := true, loaded := false, d3 := false, flr := false, flrDue := false,
    cfg := { bme := false, msix := false, fmask := false, tags := 32, maxRead := 512, ptm := false, ltr := false, aspm := 0,
             rate := 0, width := 0, flit := false, maxPayload := 128, l1ss := 0, ecrcGen := false, ecrcCheck := false, cplTimeout := 0, bar0 := 0,
             bar2 := 0, bar4 := 0, aerClear := 0, aerMask := 0x400000, aerSeverity := 0x462030, aerCorMask := 0x2000, aerCorClear := 0,
             errReport := 0 },
    link := 0, ptm := false, ptmAt := none, ptmWant := 0, wins := [], drain := false, dma := [], turn := 0, reads := [], aer := 0, aerCor := 0 }

/-- A flash as manufactured, in the cold start that is its first (R402, R496, R527). -/
def Flash.new : Flash :=
  { retired := 0, copyA := none, copyB := none, resume := none, hours := 0, hoursVin := 0, colds := 1, reversed := false }

/-- The node ID of a cold start before values are restored (R494), at 0x1E01.01, and the default device ID that it gives, at
0x2200.01 (R379). -/
def coldIds (straps : Nat) : List (Nat × Word) :=
  let n := if straps = 0 then 0x7F else straps
  [(0x1E0101, BitVec.ofNat 64 n), (0x220001, BitVec.ofNat 64 (0x100 + n))]

/-- The module at the beginning of a cold start (R516): every register at its default, the sample clock OFF, STARTING. What it keeps
is its ordering code, the straps as sampled, and its flash. -/
def Block.cold (part : Part) (straps : Nat) (flash : Flash) : Block :=
  { part := part, regs := coldIds straps, bar := [], time := { abs := 0, frame := 0, wrapDue := false, phys := 0, jumps := [] }, packets := [], lanes := [],
    pods := [], engines := [], syncAbs := 0, doms := [], outs := [], vectors := [], casc := [], ptus := [], stores := [], mops := [],
    units := [], meas := [], masks := [], hists := [], stims := [], drivers := [], banks := [], maint := Maint.none, words := [],
    tags := [], queues := [], selectors := [], errs := [], emcy := [], logWait := [], lastErr := 0, lastAlert := 0, pcie := Pcie.off,
    sync := { wait := [], aLast := none, slipDue := none, loadDue := none, level := [], before := none, from_ := 0, out := [], syncIn := false,
              trig0 := false, trig1 := false },
    chain := { ports := [], ups := [], downs := [], cmds := [], found := [], relay := none, relayHeld := [], asked := none },
    flash := flash,
    power := { on := true, straps := straps, entry := none, held := 0, waking := false, after := none, lockWait := false },
    server := { job := none, wait := [], fwd := [], fwdNo := 0, kept := [], later := [] },
    canPort := { timing := { nominal := 2, data := 2, nominalPoint := 80, dataPoint := 75, termination := false }, mode := 0,
                 normal := 0, swapped := 0, bootSent := false, sessions := [] }, clk := Clk.off, due := [],
    resp := { status := 0, abort := 0, data := [] }, out := [], free := 0 }

/-- What stops the machine: nothing. No command of this block has a fault as its effect; the type has no constructor, so no step
ends in a fault (safe). -/
inductive Fault where
  deriving DecidableEq, Repr

/-- What the model refuses. -/
inductive Refusal where
  /-- Raised by exec for a command that has no meaning in the model, under its mnemonic: safe, since nothing is claimed of it. -/
  | notModelled (mnemonic : String)
  deriving DecidableEq, Repr

/-- The machine: the module, the contents of the capture store as address and octet pairs (R206), and the commands that wait, first
in, first out. -/
structure State where
  blk : Block
  mem : List Host.Cell
  pending : List Instr
  deriving DecidableEq, Repr

/-- The machine right after reset: VIN has just become valid on a ULB512-H48 whose flash is as manufactured and whose straps are
open (R516; log entry 2). -/
def State.reset : State := { blk := Block.cold .h48 127 Flash.new, mem := [], pending := [] }

end Sys2Proof.Machine
end

