-- ==== Sys2Proof/Machine/Ops.lean ====
section
/-! DEFINITION. The named operations over registers, units and time that every chapter uses. -/

namespace Sys2Proof.Machine

/-! ### Registers -/

/-- Key of a dictionary subindex. -/
def odKey (idx sub : Nat) : Nat := idx * 256 + sub

/-- The contents of a dictionary register. -/
def Block.reg (b : Block) (idx sub : Nat) : Word := look odDefault b.regs (odKey idx sub)

/-- The contents of a dictionary register as a number. -/
def Block.rd (b : Block) (idx sub : Nat) : Nat := (b.reg idx sub).toNat

/-- The contents of a dictionary register of a signed type. -/
def Block.rdI (b : Block) (idx sub : Nat) : Int := (b.reg idx sub).toInt

/-- Set a dictionary register. -/
def Block.wr (b : Block) (idx sub v : Nat) : Block :=
  { b with regs := place odDefault b.regs (odKey idx sub) (BitVec.ofNat 64 v) }

/-- Set a dictionary register of a signed type. -/
def Block.wrI (b : Block) (idx sub : Nat) (v : Int) : Block :=
  { b with regs := place odDefault b.regs (odKey idx sub) (BitVec.ofInt 64 v) }

/-- A one-bit register is set. -/
def Block.on (b : Block) (idx sub : Nat) : Bool := b.rd idx sub % 2 == 1

/-- Add to a saturating counter register of `w` bits (R46). -/
def Block.bump (b : Block) (w idx sub n : Nat) : Block := b.wr idx sub (satTo w (b.rd idx sub + n))

/-- Set a sticky flag and count `n` events in its 32-bit event counter (R49, R51). -/
def Block.flag (b : Block) (idx sub csub n : Nat) : Block := (b.wr idx sub 1).bump 32 idx csub n

/-- Set or clear one bit of a register. -/
def Block.wrBit (b : Block) (idx sub i : Nat) (v : Bool) : Block := b.wr idx sub (putBit (b.rd idx sub) i v)

/-- What a field that only BAR0 holds reads as while nothing has written it: 0, but a vector of the MSI-X table is masked. -/
def barDefault (key : Nat) : Nat :=
  let off := key / 8
  if 0x10000 ≤ off && off < 0x10400 && off % 16 = 12 && key % 8 = 0 then 1 else 0

/-- What only BAR0 holds: field `k` of the register at `off`. -/
def Block.bget (b : Block) (off k : Nat) : Nat := look barDefault b.bar (off * 8 + k)

/-- Set a field that only BAR0 holds. -/
def Block.bset (b : Block) (off k v : Nat) : Block := { b with bar := place barDefault b.bar (off * 8 + k) v }

/-! ### Units by number -/

/-- A lane as it is at cold start (R78, R99, R111). -/
def Lane.reset : Lane :=
  { raw := [], set := 0x78, pend := [], h := false, f := false, hSince := 0, last64 := [], sums := [], det := none, latch := none,
    envU := 0, envL := 0, ov := 0, held := none, conP := 0, conN := 0, ind := [] }

/-- A pod as it is at cold start: window −0.400 V to +3.600 V, DIFF, dither FULL (R98). -/
def Pod.reset : Pod :=
  { win := 0x1C20FCE0, se := false, dith := 2, dithPend := [], act := 0, calTemp := 0, factory := false,
    detP := 16, detEnd := 0, visit := 0, visitMode := 1, visitCut := false }

/-- An engine with cleared histories and bank A active. -/
def Engine.reset : Engine := { fade := none, pendBank := none, xs := [], zs := [], rounds := [], decs := [] }

/-- A sequencer that has never been armed. -/
def Dom.reset : Dom :=
  { first := none, evaluated := 0, stops := [], forced := [], placed := false, timers := [],
    widths := [], clocks := [] }

/-- Of two stops the earlier in sample time applies; at the same sample, the first in the order of R172. -/
def StopReq.beats (a c : StopReq) : Bool := decide (a.pos < c.pos) || (a.pos == c.pos && decide (a.rank < c.rank))

/-- Of some stops the one that applies. -/
def firstStop : List StopReq → Option StopReq
  | [] => none
  | a :: rest => match firstStop rest with
    | some c => if c.beats a then some c else some a
    | none => some a

/-- The stop of a domain that applies: of those requested the earliest in sample time (R172). -/
def Dom.stop (d : Dom) : Option StopReq := firstStop d.stops

def Timer.reset : Timer := { due := 0, expired := false }
def Width.reset : Width := { on := false, start := 0, told := false }
def ClockSlot.reset : ClockSlot := { last := 0, index := 0 }
def TrigOut.reset : TrigOut := { on := false, stopAt := 0, coming := [], wave := [] }

/-- A CAN FD decoder at the start of a frame. -/
def CanSt.reset : CanSt :=
  { last := true, run := 0, data := [], raw := [], stuffed := 0, stage := 0, crc := [], hdr := 0, len := 0, got := 0,
    fast := false, err := 0 }

/-- A protocol term unit in the hunting state. -/
def Ptu.reset : Ptu :=
  { hunting := true, phase := 0, bits := [], k := 0, t0 := 0, index := 0, x := 0, y := 0, z := 0, u := 0, pos := 0,
    can := CanSt.reset, marks := [], buf := [], ack := none }

def StoreDom.reset : StoreDom :=
  { live := false, fifo := false, base := 0, size := 0, slots := 0, slotBytes := 0, pods := 0, wpos := 0, cpos := 0, rpos := 0,
    blocks := [], trigBlock := none, trigPos := none, trig := none, postStop := none, gapCount := 0, gapRun := none,
    lastTs := 0, seg := none, closing := none, zeroDue := false, hdrDue := false, deferred := none, nextSeq := 0, history := [],
    firstPos := 0, reports := [], heldReports := [], released := 0, staged := [] }

def MeasAcc.reset : MeasAcc :=
  { edges := 0, glitches := 0, first := 0, last := 0, perFirst := 0, perLast := 0, perN := 0, perMin := 0, perMax := 0,
    rise := 0, fall := 0, sumH := 0, nH := 0, sumL := 0, nL := 0, hiSum := 0, hiN := 0, loSum := 0, loN := 0,
    vMax := 0, vMin := 0, coarse := false }

def Meas.reset : Meas := { start := none, accs := [], endDue := none, ended := [], latched := [], places := [] }

def Mask.reset : Mask :=
  { amps := [], lastOpened := none, found := [], recs := [], protect := none, requested := false, emcy := none }

def Hist.reset : Hist :=
  { dom := 0, half := 0, touched := [], prevTouched := [], bounds := [], dueStart := none, prev := 0, rise := 0, fall := 0, ref := 0, readout := none,
    nextNo := 0 }

def Stim.reset : Stim :=
  { staged := [], blocks := [], launches := [], run := none, before := none, locked := false, marks := [], late := none, reached := [],
    ends := [], used := 0 }

def Driver.reset : Driver := { rest := 0, wave := [] }

/-- A bank at cold start: Unowned, ON, generation 0 (R387, R388). -/
def Bank.reset : Bank :=
  { owner := 0, gen := 0, lender := 0, power := 0, want := 0, keep := false, firmware := false, borrowed := false,
    clearing := false, waking := false, used := none }

def Block.lane (b : Block) (l : Nat) : Lane := look (fun _ => Lane.reset) b.lanes l
def Block.setLane (b : Block) (l : Nat) (x : Lane) : Block :=
  { b with lanes := place (fun _ => Lane.reset) b.lanes l x }
def Block.pod (b : Block) (n : Nat) : Pod := look (fun _ => Pod.reset) b.pods n
def Block.setPod (b : Block) (n : Nat) (x : Pod) : Block := { b with pods := place (fun _ => Pod.reset) b.pods n x }
def Block.engine (b : Block) (e : Nat) : Engine := look (fun _ => Engine.reset) b.engines e
def Block.setEngine (b : Block) (e : Nat) (x : Engine) : Block :=
  { b with engines := place (fun _ => Engine.reset) b.engines e x }
def Block.dom (b : Block) (t : Nat) : Dom := look (fun _ => Dom.reset) b.doms t
def Block.setDom (b : Block) (t : Nat) (x : Dom) : Block := { b with doms := place (fun _ => Dom.reset) b.doms t x }
def Block.trigOut (b : Block) (o : Nat) : TrigOut := look (fun _ => TrigOut.reset) b.outs o
def Block.setTrigOut (b : Block) (o : Nat) (x : TrigOut) : Block :=
  { b with outs := place (fun _ => TrigOut.reset) b.outs o x }
def Block.ptu (b : Block) (u : Nat) : Ptu := look (fun _ => Ptu.reset) b.ptus u
def Block.setPtu (b : Block) (u : Nat) (x : Ptu) : Block := { b with ptus := place (fun _ => Ptu.reset) b.ptus u x }
def Block.store (b : Block) (t : Nat) : StoreDom := look (fun _ => StoreDom.reset) b.stores t
def Block.setStore (b : Block) (t : Nat) (x : StoreDom) : Block :=
  { b with stores := place (fun _ => StoreDom.reset) b.stores t x }
def Block.measUnit (b : Block) (n : Nat) : Meas := look (fun _ => Meas.reset) b.meas n
def Block.setMeas (b : Block) (n : Nat) (x : Meas) : Block := { b with meas := place (fun _ => Meas.reset) b.meas n x }
def Block.mask (b : Block) (t : Nat) : Mask := look (fun _ => Mask.reset) b.masks t
def Block.setMask (b : Block) (t : Nat) (x : Mask) : Block := { b with masks := place (fun _ => Mask.reset) b.masks t x }
def Block.hist (b : Block) (h : Nat) : Hist := look (fun _ => Hist.reset) b.hists h
def Block.setHist (b : Block) (h : Nat) (x : Hist) : Block := { b with hists := place (fun _ => Hist.reset) b.hists h x }
def Block.stim (b : Block) (t : Nat) : Stim := look (fun _ => Stim.reset) b.stims t
def Block.setStim (b : Block) (t : Nat) (x : Stim) : Block := { b with stims := place (fun _ => Stim.reset) b.stims t x }
def Block.driver (b : Block) (l : Nat) : Driver := look (fun _ => Driver.reset) b.drivers l
def Block.setDriver (b : Block) (l : Nat) (x : Driver) : Block :=
  { b with drivers := place (fun _ => Driver.reset) b.drivers l x }
def Block.bank (b : Block) (k : Nat) : Bank := look (fun _ => Bank.reset) b.banks k
def Block.setBank (b : Block) (k : Nat) (x : Bank) : Block := { b with banks := place (fun _ => Bank.reset) b.banks k x }
def Block.unit (b : Block) (u : Nat) : Nat := look (fun _ => 0) b.units u
def Block.setUnit (b : Block) (u v : Nat) : Block := { b with units := place (fun _ => 0) b.units u v }

/-- A DMA channel at its defaults (R471). -/
def Dma.reset : Dma :=
  { ctrl := 0x00200000, ring := 0, wb := 0, tail := 0, head := 0, done := 0, aborted := 0, st := 0, cause := 0, last := 0,
    fetched := [], early := [], cur := none, asked := 0, got := [], sent := 0, dry := false, ended := true }

def Block.chan (b : Block) (c : Nat) : Dma := look (fun _ => Dma.reset) b.pcie.dma c
def Block.setChan (b : Block) (c : Nat) (x : Dma) : Block :=
  { b with pcie := { b.pcie with dma := place (fun _ => Dma.reset) b.pcie.dma c x } }

/-! ### Bank words -/

/-- Key of a bank word. -/
def wordKey (k i : Nat) : Nat := k * 65536 + i

def Block.word (b : Block) (k i : Nat) : Word := look (fun _ => 0) b.words (wordKey k i)
def Block.setWord (b : Block) (k i : Nat) (v : Word) : Block :=
  { b with words := place (fun _ => 0) b.words (wordKey k i) v }
def Block.tag (b : Block) (k i : Nat) : Nat := look (fun _ => 0) b.tags (wordKey k i)
def Block.setTag (b : Block) (k i v : Nat) : Block := { b with tags := place (fun _ => 0) b.tags (wordKey k i) v }

/-- Every word of a bank becomes 0 (R391). -/
def Block.zeroBank (b : Block) (k : Nat) : Block :=
  { b with words := dropKeys (fun a => a / 65536 == k) b.words, tags := dropKeys (fun a => a / 65536 == k) b.tags }

/-! ### Answers, outputs, free values, tasks -/

/-- Answer the command. -/
def Block.answer (b : Block) (r : Resp) : Block := { b with resp := r }

/-- An answer with a status alone. -/
def Resp.of (st : Nat) : Resp := { status := st, abort := 0, data := [] }

/-- Something leaves the module. -/
def Block.emit (b : Block) (o : Output) : Block := { b with out := o :: b.out }

/-- A value nothing in the spec fixes, and the state in which the next one is another. -/
def Block.fresh (b : Block) : Word × Block := (Config.freeValue b.free, { b with free := b.free + 1 })

/-- Add a task. -/
def Block.addDue (b : Block) (t : Task) (at_ by_ : Nat) : Block := { b with due := b.due ++ [{ task := t, at_ := at_, by_ := by_ }] }

/-- The first task in a list that satisfies `p`, and the list without it. -/
def takeDue (p : Due → Bool) : List Due → Option (Due × List Due)
  | [] => none
  | d :: ds => if p d then some (d, ds) else (takeDue p ds).map (fun r => (r.1, d :: r.2))

/-- Apply `f` for each of a list, in order. -/
def forEach {α β : Type} (xs : List α) (f : α → β → β) (b : β) : β := xs.foldl (fun acc x => f x acc) b

/-! ### Status codes (R58) -/

def stOK : Nat := 0
def stBUSY : Nat := 1
def stRANGE : Nat := 2
def stSTATE : Nat := 3
def stOWNER : Nat := 4
def stACCESS : Nat := 5
def stTYPE : Nat := 6
def stVERSION : Nat := 7
def stHW : Nat := 8
def stREFUSED : Nat := 9

/-! ### Frames, positions and timestamps -/

/-- The number of the frame that the model counts as `a`, counted from the last number that was loaded at or before it (R39, R359). -/
def Block.numOf (b : Block) (a : Nat) : Nat :=
  match b.time.jumps.find? (fun j => decide (j.1 ≤ a)) with
  | some j => (j.2 + (a - j.1)) % 2 ^ 53
  | none => a % 2 ^ 53

/-- Timestamp of an absolute position (frame count * 32 + sample). -/
def Block.tsPos (b : Block) (pos : Nat) : Nat := stampOf (b.numOf (pos / 32)) (pos % 32) 0

/-- Timestamp of an absolute instant in SSU. -/
def Block.tsSsu (b : Block) (x : Nat) : Nat := stampOf (b.numOf (x / 2048)) (x / 64 % 32) (x % 64)

/-- Timestamp of sample 0 of the running frame. -/
def Block.tsNow (b : Block) : Nat := stampOf b.time.frame.toNat 0 0

/-! ### Domains and pods -/

/-- The domain of a pod: 0 to 7, or 0xFF for none (R21). -/
def Block.podDom (b : Block) (n : Nat) : Nat := b.rd 0x5000 (n + 1)

/-- The pods of a domain, rising. -/
def Block.podsOf (b : Block) (t : Nat) : List Nat := (List.range 32).filter (fun n => b.podDom n == t)

/-- The lanes of a domain, rising. -/
def Block.lanesOf (b : Block) (t : Nat) : List Nat :=
  (b.podsOf t).flatMap (fun n => (List.range 16).map (fun m => 16 * n + m))

/-- Mode of a domain (R26). -/
def Block.mode (b : Block) (t : Nat) : Nat := b.rd 0x5001 (t + 1)

/-- State of a domain: 0 UNARMED, 1 ARMED, 2 STOPPING (R170). -/
def Block.dstate (b : Block) (t : Nat) : Nat := b.rd (0x5100 + t) 2

/-- "Armed" as R17 uses the word: ARMED or STOPPING. -/
def Block.armed (b : Block) (t : Nat) : Bool := b.dstate t == 1 || b.dstate t == 2

/-- The armed domains, rising (R17). -/
def Block.armedDoms (b : Block) : List Nat := (List.range 8).filter b.armed

/-- A domain is in a segmented mode (R213). -/
def segmented (mode : Nat) : Bool := mode == 5 || mode == 6 || mode == 8

/-- A domain's mode requires a region (R26). -/
def needsRegion (mode : Nat) : Bool := mode != 0 && mode != 0xA && mode ≤ 0xC

/-- The type of a domain's data records: 2 FULL4, 3 BIN1, 4 TRANS, 5 STATE, 6 INDIGO, 0 none (R26, R216). -/
def Block.dataType (b : Block) (t : Nat) : Nat :=
  match b.mode t with
  | 1 | 5 => 2
  | 2 => 3
  | 3 | 6 => 4
  | 4 => 5
  | 9 => 6
  | 7 | 8 | 0xB | 0xC => b.rd (0x6100 + t) 2 + 2
  | _ => 0

/-- The module is READY (R517). -/
def Block.ready (b : Block) : Bool := b.rd 0x2001 0 == 1

end Sys2Proof.Machine
end

