-- ==== Sys2Proof/Machine/Queues.lean ====
section
/-! DEFINITION. The queue manager (14_queues.md R412 to R436): rings with their tag bits, pushes with gap markers, pops,
MARK, REWIND and RELEASE, pointer protection, configuration and the host window. -/

namespace Sys2Proof.Machine

/-! ### Queues by number -/

/-- Key of the response ring of Q0; key 0 is its request ring (R414). -/
def q0Response : Nat := 4096

/-- A ring with nothing in it. -/
def Ring.reset : Ring :=
  { w := 0, r := 0, f := 0, m := 0, w2 := 0, r2 := 0, f2 := 0, m2 := 0, mOk := false, lastEnd := true, pend := 0 }

/-- A queue with a configuration and endpoints, empty. -/
def Queue.empty (cfg ends : Nat) : Queue :=
  { cfg := cfg, ends := ends, rings := [], open_ := none, prio := 0, dropping := false, reading := none, mReading := none,
    fReading := none, gap := false, reset := false, drops := 0, resets := 0, held := [], hostReads := [], stalled := [] }

/-- Queues at cold start: Q0 and Q1 as R414 fixes them (BANK2 holds their rings unless a lower bank failed its test, R393),
every other disabled (R431). -/
def queueDefault (k : Nat) : Queue :=
  if k = 0 then Queue.empty 0x8C020000 0x2001
  else if k = q0Response then Queue.empty 0x8C021000 0x1002
  else if k = 1 then Queue.empty 0x8E024000 0x1007
  else Queue.empty 0x04000000 0

def Block.queue (b : Block) (k : Nat) : Queue := look queueDefault b.queues k
def Block.setQueue (b : Block) (k : Nat) (q : Queue) : Block := { b with queues := place queueDefault b.queues k q }

/-! ### The fields of the configuration and endpoint words (R434) -/

def Queue.enabled (q : Queue) : Bool := bit q.cfg 31
def Queue.priority (q : Queue) : Bool := bit q.cfg 30
def Queue.exp (q : Queue) : Nat := bits q.cfg 24 5
def Queue.bank (q : Queue) : Nat := bits q.cfg 16 6
def Queue.base (q : Queue) : Nat := bits q.cfg 0 16
/-- Slots of the ring, or of one sub-ring (R413, R421). -/
def Queue.slots (q : Queue) : Nat := if q.priority then 2 ^ q.exp / 8 else 2 ^ q.exp

/-- The class that a code names; reserved codes are none (R415). -/
def qclassOf (c : Nat) : QClass :=
  match c with
  | 1 => .host | 2 => .controlCore | 3 => .recordWriter | 4 => .dma | 5 => .sloeFwd | 6 => .sloeRx | 7 => .errorPost
  | _ => .none

def Queue.producer (q : Queue) : QClass := qclassOf (bits q.ends 0 4)
def Queue.consumer (q : Queue) : QClass := qclassOf (bits q.ends 12 4)
/-- Priority of hardware pushes (R421). -/
def Queue.hwPrio (q : Queue) : Nat := bits q.ends 24 3

/-- A push by this agent comes from the queue's producer class, and from its channel where the class is DMA (R415). -/
def Queue.mayPush (q : Queue) (a : Agent) : Bool :=
  q.enabled && q.producer == a.cls && a.cls != .none && (a.cls != .dma || bits q.ends 4 5 == a.inst)

/-- A pop by this agent comes from the queue's consumer class, and from its channel where the class is DMA (R415). -/
def Queue.mayPop (q : Queue) (a : Agent) : Bool :=
  q.consumer == a.cls && a.cls != .none && (a.cls != .dma || bits q.ends 16 5 == a.inst)

/-- Records are forwarded: the chain is FORMED or DEGRADED (R378), and on a member its parent link runs version 2 (R363). -/
def Block.forwards (b : Block) : Bool :=
  (b.rd 0x2200 4 == 2 || b.rd 0x2200 4 == 3) && (b.rd 0x2200 2 == 1 || b.rd (0x2210 + b.rd 0x2200 9) 4 == 2)

/-- The queue of the master to which packets of a local queue are forwarded: that of the first enabled entry of 0x2240 that names the
local queue, while records are forwarded (R378). -/
def Block.forwardsTo (b : Block) (q : Nat) : Option Nat :=
  if b.forwards then
    ((List.range 8).map (fun i => b.rd 0x2240 (i + 1))).findSome? (fun w =>
      if bit w 31 && bits w 0 12 == q then some (bits w 16 12) else none)
  else none

/-- A bank not ON begins to wake; ON is requested (R396, R397). -/
def wakeBank (k : Nat) (b : Block) : Block :=
  let x := b.bank k
  if x.power = 0 then (if x.want = 0 then b else b.setBank k { x with want := 0 })
  else b.setBank k { x with want := 0, waking := true }

/-- The bank of a queue's ring is ON (R396). -/
def Block.ringOn (b : Block) (key : Nat) : Bool := (b.bank (b.queue key).bank).power == 0

/-- A use of a ring wakes its bank (R397). -/
def ringWake (key : Nat) (b : Block) : Block := if b.ringOn key then b else wakeBank (b.queue key).bank b

/-! ### Rings -/

/-- Pointers count modulo 2^17 (R419). -/
def sub17 (a c : Nat) : Nat := (a + 2 ^ 17 - c % 2 ^ 17) % 2 ^ 17

def Queue.ring (q : Queue) (k : Nat) : Ring := look (fun _ => Ring.reset) q.rings k
def Queue.setRing (q : Queue) (k : Nat) (r : Ring) : Queue := { q with rings := place (fun _ => Ring.reset) q.rings k r }

/-- O = W − F. -/
def Ring.occ (r : Ring) : Nat := sub17 r.w r.f
/-- U = W − R. -/
def Ring.unread (r : Ring) : Nat := sub17 r.w r.r
/-- Both copies of every pointer agree (R429). -/
def Ring.sane (r : Ring) : Bool := r.w == r.w2 && r.r == r.r2 && r.f == r.f2 && r.m == r.m2

def Ring.setW (r : Ring) (v : Nat) : Ring := { r with w := v % 2 ^ 17, w2 := v % 2 ^ 17 }
def Ring.setR (r : Ring) (v : Nat) : Ring := { r with r := v % 2 ^ 17, r2 := v % 2 ^ 17 }
def Ring.setF (r : Ring) (v : Nat) : Ring := { r with f := v % 2 ^ 17, f2 := v % 2 ^ 17 }
def Ring.setM (r : Ring) (v : Nat) : Ring := { r with m := v % 2 ^ 17, m2 := v % 2 ^ 17, mOk := true }

/-- Word index of the slot that a pointer of ring `k` names. -/
def Queue.slot (q : Queue) (k ptr : Nat) : Nat := (q.base + k * q.slots + ptr % q.slots) % 65536

/-- Tag bits of an item: END, GAP, BROKEN, and that a gap marker has been read (R412, R426). -/
def tagEnd : Nat := 1
def tagGap : Nat := 2
def tagBroken : Nat := 4
def tagRead : Nat := 8

/-- The numbers of the rings of a queue: eight sub-rings in priority order, else one. -/
def Queue.ringNos (q : Queue) : List Nat := if q.priority then List.range 8 else [0]

/-- END items among `n` slots of ring `k` from pointer `ptr` on (R419). -/
def endsFrom (b : Block) (q : Queue) (k ptr : Nat) : Nat → Nat
  | 0 => 0
  | n + 1 => b2n (bit (b.tag q.bank (q.slot k ptr)) 0) + endsFrom b q k (ptr + 1) n

/-- U, P and O of a queue, summed over sub-rings (R419). -/
def Block.qUnread (b : Block) (key : Nat) : Nat :=
  let q := b.queue key
  (q.ringNos.map (fun k => (q.ring k).unread)).sum
def Block.qPackets (b : Block) (key : Nat) : Nat :=
  let q := b.queue key
  (q.ringNos.map (fun k => endsFrom b q k (q.ring k).r (q.ring k).unread)).sum
def Block.qOcc (b : Block) (key : Nat) : Nat :=
  let q := b.queue key
  (q.ringNos.map (fun k => (q.ring k).occ)).sum

/-- Write an item at W of ring `k` (R419). -/
def qWrite (key k data tags : Nat) (b : Block) : Block :=
  let q := b.queue key
  let r := q.ring k
  let i := q.slot k r.w
  let r' := { r.setW (r.w + 1) with lastEnd := bit tags 0 }
  ((b.setWord q.bank i (BitVec.ofNat 64 data)).setTag q.bank i tags).setQueue key (q.setRing k r')

/-- Whether ring `k`'s newest item is a gap marker that has not been read. -/
def markerWaits (b : Block) (q : Queue) (k : Nat) : Bool :=
  let r := q.ring k
  let tg := b.tag q.bank (q.slot k (r.w + 2 ^ 17 - 1))
  decide (0 < r.unread) && bit tg 1 && !bit tg 3

/-- Add `n` drops to the unread gap marker, or write a new one, or keep them pending (R426). -/
def qReport (key k n : Nat) (b : Block) : Block :=
  let q := b.queue key
  let r := q.ring k
  if markerWaits b q k then
    let i := q.slot k (r.w + 2 ^ 17 - 1)
    b.setWord q.bank i (BitVec.ofNat 64 (satTo 32 ((b.word q.bank i).toNat + n)))
  else if r.occ < q.slots then
    qWrite key k (satTo 32 n) (tagEnd + tagGap + (if r.lastEnd then 0 else tagBroken)) b
  else b.setQueue key (q.setRing k { r with pend := r.pend + n })

/-- A pending drop count is written as soon as there is room (R426) and the ring's bank, which it wakes, is ON (R396). -/
def qFlush (key k : Nat) (b : Block) : Block :=
  let q := b.queue key
  let r := q.ring k
  if 0 < r.pend && r.occ < q.slots then
    if b.ringOn key then qReport key k r.pend (b.setQueue key (q.setRing k { r with pend := 0 })) else ringWake key b
  else b

/-- The sub-ring that an item of a packet enters: that of the packet's first item (R421). -/
def Queue.target (q : Queue) (prio : Nat) : Nat :=
  if q.priority then (if q.open_.isSome then q.prio else prio % 8) else 0

/-- The queue of a key. -/
def keyQueue (key : Nat) : Nat := if key = q0Response then 0 else key

/-- A dropped item sets GAP of the queue and counts (R425): of Q0 also where its response ring drops it. -/
def countDrop (key : Nat) (b : Block) : Block :=
  let q := b.queue (keyQueue key)
  b.setQueue (keyQueue key) { q with gap := true, drops := satTo 32 (q.drops + 1) }

/-- An item pushed by the producer `a` whose turn it is: accepted, or dropped and reported (R425, R426). -/
def qPushItem (key : Nat) (a : Agent) (prio data : Nat) (end_ : Bool) (b : Block) : Block :=
  let k := (b.queue key).target prio
  let b := qFlush key k b
  let q := b.queue key
  let r := q.ring k
  let after : Queue → Queue := fun q =>
    { q with open_ := if end_ then none else some a, prio := k }
  if !q.dropping && r.occ + 2 ≤ q.slots then
    let b := qWrite key k data (if end_ then tagEnd else 0) b
    b.setQueue key (after (b.queue key))
  else
    qReport key k 1 (countDrop key (b.setQueue key { after q with dropping := !end_ }))

/-! ### Reading -/

/-- A complete unread packet waits in sub-ring `k`. -/
def completeIn (b : Block) (q : Queue) (k : Nat) : Bool :=
  decide (0 < endsFrom b q k (q.ring k).r (q.ring k).unread)

/-- The sub-ring in which a pop finds the next item, if any (R420, R421, R423). -/
def qReadable (b : Block) (key : Nat) : Option Nat :=
  let q := b.queue key
  if q.priority then
    match q.reading with
    | some k => some k
    | none => (List.range 8).reverse.find? (completeIn b q)
  else if 0 < (q.ring 0).unread then some 0 else none

/-- The sub-ring from which the next item is read now: nothing is read while the ring's bank wakes (R396). -/
def qNext (b : Block) (key : Nat) : Option Nat := if b.ringOn key then qReadable b key else none

/-- An item as read: data, tags, sub-ring. -/
structure Popped where
  data : Nat
  tags : Nat
  ring : Nat
  deriving DecidableEq, Repr

/-- Pop the next item, if there is one (R420, R421). A gap marker that has been read is final (R426). -/
def qPop (key : Nat) (b : Block) : Option Popped × Block :=
  match qNext b key with
  | none => (none, b)
  | some k =>
    let q := b.queue key
    let r := q.ring k
    let i := q.slot k r.r
    let tg := b.tag q.bank i
    let q' := { q.setRing k (r.setR (r.r + 1)) with
      reading := if q.priority && !bit tg 0 then some k else none }
    let b' := if bit tg 1 then b.setTag q.bank i (putBit tg 3 true) else b
    (some { data := (b.word q.bank i).toNat, tags := tg, ring := k }, b'.setQueue key q')

/-- Item status word of a pop (R424); the empty token where nothing was read (R423). -/
def itemStatus (b : Block) (key : Nat) (p : Option Popped) : Nat :=
  match p with
  | none => 2 ^ 63
  | some p =>
    (if (b.queue key).priority then p.ring * 2 ^ 32 else 0) + b.qUnread key * 16 + bits p.tags 0 3 * 2 + 1

/-! ### Pointer protection (R429) -/

/-- The rings of a queue become empty, with no mark and no pending drops; configuration and endpoints are kept. -/
def qEmpty (key : Nat) (b : Block) : Block :=
  b.setQueue key { b.queue key with rings := [], reading := none, mReading := none, fReading := none }

/-- Discard every item of a queue and the packet that is being pushed. -/
def qDiscard (key : Nat) (b : Block) : Block :=
  let b := qEmpty key b
  b.setQueue key { b.queue key with open_ := none, dropping := false }

/-- Q0 loses its messages: the response of a request already served is lost where it waits in the server or is still to come (R486). -/
def loseReplies (b : Block) : Block :=
  let lost := fun (x : ReplyTo) => match x with | .mailbox _ => ReplyTo.nowhere | y => y
  { b with server := { b.server with wait := [], job := b.server.job.map (fun j => { j with back := lost j.back }) },
           chain := { b.chain with asked := b.chain.asked.map (fun x => { x with back := lost x.back }) } }

/-- A push that a pointer reset discards (R429) still opens or ends its producer's packet (R416; DEDUCED, log entry 23), whose later
items enter the sub-ring of its priority (R421). -/
def qPushVoid (key : Nat) (a : Agent) (prio : Nat) (end_ : Bool) (b : Block) : Block :=
  let q := b.queue key
  if q.open_ = none || q.open_ = some a then
    b.setQueue key { q with open_ := if end_ then none else some a, prio := q.target prio, dropping := q.dropping && !end_ }
  else b

/-- The queue's pointers disagree somewhere. -/
def qBroken (b : Block) (key : Nat) : Bool :=
  let q := b.queue key
  q.ringNos.any (fun k => !(q.ring k).sane)

/-- An upset of one copy of W of ring `k`: the hardware fault that R429 protects against, at an event that supplies it. -/
def qUpset (key k : Nat) (b : Block) : Block :=
  let q := b.queue key
  let r := q.ring k
  b.setQueue key (q.setRing k { r with w2 := (r.w2 + 1) % 2 ^ 17 })

/-! ### The queue's number and keys -/

/-- The ring that a push by a producer reaches: one by CONTROL_CORE on Q0 enters the response ring (R414). -/
def pushKey (a : Agent) (q : Nat) : Nat := if a.cls = .controlCore && q = 0 then q0Response else q
/-- The ring that pops, commands and counts act on (R414). -/
def popKey (q : Nat) : Nat := if q = 0 then q0Response else q

/-! ### Commands of the consumer (R422) -/

def qMark (key : Nat) (b : Block) : Block :=
  let q := b.queue key
  let q' := forEach q.ringNos (fun k q => q.setRing k ((q.ring k).setM (q.ring k).r)) q
  b.setQueue key { q' with mReading := q.reading }

def qRewind (key : Nat) (b : Block) : Block :=
  let q := b.queue key
  let marked := (q.ring 0).mOk
  let q' := forEach q.ringNos (fun k q => q.setRing k ((q.ring k).setR (if marked then (q.ring k).m else (q.ring k).f))) q
  b.setQueue key { q' with reading := if marked then q.mReading else q.fReading }

def qRelease (key : Nat) (b : Block) : Block :=
  let q := b.queue key
  let q' := forEach q.ringNos (fun k q => q.setRing k { (q.ring k).setF (q.ring k).r with mOk := false }) q
  forEach q.ringNos (fun k b => qFlush key k b) (b.setQueue key { q' with fReading := q.reading })

/-- The command that a write of CMD names (R432). -/
def qCommand (c key : Nat) (b : Block) : Block :=
  match c with
  | 1 => qMark key b
  | 2 => qRewind key b
  | 3 => qRelease key b
  | _ => b

/-! ### Configuration checks (R417, R434) -/

/-- Class and instance fields of an endpoint word are allowed (R415). -/
def endsOk (w : Nat) : Bool :=
  let p := bits w 0 4
  let c := bits w 12 4
  -- instances are five bits wide, so a channel above 31 cannot be written
  decide (p ≤ 6) && p != 5 && decide (c ≤ 5) && c != 3

/-- A configuration word is in range (check 1 of R417). -/
def cfgOk (w : Nat) : Bool :=
  let e := bits w 24 5
  decide (4 ≤ e) && decide (e ≤ 16) && (!bit w 30 || decide (7 ≤ e)) && decide (bits w 0 16 % 2 ^ e = 0)

/-- The words of two enabled rings overlap (R413). -/
def ringsOverlap (a c : Nat) : Bool :=
  bits a 16 6 == bits c 16 6 &&
    decide (bits a 0 16 < bits c 0 16 + 2 ^ bits c 24 5) && decide (bits c 0 16 < bits a 0 16 + 2 ^ bits a 24 5)

end Sys2Proof.Machine
end

