-- ==== Sys2Proof/Machine/Report.lean ====
section
/-! DEFINITION. How the module reports: packets into queues, ERROR and EVENT records and their destinations
(08_record_layouts.md, R236), emergency messages, the error log, the error register and the alert (R522 to R525). -/

namespace Sys2Proof.Machine

/-! ### Serving those who wait on a queue -/

/-- A host access that waits is a read. -/
def HostWait.isRead (w : HostWait) : Bool := match w with | .read _ => true | _ => false

/-- Pop up to `n` items for a host read: the first as given, the later ones at once (R423). The words as returned. -/
def popMany (key : Nat) : Nat → Block → List Nat × Block
  | 0, b => ([], b)
  | n + 1, b =>
    let p := qPop key b
    let data := match p.1 with | some x => x.data | none => 0
    let st := itemStatus p.2 key p.1
    let rest := popMany key n p.2
    (data :: st :: rest.1, rest.2)

/-- Words of a producer join its packet that waits, or make a new one. -/
def holdPush (a : Agent) (prio : Nat) (ws : List Nat) (ended : Bool) : List HeldPush → List HeldPush
  | [] => [{ by_ := a, prio := prio, words := ws, ended := ended }]
  | h :: hs =>
    if h.by_ == a && !h.ended then { h with words := h.words ++ ws, ended := ended } :: hs
    else h :: holdPush a prio ws ended hs

/-- The first waiting packet that may enter: any where no packet is open, and else more of the open one. -/
def takeHeld (open_ : Option Agent) : List HeldPush → Option (HeldPush × List HeldPush)
  | [] => none
  | p :: rest =>
    if open_ = none || open_ = some p.by_ then some (p, rest) else (takeHeld open_ rest).map (fun r => (r.1, p :: r.2))

/-- Items of one packet go over the parent's port to queue `mq` of the master, END on the last where the packet ends with them (R378). -/
def sendUp (a : Agent) (mq : Nat) (ended : Bool) : List Nat → Block → Block
  | [], b => b
  | w :: ws, b =>
    let e := ws.isEmpty && ended
    sendUp a mq ended ws
      ({ b with chain := { b.chain with relay := if e then none else some a } }.emit (.forwarded (b.rd 0x2200 9) mq w e))

/-- The packets that wait to be relayed follow one another, each whole (R378). -/
def relayNext : Nat → Block → Block
  | 0, b => b
  | n + 1, b =>
    match takeHeld b.chain.relay b.chain.relayHeld with
    | some (p, rest) => relayNext n (sendUp p.by_ p.prio p.ended p.words { b with chain := { b.chain with relayHeld := rest } })
    | none => b

/-- An item on a member's way to queue `mq` of the master: packets of its own entries and of its children are sent one after the other,
whole (R378). -/
def relayItem (a : Agent) (mq data : Nat) (end_ : Bool) (b : Block) : Block :=
  if b.chain.relay.isSome && b.chain.relay != some a then
    { b with chain := { b.chain with relayHeld := holdPush a mq [data] end_ b.chain.relayHeld } }
  else
    let b := sendUp a mq end_ [data] b
    if end_ then relayNext b.chain.relayHeld.length b else b

/-- A host push, or one that has waited behind a read: its item enters, or waits for the ring's bank, which it wakes (R396, R397). -/
def hostPush (key prio data : Nat) (end_ : Bool) (b : Block) : Block :=
  let a : Agent := { cls := .host, inst := 0 }
  let q := b.queue key
  if b.ringOn key then qPushItem key a prio data end_ b
  else ringWake key (b.setQueue key { q with held := holdPush a prio [data] end_ q.held })

/-- An on-chip consumer gets an item. A forwarding entry moves it towards its queue of the master (R378): on a member along the tree, its
packets by their local queue; on the master by a push into that queue, which `push` makes. -/
def deliver (push : Agent → Nat → Nat → Bool → Block → Block) (q : Nat) (a : Agent) (p : Popped) (b : Block) : Block :=
  match a.cls, b.forwardsTo q with
  | .sloeFwd, some mq =>
    -- the packets of a local queue are one producer, told from the four ports by the number after them
    let by_ : Agent := { cls := .sloeRx, inst := 4 + q }
    if b.rd 0x2200 2 = 1 then push by_ mq p.data (bit p.tags 0) b else relayItem by_ mq p.data (bit p.tags 0) b
  | _, _ => b.emit (.delivered q a p.data p.tags)

/-- A consumer that waits may be served: a forwarding entry only while it is served (R378). -/
def mayServe (b : Block) (key : Nat) (a : Agent) : Bool := a.cls != .sloeFwd || (b.forwardsTo (keyQueue key)).isSome

/-- The first stalled consumer gets the next item, where there is one. -/
def serveStalled (push : Agent → Nat → Nat → Bool → Block → Block) (key : Nat) (b : Block) : Block :=
  let q := b.queue key
  match q.stalled, qNext b key with
  | a :: rest, some _ =>
    if !mayServe b key a then b
    else
      match qPop key (b.setQueue key { q with stalled := rest }) with
      | (some p, b') => deliver push (keyQueue key) a p b'
      | (none, b') => b'
  | _, _ => b

/-- What a read of COUNT returns (R432): unread items in bits 16 to 0, complete packets from bit 32. -/
def Block.windowCount (b : Block) (q : Nat) : Nat := b.qUnread (popKey q) + b.qPackets (popKey q) * 2 ^ 32

/-- A push of the host through a queue's window has not entered its ring: it waits for the bank, or for the end of another producer's
packet (R396, R416). -/
def hostHolds (b : Block) (q : Nat) : Bool := (b.queue q).held.any (fun h => h.by_.cls == .host)

/-- The empty tokens that answer a host's read of `n` items (R423, R424). -/
def emptyTokens (n : Nat) : List Nat := (List.range n).flatMap (fun _ => [0, 2 ^ 63])

/-- Serve the first host access that waits on a queue, or the first stalled consumer, if it can be served: a command, a push or a read of
COUNT always, a pop when an item is readable, each behind the pushes of the host that came before it (R432). A push through Q0's window
enters the request ring, whose consumer it serves (R414). -/
def serveOne (push : Agent → Nat → Nat → Bool → Block → Block) (key : Nat) (b : Block) : Block :=
  let q := b.queue key
  if !q.hostReads.isEmpty && hostHolds b (keyQueue key) then b
  else match q.hostReads, qNext b key with
  | .command c :: rest, _ => qCommand c key (b.setQueue key { q with hostReads := rest })
  | .push prio d e :: rest, _ => serveStalled push (keyQueue key) (hostPush (keyQueue key) prio d e (b.setQueue key { q with hostReads := rest }))
  | .count :: rest, _ => (b.setQueue key { q with hostReads := rest }).emit (.popped (keyQueue key) [b.windowCount (keyQueue key)])
  | .read n :: rest, some _ | .poll n :: rest, some _ =>
    let r := popMany key n (b.setQueue key { q with hostReads := rest })
    r.2.emit (.popped (keyQueue key) r.1)
  | .poll n :: rest, none =>
    if (qReadable b key).isSome then b
    else (b.setQueue key { q with hostReads := rest }).emit (.popped (keyQueue key) (emptyTokens n))
  | [], some _ => serveStalled push key b
  | _, _ => b

/-- Serve those who wait, in their order, as many as there are. -/
def serveAll (push : Agent → Nat → Nat → Bool → Block → Block) (key : Nat) (b : Block) : Block :=
  let q := b.queue key
  forEach (List.range (q.hostReads.length + q.stalled.length)) (fun _ b => serveOne push key b) b

/-- A refused push (R415). -/
def pushRefused (q : Nat) (b : Block) : Block := (b.flag 0x7080 3 4 1).wr 0x7080 6 q

/-- Push the items of a packet, END on the last where the packet ends with them; `serve` serves those who wait on the queue. -/
def pushEach (serve : Nat → Block → Block) (key : Nat) (a : Agent) (prio : Nat) (ended : Bool) : List Nat → Block → Block
  | [], b => b
  | w :: ws, b => pushEach serve key a prio ended ws (serve key (qPushItem key a prio w (ws.isEmpty && ended) b))

/-- A packet of the host that has waited enters whole before the accesses to its window that came after it are served (R432). -/
def admitHost (serve : Nat → Block → Block) (key : Nat) (p : HeldPush) (b : Block) : Block :=
  let w := popKey (keyQueue key)
  let waits := (b.queue w).hostReads
  let b := pushEach serve key p.by_ p.prio p.ended p.words (b.setQueue w { b.queue w with hostReads := [] })
  serve w (b.setQueue w { b.queue w with hostReads := waits ++ (b.queue w).hostReads })

/-- The packets that wait enter once no packet is open (R416) and the ring's bank is ON (R396). -/
def admitEach (serve : Nat → Block → Block) (key : Nat) : Nat → Block → Block
  | 0, b => b
  | n + 1, b =>
    let q := b.queue key
    match takeHeld q.open_ q.held with
    | some (p, rest) =>
      let b' := b.setQueue key { q with held := rest }
      if !b.ringOn key then b
      else admitEach serve key n
        (if p.by_.cls = .host then admitHost serve key p b' else pushEach serve key p.by_ p.prio p.ended p.words b')
    | none => b

/-- Items of a producer enter, or wait for the end of another producer's packet (R416) or for the ring's bank, which they wake
(R396, R397). -/
def pushWith (serve : Nat → Block → Block) (key : Nat) (a : Agent) (prio : Nat) (ended : Bool) (words : List Nat) (b : Block) : Block :=
  let q := b.queue key
  if !b.ringOn key || (q.open_.isSome && q.open_ != some a) then
    ringWake key (b.setQueue key { q with held := holdPush a prio words ended q.held })
  else pushEach serve key a prio ended words b

/-- On the master, an item of a forwarding entry is pushed into the queue that the entry names, under the rules of any push (R378). An
entry may name a queue that another entry drains: with eight entries, eight such moves reach every queue. -/
def forwardIn : Nat → Agent → Nat → Nat → Bool → Block → Block
  | 0, _, _, _, _, b => b
  | n + 1, a, mq, data, end_, b =>
    if !(b.queue mq).mayPush a then pushRefused mq b
    else
      let serve := serveAll (forwardIn n)
      let b := pushWith serve mq a (b.queue mq).hwPrio end_ [data] b
      if end_ then admitEach serve mq (b.queue mq).held.length b else b

/-- Serve those who wait on a queue, in their order. -/
def serveWaiting (key : Nat) (b : Block) : Block := serveAll (forwardIn 8) key b
/-- Push the items of a packet. -/
def pushItems (key : Nat) (a : Agent) (prio : Nat) (ended : Bool) (words : List Nat) (b : Block) : Block :=
  pushEach serveWaiting key a prio ended words b
/-- The packets that wait enter a queue. -/
def admitHeld (key n : Nat) (b : Block) : Block := admitEach serveWaiting key n b
/-- Items of a producer enter a queue, or wait. -/
def pushOrHold (key : Nat) (a : Agent) (prio : Nat) (ended : Bool) (words : List Nat) (b : Block) : Block :=
  pushWith serveWaiting key a prio ended words b

/-- A hardware producer pushes a whole packet (R416). -/
def pushPacketRaw (key : Nat) (a : Agent) (words : List Nat) (b : Block) : Block :=
  let q := b.queue key
  if !q.mayPush a then pushRefused (keyQueue key) b else pushOrHold key a q.hwPrio true words b

/-- What waited for a bank of rings to wake: pushes enter and readers are served (R396, R423). -/
def ringsWoken (k : Nat) (b : Block) : Block :=
  let keys := ([0, q0Response, 1] ++ b.queues.map Prod.fst).eraseDups.filter (fun key =>
    (b.queue key).enabled && (b.queue key).bank == k && b.ringOn key)
  forEach keys (fun key b =>
    let b := forEach (b.queue key).ringNos (fun k b => qFlush key k b) b
    serveWaiting key (admitHeld key (b.queue key).held.length b)) b

/-! ### Record words -/

/-- A header word (R250). -/
def headerWord (type dom len ext param : Nat) : Nat :=
  param % 2 ^ 32 * 2 ^ 32 + ext % 8 * 2 ^ 29 + len % 2 ^ 13 * 2 ^ 16 + dom % 16 * 2 ^ 12 + 1 * 2 ^ 8 + type % 256

/-- The poster of ERROR records (R415). -/
def errorPost : Agent := { cls := .errorPost, inst := 0 }
/-- The writer of report records (R415). -/
def recordWriter : Agent := { cls := .recordWriter, inst := 0 }

/-- The words of an ERROR record (R269). -/
def errorWords (dom class_ ts occ detail resource extra : Nat) (stopped : Bool) : List Nat :=
  [headerWord 0x0B dom 4 0 (class_ + b2n stopped * 2 ^ 8), ts, occ * 2 ^ 32 + detail % 65536 * 65536 + resource % 65536, extra]

/-- Pointer protection at a use of a queue: on a mismatch the queue is reset, RESET set and counted, and a QUEUE_POINTER
record posted to Q1 after the reset (R429). For Q0 both rings are reset and one record is posted. Answers whether the
operation may go on. -/
def qCheck (key : Nat) (b : Block) : Bool × Block :=
  if qBroken b key || (key = 0 && qBroken b q0Response) || (key = q0Response && qBroken b 0) then
    let n := keyQueue key
    let b := if n = 0 then loseReplies (qEmpty 0 (qEmpty q0Response b)) else qEmpty key b
    let q := b.queue n
    let b := b.setQueue n { q with reset := true, resets := satTo 8 (q.resets + 1) }
    let occ := satTo 32 (look (fun _ => 0) b.errs 2 + 1)
    let b := { b with errs := place (fun _ => 0) b.errs 2 occ }
    (false, pushPacketRaw 1 errorPost (errorWords 0xF 0x02 b.tsNow occ 0 n 0 false) b)
  else (true, b)

/-- A hardware producer pushes a packet, after the pointer check. -/
def pushPacket (key : Nat) (a : Agent) (words : List Nat) (b : Block) : Block :=
  match qCheck key b with
  | (false, b) => b
  | (true, b) => pushPacketRaw key a words b

/-! ### Report records -/

/-- Kinds of report record in the order of 0x6200 + t subs 0x02 to 0x07 (R245). -/
def kMEAS : Nat := 0
def kMASK : Nat := 1
def kDECODE : Nat := 2
def kEVENT : Nat := 3
def kERROR : Nat := 4
def kHIST : Nat := 5

/-- A record goes to the region of its domain with the frame `a` in which it is produced (R236), from the frame in which its arm is
served until it leaves STOPPING (R17); at other times it is not stored. -/
def toRegion (a t : Nat) (ws : List Nat) (b : Block) : Block :=
  let s := b.store t
  if needsRegion (b.mode t) && b.armed t then b.setStore t { s with reports := s.reports ++ [(a, ws)] } else b

/-- A record's queue copy (R236, R237). It is in the queue count in the frame that produces it (DESIGN CHOICE, log entry 15: R20 and
R552 bound the delay alone). -/
def toQueue (t : Nat) (ws : List Nat) (b : Block) : Block :=
  let q := b.rd (0x6200 + t) 1
  if q = 0xFFFF then b else pushPacket q recordWriter ws b

/-- The mode of a domain lets it write report records and its measurement, mask and histogram units work (R26, R271, R278,
R284). -/
def Block.recordsMode (b : Block) (t : Nat) : Bool := b.mode t != 0 && b.mode t != 0xA

/-- A report record of a domain's capture, produced in frame `a`, goes to its destinations (R236). -/
def recordTo (a t kind : Nat) (ws : List Nat) (b : Block) : Block :=
  let d := b.rd (0x6200 + t) (2 + kind)
  let b := if d = 0 || d = 2 then toRegion a t ws b else b
  if d = 1 || d = 2 then toQueue t ws b else b

/-- A report record of a domain, produced in frame `a`. A domain in PATTERN writes none (R26). -/
def reportAt (a t kind : Nat) (ws : List Nat) (b : Block) : Block := if !b.recordsMode t then b else recordTo a t kind ws b

/-- A report record of a domain that the running frame produces. -/
def report (t kind : Nat) (ws : List Nat) (b : Block) : Block := reportAt b.time.abs t kind ws b

/-- An EVENT record of a domain (R268), produced in frame `a`. -/
def eventRecordAt (a t kind param w1 : Nat) (more : List Nat) (b : Block) : Block :=
  reportAt a t kEVENT (headerWord 0x0A t (2 + more.length) 0 (param * 65536 + kind) :: w1 :: more) b

/-- An EVENT record of a domain that the running frame produces. -/
def eventRecord (t kind param w1 : Nat) (more : List Nat) (b : Block) : Block := eventRecordAt b.time.abs t kind param w1 more b

/-- An EVENT record of the whole module goes to every armed domain with the same timestamp (R17). -/
def eventAll (kind param w1 : Nat) (more : List Nat) (b : Block) : Block :=
  forEach b.armedDoms (fun t b => eventRecord t kind param w1 more b) b

/-- An ERROR record: posted to Q1 whatever else (R16), and to its domain's destinations where it concerns one. -/
def postError (dom class_ detail resource extra : Nat) (stopped : Bool) (b : Block) : Block :=
  let occ := satTo 32 (look (fun _ => 0) b.errs class_ + 1)
  let b := { b with errs := place (fun _ => 0) b.errs class_ occ }
  let ws := errorWords dom class_ b.tsNow occ detail resource extra stopped
  let b := if dom < 8 then report dom kERROR ws b else b
  pushPacket 1 errorPost ws b

/-! ### Error register, emergency messages, log, alert -/

/-- Some index of a run `lo` to `hi` has a register bit set. -/
def anyOn (b : Block) (lo n sub : Nat) : Bool := (List.range n).any (fun i => b.rd (lo + i) sub != 0)

/-- 0x1001.00 (R522). -/
def Block.errorRegister (b : Block) : Nat :=
  let b1 := anyOn b 0x3800 32 5
  let b2 := bit (b.rd 0x2005 1) 0
  let b3 := bit (b.rd 0x2005 1) 1 || bit (b.rd 0x2005 1) 2
  let b4 := b.rd 0x1E20 8 != 0 || (List.range 4).any (fun p => b.rd (0x2210 + p) 2 == 4)
  let b7 := anyOn b 0x3100 32 7 || b.on 0x2101 8 || b.on 0x2101 11 || b.on 0x2101 14 || b.on 0x7012 4 || b.on 0x7011 4 ||
    anyOn b 0x6840 8 8
  let rest := b2n b1 * 2 + b2n b2 * 4 + b2n b3 * 8 + b2n b4 * 16 + b2n b7 * 128
  rest + (if rest != 0 || b.rd 0x2001 0 == 2 then 1 else 0)

/-- The active alert causes of 0x2006.02 (R525). -/
def Block.alertCauses (b : Block) : Nat :=
  let c0 := bit (b.rd 0x2005 1) 0 || b.on 0x2005 5 || b.on 0x2005 8
  let c1 := bit (b.rd 0x2005 1) 1 || b.on 0x2005 2
  let c2 := anyOn b 0x3100 32 7
  let c3 := anyOn b 0x3800 32 7
  let c4 := b.on 0x2101 8 || b.on 0x2101 11 || b.on 0x2101 14
  let c5 := anyOn b 0x2210 4 10 || b.on 0x2200 12 || b.on 0x2220 4
  let c6 := b.on 0x7012 4 || b.on 0x7011 4
  let c7 := b.rd 0x1E20 8 != 0
  let c8 := anyOn b 0x6840 8 8
  let c9 := b.rd 0x2001 0 == 2
  maskOf ((List.range 10).filter (fun i => [c0, c1, c2, c3, c4, c5, c6, c7, c8, c9].getD i false))

/-- The sample clock runs: the loop is in any state but OFF (R333). -/
def Block.clockOn (b : Block) : Bool := b.rd 0x2101 1 != 0

/-- Write an entry into the error log (R524). -/
def logEntry (code : Nat) (bytes : List Byte) (b : Block) : Block :=
  let k := b.rd 0x8000 1 + 1
  let s := (k - 1) % 64 + 1
  let w := code % 65536 * 2 ^ 48 + b.errorRegister * 2 ^ 40 + ofLe (bytes.take 5)
  { ((b.wr 0x8000 1 (satTo 32 k)).wr 0x8001 s w).wr 0x8002 s (if b.clockOn then b.tsNow else 0) with
    logWait := if b.clockOn then b.logWait else s :: b.logWait }

/-- The queue of 16 takes an emergency message (R493). -/
def emcyRoom (b : Block) : Bool := b.rd 0x1E20 1 != 0 && b.rd 0x1E20 7 != 4 && decide (b.emcy.length < 16)

/-- Put an emergency message into the queue of 16, or drop and count it (R493). -/
def queueEmcy (code : Nat) (bytes : List Byte) (b : Block) : Block :=
  if !emcyRoom b then b.bump 32 0x1E20 11 1
  else { b with emcy := b.emcy ++ [{ code := code, err := b.errorRegister, bytes := bytes }] }

/-- Manufacturer bytes from a number, byte 0 lowest. -/
def mbytes (v : Nat) : List Byte := toLe 5 v

/-- An event of R523: logged always; its message raised when its group is enabled (`group` 8 or more: always). -/
def emcyEvent (code group : Nat) (bytes : List Byte) (b : Block) : Block :=
  let b := logEntry code bytes b
  if 8 ≤ group || bit (b.rd 0x8000 3) group then queueEmcy code bytes b else b

/-- A TLP of the device ends L0s and L1; L0p carries it at its width (R465). -/
def linkUse (b : Block) : Block :=
  if b.pcie.link = 0 || b.pcie.link = 2 then b else { b with pcie := { b.pcie with link := 0 } }

/-- An error message to the root: 0 correctable, 1 non-fatal, 2 fatal. -/
def errorMessage (kind : Nat) (b : Block) : Block := linkUse (b.emit (.pcieError kind))

/-- An error that the function meets is reported through AER (R466): its bit of the uncorrectable status, which is sticky, and a message
of its severity, unless it is masked or that message is disabled. 12 is Poisoned TLP Received, 14 Completion Timeout, 19 ECRC Error,
20 Unsupported Request, 22 Uncorrectable Internal Error. An Unsupported Request that is not fatal is advisory: bit 13 of the correctable status, and
a correctable message (PRESUMED, log entry 12). -/
def aerSet (i : Nat) (b : Block) : Block :=
  let c := b.pcie.cfg
  let b := { b with pcie := { b.pcie with aer := putBit b.pcie.aer i true } }
  let fatal := bit c.aerSeverity i
  if i = 20 && !fatal then
    let b := { b with pcie := { b.pcie with aerCor := putBit b.pcie.aerCor 13 true } }
    if !bit c.aerMask i && !bit c.aerCorMask 13 && bit c.errReport 0 && bit c.errReport 3 then errorMessage 0 b else b
  else if bit c.aerMask i then b
  else if fatal then (if bit c.errReport 2 then errorMessage 2 b else b)
  else if bit c.errReport 1 then errorMessage 1 b else b

/-- A memory read that the function does not serve is completed with Unsupported Request (R462, R466). -/
def unsupported (b : Block) : Block := aerSet 20 (linkUse (b.emit (.unsupported false)))

/-- The ECRC of a received TLP is checked and does not agree (R437): the error is reported, and the TLP is not used (PRESUMED, log 12). -/
def Block.ecrcFails (b : Block) (x : TlpState) : Bool := b.pcie.cfg.ecrcCheck && x == .badEcrc

/-- The link's width: in L0p the L0p width, where it is the smaller (R465, R468). -/
def Block.linkWidth (b : Block) : Nat := if b.pcie.link = 2 then min b.pcie.cfg.width (b.rd 0x7101 3) else b.pcie.cfg.width

/-- The function may send MSI-X messages (R457, R459, R461, R462). -/
def Block.maySignal (b : Block) : Bool := b.pcie.loaded && b.pcie.cfg.bme && b.pcie.cfg.msix && !b.pcie.d3 && !b.pcie.flr

/-- A vector is masked, by itself or with the function. -/
def Block.vectorMasked (b : Block) (v : Nat) : Bool := b.pcie.cfg.fmask || bit (b.bget (0x10000 + 16 * v + 12) 0) 0

/-- Note or forget that a vector is pending in the PBA. -/
def setPending (v : Nat) (on : Bool) (b : Block) : Block := b.bset 0x10800 (v / 32) (putBit (b.bget 0x10800 (v / 32)) (v % 32) on)

/-- Send an MSI-X message on a vector: when the function may send one; a masked vector becomes pending (R457). -/
def sendMsix (v : Nat) (b : Block) : Block :=
  if !b.maySignal then b else if b.vectorMasked v then setPending v true b else linkUse (b.emit (.msix v))

/-- Vectors that are pending and not masked are sent (R457). -/
def sendPending (b : Block) : Block :=
  forEach (List.range 64) (fun v b =>
    if b.maySignal && bit (b.bget 0x10800 (v / 32)) (v % 32) && !b.vectorMasked v then sendMsix v (setPending v false b) else b) b

/-- The active alert causes that are enabled (R525). -/
def Block.enabledCauses (b : Block) : Nat := maskOf ((setBits 10 (bits b.alertCauses 0 10)).filter (bit (b.rd 0x2006 1)))

/-- A return of 0x1001.00 to 0 raises EMCY 0x0000 (R523). -/
def recovered (b : Block) : Block := if b.errorRegister = 0 && b.lastErr != 0 then emcyEvent 0 8 (mbytes 0) b else b

/-- The alert message, where it is enabled (R525). -/
def alertMessage (b : Block) : Block := if bit (b.bget 0x1814 0) 6 then sendMsix (bits (b.bget 0x1814 0) 0 6) b else b

/-- A change from no enabled active cause to one asserts ALERT_N, counts and sends the alert message (R525). -/
def raiseAlert (b : Block) : Block :=
  if b.enabledCauses != 0 && b.lastAlert = 0 then alertMessage (b.bump 32 0x2006 3 1) else b

/-- Evaluate the error register and the alert causes (R523, R525). -/
def monitor (b : Block) : Block :=
  { raiseAlert (recovered b) with lastErr := b.errorRegister, lastAlert := (recovered b).enabledCauses }

end Sys2Proof.Machine
end

