-- ==== Sys2Proof/Machine/Clock.lean ====
section
/-! DEFINITION. The sample clock (11_sample_clock.md R325 to R352): configuration and ratio, the band table, lock and loss,
coast, relock by slew or step, fall-back and fine phase steps. -/

namespace Sys2Proof.Machine

/-! ### The band table (R330, R331) -/

/-- The entry that the fuses give (R330): centres at 9,603,125 + 6,250 i kHz, ±5,000 kHz. -/
def fusedBand (i : Nat) : Band :=
  { coarse := (Config.fusedCoarse i).toNat % 256, valid := true, lo := 9603125 + 6250 * i - 5000, hi := 9603125 + 6250 * i + 5000 }

/-- Entry `i` of the table, and of its shadow copy (R406). -/
def Block.band (b : Block) (i : Nat) : Band := look fusedBand b.clk.bands i
def Block.bandShadow (b : Block) (i : Nat) : Band := look fusedBand b.clk.shadow i

/-- An entry as a word, and a word as an entry. -/
def Band.word (x : Band) : Nat := x.coarse * 2 ^ 56 + b2n x.valid * 2 ^ 48 + x.lo * 2 ^ 24 + x.hi
def bandOf (w : Nat) : Band := { coarse := bits w 56 8, valid := bit w 48, lo := bits w 24 24, hi := bits w 0 24 }

/-- A written entry is in range (R330, R47). -/
def bandOk (w : Nat) : Bool :=
  let x := bandOf w
  bits w 49 7 == 0 && (!x.valid || (decide (x.lo < x.hi) && decide (9590000 ≤ x.lo) && decide (x.hi ≤ 10410000)))

/-- An accepted entry write goes to the table and to the shadow. -/
def setBand (i : Nat) (x : Band) (b : Block) : Block :=
  { b with clk := { b.clk with bands := upsert b.clk.bands i x, shadow := upsert b.clk.shadow i x } }

/-- Reload of all entries from the fuses. -/
def reloadBands (b : Block) : Block := { b with clk := { b.clk with bands := [], shadow := [] } }

/-- An accepted entry write, or reload (none), is carried out. -/
def bandPut (w : Option (Nat × Band)) (b : Block) : Block :=
  match w with
  | some x => setBand x.1 x.2 b
  | none => reloadBands b

/-- An accepted entry write, or reload, that arrives during the comparison of a band-table verify waits until it ends (R406). -/
def bandServe (w : Option (Nat × Band)) (b : Block) : Block :=
  if b.time.abs < b.maint.verifyEnd then { b with clk := { b.clk with waits := b.clk.waits ++ [w] } } else bandPut w b

/-- The comparison of a band-table verify is over: the entry writes that have waited for it are carried out, in their order (R406). -/
def verifyOver (b : Block) : Block :=
  forEach b.clk.waits bandPut
    { b.wrBit 0x7010 2 3 false with
      clk := { b.clk with waits := [] }, maint := { b.maint with verifyEnd := min b.maint.verifyEnd b.time.abs } }

/-- Status of a write of entry `i`, or of the reload, which writes every entry (R331): neither is served while a domain is armed, nor
where it writes the entry in use; of the reload the latter is read as where it would change that entry (DEDUCED, log entry 27). -/
def bandWriteStatus (b : Block) (i : Option Nat) (w : Nat) : Nat :=
  let used := b.rd 0x2101 6
  if (match i with | some _ => !bandOk w | none => false) then stRANGE
  else if !b.armedDoms.isEmpty then stSTATE
  else match i with
    | some k => if used = k then stSTATE else stOK
    | none => if used < 128 && b.band used != fusedBand used then stSTATE else stOK

/-- BAND_MARGIN (R332). -/
def bandMargin (b : Block) : Block := b.flag 0x2110 0x82 0x83 1

/-- BAND_TABLE_VERIFY (R406): the table, in which upsets may have changed entries, is compared with its shadow. The comparison is shown
running for its 128 fabric cycles, which are 32 frames; its differences are reported at their start (DESIGN CHOICE, log entry 15). -/
def bandVerify (upsets : List (Nat × Nat)) (b : Block) : Block :=
  let b := { b with clk := { b.clk with
    bands := upsets.foldl (fun m x => if x.1 < 128 then upsert m x.1 (bandOf x.2) else m) b.clk.bands } }
  if !bit (b.rd 0x7010 1) 3 then b
  else
    let b := { b with maint := { b.maint with verifyEnd := b.time.abs + 32 } }.wrBit 0x7010 2 3 true
    let diff := (List.range 128).filter (fun i => b.band i != b.bandShadow i)
    forEach diff (fun i b => ((bandMargin b).bump 32 0x7010 9 1).wr 0x7010 10 i) b

/-! ### Source, ratio and rate (R327, R328) -/

/-- Twice the phase-detector frequency in mHz: of the reference with its multiplier, or of the TCXO. -/
def refFp2 (decl mult : Nat) : Nat := decl * 1000 * (match mult with | 1 => 4 | 2 => 1 | _ => 2)
def tcxoFp2 : Nat := 2 * 40000000000

/-- The feedback ratio in multiples of 2^-32 and the rate in force in mHz, for a target rate in mHz. -/
def ratioOf (rate fp2 : Nat) : Nat := (2 * (2 * rate * 2 * 2 ^ 32) + fp2) / (2 * fp2)
def rateOf (ratio fp2 : Nat) : Nat := (2 * (ratio * fp2) + 2 ^ 34) / (2 ^ 35)

/-- The configuration of 0x2100 subs 1 to 5. -/
structure ClockCfg where
  decl : Nat
  mult : Nat
  tcxoOnly : Bool
  rate : Nat
  deriving DecidableEq, Repr

def Block.clockCfg (b : Block) : ClockCfg :=
  { decl := b.rd 0x2100 1, mult := b.rd 0x2100 2, tcxoOnly := b.rd 0x2100 3 == 1, rate := b.rd 0x2100 4 }

/-- The configuration with one subindex replaced. -/
def ClockCfg.with (c : ClockCfg) (sub v : Nat) : ClockCfg :=
  match sub with
  | 1 => { c with decl := v }
  | 2 => { c with mult := v }
  | 3 => { c with tcxoOnly := v == 1 }
  | 4 => { c with rate := v }
  | _ => c

/-- Values in range (check 1 of R328). -/
def clockValueOk (c : ClockCfg) (sub v : Nat) : Bool :=
  match sub with
  | 1 => (v == 0 || (decide (10000000 ≤ v) && decide (v ≤ 250000000))) && !(c.mult == 1 && decide (125000000 < v))
  | 2 => decide (v ≤ 2) && !(v == 1 && decide (125000000 < c.decl))
  | 3 => decide (v ≤ 1)
  | 4 => decide (4800000000000 ≤ v) && decide (v ≤ 5200000000000)
  | _ => decide (v ≤ 2)

/-- Entry `i` covers a sample rate in mHz. -/
def bandCovers (x : Band) (rate : Nat) : Bool := x.valid && decide (x.lo * 1000000 ≤ 2 * rate) && decide (2 * rate ≤ x.hi * 1000000)

/-- The entry that acquisition at a target sample rate selects (R331): the nearest centre, the lower index on a tie. -/
def selectBand (b : Block) (rate : Nat) : Option Nat :=
  let d := fun (i : Nat) => dist' ((b.band i).lo + (b.band i).hi) (2 * (2 * rate))
  ((List.range 128).filter (fun i => bandCovers (b.band i) rate)).foldl (fun best i =>
    match best with
    | none => some i
    | some k => if d i < d k then some i else some k) none
where
  /-- Distance of twice a centre in kHz from twice a frequency in mHz. -/
  dist' (x y : Nat) : Nat := if x * 1000000 ≤ y then y - x * 1000000 else x * 1000000 - y

/-- The sources that the source select can use, as twice their phase-detector frequency (R327). -/
def usableSources (c : ClockCfg) : List Nat :=
  (if c.tcxoOnly || c.decl = 0 then [] else [refFp2 c.decl c.mult]) ++ [tcxoFp2]

/-- Status of a clock configuration write (R328). -/
def clockStatus (b : Block) (sub v : Nat) : Nat :=
  let c := b.clockCfg.with sub v
  if !clockValueOk b.clockCfg sub v then stRANGE
  else if !b.armedDoms.isEmpty then stSTATE
  else if (usableSources c).any (fun fp2 => (selectBand b (rateOf (ratioOf c.rate fp2) fp2)).isNone) then stREFUSED
  else stOK

/-- The reference is qualified (R340). -/
def Block.qualified (b : Block) : Bool := bit (b.rd 0x2101 3) 2

/-- The frame period, in ps, of a sample rate in mHz moved by `p` tenths of ppm (R34, R342). -/
def framePeriod (rate : Nat) (p : Int) : Nat :=
  real32 ((32 * 10 ^ 15 : Rat) / ((rate : Rat) * (1 + (p : Rat) / 10 ^ 7)))

/-- Ratio, rate and band of the source in use take effect. -/
def applySource (src : Nat) (b : Block) : Block :=
  let c := b.clockCfg
  let fp2 := if src = 1 then refFp2 c.decl c.mult else tcxoFp2
  let ratio := ratioOf c.rate fp2
  let rate := rateOf ratio fp2
  (((b.wr 0x2101 2 src).wr 0x2100 7 ratio).wr 0x2100 8 rate).wr 0x2010 4 (framePeriod rate 0)

/-- Acquisition starts (R333): band selection, then the qualified reference or the TCXO. -/
def startAcquisition (b : Block) : Block :=
  let c := b.clockCfg
  let src := if b.qualified && !c.tcxoOnly && c.decl != 0 then 1 else 2
  let b := applySource src b
  let band := selectBand b c.rate
  let b := (b.wr 0x2101 1 1).wr 0x2101 6 (band.getD 0xFF)
  { b.wr 0x2103 7 0 with clk := { b.clk with margin := false, coast := none, fall := false, jump := none, slew := none } }

/-! ### The reference (R340) -/

/-- The measured frequency lies within 100 ppm of the declared one. -/
def freqOk (decl mHz : Nat) : Bool :=
  decl != 0 && decide ((if mHz ≤ decl * 1000 then decl * 1000 - mHz else mHz - decl * 1000) * 10000 ≤ decl * 1000)

/-- The loop is locked to the reference. -/
def Block.lockedRef (b : Block) : Bool := b.rd 0x2101 1 == 2 || b.rd 0x2101 1 == 3

/-- Show the reference condition; while both PRESENT and FREQ_OK hold, qualification counts from the frame in which that began. -/
def setCondition (present ok : Bool) (restart : Bool) (b : Block) : Block :=
  let from_ := if !(present && ok) then none
    else if restart then some (b.time.abs, b.rd 0x2103 3)
    else match b.clk.qualFrom with | some x => some x | none => some (b.time.abs, b.rd 0x2103 3)
  let q := b.qualified && present && ok && !restart
  { b.wr 0x2101 3 (b2n present + 2 * b2n ok + 4 * b2n q) with clk := { b.clk with qualFrom := from_ } }

/-- REFERENCE_QUALIFIED: the qualification time has passed without break (R340, R346). -/
def referenceQualified (b : Block) : Block :=
  match b.clk.qualFrom with
  | some (a, n) =>
    if a + n ≤ b.time.abs && !b.lockedRef then
      b.wrBit 0x2101 3 2 true
    else b
  | none => b

/-! ### Lock (R333, R334) -/

/-- The fine word lies in the outer sixteenth of its range while the loop is locked: BAND_MARGIN, once in an acquisition (R332). -/
def marginTick (outer : Bool) (b : Block) : Block :=
  let st := b.rd 0x2101 1
  if outer && (st == 2 || st == 3 || st == 4) && !b.clk.margin then
    { bandMargin b with clk := { b.clk with margin := true } }
  else b

/-- LOCK: the loop meets the lock criterion. The first lock after a start begins frame 0 (R39). `outer` tells that the fine
word lies in the outer sixteenth of its range (R332). -/
def clockLock (outer : Bool) (b : Block) : Block :=
  -- at cold start the loop is brought up on the TCXO (R516)
  let b := if b.rd 0x2101 1 = 0 && b.rd 0x2001 0 = 0 && !b.clk.run then (applySource 2 (startAcquisition b)) else b
  if b.rd 0x2101 1 != 1 || (b.rd 0x2101 2 = 1 && !b.qualified) then b
  else
    let b := { b with power := { b.power with lockWait := false } }
    let st := if b.rd 0x2101 2 = 1 then 2 else 4
    let b := b.wr 0x2101 1 st
    let b := marginTick outer b
    if b.clk.run then b else { b with clk := { b.clk with run := true, next := b.clk.next <|> some 0 } }

/-- CLOCK_CONFIG_WRITE accepted: the value is kept and acquisition starts (R328). A new declared frequency is qualified
afresh. -/
def clockConfig (sub v : Nat) (b : Block) : Block :=
  let b := b.wr 0x2100 sub v
  let b := if sub = 1 then
      setCondition (bit (b.rd 0x2101 3) 0) (freqOk v b.clk.refMHz) true b
    else b
  if b.rd 0x2101 1 = 0 then b else startAcquisition b

/-! ### REFCLK_OUT (R329) -/

/-- What REFCLK_OUT carries: nothing, the contact being high-impedance (R503), low, the buffered REFCLK_IN, the TCXO, or a level of the frame tick divided by 16. -/
inductive RefclkOut where
  | highZ
  | low
  | refclkIn
  | tcxo
  | tick (high : Bool)
  deriving DecidableEq, Repr

/-- REFCLK_OUT in the running frame. Source 3 counts the frames of the sample clock, in whatever state its loop is; which eight of
sixteen frames are high is the model's choice (DESIGN CHOICE, log entry 19). -/
def Block.refclkOut (b : Block) : RefclkOut :=
  if !b.power.on then .highZ
  else match b.rd 0x2100 6 with
  | 0 => .low
  | 1 => .refclkIn
  | 2 => .tcxo
  | _ => .tick (b.clk.run && bit b.time.abs 3)

/-- REFCLK_OUT_SOURCE_WRITE: a change of source glitches the output once. -/
def refclkSource (v : Nat) (b : Block) : Block :=
  if b.rd 0x2100 6 = v then b else (b.wr 0x2100 6 v).emit .refclkGlitch

/-! ### Loss and coast (R337 to R339) -/

/-- LOCK_LOST with its cause: coasting begins at the next frame boundary (R337, R338). A reference that is absent or off its
frequency is no longer qualified; a phase hit and the lock window break neither (R340). -/
def lockLost (cause : Nat) (b : Block) : Block :=
  if !b.lockedRef || cause = 0 || 4 < cause || b.clk.coast.isSome then b
  else
    let b := b.wr 0x2101 7 cause
    let present := bit (b.rd 0x2101 3) 0 && cause != 1
    let ok := bit (b.rd 0x2101 3) 1 && cause != 1 && cause != 2
    let b := setCondition present ok false b
    { b with clk := { b.clk with coast := some (b.time.abs + 1, b.rd 0x2103 1), fall := false, jump := none } }

/-- REFERENCE_CONDITION_CHANGE: what the reference shows (R340). An acquisition from a reference that is no longer qualified goes on
from the TCXO (R327, R333); a loop that is locked to it loses lock by LOS or FREQ (R337). -/
def referenceCondition (present : Bool) (mHz : Nat) (b : Block) : Block :=
  let b := { b with clk := { b.clk with refMHz := mHz } }
  let ok := freqOk (b.rd 0x2100 1) mHz
  let b := setCondition present ok false (b.wr 0x2101 4 (real32 ((mHz : Rat) / 1000)))
  if b.rd 0x2101 1 = 1 && b.rd 0x2101 2 = 1 && !b.qualified then startAcquisition b
  else if !present then lockLost 1 b
  else if !ok then lockLost 2 b
  else b

/-- Coasting begins at the frame now running (R338). -/
def coastBegin (b : Block) : Block :=
  match b.clk.coast with
  | some (a, _) =>
    if b.lockedRef && a ≤ b.time.abs then
      let b := ((b.wr 0x2101 1 5).wr 0x2101 2 0).wr 0x2103 7 0
      let b := { b with clk := { b.clk with slew := none } }
      let b := (b.flag 0x2101 8 9 1).wr 0x2010 4 (framePeriod (b.rd 0x2100 8) 0)
      let b := eventAll 4 0 b.tsNow [] b
      let b := forEach b.armedDoms (fun t b => b.flag 0x2104 (1 + t) (9 + t) 1) b
      emcyEvent 0xFF30 4 (mbytes (b.rd 0x2101 7)) b
    else b
  | none => b

/-- An arm served while the loop coasts sets the domain's COASTED flag at once (R339). -/
def coastedAtArm (t : Nat) (b : Block) : Block := if b.rd 0x2101 1 = 5 then b.flag 0x2104 (1 + t) (9 + t) 1 else b

/-- Frames coasted so far. -/
def coastedFrames (b : Block) : Nat := match b.clk.coast with | some (a, _) => b.time.abs - a | none => 0

/-- A coast ends: COAST_END and the frames coasted (R341, R345). -/
def coastEnd (fallback : Bool) (b : Block) : Block :=
  let n := satTo 32 (coastedFrames b)
  let b := eventAll 5 (b2n fallback) b.tsNow [n] (b.wr 0x2103 8 n)
  { b with clk := { b.clk with coast := none, fall := false } }

/-- FALLBACK: the coast limit is reached before the reference qualifies (R345). -/
def clockFallback (b : Block) : Block :=
  if !b.clk.fall || b.rd 0x2101 1 != 5 then b
  else
    let b := coastEnd true b
    let b := (applySource 2 b).wr 0x2101 1 4
    emcyEvent 0xFF31 4 (mbytes 0) (b.flag 0x2101 0xB 0xC 1)

/-- The boundary after the frame in which the coast reached its limit: the loop falls back there unless the reference has qualified by the
end of that frame (R345). -/
def coastLimit (b : Block) : Block :=
  match b.clk.coast with
  | some (a, limit) =>
    if b.rd 0x2101 1 = 5 && limit != 2 ^ 32 - 1 && a + limit < b.time.abs && !b.qualified then { b with clk := { b.clk with fall := true } }
    else b
  | none => b

/-! ### Relock (R340 to R343, R346) -/

/-- J folded into the range from −P/2 to below P/2, P being the phase-detector period in SSU (R340). Where P is no whole number, J is
the whole number nearest the folded value that lies in the range (DESIGN CHOICE, log entry 27). -/
def foldJump (rate fp2 : Nat) (j : Int) : Int :=
  let p : Rat := (128 * rate : Rat) / (fp2 : Rat)
  let k : Int := (((j : Rat) + p / 2) / p).floor
  let x : Rat := (j : Rat) - (k : Rat) * p
  let r := roundHalfUp x.num x.den
  if (r : Rat) < -(p / 2) then r + 1 else if p / 2 ≤ (r : Rat) then r - 1 else r

/-- JUMP_MEASURED: the jump is known, and the policy at that moment chooses the method; both take effect at the next frame
boundary (R340, R341). -/
def jumpMeasured (j : Int) (b : Block) : Block :=
  let st := b.rd 0x2101 1
  let c := b.clockCfg
  if !b.qualified || !(st == 5 || (st == 4 && !c.tcxoOnly && c.decl != 0)) || b.clk.jump.isSome then b
  else
    let j := foldJump (b.rd 0x2100 8) (refFp2 c.decl c.mult) j
    let slew := match b.rd 0x2103 4 with | 1 => true | 2 => false | _ => !b.armedDoms.isEmpty
    { b.wrI 0x2103 6 j with clk := { b.clk with jump := some (b.time.abs + 1, j, slew) } }

/-- The method takes effect at the frame now running (R341 to R343, R346). -/
def relock (b : Block) : Block :=
  match b.clk.jump with
  | some (a, j, slew) =>
    if b.time.abs < a then b
    else
      let b := { b with clk := { b.clk with jump := none } }
      let b := if b.rd 0x2101 1 = 5 then coastEnd false b else b
      let b := applySource 1 b
      if slew && j != 0 then
        let lim := b.rd 0x2103 5
        let b := (b.wr 0x2101 1 3).wrI 0x2103 7 j
        { b.wr 0x2010 4 (framePeriod (b.rd 0x2100 8) (if 0 < j then (lim : Int) else -(lim : Int))) with
          clk := { b.clk with slew := some (b.time.abs, lim) } }
      else if slew then b.wr 0x2101 1 2
      else
        let b := (b.wr 0x2101 1 2).flag 0x2101 0xE 0xF 1
        let b := eventAll 6 0 b.tsNow [unsigned j 64] b
        emcyEvent 0xFF32 4 (toLe 4 (unsigned j 32) ++ [0]) b
  | none => b

/-- The part of the jump that a slew has still to remove after whole frames of it (R342): each frame takes 2,048 SSU times the
limit. -/
def slewLeft (b : Block) : Int :=
  match b.clk.slew with
  | some (a, lim) =>
    let j := b.rdI 0x2103 6
    let d : Int := ((b.time.abs - a) * 2048 * lim / 10000000 : Nat)
    if 0 < j then max 0 (j - d) else min 0 (j + d)
  | none => 0

/-- SLEW_END: the slew has removed the jump (R342). -/
def slewEnd (b : Block) : Block :=
  match b.clk.slew with
  | some _ =>
    if b.rd 0x2101 1 = 3 && slewLeft b = 0 then
      let b := ((b.wr 0x2101 1 2).wr 0x2103 7 0).wr 0x2010 4 (framePeriod (b.rd 0x2100 8) 0)
      { b with clk := { b.clk with slew := none } }
    else b
  | none => b

/-! ### Phase steps (R335) -/

/-- PHASE_STEP: one unit toward the target, no sooner than the step interval and never twice in a frame. -/
def phaseStep (b : Block) : Block :=
  let st := b.rd 0x2101 1
  let now := b.rdI 0x2102 2
  let target := b.rdI 0x2102 1
  if st < 2 || now = target || (match b.clk.stepAt with | some a => decide (b.time.abs < a + b.rd 0x2102 3) | none => false) then b
  else
    let b := (b.wrI 0x2102 2 (if now < target then now + 1 else now - 1)).bump 32 0x2102 4 1
    { b with clk := { b.clk with stepAt := some b.time.abs } }

/-- What the clock carries out at the boundary before the frame now running, and what was due before it. -/
def clockTick (b : Block) : Block :=
  let b := coastLimit (relock (coastBegin b))
  let b := slewEnd b
  let b := if b.rd 0x2101 1 = 3 then b.wrI 0x2103 7 (slewLeft b) else b
  if b.rd 0x2101 1 = 5 then b.wr 0x2103 8 (satTo 32 (coastedFrames b)) else b

end Sys2Proof.Machine
end

