-- ==== Sys2Proof/Machine/Banks.lean ====
section
/-! DEFINITION. The SRAM banks (13_sram_banks_and_maintenance.md R384 to R398, R403): owners and generations, handover, takes
at arm, power, the host's accesses and word operations. -/

namespace Sys2Proof.Machine

/-! ### Owner codes (R387) -/

def owUNOWNED : Nat := 0
def owHOST : Nat := 1
def owCORE : Nat := 2
def owSTAGING : Nat := 3
def owMEAS : Nat := 4
def owQUEUE : Nat := 5
def owDMA : Nat := 6
def owMAINT : Nat := 7
def owSLOE : Nat := 8
def owSTIM : Nat := 9
def owRETIRED : Nat := 15

/-- Software-class owners. -/
def softOwner (o : Nat) : Bool := o == 1 || o == 2 || o == 5 || o == 6 || o == 8
/-- Hardware-class owners. -/
def hardOwner (o : Nat) : Bool := o == 3 || o == 4 || o == 7 || o == 9 || o == 15
/-- Reserved owner codes. -/
def ownerReserved (o : Nat) : Bool := decide (10 ≤ o) && decide (o ≤ 14)

/-- The state word of a bank (R407). -/
def Bank.stateWord (k : Bank) : Nat :=
  k.gen * 2 ^ 16 + k.lender * 2 ^ 12 + k.owner * 2 ^ 8 + k.power * 64 + k.want * 16 + b2n k.keep * 8 + b2n k.firmware * 4 +
    b2n k.borrowed * 2 + b2n k.clearing

/-- A change of owner increases the generation (R388). -/
def setOwner (k o : Nat) (b : Block) : Block :=
  let x := b.bank k
  b.setBank k { x with owner := o, gen := (x.gen + 1) % 65536 }

/-- A bank becomes Unowned: CLEARING begins and its words become 0 (R391). -/
def unown (k : Nat) (b : Block) : Block :=
  let b := setOwner k owUNOWNED b
  (b.setBank k { b.bank k with clearing := true, keep := false, lender := 0, borrowed := false }).zeroBank k

/-- BANK_CLEARING_END: the bank is Unowned and zero. -/
def clearingEnd (k : Nat) (b : Block) : Block :=
  if (b.bank k).clearing then b.setBank k { b.bank k with clearing := false } else b

/-! ### Reclaim (R403) -/

/-- A borrowed bank: the target of the running test. -/
def Block.borrowedBank (b : Block) (k : Nat) : Bool := (b.bank k).borrowed

/-- A reclaim aborts the test that holds the bank; the bank returns at RECLAIM_COMPLETE. -/
def reclaim (k : Nat) (b : Block) : Block :=
  match b.maint.test with
  | some x =>
    if x.target = k && !x.aborted then
      { b.bump 32 0x7012 2 1 with maint := { b.maint with test := some { x with aborted := true } } }
    else b
  | none => b

/-! ### Handover (R389) -/

/-- The chapter of a software owner reports the bank in use (R413, R455): an enabled queue's ring lies in it, or an enabled
DMA channel stages through it. -/
def bankInUse (b : Block) (k : Nat) : Bool :=
  let q := b.queues.any (fun x => x.2.enabled && x.2.bank == k) ||
    ((b.queue 0).enabled && (b.queue 0).bank == k) || ((b.queue 1).enabled && (b.queue 1).bank == k)
  let o := (b.bank k).owner
  if o = owQUEUE then q
  else if o = owDMA then
    (List.range 32).any (fun c =>
      let w := (b.chan c).ctrl
      bit w 31 && bit w 9 && bits w 3 6 == k)
  else false

/-- Status of a handover request (R389). -/
def handoverStatus (b : Block) (k gen new : Nat) : Nat :=
  let x := b.bank k
  if ownerReserved new then stRANGE
  else if gen != x.gen then stOWNER
  else if x.clearing || (x.borrowed && (x.lender == 0 || softOwner x.lender)) then stBUSY
  else if hardOwner x.owner || hardOwner new || x.firmware then stACCESS
  else if bankInUse b k then stSTATE
  else stOK

/-- Serve a handover request: the status and the block (R389 to R391). -/
def handover (k gen new : Nat) (b : Block) : Nat × Block :=
  let st := handoverStatus b k gen new
  let x := b.bank k
  (st,
    if st = stBUSY && x.borrowed then reclaim k b
    else if st = stOK && x.owner != new then
      (if new = owUNOWNED then unown k b else setOwner k new b)
    else b)

/-! ### Hardware takes (R392) -/

/-- A bank qualifies for a hardware take. -/
def qualifies (b : Block) (k : Nat) : Bool :=
  let x := b.bank k
  x.owner == owUNOWNED && !x.clearing && !x.borrowed

/-- A bank counts as Unowned for an arm: also while CLEARING or while borrowed from no owner. -/
def unownedAtAll (b : Block) (k : Nat) : Bool :=
  let x := b.bank k
  x.owner == owUNOWNED || (x.owner == owMAINT && x.borrowed && x.lender == 0)

/-- The qualifying bank that a take picks: ON before RETENTION before OFF, then the lowest number. -/
def pickBank (b : Block) : Option Nat :=
  let ks := (List.range 64).filter (qualifies b)
  match ks.find? (fun k => (b.bank k).power == 0) with
  | some k => some k
  | none =>
    match ks.find? (fun k => (b.bank k).power == 1) with
    | some k => some k
    | none => ks.head?

/-- Key of what a hardware owner holds. -/
def holdKey (code unit : Nat) : Nat := code * 16 + unit

/-- The bank that a hardware owner holds for a unit, if any. -/
def Block.heldBank (b : Block) (code unit : Nat) : Option Nat :=
  let x := look (fun _ => 0) b.maint.holds (holdKey code unit)
  if x = 0 then none else some (x - 1)

/-- Note or forget the bank that a hardware owner holds. -/
def setHeld (code unit x : Nat) (b : Block) : Block :=
  { b with maint := { b.maint with holds := place (fun _ => 0) b.maint.holds (holdKey code unit) x } }

/-- A hardware owner takes a bank and wakes it. -/
def takeBank (code unit : Nat) (b : Block) : Block :=
  match pickBank b with
  | some k => setHeld code unit (k + 1) (wakeBank k (setOwner k code b))
  | none => b

/-- A hardware owner returns its bank. -/
def returnBank (code unit : Nat) (b : Block) : Block :=
  match b.heldBank code unit with
  | some k => setHeld code unit 0 (unown k b)
  | none => b

/-- Status of taking `n` banks together (R392). -/
def takeStatus (b : Block) (n : Nat) : Nat :=
  if ((List.range 64).filter (unownedAtAll b)).length < n then stREFUSED
  else if ((List.range 64).filter (qualifies b)).length < n then stBUSY
  else stOK

/-- The reclaims that a BUSY take starts. -/
def reclaimUnowned (b : Block) : Block :=
  forEach ((List.range 64).filter (fun k => (b.bank k).borrowed && (b.bank k).lender == 0)) reclaim b

/-! ### Power and KEEP (R396, R397) -/

/-- Status of a control request's power and KEEP parts (R397, R411), the refusals of an owner first (R60): POWER 3 is out of
range whether or not SET_POWER is written, and is no request of RETENTION or OFF. -/
def bankCtrlStatus (b : Block) (k w : Nat) : Nat :=
  let x := b.bank k
  let p := bits w 12 2
  if bit w 11 && (p == 1 || p == 2) && !(x.owner == owUNOWNED || x.owner == owHOST) then stACCESS
  else if bit w 9 && (!softOwner x.owner || x.firmware) then stACCESS
  else if p = 3 then stRANGE
  else stOK

/-- Apply SET_POWER (R397): RETENTION and OFF at once, OFF losing the contents; ON by a wake. While an access waits on the bank its
wake goes on, and the request is carried out once the access has been served. -/
def setPower (k p : Nat) (b : Block) : Block :=
  let x := b.bank k
  if p = 0 then wakeBank k b
  else if b.maint.ops.any (fun o => o.bank == k) then b.setBank k { x with want := p }
  else
    let b := b.setBank k { x with want := p, power := p, waking := false }
    if p = 2 then b.zeroBank k else b

/-- Apply SET_KEEP. -/
def setKeep (k : Nat) (v : Bool) (b : Block) : Block := b.setBank k { b.bank k with keep := v }

/-- Reclaim by a requester on a path: the host's paths act for Host, every path acts for the Control core's firmware no one.
A bank that is not borrowed: no effect (R403). -/
def reclaimStatus (b : Block) (k requester : Nat) : Nat :=
  let x := b.bank k
  if !x.borrowed then stOK else if x.lender = requester then stOK else stOWNER

/-! ### Word operations (R385) -/

/-- The new word of an operation: 2 ADD64, 3 ADD32X2, 4 SWAP64. -/
def atomicResult (kind old opnd : Nat) : Nat :=
  match kind with
  | 2 => (old + opnd) % 2 ^ 64
  | 3 => (old % 2 ^ 32 + opnd % 2 ^ 32) % 2 ^ 32 + (old / 2 ^ 32 + opnd / 2 ^ 32) % 2 ^ 32 * 2 ^ 32
  | _ => opnd % 2 ^ 64

/-- BANK_RESULT after a BAR0 request (R411): operation 0 handover, 1 control, 2 atomic. -/
def setBankResult (op k st : Nat) (b : Block) : Block :=
  b.bset 0x1408 0 ((b.bank k).gen * 2 ^ 16 + op * 2 ^ 14 + k * 2 ^ 8 + (b.bank k).owner * 16 + st)

/-- A denied access (R394). -/
def bankDenied (k : Nat) (b : Block) : Block :=
  let w := b.bget 0x140C 0
  b.bset 0x140C 0 (satTo 16 (bits w 16 16 + 1) * 2 ^ 16 + k * 4 + 1)

/-- A read of `n` octets at BANK_ATOMIC_OLD_LO, for word `word` of bank `k`: the old word's low half, which latches BANK_ATOMIC_OLD_HI, and
with 8 octets that too (R411, R441). -/
def giveOld (k word n : Nat) (b : Block) : Block :=
  let hi := b.bget 0x1420 1
  linkUse ((b.bset 0x1424 0 hi).emit (.bankData k word (b.bget 0x1420 0 + if n = 8 then hi * 2 ^ 32 else 0)))

/-- Reads of BANK_ATOMIC_OLD_LO that waited for an operation are answered (R395). -/
def answerOldReads (k word : Nat) (b : Block) : Block :=
  forEach b.maint.oldReads (giveOld k word) { b with maint := { b.maint with oldReads := [] } }

/-- A host access of a bank that is not the host's: denied, or answered ERR_OWNER (R394, R395); a read of the old word that waited for
the operation is answered with the old word of the operation before. -/
def refuseBankOp (o : BankOp) (b : Block) : Block :=
  match o.kind with
  | 0 => linkUse ((bankDenied o.bank b).emit (.bankData o.bank o.word 0))
  | 1 => bankDenied o.bank b
  | _ =>
    answerOldReads o.bank o.word (setBankResult 2 o.bank stOWNER b)

/-- Serve one host access of a bank that is ON and owned by Host. -/
def serveBankOp (o : BankOp) (b : Block) : Block :=
  let old := (b.word o.bank o.word).toNat
  match o.kind with
  | 0 => linkUse <| b.emit (.bankData o.bank o.word (if o.half = 0 then bits old 0 32 else if o.half = 1 then bits old 32 32 else old))
  | 1 =>
    let new := if o.half = 0 then putBits old 0 32 o.data else if o.half = 1 then putBits old 32 32 o.data else o.data % 2 ^ 64
    b.setWord o.bank o.word (BitVec.ofNat 64 new)
  | k =>
    let b := b.setWord o.bank o.word (BitVec.ofNat 64 (atomicResult k old o.data))
    answerOldReads o.bank o.word (setBankResult 2 o.bank stOK ((b.bset 0x1420 0 (bits old 0 32)).bset 0x1420 1 (bits old 32 32)))

/-- A host access of a bank that Host owns or has lent: served at once, or kept until the bank is ON and has returned. The idle time of
R401 begins anew. -/
def hostBankOp (o : BankOp) (b : Block) : Block :=
  let b := b.setBank o.bank { b.bank o.bank with used := some b.time.abs }
  let x := b.bank o.bank
  if x.borrowed then reclaim o.bank { b with maint := { b.maint with ops := b.maint.ops ++ [o] } }
  else if x.power != 0 then wakeBank o.bank { b with maint := { b.maint with ops := b.maint.ops ++ [o] } }
  else serveBankOp o b

/-- The host may use the bank: it owns it, or has lent it to a test. -/
def hostOwns (b : Block) (k : Nat) : Bool :=
  let x := b.bank k
  x.owner == owHOST || (x.borrowed && x.lender == owHOST)

/-- Serve the accesses that waited on a bank that no test holds: the bank is woken first where it is not ON, and an access of a bank
that has meanwhile gone to another owner is refused (R384, R394 to R397). -/
def serveWaitingOps (k : Nat) (b : Block) : Block :=
  let x := b.bank k
  let mine := b.maint.ops.filter (fun o => o.bank == k)
  if mine.isEmpty || x.borrowed then b
  else if x.power != 0 then wakeBank k b
  else
    forEach mine (fun o b => if (b.bank k).owner = owHOST then serveBankOp o b else refuseBankOp o b)
      { b with maint := { b.maint with ops := b.maint.ops.filter (fun o => o.bank != k) } }

/-- A bank reaches ON and what waits on it is served (R396, R397). A power state requested meanwhile follows. -/
def bankOn (k : Nat) (b : Block) : Block :=
  let x := b.bank k
  let b := serveWaitingOps k (b.setBank k { x with power := 0, waking := false })
  if x.want = 0 then b else setPower k x.want b

/-- BANK_WAKE_COMPLETE: a bank that wakes reaches ON. The words of a bank have been 0 since it went OFF, so one that wakes from OFF is
clear. -/
def bankWakeComplete (k : Nat) (b : Block) : Block := if !(b.bank k).waking then b else bankOn k b

/-- An access of the bank window (R394): `off` the offset in the window, `len` its octets. -/
def bankWindow (write : Bool) (off len data : Nat) (b : Block) : Block :=
  let k := off / 0x80000 % 64
  if !hostOwns b k || !(len == 4 || len == 8) || off % len != 0 then
    let b := bankDenied k b
    if write then b else b.emit (.bankData k (off % 0x80000 / 8) 0)
  else
    hostBankOp { bank := k, kind := if write then 1 else 0, word := off % 0x80000 / 8,
                 half := if len = 8 then 2 else off / 4 % 2, data := data } b

/-- A write of BANK_ATOMIC_CMD with operation `kind` 2 to 4 (R395). -/
def bankAtomic (kind : Nat) (b : Block) : Block :=
  let a := b.bget 0x1410 0
  let k := bits a 16 6
  let opnd := b.bget 0x1418 0 + b.bget 0x141C 0 * 2 ^ 32
  if !hostOwns b k then setBankResult 2 k stOWNER b
  else hostBankOp { bank := k, kind := kind, word := bits a 0 16, half := 2, data := opnd } b

/-- An operation of BANK_ATOMIC_CMD waits: a read of BANK_RESULT, BANK_ATOMIC_OLD_LO or BANK_ATOMIC_OLD_HI is answered once it has been
served (R395). -/
def Block.atomicWaits (b : Block) : Bool := b.maint.ops.any (fun o => decide (2 ≤ o.kind))

/-- A read of 4 or 8 octets at BANK_ATOMIC_OLD_LO (R395, R411, R441): it latches the high half; while an operation waits it is answered
later. -/
def atomicOldRead (n : Nat) (b : Block) : Block :=
  if b.atomicWaits then { b with maint := { b.maint with oldReads := b.maint.oldReads ++ [n] } }
  else
    let a := b.bget 0x1410 0
    giveOld (bits a 16 6) (bits a 0 16) n b

/-- A read of BANK_ATOMIC_OLD_LO. -/
def atomicOldLoRead (b : Block) : Block := atomicOldRead 4 b

end Sys2Proof.Machine
end

