-- ==== Sys2Proof/Machine/Lanes.lean ====
section
/-! DEFINITION. The lane section (03_probe_lanes.md R66 to R102): ladder and dither, polarity, hysteresis, glitch filter and
deskew in stages F and F+1 of the pipeline, and lane health. -/

namespace Sys2Proof.Machine

/-! ### The ladder -/

/-- VLO and VHI of a window word, in 0.5 mV (R69). -/
def winLo (w : Nat) : Int := signed (bits w 0 16) 16
def winHi (w : Nat) : Int := signed (bits w 16 16) 16

/-- A window word is accepted (R69). -/
def windowOk (w : Nat) : Bool :=
  decide (-8000 ≤ winLo w) && decide (winHi w ≤ 16000) && decide (320 ≤ winHi w - winLo w)

/-- The voltage V, in microvolt, lies at or above tap k moved by a dither offset of e/32 step (R68, R72). -/
def aboveTap (w : Nat) (e v : Int) (k : Nat) : Bool :=
  let span := winHi w - winLo w
  decide (500 * (512 * winLo w + 32 * (k : Int) * span + e * span) ≤ 512 * v)

/-- The code of a voltage: the number of taps at or below it (R68). -/
def codeOf (w : Nat) (e v : Int) : Nat := ((List.range 15).filter (fun k => aboveTap w e v (k + 1))).length

/-- The dither offset e in 1/32 step of a lane's physical sample under a setting 0 OFF, 1 HALF, 2 FULL; the sequence repeats after
2^31 − 1 samples (R72, R103). -/
def ditherOf (setting lane n : Nat) : Int :=
  let j := (Config.dither lane (n % (2 ^ 31 - 1))).toNat
  match setting with
  | 1 => 2 * ((j % 8 : Nat) : Int) - 7
  | 2 => 2 * ((j % 16 : Nat) : Int) - 15
  | _ => 0

/-! ### The setting word of a lane (R99) -/

def setRise (w : Nat) : Nat := bits w 0 4
def setFall (w : Nat) : Nat := bits w 4 4
def setGlitch (w : Nat) : Nat := bits w 8 4
def setDeskew (w : Nat) : Nat := bits w 12 6
def setPol (w : Nat) : Bool := bit w 18

/-- A lane setting word is accepted (R99). -/
def laneSettingOk (w : Nat) : Bool :=
  decide (w < 2 ^ 19) && decide (setFall w ≤ setRise w) && decide (1 ≤ setFall w)

/-- The entry of a pending list that is in force in frame `a`, and the entries still to come (R551). -/
def inForce (a : Nat) (now : Nat) : List (Nat × Nat) → Nat × List (Nat × Nat)
  | [] => (now, [])
  | (at_, v) :: rest => if at_ ≤ a then inForce a v rest else (now, (at_, v) :: rest)

/-! ### Stage F -/

/-- Corrected code and amplitude of a raw code with its dither offset (R74, R103). -/
def corrected (pol : Bool) (x : Nat × Int) : Nat × Nat :=
  let c := if pol then 15 - x.1 else x.1
  (c, ((32 * c + 16 : Nat) + (if pol then -x.2 else x.2)).toNat)

/-- The codes a lane's ladder takes over `len` physical samples from sample `phys` on, with their dither offsets. DESIGN CHOICE (log 37):
in DIFF a contact beyond its trip (R85) with the difference inside the window gives the code of the difference (R68): the clip of R85 at
0 or 15 is the one that a voltage outside the window has. -/
def ladder (b : Block) (dith lane phys len : Nat) (inp : Option LaneIn) : List (Nat × Int) :=
  let p := b.pod (lane / 16)
  let settling := bit (b.rd (0x3100 + lane / 16) 10) 1
  (List.range len).map (fun i =>
    let e := ditherOf dith lane (phys + i)
    if settling then ((Config.settlingCode lane (phys + i)).toNat, e)
    else
      let v := match inp with
        | none => 0
        | some x => x.p.getD i 0 - (if p.se then 0 else x.n.getD i 0)
      (codeOf p.win e v, e))

/-- Exactly the last `n` of a history, older samples taken as `z` where there are fewer. -/
def lastNOf {α : Type} (n : Nat) (z : α) (xs : List α) : List α :=
  List.replicate (n - xs.length) z ++ xs.drop (xs.length - n)

/-- Exactly the last 64 of a history. -/
def last64of {α : Type} (z : α) (xs : List α) : List α := lastNOf 64 z xs

/-- Exactly the first 32 of a list, the last one repeated at void positions (R354). -/
def to32 {α : Type} (z : α) (xs : List α) : List α :=
  let ys := xs.take 32
  ys ++ List.replicate (32 - ys.length) (ys.getLastD z)

/-- The frame being taken: its place in the count, its physical samples, how many of them are dropped before its sample 0. -/
structure Taking where
  abs : Nat
  phys : Nat
  len : Nat
  drop : Nat
  deriving DecidableEq, Repr

/-- Stage F for one lane: the ladder, the deskew buffer and polarity (R81, R93). DESIGN CHOICE (log 37): the deskew buffer goes on taking
the ladder's codes during an activity, so that a lane with deskew d delivers codes taken in the activity in its first d samples after it;
R93 says only what the lane delivers during the activity. -/
def stageF (b : Block) (tk : Taking) (dith lane : Nat) (inp : Option LaneIn) : Block :=
  let ln := b.lane lane
  let sp := inForce tk.abs ln.set ln.pend
  let old := last64of (0, 0) ln.raw
  let all := old ++ ladder b dith lane tk.phys tk.len inp
  let d := setDeskew sp.1
  let out := match ln.held with
    | some x => List.replicate tk.len x
    | none => (all.drop (64 - d)).take tk.len
  let cs := to32 (0, 16) ((out.drop tk.drop).map (corrected (setPol sp.1)))
  let pk : LanePkt := { set := sp.1, c := cs.map Prod.fst, a := cs.map Prod.snd, h := [], f := [] }
  let b := b.setLane lane { ln with raw := lastNOf 80 (0, 0) all, set := sp.1, pend := sp.2 }
  match b.packets with
  | p :: ps => { b with packets := { p with lanes := p.lanes ++ [(lane, pk)] } :: ps }
  | [] => b

/-! ### Stage F+1 -/

/-- One step of the hysteresis (R77). -/
def hystStep (rise fall : Nat) (h : Bool) (c : Nat) : Bool :=
  if !h && decide (rise ≤ c) then true else if h && decide (c < fall) then false else h

/-- The hysteresis bits of a run of codes, from the value before it (R77). -/
def hyst (rise fall : Nat) : Bool → List Nat → List Bool
  | _, [] => []
  | h, c :: cs => let h' := hystStep rise fall h c; h' :: hyst rise fall h' cs

/-- The filtered bits of the first `n` samples of a run of hysteresis bits, from the value before it (R79). -/
def glitchFilter (g : Nat) : Nat → Bool → List Bool → List Bool
  | 0, _, _ => []
  | _, _, [] => []
  | n + 1, f, h :: hs =>
    let f' := if h == f then f else if (hs.take g).length == g && (hs.take g).all (· == h) then h else f
    f' :: glitchFilter g n f' hs

/-- The samples of a lane in a packet. -/
def Packet.lane (p : Packet) (l : Nat) : LanePkt :=
  look (fun _ => { set := 0x78, c := [], a := [], h := [], f := [] }) p.lanes l

/-- Stage F+1 for one lane: h and f of the frame before the newest, with the first 16 samples of the newest as look-ahead
(R80). -/
def stageF1 (lane : Nat) (b : Block) : Block :=
  match b.packets with
  | new :: old :: rest =>
    let ln := b.lane lane
    let po := old.lane lane
    let pn := new.lane lane
    let hs := hyst (setRise po.set) (setFall po.set) ln.h po.c
    let h31 := hs.getLastD ln.h
    let look_ := hyst (setRise pn.set) (setFall pn.set) h31 (pn.c.take 16)
    -- void positions are no samples: they repeat f of the last real sample (R354)
    let fs := to32 ln.f (glitchFilter (setGlitch po.set) old.voidFrom ln.f (hs.take old.voidFrom ++ look_))
    let changes := (List.range 32).filter (fun i => hs.getD i false != (if i = 0 then ln.h else hs.getD (i - 1) false))
    let since := match changes.getLast? with | some i => old.abs * 32 + i | none => ln.hSince
    let b := b.setLane lane { ln with h := h31, f := fs.getLastD ln.f, hSince := since }
    let po' : LanePkt := { po with h := hs, f := fs }
    { b with packets := new :: { old with lanes := place (fun _ => { set := 0x78, c := [], a := [], h := [], f := [] }) old.lanes lane po' } :: rest }
  | _ => b

/-! ### Samples of the pipeline by position -/

/-- The packet of a frame in the pipeline. -/
def Block.packet? (b : Block) (a : Nat) : Option Packet := b.packets.find? (fun p => p.abs == a)

/-- A lane's samples in a frame of the pipeline. -/
def Block.lanePkt (b : Block) (l a : Nat) : LanePkt :=
  match b.packet? a with
  | some p => p.lane l
  | none => { set := 0x78, c := [], a := [], h := [], f := [] }

/-- The filtered bit, hysteresis bit, code and amplitude at a position (R84). -/
def Block.fAt (b : Block) (l pos : Nat) : Bool := (b.lanePkt l (pos / 32)).f.getD (pos % 32) false
def Block.hAt (b : Block) (l pos : Nat) : Bool := (b.lanePkt l (pos / 32)).h.getD (pos % 32) false
def Block.cAt (b : Block) (l pos : Nat) : Nat := (b.lanePkt l (pos / 32)).c.getD (pos % 32) 0
def Block.aAt (b : Block) (l pos : Nat) : Nat := (b.lanePkt l (pos / 32)).a.getD (pos % 32) 16

/-- A position holds no sample (R353). -/
def Block.isVoid (b : Block) (pos : Nat) : Bool :=
  match b.packet? (pos / 32) with
  | some p => decide (p.voidFrom ≤ pos % 32)
  | none => false

/-- The next position that holds a sample. -/
def Block.nextPos (b : Block) (pos : Nat) : Nat := if b.isVoid (pos + 1) then (pos / 32 + 1) * 32 else pos + 1

/-- Between a position and the next one that holds a sample lie dropped samples or void positions (R354). -/
def Block.brokenAfter (b : Block) (pos : Nat) : Bool :=
  let n := b.nextPos pos
  n % 32 == 0 && (match b.packet? (n / 32) with | some p => p.brk | none => false)

/-! ### Lane health -/

/-- Status word of a lane (R100). -/
def Block.laneStatus (b : Block) (l : Nat) : Nat := b.rd (0x3300 + l / 16) (l % 16 + 1)

/-- The faults of a status word: OPEN, RAIL_SHORT, SHORT_LOWER, SHORT_UPPER, PN_SHORT, OVERVOLT, REVERSED (R95). -/
def faultBits (st : Nat) : List Bool :=
  [bits st 0 4 == 3, bit st 5, bit st 6, bit st 7, bit st 8, bit st 11, bits st 9 2 == 2]

/-- Faults that a new status word gains over an old one (R95). -/
def faultGains (old new : Nat) : Nat :=
  ((List.zip (faultBits old) (faultBits new)).filter (fun x => !x.1 && x.2)).length

/-- The kinds of the faults gained, each one an event of LANE_FAULT. -/
def gainEvent (l new : Nat) (b : Block) : Block :=
  let n := l / 16
  let b := b.flag (0x3100 + n) 7 8 1
  let b := if b.podDom n < 8 then postError (b.podDom n) 0x01 new l 0 false b else b
  emcyEvent 0xFF20 2 (toLe 2 l ++ toLe 2 new ++ [0]) b

/-- A lane's status word changes; each fault gained is reported (R95). -/
def setLaneStatus (l new : Nat) (b : Block) : Block :=
  let old := b.laneStatus l
  let b := b.wr (0x3300 + l / 16) (l % 16 + 1) new
  forEach (List.range (faultGains old new)) (fun _ b => gainEvent l new b) b

/-- A contact crosses the overvoltage trip or returns from it: OVERVOLT follows both contacts' detectors (R85). -/
def contactOvervoltage (lane contact : Nat) (above : Bool) (b : Block) : Block :=
  if 512 ≤ lane || 2 ≤ contact then b
  else
    let ln := b.lane lane
    let ov := putBit ln.ov contact above
    setLaneStatus lane (putBit (b.laneStatus lane) 11 (ov != 0)) (b.setLane lane { ln with ov := ov })

/-- Class of a source impedance in ohm (R87). -/
def zsClass (zs : Nat) : Nat := if zs ≤ 5000 then 1 else if zs < 50000 then 2 else 3

/-- Orientation from the two swings in microvolt (R86). -/
def orientOf (p n : Nat) : Nat :=
  if p ≤ 20000 && n ≤ 20000 then 0
  else if 8 * n ≤ p then 1
  else if 8 * p ≤ n then 2
  else 3

/-- The lane's driver is enabled (R304). -/
def Block.driverOn (b : Block) (l : Nat) : Bool := bit (b.rd (0x3800 + l / 16) 4) (l % 16)

/-- CONNECTION from the classes of a lane's contacts (R87): in DIFF the worse of those found so far, in SE that of P. -/
def connectionOf (se : Bool) (ln : Lane) : Nat := if se then ln.conP else max ln.conP ln.conN

/-- A test has found the class of a contact (R87, R90). -/
def setClass (l contact cls : Nat) (b : Block) : Block :=
  let ln := b.lane l
  b.setLane l (if contact = 0 then { ln with conP := cls } else { ln with conN := cls })

/-- The test current of a visit starting now to a lane of pod `n` in a mode is kept off (R88): the mode is AUTO and the pod's domain
is armed, the lane's driver is enabled, or the pod is out of service (R93). -/
def visitBlocked (b : Block) (n m mode : Nat) : Bool :=
  (mode == 1 && decide (b.podDom n < 8) && b.armed (b.podDom n)) || b.driverOn (16 * n + m) || (b.pod n).act != 0

/-- The contact visited after another (R88): ascending lane order, P before N; in SE the N contacts are not tested. -/
def nextVisit (se : Bool) (c : Nat) : Nat := if se then (c / 2 * 2 + 2) % 32 else (c + 1) % 32

/-- A visit begins, in the health mode set now (R88). -/
def startVisit (n c : Nat) (b : Block) : Block :=
  let mode := b.rd (0x3100 + n) 4
  b.setPod n { b.pod n with visit := c, visitMode := mode, visitCut := visitBlocked b n (c / 2) mode }

/-- The test current of the running visit stops (R88): the visit produces no class. -/
def cutVisit (n : Nat) (b : Block) : Block := b.setPod n { b.pod n with visitCut := true }

/-- The pod's domain is armed: in AUTO the test current stops (R88). -/
def armVisit (n : Nat) (b : Block) : Block := if (b.pod n).visitMode = 1 then cutVisit n b else b

/-- The health converter of a pod ends its visit to a contact and starts the next. If the test current flowed throughout (R88) the
contact's class follows from its impedance, and CONNECTION from the classes (R87); in DIFF ORIENT follows the swings (R86).
DESIGN CHOICE (log 37): a visit that ends while the pod is under a probe test or recalibration keeps CONNECTION, since its
test current is off, and still reports ORIENT; the spec does not say what such a visit reports. -/
def healthVisitEnd (n zp zn swingP swingN : Nat) (b : Block) : Block :=
  if 32 ≤ n then b
  else
    let pod := b.pod n
    let l := 16 * n + pod.visit / 2
    let tested := pod.visitMode != 0 && !pod.visitCut && !(pod.se && pod.visit % 2 == 1)
    let b := if tested then setClass l (pod.visit % 2) (zsClass (if pod.visit % 2 = 0 then zp else zn)) b else b
    let st := b.laneStatus l
    let st := if tested then putBits st 0 4 (connectionOf pod.se (b.lane l)) else st
    let st := putBits st 9 2 (if pod.se then 0 else orientOf swingP swingN)
    startVisit n (nextVisit pod.se pod.visit) (setLaneStatus l st b)

/-- The input configuration of a pod becomes SE or DIFF: in SE the N contacts count no more and ORIENT reads NOT_DETERMINED
(R86, R87). -/
def setInput (n : Nat) (se : Bool) (b : Block) : Block :=
  let b := b.setPod n { b.pod n with se := se }
  forEach (List.range 16) (fun m b =>
    let l := 16 * n + m
    let st := b.laneStatus l
    let st := putBits st 0 4 (connectionOf se (b.lane l))
    setLaneStatus l (if se then putBits st 9 2 0 else st) b) b

/-! ### Pods out of service (R93) -/

/-- Set or clear the OOS bit of the lanes of a pod, its OUT_OF_SERVICE bit, and hold the lanes' codes. -/
def setOos (n : Nat) (act : Nat) (b : Block) : Block :=
  let pod := b.pod n
  let b := (b.setPod n { pod with act := act, visitCut := pod.visitCut || act != 0 }).wrBit (0x3100 + n) 10 3 (act != 0)
  forEach (List.range 16) (fun m b =>
    let l := 16 * n + m
    let ln := b.lane l
    let x := (last64of (0, 0) ln.raw).getD (63 - setDeskew ln.set) (0, 0)
    let b := b.setLane l { ln with held := if act = 0 then none else some x }
    b.wrBit (0x3300 + n) (m + 1) 12 (act != 0)) b

end Sys2Proof.Machine
end

