-- ==== Sys2Proof/Machine/Ochre.lean ====
section
/-! DEFINITION. The Ochre path (04_ochre_and_indigo.md R104 to R112): edges with their crossing times and quality codes, the
running code sum, the detectors of a period and the envelopes. -/

namespace Sys2Proof.Machine

/-! ### Edges -/

/-- An edge as handed on (R108): lane, direction, position of the sample at which f changed, instant as an absolute count of
SSU, quality code (R106) and step. -/
structure Edge where
  lane : Nat
  rise : Bool
  at_ : Nat
  ssu : Nat
  q : Nat
  step : Nat
  deriving DecidableEq, Repr

/-- The last real sample before a position (R104, R354). -/
def Block.prevPos (b : Block) (pos : Nat) : Nat :=
  if pos % 32 != 0 then pos - 1
  else
    let a := pos / 32 - 1
    a * 32 + (match b.packet? a with | some p => min 32 p.voidFrom - 1 | none => 31)

/-- Distance of two numbers. -/
def dist (a c : Nat) : Nat := if a ≤ c then c - a else a - c

/-- The crossing fraction (R105). -/
def crossing (x a0 a1 : Nat) : Nat := min 63 ((128 * dist x a0 + dist a1 a0) / (2 * dist a1 a0))

/-- Quality code of an edge (R106), given whether its amplitudes bracket X and whether a slip lies between its samples. -/
def qualityOf (step c0 c1 : Nat) (brackets broken : Bool) : Nat :=
  if broken || !brackets || step = 0 || 8 < step then 3
  else if step = 1 then 1
  else if c0 = 0 || c0 = 15 || c1 = 0 || c1 = 15 then 2
  else 0

/-- The edge that a change of f at position `pos` to the value `rise` makes (R104 to R106). -/
def edgeOf (l pos prev : Nat) (rise broken : Bool) (set c0 c1 a0 a1 : Nat) : Edge :=
  let x := 32 * (if rise then setRise set else setFall set)
  let brackets := if rise then decide (a0 < x) && decide (x < a1) else decide (x < a0) && decide (a1 < x)
  let q := qualityOf (dist c0 c1) c0 c1 brackets broken
  { lane := l, rise := rise, at_ := pos, ssu := prev * 64 + (if q = 3 then 32 else crossing x a0 a1), q := q,
    step := dist c0 c1 }

/-- Edges of a lane whose f changes at samples of one frame, from the samples before it (value of f, code, amplitude). -/
def edgesFrom (l : Nat) (set : Nat) (brk : Bool) :
    Nat → Nat → Bool → Nat → Nat → List Bool → List Nat → List Nat → List Edge
  | pos, prev, f0, c0, a0, f :: fs, c :: cs, a :: as =>
    let rest := edgesFrom l set false (pos + 1) pos f c a fs cs as
    if f == f0 then rest else edgeOf l pos prev f brk set c0 c a0 a :: rest
  | _, _, _, _, _, _, _, _ => []

/-- The edges of a lane at the samples of frame `a` (R104): only real samples can carry one (R354). -/
def Block.edgesAt (b : Block) (l a : Nat) : List Edge :=
  match b.packet? a with
  | none => []
  | some p =>
    let pk := p.lane l
    let prev := b.prevPos (a * 32)
    let old := b.lanePkt l (prev / 32)
    let k := prev % 32
    let n := min 32 p.voidFrom
    edgesFrom l pk.set p.brk (a * 32) prev (old.f.getD k false) (old.c.getD k 0) (old.a.getD k 16)
      (pk.f.take n) (pk.c.take n) (pk.a.take n)

/-- The edges of a lane whose timestamps name frame `a`: those placed at its samples (R105, R144). -/
def Block.edgesNaming (b : Block) (l a : Nat) : List Edge :=
  (b.edgesAt l a ++ b.edgesAt l (a + 1)).filter (fun e => e.ssu / 2048 == a)

/-! ### Detectors -/

/-- Voltage, in volts, of an amplitude A on a lane (R103, R75). -/
def voltsOf (win : Nat) (pol : Bool) (a : Rat) : Rat :=
  let span := winHi win - winLo win
  let w0 := if pol then -winHi win else winLo win
  ((w0 : Rat) + a * (span : Rat) / 512) / 2000

/-- Samples join the accumulators of a period (R110). -/
def Det.join (d : Option Det) (as : List Nat) : Option Det :=
  as.foldl (fun d a => match d with
    | none => some { max := a, min := a, sum := a, sq := a * a, n := 1 }
    | some d => some { max := Nat.max d.max a, min := Nat.min d.min a, sum := d.sum + a, sq := d.sq + a * a, n := d.n + 1 }) d

/-- The envelopes at the end of a frame (R111). The spec gives no values before the first frame; DESIGN CHOICE (log 46): both start
at 0 in A units. -/
def envelopes (tau : Nat) (eu el : Rat) (as : List Nat) : Rat × Rat :=
  let hi : Rat := (as.foldl Nat.max 0 : Nat)
  let lo : Rat := (as.foldl Nat.min 511 : Nat)
  let k : Rat := ((2 ^ tau : Nat) : Rat)
  (max hi (eu - (eu - hi) / k), min lo (el + (lo - el) / k))

/-- M at samples 7, 15, 23 and 31 of a frame's codes, after the codes before it (R109). -/
def sumsOf (old new : List Nat) : List Nat := [8, 16, 24, 32].map (fun k => (last64of 0 (old ++ new.take k)).sum)

/-- M of a lane at a sample 7, 15, 23 or 31 of a frame (R109). -/
def Block.sumAt (b : Block) (l pos : Nat) : Nat := (look (fun _ => ([] : List Nat)) (b.lane l).sums (pos / 32)).getD (pos % 32 / 8) 0

/-- The detectors of one lane take a frame (R109 to R111); they stand still while the pod is out of service (R93, R112). -/
def detectLane (l a tau : Nat) (b : Block) : Block :=
  match b.packet? a with
  | none => b
  | some p =>
    let ln := b.lane l
    if (b.pod (l / 16)).act != 0 then b.setLane l { ln with sums := (a, sumsOf ln.last64 []) :: ln.sums.take 7 }
    else
      let pk := p.lane l
      let n := min 32 p.voidFrom
      let as := pk.a.take n
      let cs := pk.c.take n
      let env := envelopes tau ln.envU ln.envL as
      b.setLane l { ln with last64 := last64of 0 (ln.last64 ++ cs), sums := (a, sumsOf ln.last64 cs) :: ln.sums.take 7,
                            det := Det.join ln.det as, envU := env.1, envL := env.2 }

/-- The detectors of a pod at the end of frame `a`; at a period end the accumulators wait to be latched (R110, R137). A period that
ends while the pod is out of service updates nothing, and the next one starts afresh (R93, R112). -/
def detectPod (a n : Nat) (b : Block) : Block :=
  let b := forEach (List.range 16) (fun m b => detectLane (16 * n + m) a (b.rd (0x4100 + n) 2) b) b
  let pod := b.pod n
  let num := b.numOf a
  if (num + 1) % 2 ^ pod.detP != 0 then b
  else
    let b := b.setPod n { pod with detP := b.rd (0x4100 + n) 1, detEnd := if pod.act = 0 then num else pod.detEnd }
    let b := forEach (List.range 16) (fun m b =>
      let ln := b.lane (16 * n + m)
      b.setLane (16 * n + m) (if pod.act = 0 then { ln with latch := ln.det, det := none } else { ln with det := none })) b
    if pod.act != 0 then b else b.addDue (.detectorLatch n) b.time.abs (b.time.abs + 1)

/-- Latch an ended period of a lane (R110): values in volts with the window in force. -/
def latchLane (l : Nat) (b : Block) : Block :=
  let ln := b.lane l
  match ln.latch with
  | none => b
  | some d =>
    let win := (b.pod (l / 16)).win
    let pol := setPol ln.set
    let v := fun (a : Rat) => voltsOf win pol a
    let mean : Rat := (d.sum : Rat) / (d.n : Rat)
    let v0 := v 0
    let k := v 1 - v0
    let ms := v0 * v0 + 2 * v0 * k * mean + k * k * ((d.sq : Rat) / (d.n : Rat))
    let i := 0x4400 + l
    let b := b.setLane l { ln with latch := none }
    (((b.wr i 1 (real32 (v d.max))).wr i 2 (real32 (v d.min))).wr i 3 (real32 (v mean))).wr i 4 (real32Sqrt ms)

/-- A detector period's values are latched (R110). -/
def latchPod (n : Nat) (b : Block) : Block :=
  let b := forEach (List.range 16) (fun m b => latchLane (16 * n + m) b) b
  (b.bump 32 (0x4100 + n) 3 1).wr (0x4100 + n) 4 (b.pod n).detEnd

/-- DETECTOR_PERIOD_END: carried out if a period of the pod has ended and is not yet latched. -/
def detectorPeriodEnd (n : Nat) (b : Block) : Block :=
  match takeDue (fun d => d.task == .detectorLatch n) b.due with
  | some (_, rest) => latchPod n { b with due := rest }
  | none => b

/-! ### What a lane's detector object reads live (R138) -/

/-- A lane's envelope in volts, 0.0 before its first frame (R138). -/
def Block.liveEnvelope (b : Block) (l : Nat) (a : Rat) : Nat :=
  if (b.lane l).last64.isEmpty then 0 else real32 (voltsOf (b.pod (l / 16)).win (setPol (b.lane l).set) a)

def Block.liveUpper (b : Block) (l : Nat) : Nat := b.liveEnvelope l (b.lane l).envU
def Block.liveLower (b : Block) (l : Nat) : Nat := b.liveEnvelope l (b.lane l).envL
def Block.liveSum (b : Block) (l : Nat) : Nat := (b.lane l).last64.sum

end Sys2Proof.Machine
end

