-- ==== Sys2Proof/Machine/Indigo.lean ====
section
/-! DEFINITION. The Indigo path (04_ochre_and_indigo.md R113 to R134): boxcars, rank filter, FIR with decimation, settling,
banks and cross-fades, thresholds and zones. -/

namespace Sys2Proof.Machine

/-! ### Settings of an engine (R139) -/

def eObj (e : Nat) : Nat := 0x4600 + e
def lObj (l : Nat) : Nat := 0x4800 + l
/-- The coefficient object of a bank (R140). -/
def coefObj (bank e : Nat) : Nat := (if bank = 0 then 0x4700 else 0x4740) + e

/-- Rank window W from the rank setting (R116). -/
def rankW (v : Nat) : Nat := match bits v 4 4 with | 1 => 3 | 2 => 5 | 3 => 7 | 4 => 9 | _ => 1
/-- Rank ρ (R116): 0 selects the median. -/
def rankR (v : Nat) : Nat := if bits v 0 4 = 0 then (rankW v + 1) / 2 else bits v 0 4
/-- A rank setting is in range (R139). -/
def rankOk (v : Nat) : Bool := decide (bits v 4 4 ≤ 4) && decide (bits v 0 4 ≤ rankW v) && decide (v < 256)

def Block.engOn (b : Block) (e : Nat) : Bool := b.on (eObj e) 1
def Block.engW (b : Block) (e : Nat) : Nat := rankW (b.rd (eObj e) 2)
def Block.engD (b : Block) (e : Nat) : Nat := b.rd (eObj e) 4
def Block.engBank (b : Block) (e : Nat) : Nat := b.rd (eObj e) 5
/-- Tap count of a bank. -/
def Block.taps (b : Block) (bank e : Nat) : Nat := b.rd (eObj e) (9 + bank)
/-- The coefficients in use of a bank, h(0) first (R117). -/
def Block.coefs (b : Block) (bank e : Nat) : List Int :=
  (List.range (b.taps bank e)).map (fun i => b.rdI (coefObj bank e) (i + 1))

/-- A fade is still to make outputs (R127). -/
def Fade.running (f : Fade) : Bool := f.done == 0 || f.done < f.len

/-- The bank whose g is in force (R130): from the first output of a fade, the one faded in. -/
def Block.gBank (b : Block) (e : Nat) : Nat :=
  match (b.engine e).fade with
  | some f => if f.done = 0 then b.engBank e else f.target
  | none => b.engBank e

/-- Group delay in SSU (R120). -/
def groupDelay (w n : Nat) : Nat := 2016 + 2048 * (w - 1) + 2048 * (n - 1)

/-- The group delay in force (R120). -/
def Block.engG (b : Block) (e : Nat) : Nat := groupDelay (b.engW e) (b.taps (b.gBank e) e)

/-- Coarse outputs after a reset or restart (R124). -/
def coarseCount (n w d : Nat) : Nat := ceilDiv n d + ceilDiv (w - 1) d

/-- The derived registers of an engine: state, g, LINEAR_PHASE (R139). -/
def refreshEngine (e : Nat) (b : Block) : Block :=
  let en := b.engine e
  let fading := match en.fade with | some f => f.running | none => false
  let st := b2n (b.engOn e) + 2 * b2n (b.rd (eObj e) 0xC != 0) + 4 * b2n fading + 8 * b2n en.pendBank.isSome +
    16 * en.pendBank.getD 0
  let sym := fun bank => let h := b.coefs bank e; b2n (h == h.reverse)
  ((b.wr (eObj e) 8 st).wr (eObj e) 0xB (b.engG e)).wr (eObj e) 0xD (sym 0 + 2 * sym 1)

/-! ### Banks and fades (R127, R128) -/

/-- A request with no fade running: nothing for the active bank, else a fade from the next output on. -/
def startFade (e bank : Nat) (b : Block) : Block :=
  if bank = b.engBank e then b
  else b.setEngine e { b.engine e with fade := some { target := bank, done := 0, len := 0 } }

/-- FADE_END: the fade that has made its last output ends and a pending request is taken up (R128). -/
def fadeEnd (e : Nat) (b : Block) : Block :=
  let en := b.engine e
  match en.fade with
  | some f =>
    if f.running then b
    else
      let b := b.setEngine e { en with fade := none, pendBank := none }
      refreshEngine e (match en.pendBank with | some p => startFade e p b | none => b)
  | none => b

/-- A bank request (R127, R128). -/
def bankRequest (e bank : Nat) (b : Block) : Block :=
  let b := fadeEnd e b
  let en := b.engine e
  let b :=
    if !b.engOn e then (b.setEngine e { en with fade := none, pendBank := none }).wr (eObj e) 5 bank
    else match en.fade with
      | some _ => b.setEngine e { en with pendBank := some bank }
      | none => startFade e bank b
  refreshEngine e b

/-- A bank may not be written: it is active, or the engine has a running fade or is to start one at its next output (R128, R129). -/
def bankLocked (b : Block) (bank e : Nat) : Bool :=
  let en := b.engine e
  b.engBank e == bank || (match en.fade with
    | some f => f.running || (match en.pendBank with | some p => p != b.engBank e | none => false)
    | none => false)

/-! ### Rounds -/

/-- Insert into a rising list. -/
def insertInt (x : Int) : List Int → List Int
  | [] => [x]
  | y :: ys => if x ≤ y then x :: y :: ys else y :: insertInt x ys

/-- Sort rising. -/
def sortInt (xs : List Int) : List Int := xs.foldr insertInt []

/-- Exactly the first `n`, missing ones 0: histories cleared by a reset count as zeros. -/
def firstN (n : Nat) (xs : List Int) : List Int := xs.take n ++ List.replicate (n - xs.length) 0

/-- The rank filter over the latest inputs, newest first (R116). -/
def rankOut (v : Nat) (xs : List Int) : Int := (sortInt (firstN (rankW v) xs)).getD (rankR v - 1) 0

/-- The sum of products of a FIR (R117). -/
def firSum (hs zs : List Int) : Int := ((List.zip hs (firstN hs.length zs)).map (fun x => x.1 * x.2)).sum

/-- Rounded to nearest, ties toward +infinity, and limited; whether it was limited (R117). -/
def roundLimit (num : Int) (den : Nat) : Int × Bool :=
  let y := roundHalfUp num den
  (clampI (-32768) 32767 y, decide (y < -32768) || decide (32767 < y))

/-- The zone after an output (R132): 0 INSIDE, 1 ABOVE, 2 BELOW. -/
def zoneAfter (zone : Nat) (u l h y : Int) : Nat :=
  match zone with
  | 1 => if y < u - h then (if y ≤ l then 2 else 0) else 1
  | 2 => if l + h < y then (if u ≤ y then 1 else 0) else 2
  | _ => if u ≤ y then 1 else if y ≤ l then 2 else 0

/-- Event kinds of a change of zone (R133, R134). -/
def zoneEvents (old new : Nat) : Nat :=
  if old = new then 0
  else b2n (new == 1) + 2 * b2n (old == 1) + 4 * b2n (new == 2) + 8 * b2n (old == 2)

/-- Sum of the corrected codes of 64 positions from `pos` on (R114). -/
def Block.boxcar (b : Block) (l pos : Nat) : Nat :=
  let f := fun a k n => (((b.lanePkt l a).c.drop k).take n).sum
  let a := pos / 32
  let k := pos % 32
  f a k (32 - k) + f (a + 1) 0 32 + f (a + 2) 0 k

/-- The y of a bank (R117). -/
def bankOut (b : Block) (bank e : Nat) (zs : List Int) : Int × Bool := roundLimit (firSum (b.coefs bank e) zs) 16384

/-- The output of one lane at an output round before zones: Y and flags (R117, R124, R127), at output `i` of a fade of length
`len`; `m` is M of the lane at its window's end. SAT tells that y of a bank that takes part was limited. -/
def outputOf (b : Block) (e i len : Nat) (coarse : Bool) (old new : Nat) (m : Nat) (zs : List Int) : Int × Nat :=
  let act := if i = len then new else old
  let r :=
    if coarse then roundLimit ((32 * (m : Int) - 15360) * (b.coefs act e).sum) 16384
    else if old = new then bankOut b new e zs
    else
      let yo := bankOut b old e zs
      let yn := bankOut b new e zs
      ((roundLimit (((len - i : Nat) : Int) * yo.1 + (i : Int) * yn.1) len).1, yo.2 || yn.2)
  (r.1, b2n coarse + 2 * b2n (i < len) + 4 * b2n r.2)

/-- Zone, events and registers of one lane after its output (R132, R133, R141). -/
def laneOutput (l : Nat) (out : IndPoint) (b : Block) : Block :=
  let o := lObj l
  let zone := b.rd o 4
  let z := zoneAfter zone (b.rdI o 1) (b.rdI o 2) (b.rd o 3) out.y
  let b := ((b.wr o 4 z).wrI o 5 out.y).wr o 6 out.flags
  let ln := b.lane l
  b.setLane l { ln with ind := ({ out with zone := z, events := zoneEvents zone z } :: ln.ind).take 32 }

/-- The newest output of a lane. -/
def Block.newestOut (b : Block) (l : Nat) : IndPoint :=
  (b.lane l).ind.headD { pos := 0, zone := 0, events := 0, flags := 0, y := 0, t := 0 }

/-- Outputs of an engine's slots from `k` on reach their frame E+5 (R121): they are compared and join their round. -/
def compareSlots (e abs k : Nat) (outs : List IndPoint) (b : Block) : List (Nat × IndPoint) × Block :=
  if !b.engOn e then ([], b)
  else
    let slots := List.zip ((List.range 8).map (8 * e + ·) |>.drop k) outs
    let b := forEach slots (fun x b => laneOutput x.1 x.2 b) b
    let done := slots.map (fun x => (x.1, b.newestOut x.1))
    let en := b.engine e
    (done, b.setEngine e { en with rounds := en.rounds.map (fun r =>
      if r.abs = abs then { r with outs := r.outs ++ done.map Prod.snd } else r) })

/-- Slots whose windows end in the same frame: slot 0, slots 1 to 4 one frame later, slots 5 to 7 one more; the first, and how many. -/
def slotGroup (j : Nat) : Nat × Nat := match j with | 0 => (0, 1) | 1 => (1, 4) | _ => (5, 3)

/-- X of the slots whose windows ended two frames ago is taken by the engines that are on (R115, R121: frame E + 2 of a slot). -/
def takeX (j : Nat) (b : Block) : Block :=
  let n := b.time.abs
  if n < b.syncAbs + 3 + j || (n - b.syncAbs - 3 - j) % 2 != 0 || (b.packets.find? (fun p => p.abs + 3 + j == n)).isNone then b
  else
    let r := (n - b.syncAbs - 3 - j) / 2
    let ks := (List.range (slotGroup j).2).map ((slotGroup j).1 + ·)
    let p0 := fun (k : Nat) => 32 * b.syncAbs + 64 * r + 8 * k
    forEach ((List.range 64).filter b.engOn) (fun e b =>
      b.addDue (.indigoRank e r (slotGroup j).1 (ks.map (fun k => 32 * (b.boxcar (8 * e + k) (p0 k) : Int) - 15360))
        (ks.map (fun k => b.sumAt (8 * e + k) (p0 k + 63)))) (n + 1) (n + 1)) b

/-- Slots `k` and following with the histories that they had, each with its newest value in front. -/
def pushHist (size k : Nat) (vs : List Int) (hist : List (Nat × List Int)) : List (Nat × List Int) :=
  (List.range vs.length).foldl (fun h i => upsert h (k + i) (vs.getD i 0 :: (look (fun _ => ([] : List Int)) h (k + i)).take (size - 1))) hist

/-- Frame E + 3 of slots from `k` on: the rank filter takes their X (R116, R121). The FIR follows in the frame after. -/
def rankStage (e r k : Nat) (xs : List Int) (ms : List Nat) (a : Nat) (b : Block) : Block :=
  let en := b.engine e
  let hist := pushHist 9 k xs en.xs
  let zs := (List.range xs.length).map (fun i => rankOut (b.rd (eObj e) 2) (look (fun _ => []) hist (k + i)))
  (b.setEngine e { en with xs := hist }).addDue (.indigoFir e r k zs ms) (a + 1) (a + 1)

/-- The engine comes to the FIR of slot 0 of round `r`. At an output round it decides fade, coarse value and g of the output (R118, R120,
R124, R127). DESIGN CHOICE (log 46): it decides them here once for all eight slots. -/
def decideOutput (e r : Nat) (b : Block) : Block :=
  let b := fadeEnd e b
  if (r + 1) % b.engD e != 0 then b
  else
    let en := b.engine e
    let left := b.rd (eObj e) 0xC
    let fade := en.fade.map (fun f => { f with done := f.done + 1, len := if f.done = 0 then b.rd (eObj e) 7 else f.len })
    let old := b.engBank e
    let (i, len, new) := match fade with | some f => (f.done, f.len, f.target) | none => (1, 1, old)
    let b := b.setEngine e { en with fade := fade }
    let n0 := 32 * b.syncAbs + 64 * r + 63
    let dec : OutDec := { r := r, n0 := n0, abs := (n0 + 56) / 32 + 2, i := i, len := len, old := if i = len then new else old, new := new,
                          coarse := left != 0, g := b.engG e }
    let rec_ : IndRound := { abs := dec.abs, t0 := stampAdd (b.tsPos n0) (-(dec.g : Int)), outs := [] }
    let b := b.setEngine e { b.engine e with rounds := (rec_ :: (b.engine e).rounds).take 16, decs := (dec :: (b.engine e).decs).take 4 }
    let b := if i = len then b.wr (eObj e) 5 new else b
    refreshEngine e (b.wr (eObj e) 0xC (left - 1))

/-- Frame E + 4 of slots from `k` on: the FIR takes their z, and makes their outputs at an output round, which are compared in the frame
after (R117, R120, R121). -/
def firStage (e r k : Nat) (zs : List Int) (ms : List Nat) (a : Nat) (b : Block) : Block :=
  let b := if k = 0 then decideOutput e r b else b
  let en := b.engine e
  let hist := pushHist 64 k zs en.zs
  let b := b.setEngine e { en with zs := hist }
  match en.decs.find? (fun d => d.r == r) with
  | none => b
  | some d =>
    let outs := (List.range zs.length).map (fun i =>
      let o := outputOf b e d.i d.len d.coarse d.old d.new (ms.getD i 0) (look (fun _ => []) hist (k + i))
      { pos := d.n0 + 8 * (k + i) + 64, zone := 0, events := 0, flags := o.2, y := o.1,
        t := stampAdd (b.tsPos (d.n0 + 8 * (k + i))) (-(d.g : Int)) : IndPoint })
    b.addDue (.indigoSlots e d.abs k outs) (a + 1) (a + 1)

/-- A task of an engine's output rounds. -/
def isOutputOf (e : Nat) (d : Due) : Bool :=
  match d.task with
  | .indigoRank e' _ _ _ _ => e' == e
  | .indigoFir e' _ _ _ _ => e' == e
  | .indigoSlots e' _ _ _ => e' == e
  | _ => false

/-- INDIGO_OUTPUT: the oldest work of the engine that has come up is done: rank filter, FIR, or outputs to be compared; with the lanes'
outputs that have been made. -/
def indigoOutput (e : Nat) (b : Block) : List (Nat × IndPoint) × Block :=
  match takeDue (fun d => isOutputOf e d && decide (d.at_ ≤ b.time.abs)) b.due with
  | some (d, rest) =>
    let b := { b with due := rest }
    (match d.task with
    | .indigoRank _ r k xs ms => ([], rankStage e r k xs ms d.at_ b)
    | .indigoFir _ r k zs ms => ([], firStage e r k zs ms d.at_ b)
    | .indigoSlots _ abs k outs => compareSlots e abs k outs b
    | _ => ([], b))
  | none => ([], b)

/-! ### Restart and synchronising reset (R123 to R125, R131) -/

/-- A slot of engine `e` in the rank filter or the FIR, in a round whose slot 0 has been through the FIR. -/
def inRound (b : Block) (e : Nat) (d : Due) : Bool :=
  let has := fun (r : Nat) => (b.engine e).decs.any (fun x => x.r == r)
  match d.task with
  | .indigoRank e' r _ _ _ => e' == e && has r
  | .indigoFir e' r _ _ _ => e' == e && has r
  | _ => false

/-- Such slots go on by one stage, ahead of their frame. -/
def advanceRound (e : Nat) (b : Block) : Block :=
  let mine := b.due.filter (inRound b e)
  forEach mine (fun d b => match d.task with
    | .indigoRank _ r k xs ms => rankStage e r k xs ms d.at_ b
    | .indigoFir _ r k zs ms => firStage e r k zs ms d.at_ b
    | _ => b) { b with due := b.due.filter (fun d => !inRound b e d) }

/-- Clear the filter histories and start the coarse outputs (R124, R125). DESIGN CHOICE (log 46): an output round whose slot 0 has been
through the FIR stands whole, over the histories from before; and where an engine restarts during a fade, the fade goes on over the cleared
histories with its count of outputs. The spec is silent on both. -/
def settleEngine (e : Nat) (b : Block) : Block :=
  let b := advanceRound e (advanceRound e b)
  let b := b.setEngine e { b.engine e with xs := [], zs := [], decs := [] }
  refreshEngine e (b.wr (eObj e) 0xC (coarseCount (b.taps (b.engBank e) e) (b.engW e) (b.engD e)))

/-- Request a synchronising reset that takes effect at frame `a`; requests for one frame produce one reset. -/
def requestSync (a : Nat) (b : Block) : Block :=
  if b.due.any (fun d => d.task == .indigoSync && d.at_ == a) then b else b.addDue .indigoSync a a

/-- An engine at a synchronising reset: a fade ends with the faded-in bank active, a pending request is carried out. Outputs
already made stand, with their comparisons and records still to come (R123). -/
def syncEngine (e : Nat) (b : Block) : Block :=
  let en := b.engine e
  let bank := match en.pendBank, en.fade with | some p, _ => p | none, some f => f.target | none, none => b.engBank e
  let b := (b.setEngine e { en with fade := none, pendBank := none }).wr (eObj e) 5 bank
  if b.engOn e then settleEngine e b else refreshEngine e b

/-- A task of the rank filter or the FIR. -/
def isFilterTask (d : Due) : Bool :=
  match d.task with | .indigoRank _ _ _ _ _ => true | .indigoFir _ _ _ _ _ => true | _ => false

/-- The synchronising reset takes effect at the frame now running (R123): it becomes S. Rounds whose slot 0 has not been through the FIR are
discarded. Requests for one frame produce one reset. -/
def syncReset (b : Block) : Block :=
  if b.syncAbs = b.time.abs then b
  else
    let b := forEach (List.range 64) syncEngine b
    let b := { b with syncAbs := b.time.abs, due := b.due.filter (fun d => !isFilterTask d) }
    (b.wr 0x4010 2 b.time.frame.toNat).bump 32 0x4010 3 1

/-- INDIGO_SYNC_RESET: carried out if a reset is due at the running frame. -/
def indigoSyncReset (b : Block) : Block :=
  match takeDue (fun d => d.task == .indigoSync && decide (d.at_ ≤ b.time.abs)) b.due with
  | some (_, rest) => syncReset { b with due := rest }
  | none => b

/-! ### Writes -/

/-- The engine's enable, rank setting, D or fade length is written with a value in range (R125, R139). DESIGN CHOICE (log 46): a
fade or a pending request that stands when the engine is disabled stays, and its banks locked, until a request or a reset; the
spec is silent. -/
def engineWrite (e sub v : Nat) (b : Block) : Block :=
  if sub = 1 then
    let was := b.engOn e
    let b := b.wr (eObj e) 1 v
    if v = 1 && !was then settleEngine e b
    else if v = 0 && was then
      let b := forEach (List.range 8) (fun k b =>
        let b := b.wr (lObj (8 * e + k)) 4 0
        b.setLane (8 * e + k) { b.lane (8 * e + k) with ind := [] }) b
      let b := { b with due := b.due.filter (fun d => !isOutputOf e d) }
      refreshEngine e ((b.setEngine e { b.engine e with rounds := [], decs := [] }).wr (eObj e) 0xC 0)
    else refreshEngine e b
  else if sub = 2 || sub = 4 then
    let b := b.wr (eObj e) sub v
    if b.engOn e then settleEngine e b else refreshEngine e b
  else b.wr (eObj e) sub v

/-- A value of an engine subindex is in range (R139). -/
def engineValueOk (sub v : Nat) : Bool :=
  match sub with
  | 1 => v ≤ 1
  | 2 => rankOk v
  | 4 => decide (1 ≤ v) && decide (v ≤ 256)
  | 6 => v ≤ 1
  | 7 => decide (1 ≤ v) && decide (v ≤ 4096)
  | 9 | 10 => decide (1 ≤ v) && decide (v ≤ 64)
  | _ => true

/-- The three thresholds of a lane are legal together (R132). -/
def thresholdsOk (u l h : Int) : Bool := decide (l + 2 * h < u)

/-! ### Indigo signals at a position (R134) -/

/-- The lane's latest output whose term is merged at or before a position. -/
def Block.indAt (b : Block) (l pos : Nat) : Option IndPoint := (b.lane l).ind.find? (fun p => p.pos ≤ pos)

/-- The lane's output whose term is merged exactly at a position. -/
def Block.indNow (b : Block) (l pos : Nat) : Option IndPoint := (b.lane l).ind.find? (fun p => p.pos == pos)

end Sys2Proof.Machine
end

