-- ==== Sys2Proof/Machine/Stop.lean ====
section
/-! DEFINITION. How a domain stops (05_trigger_sequencer.md R170 to R173): requests in the order of R172, and how one becomes
known. -/

namespace Sys2Proof.Machine

/-- Stop reasons (R173). -/
def srNONE : Nat := 0
def srACTION : Nat := 1
def srSOFTWARE : Nat := 2
def srMASK : Nat := 3
def srSTORE : Nat := 4
def srCHAIN : Nat := 5
def srFAULT : Nat := 6

/-- Place of a stop's source in the order of R172: the list's order, a fault stop after it. -/
def stopRank (reason : Nat) : Nat := reason

/-- Stops that become known (R172, R173): the domain is STOPPING from the first that is known, and the reason is that of the one
that applies among those known. -/
def knowStop (t : Nat) (b : Block) : Block :=
  match firstStop ((b.dom t).stops.filter (fun s => decide (s.known ≤ b.time.abs))) with
  | some s => if b.armed t then (b.wr (0x5100 + t) 2 2).wr (0x5100 + t) 4 s.reason else b
  | none => b

/-- A stop after position `pos`, known in frame `known` (R172). -/
def requestStop (t pos reason known : Nat) (b : Block) : Block :=
  if !b.armed t then b
  else
    let d := b.dom t
    let new : StopReq := { pos := pos, rank := stopRank reason, reason := reason, known := known }
    knowStop t (b.setDom t { d with stops := d.stops ++ [new] })

/-- The domain evaluates a position: it is evaluated from its first frame on, up to its stop (R171, R172). -/
def Block.evaluates (b : Block) (t pos : Nat) : Bool :=
  let d := b.dom t
  b.armed t &&
  (match d.first with | some f => decide (f * 32 ≤ pos) | none => false) &&
  (match d.stop with | some s => decide (pos ≤ s.pos) | none => true)

/-- A fault stop of a domain detected now: it is known in the frame after detection and takes effect after its last sample
(R172, R377). -/
def faultStop (t : Nat) (b : Block) : Block :=
  requestStop t ((b.time.abs + 1) * 32 + 31) srFAULT (b.time.abs + 1) b

/-- A fault detected now is what stops the domain (DOMAIN_STOPPED of R269): it is armed and no stop requested before applies
in its place (R172). DEDUCED (log 34): an error that comes after the stop that applies has not stopped the domain. -/
def Block.faultApplies (b : Block) (t : Nat) : Bool :=
  b.armed t &&
  (match (b.dom t).stop with
  | none => true
  | some old => StopReq.beats { pos := (b.time.abs + 1) * 32 + 31, rank := stopRank srFAULT, reason := srFAULT, known := b.time.abs + 1 } old)

end Sys2Proof.Machine
end

