-- ==== Sys2Proof/Machine/Terms.lean ====
section
/-! DEFINITION. Terms and branches of the sequencer (05_trigger_sequencer.md R144 to R150, R159 to R163): when a term slot is
true at a sample and which instant it contributes, and when a branch matches. -/

namespace Sys2Proof.Machine

/-- Instant that a true term contributes: timestamp, class as in the QUALITY encoding of R163, INDIGO_COARSE. -/
structure Inst where
  ts : Nat
  cls : Nat
  coarse : Bool
  deriving DecidableEq, Repr

/-- Classes of an instant (R163). -/
def clsSAMPLE : Nat := 4
def clsINDIGO : Nat := 5
def clsCASCADE : Nat := 6
def clsFORCED : Nat := 7

/-- The instant of class SAMPLE at a position. -/
def sampleInst (b : Block) (pos : Nat) : Inst := { ts := b.tsPos pos, cls := clsSAMPLE, coarse := false }

/-- The instant of an edge. -/
def edgeInst (b : Block) (e : Edge) : Inst := { ts := b.tsSsu e.ssu, cls := e.q, coarse := false }

/-! ### Term slots as configuration (R145) -/

def levelObj (t l : Nat) : Nat := 0x5200 + 16 * t + l
def patObj (t p : Nat) : Nat := 0x5300 + 16 * t + p
def widthObj (t w : Nat) : Nat := 0x5400 + 16 * t + w

/-- Term slot `s` of a level. -/
def Block.slotWord (b : Block) (t l s : Nat) : Nat := b.rd (levelObj t l) (s + 1)
/-- Condition word of branch 0 (A) or 1 (B) of a level. -/
def Block.condWord (b : Block) (t l br : Nat) : Nat := b.rd (levelObj t l) (5 + 2 * br)
/-- Action word of a branch. -/
def Block.actWord (b : Block) (t l br : Nat) : Nat := b.rd (levelObj t l) (6 + 2 * br)

/-- A slot is used: a branch of its level includes it (R24). -/
def Block.slotUsed (b : Block) (t l s : Nat) : Bool := bit (b.condWord t l 0) s || bit (b.condWord t l 1) s

/-- The used term slots of a domain, as words. -/
def Block.usedSlots (b : Block) (t : Nat) : List Nat :=
  (List.range 16).flatMap (fun l => ((List.range 4).filter (b.slotUsed t l)).map (b.slotWord t l))

/-- A term slot word is legal (R145). -/
def termOk (w : Nat) : Bool :=
  let p := bits w 0 28
  match bits w 28 4 with
  | 0 | 1 => p == 0
  | 2 => decide (p < 2 ^ 11) && bits p 9 2 != 0
  | 3 => decide (p < 2 ^ 6) && bits p 4 2 != 3
  | 4 => decide (p < 2 ^ 4)
  | 5 => decide (p < 2 ^ 18) && bits p 9 2 != 0 && decide (2 ≤ bits p 11 7) && decide (bits p 11 7 ≤ 64)
  | 6 => decide (p < 2 ^ 13) && decide (bits p 9 3 ≤ 5)
  | 7 => decide (p < 2 ^ 4)
  | 8 => decide (p < 2 ^ 6)
  | 9 => decide (p < 2 ^ 3)
  | 10 | 11 | 12 => decide (p < 2 ^ 3)
  | _ => false

/-- An action word is legal (R150). -/
def actionOk (w : Nat) : Bool := decide (w < 2 ^ 27) && bits w 4 2 != 3 && !(bit w 1 && bit w 2)

/-- Lanes of a pattern unit's MASK with their VALUE (R146). -/
def Block.patMask (b : Block) (t p : Nat) : List (Nat × Bool) :=
  (List.range 16).flatMap (fun k =>
    let m := b.rd (patObj t p) (2 + k)
    let v := b.rd (patObj t p) (0x12 + k)
    (setBits 32 m).map (fun i => (32 * k + i, bit v i)))

/-! ### Level values -/

/-- Match of a pattern unit at a position (R146). -/
def Block.patMatch (b : Block) (mask : List (Nat × Bool)) (negate : Bool) (pos : Nat) : Bool :=
  (mask.all (fun x => b.fAt x.1 pos == x.2)) != negate

/-- Level of TRIG_IN0 or TRIG_IN1 at a position. -/
def Block.trigIn (b : Block) (i pos : Nat) : Bool :=
  match b.packet? (pos / 32) with
  | some p => (if i = 0 then p.trig0 else p.trig1).getD (pos % 32) false
  | none => false

/-- Value of a counter (R155). -/
def Block.counter (b : Block) (t c : Nat) : Nat := b.rd (0x5500 + t) (0x19 + c)

/-- EXPIRED of a timer at a position (R156). -/
def Timer.expiredAt (x : Timer) (pos : Nat) : Bool := x.due != 0 && decide (x.due ≤ pos)

/-- A timer of a domain. -/
def Dom.timer (d : Dom) (m : Nat) : Timer := look (fun _ => Timer.reset) d.timers m

/-! ### Events -/

/-- The edge of a lane placed at a position (R144). -/
def Block.edgePlaced (b : Block) (l pos : Nat) : Option Edge :=
  (b.edgesNaming l (pos / 32)).find? (fun e => e.ssu / 64 == pos)

/-- The latest of some edges. -/
def latestEdge : List Edge → Option Edge
  | [] => none
  | e :: es => match latestEdge es with
    | some x => if e.ssu ≤ x.ssu then some x else some e
    | none => some e

/-- The latest edge that the MASK lanes place where f changes at position `at_` (R145). -/
def Block.maskEdge (b : Block) (mask : List (Nat × Bool)) (at_ : Nat) : Option Edge :=
  latestEdge (mask.filterMap (fun x => (b.edgesAt x.1 (at_ / 32)).find? (fun e => e.at_ == at_)))

/-- Length, in positions and up to `n`, of the run of h at its value at `pos` that ends there (R148); void positions carry the h of
the sample before them (R354). -/
def Block.hRun (b : Block) (l : Nat) (v : Bool) : Nat → Nat → Nat
  | 0, _ => 0
  | n + 1, pos => if b.hAt l pos != v then 0 else b.hRun l v n (pos - 1) + 1

/-- A glitch shorter than `n` ends after position `pos` (R148): the kinds are 1 high, 2 low, 3 either. -/
def Block.glitchAt (b : Block) (l kind n pos : Nat) : Bool :=
  let v := b.hAt l pos
  let nx := b.nextPos pos
  let run := b.hRun l v 64 pos
  -- the pulse starts at the first position of the run and ends at `nx`
  !b.isVoid pos && b.hAt l nx != v && (if v then bit kind 0 else bit kind 1) && decide (run + (nx - pos) - 1 < n)

/-! ### Width units (R147) -/

/-- The lane, level, OUTSIDE, MIN and MAX of a width unit. -/
structure WidthCfg where
  lane : Nat
  v : Bool
  outside : Bool
  min : Nat
  max : Nat
  deriving DecidableEq, Repr

def Block.widthCfg (b : Block) (t w : Nat) : WidthCfg :=
  let o := widthObj t w
  { lane := b.rd o 1, v := bit (b.rd o 2) 0, outside := bit (b.rd o 2) 1, min := b.rd o 3, max := b.rd o 4 }

/-- One position of a width unit: whether its term is true there, with the instant, and the unit afterwards. DESIGN CHOICE (log 45):
an OUTSIDE timeout that falls on a void position is true at the next real sample. -/
def widthStep (b : Block) (c : WidthCfg) (pos : Nat) (x : Width) : Option Inst × Width :=
  if b.isVoid pos then (none, x)
  else
    match b.edgePlaced c.lane pos with
    | some e =>
      if e.rise == c.v then (none, { on := true, start := pos, told := false })
      else
        let w := pos - x.start
        let hit := x.on && !x.told && (if c.outside then decide (w < c.min) else decide (c.min ≤ w) && decide (w ≤ c.max))
        let late := x.on && !x.told && c.outside && decide (x.start + c.max + 1 ≤ pos)
        (if hit then some (edgeInst b e) else if late then some (sampleInst b pos) else none, Width.reset)
    | none =>
      if x.on && !x.told && c.outside && decide (x.start + c.max + 1 ≤ pos) then (some (sampleInst b pos), { x with told := true })
      else (none, x)

/-- A width unit over `n` positions from `pos`: the positions at which its term is true, with instants, and the unit after. -/
def widthRun (b : Block) (c : WidthCfg) : Nat → Nat → Width → List (Nat × Inst) × Width
  | 0, _, x => ([], x)
  | n + 1, pos, x =>
    let r := widthStep b c pos x
    let rest := widthRun b c n (pos + 1) r.2
    ((match r.1 with | some i => [(pos, i)] | none => []) ++ rest.1, rest.2)

/-! ### Terms at a sample -/

/-- What the evaluation of one frame of a domain has beside the block: the width units' terms of the frame by unit. -/
abbrev WidthTerms := List (Nat × List (Nat × Inst))

/-- A received cascade bit applies to a position (R371, R372): at sample 0 of its frame only. The chain bits of an ORPHAN module
read 0 (R372). -/
def Block.cascAt (b : Block) (k pos : Nat) : Bool :=
  pos % 32 == 0 && bit (look (fun _ => 0) b.casc (pos / 32)) k && !(b.rd 0x2200 4 == 4 && bit (b.rd 0x2220 2) k)

/-- A stimulus marker of the domain is set for a position (R316). -/
def Block.markerAt (b : Block) (t m pos : Nat) : Bool := (b.stim t).marks.any (fun x => x.1 == pos && bit x.2 m)

/-- The term bit of a protocol term unit at a position (R191, R193): PULSE, a matching item is marked there; HOLD, the latest item
marked at or before it matched. -/
def protocolAt (b : Block) (u pos : Nat) : Bool :=
  let ms := (b.ptu u).marks
  if b.rd (0x5810 + u) 9 = 0 then ms.any (fun x => x.1 == pos && x.2)
  else match ms.find? (fun x => decide (x.1 ≤ pos)) with
    | some x => x.2
    | none => false

/-- Whether the term in slot word `w` is true at `pos`, with its instant (R145). -/
def termAt (b : Block) (t : Nat) (ws : WidthTerms) (w pos : Nat) : Option Inst :=
  let p := bits w 0 28
  let here := sampleInst b pos
  let lvl := fun (v : Bool) => if v then some here else none
  match bits w 28 4 with
  | 1 => some here
  | 2 =>
    match b.edgePlaced (bits p 0 9) pos with
    | some e => if bit (bits p 9 2) (if e.rise then 0 else 1) then some (edgeInst b e) else none
    | none => none
  | 3 =>
    let u := bits p 0 4
    let mask := b.patMask t u
    let neg := bit (b.rd (patObj t u) 1) 0
    let m := b.patMatch mask neg pos
    let nx := b.nextPos pos
    let ev := fun (_ : Unit) => match b.maskEdge mask nx with | some e => edgeInst b e | none => here
    (match bits p 4 2 with
    | 0 =>
      if !m then none
      else if b.isVoid pos || b.patMatch mask neg (b.prevPos pos) then some here
      else match b.maskEdge mask pos with | some e => some (edgeInst b e) | none => some here
    | 1 => if !b.isVoid pos && !m && b.patMatch mask neg nx then some (ev ()) else none
    | _ => if !b.isVoid pos && m && !b.patMatch mask neg nx then some (ev ()) else none)
  | 4 => ((look (fun _ => []) ws (bits p 0 4)).find? (fun x => x.1 == pos)).map Prod.snd
  | 5 => lvl (b.glitchAt (bits p 0 9) (bits p 9 2) (bits p 11 7) pos)
  | 6 =>
    let l := bits p 0 9
    let k := bits p 9 3
    -- no event term is placed at a void position (R354)
    let pt := if k ≤ 1 then b.indAt l pos else if b.isVoid pos then none else b.indNow l pos
    (match pt with
    | some x =>
      let on := match k with | 0 => x.zone == 1 | 1 => x.zone == 2 | _ => bit x.events (k - 2)
      if on && !(bit p 12 && bit x.flags 0) then some { ts := x.t, cls := clsINDIGO, coarse := bit x.flags 0 } else none
    | none => none)
  | 7 => lvl (protocolAt b (bits p 0 4) pos)
  | 8 => if b.cascAt (bits p 0 6) pos then some { here with cls := clsCASCADE } else none
  | 9 =>
    let i := bits p 0 1
    let v := b.trigIn i pos
    let nx := b.trigIn i (b.nextPos pos)
    (match bits p 1 2 with
    | 0 => lvl v
    | 1 => lvl (!v)
    | 2 => lvl (!b.isVoid pos && !v && nx)
    | _ => lvl (!b.isVoid pos && v && !nx))
  | 10 => lvl (b.markerAt t (bits p 0 3) pos)
  | 11 => lvl (decide (b.rd (0x5500 + t) (0x11 + bits p 0 3) ≤ b.counter t (bits p 0 3)))
  | 12 => lvl (((b.dom t).timer (bits p 0 3)).expiredAt pos)
  | _ => none

/-- The terms of the four slots of a level at a position. -/
def levelTerms (b : Block) (t : Nat) (ws : WidthTerms) (l pos : Nat) : List (Option Inst) :=
  (List.range 4).map (fun s => if b.slotUsed t l s then termAt b t ws (b.slotWord t l s) pos else none)

/-! ### Branches (R149) -/

/-- A branch with condition word `c` matches, given its level's terms. -/
def branchMatch (c : Nat) (terms : List (Option Inst)) : Bool :=
  let use := fun s => bit c s
  let v := fun s => (terms.getD s none).isSome != bit c (4 + s)
  let and_ := fun (ss : List Nat) => ss.all (fun s => !use s || v s)
  let or_ := fun (ss : List Nat) => ss.any (fun s => use s && v s)
  let has := fun (ss : List Nat) => ss.any use
  if bits c 0 4 = 0 then false
  else match bits c 8 2 with
    | 0 => and_ [0, 1, 2, 3]
    | 1 => or_ [0, 1, 2, 3]
    | 2 => (has [0, 1] && and_ [0, 1]) || (has [2, 3] && and_ [2, 3])
    | _ => (!has [0, 1] || or_ [0, 1]) && (!has [2, 3] || or_ [2, 3])

/-- The placing slot of a branch, if it has one, with its instant (R162). -/
def placingSlot (c : Nat) (terms : List (Option Inst)) : Option (Nat × Inst) :=
  let ok := (List.range 4).filterMap (fun s =>
    if bit c s && !bit c (4 + s) then (terms.getD s none).map (fun i => (s, i)) else none)
  match ok.find? (fun x => decide (x.2.cls < 4)) with
  | some x => some x
  | none => ok.head?

/-- The instant of a branch (R162). -/
def branchInst (b : Block) (pos : Nat) (slot : Option (Nat × Inst)) : Inst :=
  match slot with
  | some x => x.2
  | none => sampleInst b pos

/-- The coincidence word of a position (R160). -/
def coincidenceWord (b : Block) (t : Nat) (ws : WidthTerms) (pos : Nat) : Nat :=
  maskOf ((List.range 16).flatMap (fun l =>
    ((List.zip (List.range 4) (levelTerms b t ws l pos)).filter (fun x => x.2.isSome)).map (fun x => 4 * l + x.1)))

end Sys2Proof.Machine
end

