-- ==== Sys2Proof/Machine/Records.lean ====
section
/-! DEFINITION. The data records of a frame (08_record_layouts.md R257 to R264): FULL4 and BIN1 on the stride grid, TRANS,
STATE with its reconstructed clocks (05_trigger_sequencer.md R167 to R169) and INDIGO. -/

namespace Sys2Proof.Machine

/-- A record with the timestamp of its first data item, if it carries data. -/
structure Rec where
  ts : Option Nat
  words : List Nat
  deriving DecidableEq, Repr

/-- Mask of pods. -/
def podMask (pods : List Nat) : Nat := maskOf pods

/-- Entries of 32 bits, two to a word (R261). -/
def pack32 : List Nat → List Nat
  | a :: c :: rest => (a + c * 2 ^ 32) :: pack32 rest
  | [a] => [a]
  | [] => []

/-- Units of 16 bits, four to a word (R260). -/
def pack16 : List Nat → List Nat
  | a :: c :: d :: e :: rest => (a + c * 2 ^ 16 + d * 2 ^ 32 + e * 2 ^ 48) :: pack16 rest
  | [a, c, d] => [a + c * 2 ^ 16 + d * 2 ^ 32]
  | [a, c] => [a + c * 2 ^ 16]
  | [a] => [a]
  | [] => []

/-! ### Stored samples (R215) -/

/-- Stride exponent of a domain. -/
def Block.strideK (b : Block) (t : Nat) : Nat := b.rd (0x6100 + t) 1

/-- Global sample number of a position (R113). -/
def Block.globalNo (b : Block) (pos : Nat) : Nat := b.numOf (pos / 32) * 32 + pos % 32

/-- The position lies on the stride grid. -/
def Block.onGrid (b : Block) (t pos : Nat) : Bool := b.globalNo pos % 2 ^ b.strideK t == 0

/-- The stored samples of a frame within a capture unit that spans positions `lo` to `hi`. -/
def Block.storedIn (b : Block) (t a lo hi : Nat) : List Nat :=
  ((List.range 32).map (fun i => a * 32 + i)).filter (fun p => decide (lo ≤ p) && decide (p ≤ hi) && b.onGrid t p)

/-- The word of a pod at one stored sample: 16 codes (R259). -/
def fullWord (p : Packet) (n i : Nat) : Nat :=
  (List.range 16).foldr (fun m acc => acc * 16 + (p.lane (16 * n + m)).c.getD i 0) 0

/-- The filtered bits of a pod at one sample (R260). -/
def binUnit (p : Packet) (n i : Nat) : Nat :=
  (List.range 16).foldr (fun m acc => acc * 2 + b2n ((p.lane (16 * n + m)).f.getD i false)) 0

/-- The FULL4 (type 2) or BIN1 (type 3) record of a frame, if it has a stored sample (R257, R259, R260). -/
def sampleRecord (b : Block) (t type a lo hi : Nat) : List Rec :=
  match b.packet? a, b.storedIn t a lo hi with
  | some p, j0 :: rest =>
    let js := j0 :: rest
    let pods := b.podsOf t
    let units := pods.flatMap (fun n => js.map (fun j => if type = 2 then fullWord p n (j % 32) else binUnit p n (j % 32)))
    let body := if type = 2 then units else pack16 units
    let w1 := b.globalNo j0 * 64 + rest.length
    [{ ts := some (b.tsPos j0), words := headerWord type t (2 + body.length) (min (b.strideK t) 7) (podMask pods) :: w1 :: body }]
  | _, _ => []

/-! ### TRANS (R261) -/

/-- Order of entries: ascending offset, then lane. -/
def entryBefore (x y : Edge) : Bool := decide (x.ssu < y.ssu) || (x.ssu == y.ssu && decide (x.lane ≤ y.lane))

/-- Insert into sorted entries. -/
def insertEdge (e : Edge) : List Edge → List Edge
  | [] => [e]
  | x :: xs => if entryBefore e x then e :: x :: xs else x :: insertEdge e xs

/-- An edge's entry. -/
def transEntry (e : Edge) : Nat :=
  e.lane * 2 ^ 23 + b2n e.rise * 2 ^ 22 + e.q * 2 ^ 20 + e.step * 2 ^ 16 + e.ssu % 2048

/-- Records of at most 4,096 entries each. -/
def transRecords (b : Block) (t a : Nat) : Nat → List Edge → List Rec
  | 0, _ => []
  | _, [] => []
  | n + 1, es =>
    let now := es.take 4096
    let rest := es.drop 4096
    let body := pack32 (now.map transEntry)
    let w0 := headerWord 4 t (2 + body.length) 0 (now.length + (if rest.isEmpty then 0 else 2 ^ 13))
    { ts := (now.head?).map (fun e => b.tsSsu e.ssu), words := w0 :: b.tsPos (a * 32) :: body } :: transRecords b t a n rest

/-- The TRANS records of a frame: edges placed at positions `lo` to `hi`. -/
def transOf (b : Block) (t a lo hi : Nat) : List Rec :=
  let es := (b.lanesOf t).flatMap (fun l => b.edgesNaming l a)
  let es := es.filter (fun e => decide (lo ≤ e.ssu / 64) && decide (e.ssu / 64 ≤ hi))
  transRecords b t a (es.length + 1) (es.foldr insertEdge [])

/-! ### STATE (R167 to R169, R262) -/

/-- Clock slot word, its lane, edges and offset (R180). -/
def Block.clockWord (b : Block) (t k : Nat) : Nat := b.rd (0x5530 + t) (k + 1)
def ckLane (w : Nat) : Nat := bits w 0 9
def ckEdges (w : Nat) : Nat := bits w 9 2
def ckOffset (w : Nat) : Int := signed (bits w 16 16) 16
/-- A clock slot word is legal (R180). -/
def clockWordOk (w : Nat) : Bool :=
  bits w 11 5 == 0 && decide (-1024 ≤ ckOffset w) && decide (ckOffset w ≤ 1023)
/-- The clock slots in use. -/
def Block.clocksUsed (b : Block) (t : Nat) : List Nat := (List.range 8).filter (fun k => ckEdges (b.clockWord t k) != 0)
/-- The pods of the domain that are assigned to a clock slot. -/
def Block.clockPods (b : Block) (t k : Nat) : List Nat := (b.podsOf t).filter (fun n => b.rd (0x5530 + t) (9 + n) == k)

/-- A state sample: τ in absolute SSU, the edge, index, MARGINAL, units of its pods. -/
structure StateSample where
  tau : Nat
  edge : Edge
  index : Nat
  marginal : Bool
  units : List Nat
  deriving DecidableEq, Repr

/-- The bit of a data lane at τ (R168). -/
def stateBit (b : Block) (l tau : Nat) : Bool :=
  let s := tau / 64
  match b.edgePlaced l s with
  | some e => if e.ssu % 64 ≤ tau % 64 then b.fAt l (b.nextPos s) else b.fAt l s
  | none => b.fAt l s

/-- A data lane has an edge within GUARD of τ (R168). -/
def stateMarginal (b : Block) (l tau guard : Nat) : Bool :=
  let s := tau / 64
  [b.prevPos s, s, b.nextPos s].any (fun p =>
    match b.edgePlaced l p with | some e => decide (dist e.ssu tau ≤ guard) | none => false)

/-- The used edges of a clock slot whose τ names frame `a`, in ascending τ (R168): placed at evaluated positions. DESIGN CHOICE (log 45): a τ
that names a frame before the capture's first or after its stop's gives no state sample; a clock edge behind the sample of a STOP action
whose τ names an earlier frame still gives one, since that frame is released before the stop is found. -/
def clockEdges (b : Block) (t a w : Nat) : List (Nat × Edge) :=
  let es := [a - 1, a, a + 1].flatMap (fun f => b.edgesNaming (ckLane w) f)
  let es := es.filter (fun e => bit (ckEdges w) (if e.rise then 0 else 1) && b.evaluates t (e.ssu / 64))
  let ends := (b.dom t).stop.map (fun s => s.pos / 32) == some a
  (es.map (fun e => (((e.ssu : Int) + ckOffset w).toNat, e))).filter (fun x =>
    x.1 / 2048 == a || ((b.dom t).first == some a && decide (x.1 / 2048 < a)) || (ends && decide (a < x.1 / 2048)))

/-- The state samples of one clock slot in a frame: edges too close to the previous used edge are dropped and counted
(R169). -/
def stateSamples (t k a : Nat) (b : Block) : List StateSample × Block :=
  let w := b.clockWord t k
  let pods := b.clockPods t k
  let guard := b.rd (0x5530 + t) 0x29
  let d := b.dom t
  let c0 := look (fun _ => ClockSlot.reset) d.clocks k
  let step := fun (acc : List StateSample × ClockSlot × Nat) (x : Nat × Edge) =>
    let c := acc.2.1
    if c.last != 0 && x.2.ssu + 1 < c.last + 96 then (acc.1, { c with last := x.2.ssu + 1 }, acc.2.2 + 1)
    else
      let lanes := pods.flatMap (fun n => (List.range 16).map (fun m => 16 * n + m))
      let s : StateSample :=
        { tau := x.1, edge := x.2, index := c.index, marginal := lanes.any (fun l => stateMarginal b l x.1 guard),
          units := pods.map (fun n => (List.range 16).foldr (fun m u => u * 2 + b2n (stateBit b (16 * n + m) x.1)) 0) }
      if x.1 / 2048 != a then (acc.1, { c with last := x.2.ssu + 1 }, acc.2.2)
      else (acc.1 ++ [s], { last := x.2.ssu + 1, index := (c.index + 1) % 2 ^ 32 }, acc.2.2)
  let r := (clockEdges b t a w).foldl step ([], c0, 0)
  let b := b.setDom t { d with clocks := place (fun _ => ClockSlot.reset) d.clocks k r.2.1 }
  (r.1, if r.2.2 = 0 then b else b.flag (0x5100 + t) 0xC 0xD r.2.2)

/-- The STATE record of one clock slot in a frame (R262). -/
def stateRecord (b : Block) (t k a : Nat) (ss : List StateSample) : List Rec :=
  if ss.isEmpty then []
  else
    let body := ss.flatMap (fun s =>
      (s.index * 2 ^ 32 + b2n s.edge.rise * 2 ^ 13 + b2n (s.edge.q == 3) * 2 ^ 12 + b2n s.marginal * 2 ^ 11 + s.tau % 2048)
        :: pack16 s.units)
    [{ ts := (ss.head?).map (fun s => b.tsSsu s.tau),
       words := headerWord 5 t (2 + body.length) k (podMask (b.clockPods t k)) :: b.tsPos (a * 32) :: body }]

/-- The STATE records of a frame, in ascending clock slot. -/
def stateOf (t a : Nat) (b : Block) : List Rec × Block :=
  (b.clocksUsed t).foldl (fun acc k =>
    let r := stateSamples t k a acc.2
    (acc.1 ++ stateRecord acc.2 t k a r.1, r.2)) ([], b)

/-! ### INDIGO (R263, R264) -/

/-- The entry of a slot's output. -/
def indigoEntry (k : Nat) (p : IndPoint) : Nat :=
  k * 2 ^ 25 + p.events * 2 ^ 21 + p.zone * 2 ^ 19 + bit' p.flags 2 * 2 ^ 18 + bit' p.flags 1 * 2 ^ 17 + bit' p.flags 0 * 2 ^ 16 +
    unsigned p.y 16
where
  /-- A bit as a number. -/
  bit' (w i : Nat) : Nat := b2n (bit w i)

/-- The INDIGO record of an engine's round. -/
def indigoRecord (t e kind t0 : Nat) (xs : List (Nat × IndPoint)) : Rec :=
  let body := pack32 (xs.map (fun x => indigoEntry x.1 x.2))
  { ts := some t0, words := headerWord 6 t (2 + body.length) 0 (xs.length * 2 ^ 8 + kind * 2 ^ 6 + e) :: t0 :: body }

/-- The enabled engines that serve the domain's pods. -/
def Block.enginesOf (b : Block) (t : Nat) : List Nat :=
  ((b.podsOf t).flatMap (fun n => [2 * n, 2 * n + 1])).filter b.engOn

/-- The lanes that INDIGO terms in used slots name (R264). -/
def Block.indigoLanes (b : Block) (t : Nat) : List Nat :=
  (b.usedSlots t).filterMap (fun w => if bits w 28 4 = 6 then some (bits w 0 9) else none)

/-- The first frame in which a stop of the domain is known: it is STOPPING from then on (R172). -/
def Block.stoppingFrom (b : Block) (t : Nat) : Option Nat := ((b.dom t).stops.map (·.known)).min?

/-- The domain was ARMED in frame `x` (R26, R172). -/
def Block.armedIn (b : Block) (t x : Nat) : Bool :=
  let d := b.dom t
  (match d.first with | some f => decide (f ≤ x + 2) | none => false) && (match b.stoppingFrom t with | some k => decide (x < k) | none => true)

/-- The INDIGO records staged with a frame (R121, R264): outputs in INDIGO-REC, else the events of the lanes that terms name; an
event is written only where the domain is ARMED in the frame E+6 that stages it. -/
def indigoOf (b : Block) (t a : Nat) : List Rec :=
  (b.enginesOf t).flatMap (fun e => ((b.engine e).rounds.filter (fun r => r.abs == a)).flatMap (fun r =>
    let outs := List.zip (List.range 8) r.outs
    if b.mode t = 9 then [indigoRecord t e 0 r.t0 outs]
    else
      let lanes := b.indigoLanes t
      let xs := outs.filter (fun x => x.2.events != 0 && lanes.contains (8 * e + x.1) && b.armedIn t (x.2.pos / 32 + 4))
      if xs.isEmpty then [] else [indigoRecord t e 1 r.t0 xs]))

/-! ### A frame's data records (R254) -/

/-- The data records of a frame within a capture unit from `lo` to `hi`, in their order. -/
def dataRecords (t a lo hi : Nat) (b : Block) : List Rec × Block :=
  match b.dataType t with
  | 2 => (sampleRecord b t 2 a lo hi ++ indigoOf b t a, b)
  | 3 => (sampleRecord b t 3 a lo hi ++ indigoOf b t a, b)
  | 4 => (transOf b t a lo hi ++ indigoOf b t a, b)
  | 5 => let r := stateOf t a b; (r.1 ++ indigoOf b t a, r.2)
  | _ => (indigoOf b t a, b)

end Sys2Proof.Machine
end

