-- ==== Sys2Proof/Machine/Store.lean ====
section
/-! DEFINITION. The capture store (07_capture_store_and_segments.md R203 to R240): regions and clearing, the bandwidth budget,
staging and dropped frames, rings, segments and streaming, commit and the end of a capture. -/

namespace Sys2Proof.Machine

/-! ### Units and regions -/

/-- Bytes of a unit (R203). -/
def unitBytes : Nat := 2097152

/-- Installed units (R203). -/
def Block.installed (b : Block) : Nat := match b.part with | .h48 => 24576 | .h24 => 12288

/-- First unit and size of region `r`: 0 to 7 the domains, 8 stimulus (R204, R242). -/
def Block.regionFirst (b : Block) (r : Nat) : Nat := bits (b.rd 0x6000 (r + 1)) 0 16
def Block.regionSize (b : Block) (r : Nat) : Nat := bits (b.rd 0x6000 (r + 1)) 16 16

/-- The region that holds a unit. -/
def Block.regionOfUnit (b : Block) (u : Nat) : Option Nat :=
  (List.range 9).find? (fun r => decide (b.regionFirst r ≤ u) && decide (u < b.regionFirst r + b.regionSize r))

/-- Clear `n` units from `lo` on (R208). -/
def clearUnits (lo n : Nat) (b : Block) : Block :=
  if n = 0 then b
  else { b with
    units := dropKeys (fun u => decide (lo ≤ u) && decide (u < lo + n)) b.units,
    mops := b.mops ++ [.clear (lo * unitBytes) ((lo + n) * unitBytes)] }

/-- Clear every unit (R208). -/
def clearAllUnits (b : Block) : Block := clearUnits 0 b.installed b

/-- Clear a region. -/
def clearRegion (r : Nat) (b : Block) : Block := clearUnits (b.regionFirst r) (b.regionSize r) b

/-- Two runs of units overlap. -/
def runsOverlap (f1 n1 f2 n2 : Nat) : Bool := decide (0 < n1) && decide (0 < n2) && decide (f1 < f2 + n2) && decide (f2 < f1 + n1)

/-- Status of an allocation write (R204). -/
def regionStatus (b : Block) (r v : Nat) : Nat :=
  let n := bits v 16 16
  let f := bits v 0 16
  if n != 0 && b.installed < f + n then stRANGE
  else if (List.range 9).any (fun q => q != r && runsOverlap f n (b.regionFirst q) (b.regionSize q)) then stREFUSED
  else stOK

/-- An accepted allocation write: units that join, leave or stay are cleared (R205). -/
def setRegion (r v : Nat) (b : Block) : Block :=
  let b := clearRegion r b
  clearRegion r (b.wr 0x6000 (r + 1) v)

/-- Free units (R242). -/
def Block.freeUnits (b : Block) : Nat := b.installed - ((List.range 9).map b.regionSize).sum

/-- The writer's first write into a unit makes it FILLING (R209). -/
def fillUnit (addr : Nat) (b : Block) : Block :=
  let u := addr / unitBytes
  if b.unit u = 0 then b.setUnit u 1 else b

/-- The FILLING units of a run become VALID, but for the one the writer is in (R209). -/
def settleUnits (lo n : Nat) (keep : Option Nat) (b : Block) : Block :=
  { b with units := b.units.map (fun x =>
      if decide (lo ≤ x.1) && decide (x.1 < lo + n) && x.2 == 1 && keep != some x.1 then (x.1, 2) else x) }

/-! ### The budget (R217, R218) -/

/-- The domain's safe pattern is configured (R290, R297). -/
def Block.safeOn (b : Block) (t : Nat) : Bool := bit (b.rd (0x6840 + t) 3) 0

/-- The data charge of FULL4 or BIN1 in units of 1 / 2^k B per frame, with n = 32 / 2^k stored samples per frame. -/
def dataCharge (type pods k : Nat) : Nat :=
  let per := if type = 2 then 8 else 2
  per * pods * 32 + 16 * (if 5 ≤ k then 32 else 2 ^ k)

/-- The charge of a domain, rounded up to a whole byte (R217). -/
def Block.charge (b : Block) (t : Nat) : Nat :=
  let m := b.mode t
  let pods := (b.podsOf t).length
  let k := b.strideK t
  let data := match b.dataType t with
    | 2 => (dataCharge 2 pods k : Rat) / ((2 ^ k : Nat) : Rat)
    | 3 => (dataCharge 3 pods k : Rat) / ((2 ^ k : Nat) : Rat)
    | 4 | 5 => (b.rd (0x6100 + t) 6 : Rat)
    | 6 => ((b.enginesOf t).map (fun e => (32 : Rat) / (b.engD e : Rat))).sum
    | _ => 0
  let rep := if needsRegion m then 128 else 0
  let stim := if m = 0xA || m = 0xB || (m = 8 && b.safeOn t) then 32 * pods else 0
  (data.ceil.toNat) + rep + stim

/-- Budget limit and budget in use (R218). -/
def Block.budgetLimit (b : Block) : Nat := match b.part with | .h48 => 11264 | .h24 => 5632
def Block.budgetUsed (b : Block) : Nat := (b.armedDoms.map b.charge).sum

/-! ### Placing records (R212) -/

/-- The position at which a record of `n` bytes is placed: it never crosses a block boundary. -/
def blockFit (pos n : Nat) : Nat := if 65536 < pos % 65536 + n then (pos / 65536 + 1) * 65536 else pos

/-- Place records from `pos` on, `limit` the position that none may pass: positions with words, end words included, and the
position after them. -/
def placeRecords (limit : Option Nat) : Nat → List (List Nat) → Option (List (Nat × List Nat) × Nat)
  | pos, [] => some (if pos % 65536 = 0 then [] else [(pos, [0])], pos)
  | pos, r :: rs =>
    let n := 8 * r.length
    let p := blockFit pos n
    if (match limit with | some l => decide (l < p + n) | none => false) then none
    else
      match placeRecords limit (p + n) rs with
      | none => none
      | some (ws, e) => some ((if p != pos && pos % 65536 != 0 then [(pos, [0])] else []) ++ (p, r) :: ws, e)

/-- Words placed at store addresses. -/
def atAddr (f : Nat → Nat) (ws : List (Nat × List Nat)) : List (Nat × List Nat) := ws.map (fun x => (f x.1, x.2))

/-- Bytes of records. -/
def recBytes (rs : List (List Nat)) : Nat := 8 * (rs.map List.length).sum

/-- Store address of a ring position: block 0 is the header block (R213, R225). -/
def StoreDom.ringAddr (s : StoreDom) (pos : Nat) : Nat :=
  s.base + (1 + pos / 65536 % (s.size / 65536 - 1)) * 65536 + pos % 65536
/-- Store address of a FIFO position. -/
def StoreDom.fifoAddr (s : StoreDom) (pos : Nat) : Nat := s.base + pos % s.size
/-- Store address of an offset in a slot. -/
def StoreDom.slotAddr (s : StoreDom) (slot off : Nat) : Nat := s.base + slot * s.slotBytes + off

/-! ### Staging (R221) -/

/-- Bytes of records in a domain's staging outside its reserve: what the store writes beside them (header areas, SEG_HDRs, end
words, gap EVENT records) takes none of it. -/
def StoreDom.occupied (s : StoreDom) : Nat :=
  (s.staged.map (fun (f : StagedFrame) => min f.left f.recs)).sum + recBytes s.heldReports

/-- Bytes that records may fill (R221): 512 KiB less the reserve. -/
def stagingRoom : Nat := 524288 - 512

/-- Words of a trigger stamp set as a SEG_HDR carries them (R256). -/
def noTrig : List Nat := [0, 0, 0, 0, 0, 0]

/-- The SEG_HDR of a segment (R256). `close` is the close position, `reason` the close reason. -/
def segHeader (b : Block) (t : Nat) (s : StoreDom) (g : Segment) (close reason : Nat) (maskStop : Bool) : List Nat :=
  let param := b.dataType t * 2 ^ 28 + b.strideK t * 2 ^ 21 + b.mode t * 2 ^ 17 + g.openClass * 2 ^ 14 +
    (if reason = 3 then b.rd (0x5100 + t) 4 else 0) * 2 ^ 10 + reason * 2 ^ 8 + b2n maskStop * 2 ^ 6 +
    b2n g.gap * 2 ^ 3 + b2n g.late * 2 ^ 2 + b2n g.trig.isSome * 2
  let first := g.firstTs.getD (b.tsPos (((b.globalNo g.o + 2 ^ b.strideK t - 1) / 2 ^ b.strideK t) * 2 ^ b.strideK t - b.globalNo g.o + g.o))
  [headerWord 1 t 16 0 param, g.seq, s.pods * 2 ^ 32 + g.slot, g.openTs, g.reqTs,
   if b.dataType t = 2 || b.dataType t = 3 then first else g.firstTs.getD (b.tsPos g.o),
   b.tsPos close, g.dead, satTo 32 g.repDropped * 2 ^ 32 + satTo 32 g.dropped, g.woff - 256] ++ g.trig.getD noTrig

/-- The SEG_HDR of a ring capture (R227, R256). -/
def ringHeader (b : Block) (t : Nat) (s : StoreDom) (wrapped lost maskStop : Bool) (repDropped : Nat) : List Nat :=
  let param := b.dataType t * 2 ^ 28 + b.strideK t * 2 ^ 21 + b.mode t * 2 ^ 17 + clsSAMPLE * 2 ^ 14 +
    b.rd (0x5100 + t) 4 * 2 ^ 10 + 3 * 2 ^ 8 + b2n maskStop * 2 ^ 6 + b2n lost * 2 ^ 5 + b2n wrapped * 2 ^ 4 +
    b2n (s.gapCount != 0) * 2 ^ 3 + b2n s.trig.isSome * 2 + 1
  let open_ := b.tsPos s.firstPos
  let bytes := match s.blocks with
    | r :: older => older.length * 65536 + (s.wpos - r.no * 65536)
    | [] => 0
  [headerWord 1 t 16 0 param, 0, s.pods * 2 ^ 32, open_, open_, b.rd (0x6300 + t) 3, s.lastTs, 0,
   satTo 32 repDropped * 2 ^ 32 + satTo 32 s.gapCount, bytes] ++ s.trig.getD noTrig

/-! ### Segments (R228 to R233) -/

/-- The domain's class of use of the region (R213): 0 ring, 1 segmented, 2 FIFO. -/
def regionClass (m : Nat) : Nat := if segmented m then 1 else if m = 7 then 2 else 0

/-- A segment action without effect (R230). -/
def segIgnored (t : Nat) (b : Block) : Block := b.flag (0x6300 + t) 0xE 0xF 1

/-- SEG_WRAP is in force (R233). -/
def Block.segWrap (b : Block) (t : Nat) : Bool := b.mode t == 8 || bit (b.rd (0x6100 + t) 7) 1

/-- The slot in which the next segment opens. -/
def StoreDom.nextSlot (s : StoreDom) : Nat := if s.slots = 0 then 0 else s.nextSeq % s.slots

/-- The next segment would open in the protected slot (R289). -/
def slotProtected (b : Block) (t : Nat) : Bool := (b.mask t).protect == some (b.store t).nextSlot

/-- End of the previous segment as a timestamp, or the first evaluated sample (R231). -/
def prevEnd (b : Block) (s : StoreDom) : Nat :=
  match s.closing with
  | some (c, _, _) => stampAdd (b.tsPos c) 64
  | none => b.tsPos s.firstPos

/-- Position after the previous segment, or of the first evaluated sample. -/
def StoreDom.endPos (s : StoreDom) : Nat := match s.closing with | some (c, _, _) => c + 1 | none => s.firstPos

/-- The dead time before a segment that opens at position `o` with instant `openTs` (R231): all-ones where it exceeds the field
(R45); 0 where the instant lies before the end of the previous segment (DESIGN CHOICE, log entry 44). -/
def deadTime (b : Block) (s : StoreDom) (o openTs : Nat) : Nat :=
  let apart := (o - s.endPos) * 64
  if 2 ^ 64 ≤ apart then 2 ^ 64 - 1
  else if 2 ^ 63 ≤ apart then (openTs + 2 ^ 64 - prevEnd b s) % 2 ^ 64
  else (stampDiff (prevEnd b s) openTs).toNat

/-- A segment opens at position `o` (R229, R231). -/
def openSegment (t o openTs cls reqTs : Nat) (late : Bool) (b : Block) : Block :=
  let s := b.store t
  let g : Segment :=
    { seq := s.nextSeq, slot := s.nextSlot, o := o, openTs := openTs, openClass := cls, reqTs := reqTs,
      dead := deadTime b s o openTs, late := late,
      gap := false, dropped := 0, repDropped := 0, firstTs := none, trig := none, woff := 256, lastFit := none }
  let n := s.nextSeq + 1
  let b := b.setStore t { s with
      seg := some g, zeroDue := true, deferred := none, nextSeq := n,
      history := ({ slot := g.slot, seq := g.seq, o := o, c := none } :: s.history).take 64 }
  b.wr (0x6300 + t) 7 (if n ≤ s.slots then 0 else n % s.slots)

/-- The position at which a segment closes by its length (R229). -/
def lengthClose (b : Block) (t : Nat) (g : Segment) : Option Nat :=
  let l := b.rd (0x6100 + t) 5
  if l = 2 ^ 64 - 1 then none else some (g.o + l - 1)

/-- The open segment closes at position `c` (R229); the last slot without SEG_WRAP stops the domain (R233). -/
def closeSegment (t c reason : Nat) (b : Block) : Block :=
  let s := b.store t
  match s.seg with
  | none => b
  | some g =>
    let b := b.setStore t { s with
      seg := none, closing := some (c, reason, g), hdrDue := true,
      history := (match s.history with | x :: xs => { x with c := some c } :: xs | [] => []) }
    let b := b.wr (0x6300 + t) 6 (b.rd (0x6300 + t) 6 + 1)
    if g.slot + 1 = s.slots && !b.segWrap t then
      requestStop t c srSTORE (c / 32 + 5) (b.wrBit (0x6300 + t) 2 3 true)
    else b

/-- A length close that lies below position `p` is carried out (R229). -/
def settleClose (t p : Nat) (b : Block) : Block :=
  match (b.store t).seg with
  | some g =>
    (match lengthClose b t g with
    | some c => if c < p && b.evaluates t c then closeSegment t c 1 b else b
    | none => b)
  | none => b

/-- A deferred open at or before position `p` is carried out, unless its slot is protected (R230, R289). -/
def settleOpen (t p : Nat) (b : Block) : Block :=
  match (b.store t).seg, (b.store t).deferred with
  | none, some d =>
    if d.at_ ≤ p && b.evaluates t d.at_ && !slotProtected b t then openSegment t d.at_ (b.tsPos d.at_) clsSAMPLE d.reqTs true b
    else b
  | _, _ => b

/-- Carry out what is due before position `p` is dealt with: a length close below it, a deferred open at or before it
(R229, R230). -/
def settleSegment (t p : Nat) (b : Block) : Block := settleOpen t p (settleClose t p b)

/-- A SEG_OPEN action at position `j` with the instant of its branch (R229 to R231). -/
def segOpen (t j : Nat) (i : Inst) (b : Block) : Block :=
  let b := settleSegment t j b
  let s := b.store t
  if s.seg.isSome || s.deferred.isSome then segIgnored t b
  else
    match s.closing with
    | some (c, _, _) =>
      if j ≤ c + 64 then b.setStore t { s with deferred := some { at_ := c + 65, reqTs := i.ts } }
      else openSegment t j i.ts i.cls i.ts false b
    | none => openSegment t j i.ts i.cls i.ts false b

/-- A SEG_CLOSE action at position `j` (R229, R230). -/
def segClose (t j : Nat) (b : Block) : Block :=
  let b := settleSegment t j b
  let s := b.store t
  if s.seg.isSome then closeSegment t j 0 b
  else if s.deferred.isSome then segIgnored t (b.setStore t { s with deferred := none })
  else segIgnored t b

/-- A SEG_OPEN at `j` would open a segment at once (R230). -/
def opensAt (b : Block) (t j : Nat) : Bool :=
  let s := (settleSegment t j b).store t
  !s.seg.isSome && !s.deferred.isSome && (match s.closing with | some (c, _, _) => decide (c + 64 < j) | none => true)

/-! ### Releasing a frame to the store (R221 to R225, R254) -/

/-- A segment that closed FULL at its open sample, because no frame of it fits, holds no sample (R229). -/
def closedEmpty (c reason : Nat) (g : Segment) : Bool := reason == 2 && c == g.o && g.lastFit.isNone

/-- The capture unit's positions in frame `a`: from first to last, if any (R152, R229). -/
def unitSpan (b : Block) (t a : Nat) : Option (Nat × Nat) :=
  let s := b.store t
  let d := b.dom t
  let lo := match d.first with | some f => f * 32 | none => 2 ^ 64
  let hi := match d.stop with | some x => min x.pos (a * 32 + 31) | none => a * 32 + 31
  let span := if regionClass (b.mode t) = 1 then
      (match s.seg, s.hdrDue, s.closing with
      | some g, _, _ =>
        some (max g.o (a * 32), match lengthClose b t g with | some c => min c hi | none => hi)
      | none, true, some (c, _, g) => some (max g.o (a * 32), min c hi)
      | _, _, _ => none)
    else some (max lo (a * 32), hi)
  match span with
  | some (x, y) => if x ≤ y && a * 32 ≤ x && lo ≤ x then some (x, y) else none
  | none => none

/-- The samples of frame `a` that a capture unit stores: none for a segment that closed FULL where it opened, for no frame of it fits its
slot (R229). -/
def captureSpan (b : Block) (t a : Nat) : Option (Nat × Nat) :=
  let s := b.store t
  match s.seg, s.closing with
  | none, some (c, r, g) => if regionClass (b.mode t) = 1 && closedEmpty c r g then none else unitSpan b t a
  | _, _ => unitSpan b t a

/-- Merge a dropped frame `a` into the run that is not yet reported, with the flags and counts of R222: a segment that closed before the frame
does not count it. DESIGN CHOICE (log 44): the spec does not say whether an accepted frame without a record of its own ends a run of dropped
frames; here the run goes on until the store accepts a frame that has a record. -/
def dropFrame (t a num reps : Nat) (b : Block) : Block :=
  let s := b.store t
  let first := s.gapRun.isNone
  let run := match s.gapRun with
    | some r => { r with frames := r.frames + 1, reports := r.reports + reps }
    | none => { first := num, frames := 1, reports := reps }
  let mark := fun (g : Segment) => { g with gap := true, dropped := g.dropped + 1 }
  let s := { s with gapRun := some run }
  let s := if regionClass (b.mode t) = 1 then
      (match s.seg, s.hdrDue, s.closing with
      | some g, _, _ => if (b.dom t).stop.all (fun x => a * 32 ≤ x.pos) then { s with seg := some (mark g) } else s
      | none, true, some (c, r, g) => if a * 32 ≤ c then { s with closing := some (c, r, mark g) } else s
      | _, _, _ => s)
    else { s with gapCount := s.gapCount + 1 }
  let b := (b.setStore t s).bump 32 (0x6300 + t) 9 1
  let b := if first then b.flag (0x6300 + t) 0xB 0xC 1 else b
  b.wrBit (0x6300 + t) 2 2 true

/-- The gap EVENT record of the run that ends (R222, R268). -/
def gapRecord (t : Nat) (r : GapRun) : List Nat :=
  [headerWord 0xA t 3 0 1, stampOf r.first 0 0, satTo 32 r.reports * 2 ^ 32 + satTo 32 r.frames]

/-- The queue copy of a gap EVENT record follows the domain's EVENT destination (R254). -/
def gapToQueue (t : Nat) (ws : List Nat) (b : Block) : Block :=
  let d := b.rd (0x6200 + t) 5
  if d = 1 || d = 2 then toQueue t ws b else b

/-- The blocks of a ring once the write position is at `e`: at the start of a block, the writer is in that block, which holds nothing yet
(R256). -/
def enterBlock (e : Nat) (bs : List RingBlock) : List RingBlock :=
  match bs with
  | r :: _ => if e % 65536 = 0 && r.no < e / 65536 then { no := e / 65536, firstTs := none } :: bs else bs
  | [] => []

/-- Blocks of a ring after records have been placed up to the write position (R225): the newest B − 1 are retained. -/
def noteBlocks (s : StoreDom) (recs : List (Nat × Option Nat)) : List RingBlock :=
  (enterBlock s.wpos (recs.foldl (fun (bs : List RingBlock) x =>
    let n := x.1 / 65536
    match bs with
    | r :: rest => if r.no = n then { r with firstTs := r.firstTs <|> x.2 } :: rest else { no := n, firstTs := x.2 } :: r :: rest
    | [] => [{ no := n, firstTs := x.2 }]) s.blocks)).take (s.size / 65536 - 1)

/-- The ring's live results: WRAPPED, TRIGGER_LOST, first retained timestamp (R227, R246). DESIGN CHOICE (log 44): where the oldest retained
block holds report records and no data item, the first retained timestamp is that of the first data item in the oldest block that has one,
and 0 where none has. -/
def ringResults (t : Nat) (b : Block) : Block :=
  let s := b.store t
  let newest := match s.blocks with | r :: _ => r.no | [] => 0
  let keep := s.size / 65536 - 1
  let wrapped := decide (keep ≤ newest) && !s.blocks.isEmpty
  let lost := match s.trigBlock with | some x => decide (x + keep ≤ newest) | none => false
  let first := (s.blocks.reverse.findSome? (·.firstTs)).getD 0
  ((b.wrBit (0x6300 + t) 2 0 wrapped).wrBit (0x6300 + t) 2 1 lost).wr (0x6300 + t) 3 first

/-- Last stored timestamp of a frame's data: the last stored sample, or the last sample of the capture unit for data that no
stride thins. -/
def lastStored (b : Block) (t a lo hi : Nat) : Option Nat :=
  if b.dataType t = 2 || b.dataType t = 3 then ((b.storedIn t a lo hi).getLast?).map b.tsPos else some (b.tsPos hi)

/-- First stored timestamp of a frame's data within a segment (R258). -/
def firstStored (b : Block) (t a lo hi : Nat) : Option Nat :=
  if b.dataType t = 2 || b.dataType t = 3 then ((b.storedIn t a lo hi).head?).map b.tsPos else some (b.tsPos lo)

/-- The frames' records up to frame `a`, and those produced later. -/
def producedBy (a : Nat) (s : StoreDom) : List (Nat × List Nat) := s.reports.filter (fun r => decide (r.1 ≤ a))
def producedAfter (a : Nat) (s : StoreDom) : List (Nat × List Nat) := s.reports.filter (fun r => decide (a < r.1))

/-- A segment is open after the last evaluated sample of frame `a`. -/
def slotOpen (b : Block) (t a : Nat) : Bool :=
  (b.store t).seg.isSome && (match (b.dom t).stop with | some s => decide (a * 32 ≤ s.pos) | none => true)

/-- What frame `a` of a domain brings: the span of the capture unit in it, the records that go to the unit in their order, with
the place of the gap EVENT record among them, the report records held after it, whether the frame has a record of its own, the bytes
of those, and its report records (R221, R254, R255). -/
structure FrameView where
  span : Option (Nat × Nat)
  placed : List Rec
  gap : Bool
  held : List (List Nat)
  has : Bool
  bytes : Nat
  reports : Nat
  deriving DecidableEq, Repr

/-- The view of frame `a`, with the block after STATE samples have been counted. In a segmented mode, report records produced while
no segment is open, or while the domain is STOPPING, are held; held ones come first into the next segment (R255). DESIGN CHOICE (log 44):
INDIGO records of the event kind (R264), which are data records, of a frame outside every segment are neither written nor held; R255
holds report records alone. -/
def frameView (t a : Nat) (b : Block) : FrameView × Block :=
  let s := b.store t
  let span := captureSpan b t a
  let r := match span with
    | some (lo, hi) => dataRecords t a lo hi b
    | none => ([], b)
  let own := producedBy a s
  let seg := regionClass (b.mode t) = 1
  let opened := slotOpen b t a
  let inUnit := !seg || span.isSome || opened
  let goes := fun (x : Nat × List Nat) =>
    !seg || (opened && (match b.stoppingFrom t with | some k => decide (x.1 < k) | none => true))
  let mk := fun (w : List Nat) => ({ ts := none, words := w } : Rec)
  let has := !(r.1.isEmpty && own.isEmpty)
  let gap := match s.gapRun with | some run => if has then [gapRecord t run] else [] | none => []
  let words := fun (xs : List (Nat × List Nat)) => xs.map Prod.snd
  ({ span := span
     placed := if inUnit then s.heldReports.map mk ++ gap.map mk ++ r.1 ++ (words (own.filter goes)).map mk else []
     gap := !gap.isEmpty
     held := (if inUnit then [] else s.heldReports ++ gap) ++ words (own.filter (fun x => !goes x))
     has := has
     bytes := recBytes (r.1.map (·.words)) + recBytes (words own)
     reports := own.length }, r.2)

/-- What a frame's release would place. -/
structure Plan where
  ok : Bool                       -- the frame is accepted (R221, R234)
  slotFull : Bool                 -- the slot has no room for its records (R229)
  writes : List (Nat × List Nat)
  pos : Nat
  deriving DecidableEq, Repr

/-- Place a frame's records for the class of use: whether staging, slot and FIFO have room. The gap EVENT record comes from the
reserve (R222). DESIGN CHOICE (log 44): the end word of a FIFO whose write position has reached space not yet freed in the middle of a block
is left out, for R234 leaves that space untouched, though R212 writes an end word with every commit. -/
def planFrame (b : Block) (t : Nat) (v : FrameView) : Plan :=
  let s := b.store t
  let all := v.placed.map (·.words)
  let fits := !v.has || decide (s.occupied + v.bytes ≤ stagingRoom)
  if all.isEmpty then { ok := fits, slotFull := false, writes := [], pos := s.wpos }
  else match regionClass (b.mode t) with
  | 1 =>
    let g := match s.seg, s.closing with | some g, _ => some g | none, some (_, _, g) => some g | _, _ => none
    (match g with
    | none => { ok := fits, slotFull := false, writes := [], pos := 0 }
    | some g =>
      match placeRecords (some s.slotBytes) g.woff all with
      | some (ws, e) => { ok := fits, slotFull := false, writes := atAddr (s.slotAddr g.slot) ws, pos := e }
      | none => { ok := fits, slotFull := true, writes := [], pos := g.woff })
  | 2 =>
    (match placeRecords (some (s.rpos + s.size)) s.wpos all with
    | some (ws, e) => { ok := fits, slotFull := false, writes := atAddr s.fifoAddr (ws.filter (fun x => x.1 + 8 ≤ s.rpos + s.size)), pos := e }
    | none => { ok := false, slotFull := false, writes := [], pos := s.wpos })
  | _ =>
    match placeRecords none s.wpos all with
    | some (ws, e) => { ok := fits, slotFull := false, writes := atAddr s.ringAddr ws, pos := e }
    | none => { ok := false, slotFull := false, writes := [], pos := s.wpos }

/-- The settled view of a frame after its walk: what is due in it is carried out. -/
def settledView (t a : Nat) (b : Block) : Block :=
  settleClose t (a * 32 + 32) (settleOpen t (a * 32 + 31) (settleClose t (a * 32 + 32) b))

/-- What happens at the release of frame `a` if it is as it stands: whether it is accepted, and whether its slot is full. -/
def releaseFits (t a : Nat) (b : Block) : Plan :=
  let b := settledView t a b
  planFrame b t (frameView t a b).1

/-- Write offset in the region of the segment that is open, or that closed last (R246). -/
def StoreDom.slotOff (s : StoreDom) : Option Nat :=
  match s.seg, s.closing with
  | some g, _ => some (g.slot * s.slotBytes + g.woff)
  | none, some (_, _, g) => some (g.slot * s.slotBytes + g.woff)
  | _, _ => none

/-- Stage words on their way to the store, `recs` bytes of them records outside the reserve: all of them are demand (R220). -/
def stage (t a recs : Nat) (writes : List (Nat × List Nat)) (nextOff : Option Nat) (endPos : Nat) (lastTs : Option Nat) (b : Block) : Block :=
  let s := b.store t
  b.setStore t { s with staged := s.staged ++ [
    { abs := a, left := recBytes (writes.map Prod.snd), recs := recs, writes := writes, nextOff := nextOff, endPos := endPos, lastTs := lastTs }] }

/-- The write that zeroes the header area of a segment that opens (R228). -/
def zeroHeader (s : StoreDom) : List (Nat × List Nat) :=
  match s.zeroDue, s.seg, s.closing with
  | true, some g, _ => [(s.slotAddr g.slot 0, List.replicate 32 0)]
  | true, none, some (_, _, g) => [(s.slotAddr g.slot 0, List.replicate 32 0)]
  | _, _, _ => []

/-- Update the segment that a frame's records went into. -/
def updateSeg (f : Segment → Segment) (s : StoreDom) : StoreDom :=
  match s.seg, s.closing with
  | some g, _ => { s with seg := some (f g) }
  | none, some (c, r, g) => if s.hdrDue then { s with closing := some (c, r, f g) } else s
  | none, none => s

/-- Write the SEG_HDR of a closed segment (R228, R232). -/
def headerWrite (t : Nat) (maskStop : Bool) (b : Block) : List (Nat × List Nat) :=
  let s := b.store t
  match s.closing with
  | some (c, r, g) => [(s.slotAddr g.slot 0, segHeader b t s g c r maskStop)]
  | none => []

/-- The timestamp of the last sample that frame `a` stores. -/
def lastOf (b : Block) (t a : Nat) (span : Option (Nat × Nat)) : Option Nat :=
  match span with | some (lo, hi) => lastStored b t a lo hi | none => none

/-- The records of frame `a` fit the slot of the segment: a close with reason FULL does not come before the frame's last sample in it
(R229), also where staging then drops the frame, since a drop moves no boundary (R222). -/
def noteFit (a : Nat) (span : Option (Nat × Nat)) (s : StoreDom) : StoreDom :=
  updateSeg (fun (g : Segment) => { g with lastFit := some (min (a * 32 + 31) ((span.map Prod.snd).getD (a * 32 + 31))) }) s

/-- An accepted frame: its samples are stored, whether or not they make a record (R227, R229, R258). -/
def acceptFrame (b : Block) (t a : Nat) (span : Option (Nat × Nat)) (s : StoreDom) : StoreDom :=
  let s := { s with lastTs := (lastOf b t a span).getD s.lastTs }
  if regionClass (b.mode t) != 1 then s
  else noteFit a span (updateSeg (fun (g : Segment) => { g with
    firstTs := g.firstTs <|> (match span with | some (lo, hi) => firstStored b t a lo hi | none => none) }) s)

/-- Every record of frame `a` that is bound for the region is dropped (R221): the report records produced by then with it. Report
records of earlier frames, which staging holds, stay. -/
def dropWhole (t a : Nat) (b : Block) : Block :=
  let s := b.store t
  dropFrame t a (b.numOf a) (producedBy a s).length (b.setStore t { s with reports := producedAfter a s, released := a + 1 })

/-- The block that holds the data of the ring's trigger, once the frame that holds its action sample is placed (R227): that of the
last data record that begins at or before it. DESIGN CHOICE (log 44): a trigger whose frame makes no data record has its data in the block at
the write position when the frame has report records, and in no block, so that TRIGGER_LOST stays 0, when the frame places nothing or is
dropped. -/
def noteTrigBlock (b : Block) (a pos0 : Nat) (recs : List (Nat × Option Nat)) (s : StoreDom) : StoreDom :=
  match s.trigBlock, s.trigPos with
  | none, some p =>
    if p / 32 = a then
      let data := recs.filter (fun x => x.2.isSome)
      let upTo := data.filter (fun x => match x.2 with | some ts => decide (stampDiff (b.tsPos p) ts ≤ 63) | none => false)
      { s with trigBlock := some (((upTo.getLast?.map Prod.fst).getD ((data.head?.map Prod.fst).getD pos0)) / 65536) }
    else s
  | _, _ => s

/-- The records of an accepted frame are placed and staged. -/
def placeFrame (t a : Nat) (v : FrameView) (plan : Plan) (b : Block) : Block :=
  let cls := regionClass (b.mode t)
  let last := lastOf b t a v.span
  let s := acceptFrame b t a v.span { b.store t with heldReports := v.held, gapRun := if v.gap then none else (b.store t).gapRun }
  let zero := zeroHeader s
  if v.placed.isEmpty then
    let b := b.setStore t s
    if zero.isEmpty && last.isNone then b else stage t a 0 zero (if zero.isEmpty then none else s.slotOff) s.wpos last b
  else
    let all := v.placed.map (·.words)
    let pos0 := s.wpos
    let s := if cls = 1 then updateSeg (fun (g : Segment) => { g with woff := plan.pos }) s else { s with wpos := plan.pos }
    let at_ := (((placeRecords none pos0 all).map Prod.fst |>.getD []).filter (fun x => x.2 != [0])).map Prod.fst
    let recs := List.zip at_ (v.placed.map (·.ts))
    let s := if cls = 0 then noteTrigBlock b a pos0 recs { s with blocks := noteBlocks s recs } else s
    let off := if cls = 1 then s.slotOff.getD 0
      else if cls = 0 then s.ringAddr s.wpos - s.base else s.wpos % s.size
    let b := stage t a (recBytes all - (if v.gap then 24 else 0)) (zero ++ plan.writes) (some off) s.wpos last (b.setStore t s)
    if cls = 0 then ringResults t b else b

/-- Release frame `a` of a capturing domain to the store controller (R19, R221). -/
def releaseFrame (t a : Nat) (b : Block) : Block :=
  if !(b.store t).live || a < (b.store t).released then b
  else
    let b := settledView t a b
    let r := frameView t a b
    let plan := planFrame r.2 t r.1
    let b := r.2
    let b :=
      if plan.ok && !plan.slotFull then
        let b := if r.1.gap then
            (match (b.store t).gapRun with | some run => gapToQueue t (gapRecord t run) b | none => b) else b
        placeFrame t a r.1 plan (b.setStore t { b.store t with reports := producedAfter a (b.store t), released := a + 1 })
      else
        let fit := regionClass (b.mode t) = 1 && !plan.slotFull
        let b := dropWhole t a (if fit then b.setStore t (noteFit a r.1.span (b.store t)) else b)
        let zero := zeroHeader (b.store t)
        if zero.isEmpty then b else stage t a 0 zero (b.store t).slotOff (b.store t).wpos none b
    -- the SEG_HDR of a segment that closed follows its data (R229)
    let s := b.store t
    let b := b.setStore t { s with zeroDue := false }
    if s.hdrDue then
      let b := stage t a 0 (headerWrite t false b) none s.wpos none b
      b.setStore t { b.store t with hdrDue := false }
    else b

/-! ### Draining and commit (R18, R220, R209, R235) -/

/-- Serve up to `cap` bytes of staged records, oldest frame first. -/
def drainStaged : Nat → List StagedFrame → List StagedFrame
  | _, [] => []
  | cap, f :: fs => let k := min cap f.left; { f with left := f.left - k } :: drainStaged (cap - k) fs

/-- Split the capacity of a frame in equal turns among the domains' needs (R220): domain, need, share. -/
def shares : Nat → Nat → List (Nat × Nat × Nat) → List (Nat × Nat × Nat)
  | 0, _, ds => ds
  | n + 1, cap, ds =>
    let open_ := ds.filter (fun d => d.2.2 < d.2.1)
    if cap = 0 || open_.isEmpty then ds
    else
      let part := max 1 (cap / open_.length)
      let r := ds.foldl (fun (acc : List (Nat × Nat × Nat) × Nat) d =>
        let k := min (min part acc.2) (d.2.1 - d.2.2)
        (acc.1 ++ [(d.1, d.2.1, d.2.2 + k)], acc.2 - k)) ([], cap)
      shares n r.2 r.1

/-- One frame of draining (R219, R220): stimulus reads first. -/
def drain (b : Block) : Block :=
  let stim := ((List.range 8).map (fun t => (b.stim t).used)).sum
  let cap := b.budgetLimit - stim
  let needs := ((List.range 8).map (fun t => (t, ((b.store t).staged.map (·.left)).sum, 0))).filter (fun x => x.2.1 != 0)
  (shares 16 cap needs).foldl (fun b x =>
    b.setStore x.1 { b.store x.1 with staged := drainStaged x.2.2 (b.store x.1).staged }) b

/-- The fill of a STREAM FIFO (R234). -/
def StoreDom.fill (s : StoreDom) : Nat := s.cpos - s.rpos

/-- Evaluate the high watermark after the fill, or the mark, may have changed (R235): `was` is the condition before. -/
def evalHwm (t : Nat) (was : Bool) (b : Block) : Block :=
  let o := 0x6400 + t
  let fill := b.rd o 1
  let b := if b.rd o 5 < fill then b.wr o 5 fill else b
  if !was && decide (b.rd (0x6100 + t) 8 ≤ fill) then b.flag o 2 3 1 else b

/-- The condition fill ≥ mark (R235). -/
def hwmCond (b : Block) (t : Nat) : Bool := decide (b.rd (0x6100 + t) 8 ≤ b.rd (0x6400 + t) 1)

/-- The committed position or the freed position of a STREAM FIFO has moved. -/
def setFill (t : Nat) (b : Block) : Block :=
  let was := hwmCond b t
  evalHwm t was (b.wr (0x6400 + t) 1 (b.store t).fill)

/-- Commit one staged frame: its words are readable (R18, R209). -/
def commitFrame (t : Nat) (f : StagedFrame) (b : Block) : Block :=
  let b := { b with mops := b.mops ++ f.writes.map (fun w => MemOp.write w.1 (wordsToLe w.2)) }
  let b := f.writes.foldl (fun b w => fillUnit w.1 b) b
  let s := b.store t
  let cur := (f.writes.getLast?).map (fun w => w.1 / unitBytes)
  let b := match cur with
    | some u => settleUnits (s.base / unitBytes) (s.size / unitBytes) (some u) b
    | none => b
  let b := match f.nextOff with | some x => b.wr (0x6300 + t) 5 x | none => b
  let b := match f.lastTs with | some x => b.wr (0x6300 + t) 4 x | none => b
  if regionClass (b.mode t) = 2 then setFill t (b.setStore t { b.store t with cpos := f.endPos }) else b

/-- STORE_COMMIT: the oldest staged frame of the domain is committed once it has been drained. -/
def storeCommit (t : Nat) (b : Block) : Block :=
  let s := b.store t
  match s.staged with
  | f :: rest => if f.left = 0 then commitFrame t f (b.setStore t { s with staged := rest }) else b
  | [] => b

/-- Commit what is drained of the frames up to `a`; `n` bounds the frames. DESIGN CHOICE (log 26): R19 and R20 bound the commit at frame
F + 24 whatever the load, and R220 to R224 let staging hold up to 63 frames; a frame that overload keeps from being drained by F + 24
is committed once it is drained. -/
def commitUpTo (t a : Nat) : Nat → Block → Block
  | 0, b => b
  | n + 1, b =>
    match (b.store t).staged with
    | f :: _ => if f.left = 0 && f.abs ≤ a then commitUpTo t a n (storeCommit t b) else b
    | [] => b

/-- A stage's length, for `commitUpTo`. -/
def StoreDom.stagedCount (s : StoreDom) : Nat := s.staged.length

/-! ### Arm and end (R238, R239, R255) -/

/-- The store at frame N + 1 of an arm served in frame N (R238). DESIGN CHOICE (log 44): R238 sets the result fields to 0 and the write
position to the first data byte; 0x6300.05, the next write offset, shows that position, 65536 in a ring and 256 in a segmented region. -/
def storeArm (t : Nat) (b : Block) : Block :=
  let m := b.mode t
  if !needsRegion m then b
  else
    let b := clearRegion t b
    let base := b.regionFirst t * unitBytes
    let size := b.regionSize t * unitBytes
    let z := b.rd (0x6100 + t) 4
    let slots := if segmented m then min 16777216 (size / 65536 / z) else 0
    let b := b.setStore t { StoreDom.reset with
      reports := (b.store t).reports, live := true, fifo := regionClass m = 2, base := base, size := size,
      slots := slots, slotBytes := z * 65536, pods := podMask (b.podsOf t),
      firstPos := (match (b.dom t).first with | some f => f * 32 | none => 0),
      released := (match (b.dom t).first with | some f => f | none => 0) }
    let o := 0x6300 + t
    let b := [2, 3, 4, 5, 6, 7, 9].foldl (fun b i => b.wr o i 0) (b.wr o 1 1)
    let b := b.wr o 8 slots
    let b := (b.wr (0x6400 + t) 1 0).wr (0x6400 + t) 5 0
    if regionClass m = 1 then b.wr o 5 256 else if regionClass m = 0 then b.wr o 5 65536 else b

/-- Place as many of the remaining report records as the last slot has room for; the rest are counted (R255). DESIGN CHOICE (log 44):
behind a record that does not fit, a shorter one that does is still placed; R255 says only "as far as the slot has room". -/
def placeTail (limit : Nat) : Nat → List (List Nat) → List (List Nat) × Nat
  | _, [] => ([], 0)
  | pos, r :: rs =>
    let p := blockFit pos (8 * r.length)
    if limit < p + 8 * r.length then let x := placeTail limit pos rs; (x.1, x.2 + 1)
    else let x := placeTail limit (p + 8 * r.length) rs; (r :: x.1, x.2)

/-- The gap EVENT record of a run that no accepted frame has followed is written at the end of a ring or FIFO capture, where there is
room for it (R223; DESIGN CHOICE, log entry 44). -/
def endGap (t : Nat) (b : Block) : Block :=
  let s := b.store t
  match s.gapRun with
  | none => b
  | some run =>
    let ws := gapRecord t run
    let fifo := regionClass (b.mode t) = 2
    let b := gapToQueue t ws (b.setStore t { s with gapRun := none })
    let s := b.store t
    match placeRecords (if fifo then some (s.rpos + s.size) else none) s.wpos [ws] with
    | none => b
    | some (out, e) =>
      let at_ := (out.filter (fun x => x.2 != [0])).map (fun x => (x.1, (none : Option Nat)))
      let s := if fifo then { s with wpos := e } else { s with wpos := e, blocks := noteBlocks { s with wpos := e } at_ }
      let ws := if fifo then atAddr s.fifoAddr (out.filter (fun x => x.1 + 8 ≤ s.rpos + s.size)) else atAddr s.ringAddr out
      stage t b.time.abs 0 ws (some (if fifo then e % s.size else s.ringAddr e - s.base)) e none (b.setStore t s)

/-- What a ring or FIFO capture still has to write when it ends: the report records produced since the last frame that was released,
frame by frame (R221, R239), and the gap EVENT record. -/
def finishReports (t : Nat) (b : Block) : Block :=
  endGap t (forEach ((b.store t).reports.map Prod.fst).eraseDups (releaseFrame t) b)

/-- The end of a ring capture: its header follows what remains (R227). -/
def finishRing (t : Nat) (b : Block) : Block :=
  let b := ringResults t (finishReports t b)
  let s := b.store t
  let fl := b.rd (0x6300 + t) 2
  let hdr := ringHeader b t s (bit fl 0) (bit fl 1) (b.mask t).requested 0
  stage t b.time.abs 0 [(s.base, hdr)] (some (s.ringAddr s.wpos - s.base)) s.wpos none b

/-- The end of a segmented capture: report records that are left follow the data of the last segment as far as its slot has room, the
others are counted in its SEG_HDR (R255); MASK_STOP is set in it if its slot is the protected one, or it was open when the stop took
effect (R289). -/
def finishSlots (t : Nat) (b : Block) : Block :=
  let s := b.store t
  let gap := match s.gapRun with | some run => [gapRecord t run] | none => []
  let b := gap.foldl (fun b g => gapToQueue t g b) b
  let rest := s.heldReports ++ gap ++ s.reports.map Prod.snd
  let b := b.setStore t { s with gapRun := none, heldReports := [], reports := [], zeroDue := false, hdrDue := false, deferred := none }
  let s := b.store t
  match s.closing with
  | none => b
  | some (c, r, g) =>
    let tail := placeTail s.slotBytes g.woff rest
    let placed : List (Nat × List Nat) × Nat := (placeRecords none g.woff tail.1).getD ([], g.woff)
    let g := { g with woff := if tail.1.isEmpty then g.woff else placed.2, repDropped := g.repDropped + tail.2 }
    let b := b.setStore t { s with closing := some (c, r, g) }
    let here := (b.mask t).requested && ((b.mask t).protect == some g.slot || r == 3)
    let ws := (if tail.1.isEmpty then [] else atAddr (s.slotAddr g.slot) placed.1) ++ headerWrite t here b
    stage t b.time.abs 0 ws (some (g.slot * s.slotBytes + g.woff)) s.wpos none b

/-- The end of a capture (R227, R239, R255, R289): the open segment closes with the stop, the remaining report records and the
headers are written, everything is committed and the result is COMPLETE. -/
def finishCapture (t : Nat) (b : Block) : Block :=
  if !(b.store t).live then b
  else
    let stop := match (b.dom t).stop with | some s => s.pos | none => b.time.abs * 32
    let b := settleSegment t (stop + 1) b
    let b := if (b.store t).seg.isSome then closeSegment t stop 3 b else b
    let b := match regionClass (b.mode t) with
      | 1 => finishSlots t b
      | 2 => finishReports t b
      | _ => finishRing t b
    let b := b.setStore t { b.store t with staged := (b.store t).staged.map (fun (f : StagedFrame) => { f with left := 0 }) }
    let b := commitUpTo t (2 ^ 64) ((b.store t).stagedCount) b
    let s := b.store t
    let b := settleUnits (s.base / unitBytes) (s.size / unitBytes) none b
    (b.setStore t { s with live := false }).wr (0x6300 + t) 1 2

/-- The protected slot's header is rewritten with MASK_STOP when it was committed before (R289): its first word has the flag. -/
def rewriteMaskStop (t : Nat) (w0 : Option Nat) (b : Block) : Block :=
  let s := b.store t
  match (b.mask t).protect, w0 with
  | some slot, some w => if w = 0 then b else
      { b with mops := b.mops ++ [.write (s.slotAddr slot 0) (toLe 8 (putBit w 38 true))] }
  | _, _ => b

/-- The bytes of the data record that a full frame of a STREAM domain makes: FULL4 and BIN1 with every sample on the stride grid
(R257 to R260); TRANS with its reservation (R217; DESIGN CHOICE, log entry 44: the spec gives a frame of edges no length). -/
def Block.frameBytes (b : Block) (t : Nat) : Nat :=
  let pods := (b.podsOf t).length
  let n := max 1 (32 / 2 ^ b.strideK t)
  match b.dataType t with
  | 2 => 8 * (2 + pods * n)
  | 3 => 8 * (2 + (pods * n + 3) / 4)
  | _ => b.rd (0x6100 + t) 6

/-- STREAM: the FIFO has no room for a frame (R249), placed as R212 places it. DESIGN CHOICE (log 44): after the region of a domain that
is not armed is cleared, rewritten or removed, FILL, PEAK and FULL go on reading the positions and the size of the last arm until the
next. -/
def Block.fifoFull (b : Block) (t : Nat) : Bool :=
  let s := b.store t
  s.fifo && b.mode t == 7 && s.size != 0 && decide (s.rpos + s.size < blockFit s.wpos (b.frameBytes t) + b.frameBytes t)

end Sys2Proof.Machine
end

