-- ==== Sys2Proof/Machine/Measure.lean ====
section
/-! DEFINITION. The measurement units (09_record_measurements_and_masks.md R271 to R277): windows, results of a lane over a
window, latching and MEAS records. -/

namespace Sys2Proof.Machine

/-- The unit object of a pod (R296). -/
def unitObj (n : Nat) : Nat := 0x6810 + n

/-- The lanes that a pod's unit measures (R271). -/
def Block.measured (b : Block) (n : Nat) : List Nat := (setBits 16 (b.rd (unitObj n) 1)).map (fun m => 16 * n + m)

/-! ### Accumulating -/

def Meas.acc (m : Meas) (l : Nat) : MeasAcc := look (fun _ => MeasAcc.reset) m.accs l
def Meas.setAcc (m : Meas) (l : Nat) (a : MeasAcc) : Meas := { m with accs := place (fun _ => MeasAcc.reset) m.accs l a }

/-- The interval from one instant to a later one, given as absolute counts of SSU: the difference of their timestamps modulo 2^64
(R42, R274), or their distance where that exceeds 64 bits (R45). -/
def Block.spanSsu (b : Block) (x y : Nat) : Nat :=
  if 2 ^ 64 ≤ y - x then y - x else (b.tsSsu y + 2 ^ 64 - b.tsSsu x) % 2 ^ 64

/-- An edge in the window (R274). `dir` is the period direction, true for rising; `span` gives the interval between two instants, each
an absolute count of SSU plus 1. -/
def MeasAcc.edge (span : Nat → Nat → Nat) (dir : Bool) (a : MeasAcc) (e : Edge) : MeasAcc :=
  let x := e.ssu + 1
  let a := { a with edges := a.edges + 1, first := if a.first = 0 then x else a.first, last := x }
  let a := if e.rise == dir then
      let d := span a.perLast x
      { a with perFirst := if a.perN = 0 then x else a.perFirst, perLast := x, perN := a.perN + 1,
               perMin := if a.perN = 0 then 0 else if a.perN = 1 then d else min a.perMin d,
               perMax := if a.perN = 0 then 0 else max a.perMax d }
    else a
  if e.rise then { a with rise := x, sumL := if a.fall = 0 then a.sumL else a.sumL + span a.fall x, nL := if a.fall = 0 then a.nL else a.nL + 1 }
  else { a with fall := x, sumH := if a.rise = 0 then a.sumH else a.sumH + span a.rise x, nH := if a.rise = 0 then a.nH else a.nH + 1 }

/-- An amplitude value of the high or the low class (R275). -/
def MeasAcc.amp (high : Bool) (v : Int) (a : MeasAcc) : MeasAcc :=
  let none_ := a.hiN + a.loN = 0
  let a := { a with vMax := if none_ then v else max a.vMax v, vMin := if none_ then v else min a.vMin v }
  if high then { a with hiSum := a.hiSum + v, hiN := a.hiN + 1 } else { a with loSum := a.loSum + v, loN := a.loN + 1 }

/-- Glitches of a lane whose term sample lies at positions `lo` to `hi`, shorter than N (R148, R274). -/
def glitchesIn (b : Block) (l n lo hi : Nat) : Nat :=
  ((List.range (hi + 1 - lo)).filter (fun i => b.glitchAt l 3 n (lo + i))).length

/-- A lane of a unit takes positions `lo` to `hi` of frame `a`. -/
def measureLane (b : Block) (n l a lo hi : Nat) (acc : MeasAcc) : MeasAcc :=
  let opts := b.rd (unitObj n) 2
  let es := (b.edgesNaming l a).filter (fun e => decide (lo ≤ e.ssu / 64) && decide (e.ssu / 64 ≤ hi))
  let acc := es.foldl (MeasAcc.edge (fun x y => b.spanSsu (x - 1) (y - 1)) (!bit opts 0)) acc
  let acc := { acc with glitches := acc.glitches + glitchesIn b l (b.rd (unitObj n) 3) lo hi }
  if bit opts 1 then acc
  else
    ((List.range (hi + 1 - lo)).map (· + lo)).foldl (fun acc p =>
      if b.isVoid p then acc else acc.amp (b.fAt l p) (b.aAt l p)) acc

/-- The first position from `p` on, and the last up to `p`, that holds a sample (R353). -/
def Block.firstReal (b : Block) (p : Nat) : Nat := if b.isVoid p then (p / 32 + 1) * 32 else p
def Block.lastReal (b : Block) (p : Nat) : Nat :=
  match b.packet? (p / 32) with
  | some k => min p (p / 32 * 32 + (k.voidFrom - 1))
  | none => p

/-- A unit takes positions `lo` to `hi` of frame `a`; the window that has no first position yet begins at `lo`. -/
def measureSpan (n a lo hi : Nat) (b : Block) : Block :=
  let m := b.measUnit n
  let m := { m with start := some (m.start.getD (b.firstReal lo)) }
  b.setMeas n ((b.measured n).foldl (fun m l => m.setAcc l (measureLane b n l a lo hi (m.acc l))) m)

/-- The running window's last position is known (R272); its end is applied by WINDOW_END. -/
def endWindow (n p : Nat) (b : Block) : Block :=
  if (b.measUnit n).start.isSome then b.setMeas n { b.measUnit n with endDue := some p } else b

/-- The frame in which an Indigo-source window is latched (R276): Ei + 6 with the largest g of the unit's enabled engines. -/
def indigoLatch (b : Block) (n stop : Nat) : Option Nat :=
  let es := ((b.measured n).map (· / 8)).filter b.engOn
  if es.isEmpty || !bit (b.rd (unitObj n) 2) 1 then none
  else
    let g := (es.map b.engG).foldl Nat.max 0
    some ((stop + (g + 63) / 64) / 32 + 6)

/-- A unit's window end is applied (R276). -/
def applyEnd (n : Nat) (b : Block) : Block :=
  let m := b.measUnit n
  match m.endDue, m.start with
  | some p, some s =>
    let t := b.podDom n
    let ind := indigoLatch b n (b.lastReal p)
    let w : EndedWin :=
      { start := s, stop := b.lastReal p, segment := b.rd (0x6800 + t) 1 == 0, latchAt := max (p / 32 + 6) (ind.getD 0),
        indigo := bit (b.rd (unitObj n) 2) 1, accs := m.accs }
    -- a unit that measures no lane has windows, which bound snapshots (R282), and no results
    let ended := if (b.measured n).isEmpty then m.ended else m.ended ++ [w]
    b.setMeas n { m with start := none, accs := [], endDue := none, ended := ended }
  | _, _ => b.setMeas n { m with endDue := none }

/-- WINDOW_END: the windows of the domain's units whose last sample has been taken end. -/
def windowEnd (t : Nat) (b : Block) : Block := forEach (b.podsOf t) applyEnd b

/-- A unit takes frame `a` of its domain, given the capture unit's span and whether it ends in this frame (R272). -/
def measureFrame (t a : Nat) (span : Option (Nat × Nat)) (segEnd : Option Nat) (n : Nat) (b : Block) : Block :=
  if !b.recordsMode t then b
  else
    let b := applyEnd n b
    if b.rd (0x6800 + t) 1 = 0 then
      match span with
      | some (lo, hi) =>
        let b := measureSpan n a lo hi b
        (match segEnd with | some c => if c = hi then endWindow n c b else b | none => b)
      | none => b
    else
      let d := b.dom t
      let lo := match d.first with | some f => max (f * 32) (a * 32) | none => a * 32 + 32
      let hi := match d.stop with | some s => min s.pos (a * 32 + 31) | none => a * 32 + 31
      if hi < lo then b
      else
        let b := measureSpan n a lo hi b
        let num := b.numOf a
        let cut := match b.packet? (a + 1) with | some p => p.cut | none => false
        let last := match d.stop with | some s => s.pos == hi | none => false
        if (num + 1) % 2 ^ b.rd (0x6800 + t) 2 = 0 || cut || last then endWindow n hi b else b

/-- An Indigo output of a lane joins the windows that hold its t (R273, R275). -/
def measureIndigo (l : Nat) (pt : IndPoint) (b : Block) : Block :=
  let n := l / 16
  let m := b.measUnit n
  if !(b.measured n).contains l || !bit (b.rd (unitObj n) 2) 1 then b
  else
    let u := b.rdI (lObj l) 1
    let lo := b.rdI (lObj l) 2
    let high := decide ((u + lo) / 2 ≤ pt.y)
    let add := fun (a : MeasAcc) => { a.amp high pt.y with coarse := a.coarse || bit pt.flags 0 }
    let after := fun (p : Nat) => decide (0 ≤ stampDiff (b.tsPos p) pt.t)
    let before := fun (p : Nat) => decide (stampDiff (b.tsPos p) pt.t ≤ 63)
    match m.start with
    | some s =>
      if after s && (match m.endDue with | some p => before p | none => true) then b.setMeas n (m.setAcc l (add (m.acc l)))
      else b.setMeas n { m with ended := m.ended.map (fun w =>
        if after w.start && before w.stop then
          { w with accs := place (fun _ => MeasAcc.reset) w.accs l (add (look (fun _ => MeasAcc.reset) w.accs l)) } else w) }
    | none => b.setMeas n { m with ended := m.ended.map (fun w =>
        if after w.start && before w.stop then
          { w with accs := place (fun _ => MeasAcc.reset) w.accs l (add (look (fun _ => MeasAcc.reset) w.accs l)) } else w) }

/-! ### Results (R274, R275, R265) -/

/-- Volts of an amplitude value of an Ochre or Indigo source (R103, R119). -/
def ampVolts (win : Nat) (pol indigo : Bool) (v : Rat) : Rat :=
  if indigo then
    let span := winHi win - winLo win
    let mid : Rat := ((winLo win + winHi win : Int) : Rat) / 2
    ((if pol then -mid else mid) + v * (span : Rat) / 32768) / 2000
  else voltsOf win pol v

/-- The 14 words of a lane's MEAS record (R265). -/
def measWords (b : Block) (t l : Nat) (w : EndedWin) (a : MeasAcc) : List Nat :=
  let win := (b.pod (l / 16)).win
  let pol := setPol (b.lane l).set
  let ts := fun (x : Nat) => b.tsSsu (x - 1)
  let vE := a.edges != 0
  let vP := decide (2 ≤ a.perN)
  let vH := a.nH != 0
  let vL := a.nL != 0
  let vA := a.hiN + a.loN != 0
  let hi : Rat := if a.hiN = 0 then (a.vMax : Rat) else (a.hiSum : Rat) / (a.hiN : Rat)
  let lo : Rat := if a.loN = 0 then (a.vMin : Rat) else (a.loSum : Rat) / (a.loN : Rat)
  let volts := fun v => ampVolts win pol w.indigo v
  let scale := ampVolts win false w.indigo 1 - ampVolts win false w.indigo 0
  let g := fun (v : Bool) (x : Nat) => if v then x else 0
  let param := l + b2n w.indigo * 2 ^ 9 + b2n w.segment * 2 ^ 10 + b2n a.coarse * 2 ^ 11 + b2n vE * 2 ^ 12 + b2n vP * 2 ^ 13 +
    b2n vH * 2 ^ 14 + b2n vL * 2 ^ 15 + b2n (vH && vL) * 2 ^ 16 + b2n vA * 2 ^ 17
  [headerWord 7 t 14 0 param, b.tsPos w.start, b.tsPos w.stop, satTo 32 a.edges + satTo 32 a.glitches * 2 ^ 32,
   g vE (ts a.first), g vE (ts a.last), g vP (satTo 64 a.perMin), g vP (satTo 64 a.perMax),
   g vP (satTo 64 (b.spanSsu (a.perFirst - 1) (a.perLast - 1) / (a.perN - 1))),
   g vH (satTo 64 (a.sumH / a.nH)), g vL (satTo 64 (a.sumL / a.nL)), g (vH && vL) (satTo 32 (2 ^ 32 * a.sumH / (a.sumH + a.sumL))),
   g vA (real32 (volts hi) + real32 (volts lo) * 2 ^ 32), g vA (real32 (((a.vMax : Rat) - hi) * scale))]

/-- Latch the oldest ended window of a unit: its results go to the limit comparison and to a place for MEAS records (R276,
R277). -/
def latchWindow (n : Nat) (b : Block) : Block :=
  let m := b.measUnit n
  match m.ended with
  | [] => b
  | w :: rest =>
    let t := b.podDom n
    let recs := (b.measured n).map (fun l => measWords b t l w (look (fun _ => MeasAcc.reset) w.accs l))
    let lat : Latched := { compareAt := w.latchAt + 1, endTs := b.tsPos w.stop, lastPos := w.stop, recs := recs }
    let m := { m with ended := rest, latched := m.latched ++ [lat] }
    if 2 ≤ m.places.length then (b.setMeas n m).flag (unitObj n) 4 5 1
    else b.setMeas n { m with places := m.places ++ [(w.latchAt + 2, recs)] }

/-- RESULTS_LATCH: the unit's oldest ended window is latched in its frame or later. -/
def resultsLatch (n : Nat) (b : Block) : Block :=
  match (b.measUnit n).ended with
  | w :: _ => if w.latchAt ≤ b.time.abs then latchWindow n b else b
  | [] => b

/-- Latch what was due before the running frame; `k` bounds the windows. -/
def latchOverdue (n : Nat) : Nat → Block → Block
  | 0, b => b
  | k + 1, b =>
    match (b.measUnit n).ended with
    | w :: _ => if w.latchAt < b.time.abs then latchOverdue n k (latchWindow n b) else b
    | [] => b

/-- A unit writes up to 4 MEAS records in a frame (R277). -/
def writeMeas (n : Nat) (b : Block) : Block :=
  let m := b.measUnit n
  match m.places with
  | (at_, recs) :: rest =>
    if b.time.abs < at_ then b
    else
      let now := recs.take 4
      let left := recs.drop 4
      let b := b.setMeas n { m with places := if left.isEmpty then rest else (at_, left) :: rest }
      if b.podDom n < 8 then forEach now (fun ws b => report (b.podDom n) kMEAS ws b) b else b
  | [] => b

/-- A domain's units have nothing left of its windows. -/
def measDone (b : Block) (t : Nat) : Bool :=
  (b.podsOf t).all (fun n => let m := b.measUnit n
    m.endDue.isNone && m.ended.isEmpty && m.latched.isEmpty && m.places.isEmpty)

end Sys2Proof.Machine
end

