-- ==== Sys2Proof/Machine/Hist.lean ====
section
/-! DEFINITION. The histogram engines (09_record_measurements_and_masks.md R278 to R283): events, bins in the engine's bank,
snapshot boundaries and readouts. -/

namespace Sys2Proof.Machine

def hObj (h : Nat) : Nat := 0x6A00 + h

/-- The engines of a domain that accumulate there (R278). -/
def Block.histsOf (b : Block) (t : Nat) : List Nat :=
  (List.range 16).filter (fun h => b.rd (hObj h) 1 == t && b.rd (hObj h) 2 != 0 && b.recordsMode t)

/-- 32-bit bins (R280). -/
def Block.w32 (b : Block) (h : Nat) : Bool := bit (b.rd (hObj h) 5) 1
/-- Number of bins (R280). -/
def Block.bins (b : Block) (h : Nat) : Nat := 2 ^ b.rd (hObj h) 6

/-- The bin of a value (R280). -/
def binOf (b : Block) (h : Nat) (v : Int) : Nat :=
  let off := b.rdI (hObj h) 8
  if v < off then 0 else min (((v - off) / ((2 ^ b.rd (hObj h) 7 : Nat) : Int) + 1).toNat) (b.bins h - 1)

/-- Word of a bin within the engine's bank: each interval has one half (R282). -/
def binWord (w32 : Bool) (half bin : Nat) : Nat := half * 32768 + (if w32 then bin / 2 else bin)

/-- One atomic add to a bin of the running interval, or of the closed one that waits for its readout (R281): the first of an interval
replaces what the bank holds; a wrap is flagged. -/
def addBin (h : Nat) (closed : Bool) (bin count : Nat) (b : Block) : Block :=
  let x := b.hist h
  let w32 := b.w32 h
  let k := b.rd (hObj h) 0xC
  let i := binWord w32 (if closed then 1 - x.half else x.half) bin
  let w := (b.word k i).toNat
  let len := if w32 then 32 else 64
  let lo := if w32 then 32 * (bin % 2) else 0
  let seen := if closed then x.prevTouched else x.touched
  let touched := seen.contains bin
  let mate := if bin % 2 = 0 then bin + 1 else bin - 1
  -- an untouched bin reads as 0; so does the other bin of its word
  let w := if w32 && !seen.contains mate then putBits w (32 * (mate % 2)) 32 0 else w
  let old := if touched then bits w lo len else 0
  let b := b.setWord k i (BitVec.ofNat 64 (putBits w lo len (old + count)))
  let b := if touched then b
    else b.setHist h (if closed then { x with prevTouched := bin :: seen } else { x with touched := bin :: seen })
  if old = ones len || 2 ^ len ≤ old + count then b.flag (hObj h) 0xE 0xF 1 else b

/-- Merge the values of a frame by bin, in order of first appearance (R281). -/
def mergeBins : List Nat → List (Nat × Nat)
  | [] => []
  | v :: vs =>
    let r := mergeBins vs
    match r.find? (fun x => x.1 == v) with
    | some x => (v, x.2 + 1) :: r.filter (fun y => y.1 != v)
    | none => (v, 1) :: r

/-- Add events, up to `room` distinct bins; the others are counted as dropped (R281). The adds left, and the block. -/
def addEvents (h : Nat) (closed : Bool) (room : Nat) (vs : List Int) (b : Block) : Nat × Block :=
  let ms := mergeBins (vs.map (binOf b h))
  let b := forEach (ms.take room) (fun x b => addBin h closed x.1 x.2 b) b
  let lost := ((ms.drop room).map Prod.snd).sum
  (room - ms.length, if lost = 0 then b else b.bump 32 (hObj h) 0x14 lost)

/-- A snapshot boundary falls due (R282): the halves change, or the snapshot is missed. -/
def histBoundary (h pos : Nat) (final : Bool) (b : Block) : Block :=
  let x := b.hist h
  if x.readout.isSome || x.dueStart.isSome then b.flag (hObj h) 0x11 0x12 1
  else b.setHist h { x with dueStart := some (pos, pos / 32 + 6, final), half := 1 - x.half, bounds := x.bounds,
                            touched := [], readout := none, prevTouched := x.touched }

/-- Add a boundary to a list in order of position; boundaries at one sample are one boundary. -/
def insertBound (pos : Nat) (final : Bool) : List (Nat × Bool) → List (Nat × Bool)
  | [] => [(pos, final)]
  | x :: xs =>
    if x.1 = pos then (pos, x.2 || final) :: xs else if pos < x.1 then (pos, final) :: x :: xs else x :: insertBound pos final xs

/-- Add a boundary that is known ahead or in the running frame. -/
def addBoundary (h pos : Nat) (final : Bool) (b : Block) : Block :=
  let x := b.hist h
  b.setHist h { x with bounds := insertBound pos final x.bounds }

/-- The engine accumulates (bit 0 of sub 0x0B of its object, R300). -/
def Block.accumulates (b : Block) (h : Nat) : Bool := bit (b.rd (hObj h) 0xB) 0

/-- Boundaries that a domain's windows, segments or stop make (R282) for the engines that still accumulate: `trig` is the bit of sub
0x09. -/
def boundAll (t trig pos : Nat) (final : Bool) (b : Block) : Block :=
  forEach ((b.histsOf t).filter (fun h => b.accumulates h && bit (b.rd (hObj h) 9) trig)) (fun h b => addBoundary h pos final b) b

/-- The difference of the timestamps of two instants, given as absolute counts of SSU plus 1 (R42, R279). -/
def Block.edgeDiff (b : Block) (x y : Nat) : Int := stampDiff (b.tsSsu (x - 1)) (b.tsSsu (y - 1))

/-- The values, with their positions, that an engine's source yields in frame `a` at positions `lo` to `hi`, and the engine's
last edges after it (R279). DESIGN CHOICE (log 36): the predecessor of a PERIOD edge lies after arm, as the other sources have it; R279
says only "has a predecessor". -/
def histValues (b : Block) (h a lo hi : Nat) : List (Nat × Int) × Hist :=
  let x := b.hist h
  let o := hObj h
  let l := b.rd o 3
  let dir := !bit (b.rd o 5) 0
  let inside := fun (e : Edge) => decide (lo ≤ e.ssu / 64) && decide (e.ssu / 64 ≤ hi)
  let es := (b.edgesNaming l a).filter inside
  let step := fun (acc : List (Nat × Int) × Hist) (e : Edge) =>
    let y := acc.2
    let t := e.ssu + 1
    let out := fun (x : Nat) => acc.1 ++ [(e.ssu / 64, b.edgeDiff x t)]
    match b.rd o 2 with
    | 1 => if e.rise == dir then (if y.prev = 0 then acc.1 else out y.prev, { y with prev := t }) else acc
    | 2 => if e.rise then (acc.1, { y with rise := t }) else (if y.rise = 0 then acc.1 else out y.rise, { y with rise := 0 })
    | 3 => if e.rise then (if y.fall = 0 then acc.1 else out y.fall, { y with fall := 0 }) else (acc.1, { y with fall := t })
    | _ => acc
  match b.rd o 2 with
  | 4 =>
    -- edges of the lane and of the reference lane in time order, the reference first at equal times
    let rs := ((b.edgesNaming (b.rd o 4) a).filter inside).filter (fun e => e.rise == dir)
    let ls := es.filter (fun e => e.rise == dir)
    let r := ls.foldl (fun (acc : List (Nat × Int)) e =>
      let ref := (rs.filter (fun r => r.ssu ≤ e.ssu)).getLast?.map (fun r => r.ssu + 1) |>.getD x.ref
      if ref = 0 then acc else acc ++ [(e.ssu / 64, b.edgeDiff ref (e.ssu + 1))]) []
    (r, { x with ref := (rs.getLast?.map (fun r => r.ssu + 1)).getD x.ref })
  | 5 => ((((List.range (hi + 1 - lo)).map (· + lo)).filter (fun p => !b.isVoid p)).map (fun p => (p, (b.cAt l p : Int))), x)
  | _ => es.foldl step ([], x)

/-- An engine takes the events of frame `a`, split at the boundaries that lie in it (R282), with up to 16 adds in the frame (R281). -/
def histFrame (a lo hi h : Nat) (b : Block) : Block :=
  let r := histValues b h a lo hi
  let now := (r.2.bounds.filter (fun x => x.1 ≤ hi))
  let b := b.setHist h { r.2 with bounds := r.2.bounds.filter (fun x => hi < x.1) }
  -- the events before each boundary, then the boundary, then the rest
  let go := now.foldl (fun (acc : List (Nat × Int) × Nat × Block) x =>
    let before := (acc.1.filter (fun v => v.1 < x.1)).map Prod.snd
    let q := addEvents h false acc.2.1 before acc.2.2
    (acc.1.filter (fun v => x.1 ≤ v.1), q.1, histBoundary h x.1 x.2 q.2)) (r.1, 16, b)
  (addEvents h false go.2.1 (go.1.map Prod.snd) go.2.2).2

/-- The sample of an Indigo output's t, as a position: its window ended 64 samples before the term's place (R120, R121, R279). -/
def outputSample (b : Block) (pt : IndPoint) : Int :=
  ((pt.pos : Int) - 64) + (-(stampDiff pt.t (b.tsPos (pt.pos - 64)))) / 64

/-- An Indigo output reaches an engine: it belongs to the sample of its t, which must be one that the domain evaluates (R278, R279). Before
a boundary whose readout has not begun it joins the closed interval. DESIGN CHOICE (log 48): an output that comes after that
readout has begun joins the running interval, if there is one. -/
def histOutput (h : Nat) (pt : IndPoint) (b : Block) : Block :=
  let d := b.dom (b.rd (hObj h) 1)
  let p := outputSample b pt
  let started := match d.first with | some f => decide (((f * 32 : Nat) : Int) ≤ p) | none => false
  let stopped := match d.stop with | some s => decide ((s.pos : Int) < p) | none => false
  let closed := match (b.hist h).dueStart with | some x => decide (p < (x.1 : Int)) | none => false
  if !started || stopped || !(closed || bit (b.rd (hObj h) 0xB) 0) then b
  else (addEvents h closed 16 [pt.y] b).2

/-- An Indigo output of a lane reaches the engines whose source it is (R279). -/
def histIndigo (l : Nat) (pt : IndPoint) (b : Block) : Block :=
  let hs := (List.range 16).filter (fun h =>
    let t := b.rd (hObj h) 1
    b.rd (hObj h) 2 == 6 && b.rd (hObj h) 3 == l && t < 8 && b.armed t && b.recordsMode t)
  forEach hs (fun h b => histOutput h pt b) b

/-- The HIST_SNAPSHOT record of a run of bins (R270). -/
def histRecord (b : Block) (h : Nat) (ro : Readout) (last : Bool) : List Nat :=
  let w32 := b.w32 h
  let body := if w32 then pack32 ro.bins else ro.bins
  headerWord 0xC (b.hist h).dom (4 + body.length) 0 (b2n last * 2 ^ 9 + b2n w32 * 2 ^ 8 + h) :: ro.ts ::
    (ro.bins.length * 2 ^ 32 + ro.first) :: (ro.no * 2 ^ 32 + b.bins h) :: body

/-- One bin word is read out and cleared; a full record is written (R281, R282, R270). -/
def readWord (h : Nat) (b : Block) : Block :=
  let x := b.hist h
  match x.readout with
  | none => b
  | some ro =>
    let w32 := b.w32 h
    let per := if w32 then 2 else 1
    if b.bins h ≤ ro.next then b
    else
      let k := b.rd (hObj h) 0xC
      let i := binWord w32 ro.half ro.next
      let w := (b.word k i).toNat
      let val := fun (bin : Nat) =>
        if ro.touched.contains bin then (if w32 then bits w (32 * (bin % 2)) 32 else w) else 0
      let vs := (List.range per).map (fun j => val (ro.next + j))
      let ro := { ro with next := ro.next + per, bins := ro.bins ++ vs }
      let b := b.setWord k i 0
      let last := decide (b.bins h ≤ ro.next)
      if last || ro.bins.length = 8187 * per then
        let rec_ := histRecord b h ro last
        let b := b.setHist h { x with readout := some { ro with bins := [], first := ro.next } }
        recordTo b.time.abs x.dom kHIST rec_ b
      else b.setHist h { x with readout := some ro }

/-- A frame of a readout: four bin words (R282). -/
def readoutFrame (h : Nat) (b : Block) : Block :=
  if (b.hist h).readout.isSome then forEach (List.range 4) (fun _ b => readWord h b) b else b

/-- SNAPSHOT_READOUT_START: the readout of a boundary in its frame or later begins with that frame's four bin words (R282). -/
def readoutStart (h : Nat) (b : Block) : Block :=
  let x := b.hist h
  match x.dueStart with
  | some (pos, at_, final) =>
    if at_ ≤ b.time.abs then
      let ro : Readout := { half := 1 - x.half, next := 0, ts := b.tsPos pos, no := x.nextNo, first := 0, bins := [],
                            touched := x.prevTouched, final := final }
      readoutFrame h <| ((b.setHist h { x with dueStart := none, readout := some ro, nextNo := (x.nextNo + 1) % 2 ^ 32, prevTouched := [] }).wrBit
        (hObj h) 0xB 1 true).wr (hObj h) 0xD x.nextNo
    else b
  | none => b

/-- The bank of an engine becomes Unowned again (R283, R387). -/
def releaseHistBank (h : Nat) (b : Block) : Block :=
  let k := b.rd (hObj h) 0xC
  if 64 ≤ k then b else (unown k b).wr (hObj h) 0xC 0xFF

/-- SNAPSHOT_READOUT_END: a readout whose bins are all read ends; after the final one the bank is returned (R283). -/
def readoutEnd (h : Nat) (b : Block) : Block :=
  let x := b.hist h
  match x.readout with
  | some ro =>
    if b.bins h ≤ ro.next then
      let b := (b.setHist h { x with readout := none }).wrBit (hObj h) 0xB 1 false
      if ro.final && x.bounds.isEmpty then releaseHistBank h b else b
    else b
  | none => b

/-- SNAPSHOT_COMMAND (R282): accepted only while the domain is ARMED; the answer's status. An engine that does not
accumulate has no interval to close. -/
def snapshotCommand (h : Nat) (b : Block) : Nat × Block :=
  let t := b.rd (hObj h) 1
  if t < 8 && b.dstate t = 1 then
    (stOK, if b.accumulates h && bit (b.rd (hObj h) 9) 0 then addBoundary h ((b.time.abs + 2) * 32) false b else b)
  else (stSTATE, b)

/-- The engine at arm (R283): fresh intervals in the bank taken. -/
def histArm (h bank : Nat) (b : Block) : Block :=
  (((b.setHist h { Hist.reset with dom := b.rd (hObj h) 1 }).wr (hObj h) 0xC bank).wr (hObj h) 0xB 1).wr (hObj h) 0xD 0

/-- The domain's engines stop accumulating (R278). The last snapshot not yet read out is the final one; an engine with none, and with no
boundary of a command to come, returns its bank (R283). -/
def histStop (h : Nat) (b : Block) : Block :=
  let b := b.wrBit (hObj h) 0xB 0 false
  let x := b.hist h
  let final := (match x.readout with | some r => r.final | none => false) || (match x.dueStart with | some d => d.2.2 | none => false) ||
    x.bounds.any (·.2)
  if final || !x.bounds.isEmpty then b
  else match x.readout with
    | some r => b.setHist h { x with readout := some { r with final := true } }
    | none => match x.dueStart with
      | some d => b.setHist h { x with dueStart := some (d.1, d.2.1, true) }
      | none => releaseHistBank h b

/-- A boundary of a command after the last evaluated sample falls due once its frame is resolved (R282): it closes the interval, or is
missed while a readout runs; the last of them is the final one (R283). -/
def histLate (h : Nat) (b : Block) : Block :=
  let x := b.hist h
  match x.bounds with
  | (pos, _) :: rest =>
    if b.accumulates h || b.time.abs < pos / 32 + 5 then b
    else
      let b := histBoundary h pos rest.isEmpty (b.setHist h { x with bounds := rest })
      if rest.isEmpty then histStop h b else b
  | [] => b

/-- The engines assigned to a domain (R278). -/
def Block.enginesAt (b : Block) (t : Nat) : List Nat := (List.range 16).filter (fun h => b.rd (hObj h) 1 == t)

/-- An engine still reads out a final snapshot (R294). -/
def histBusy (b : Block) (h : Nat) : Bool :=
  let x := b.hist h
  x.readout.isSome || x.dueStart.isSome || !x.bounds.isEmpty

/-- INDIGO_OUTPUT: the engine's oldest work, and what reads the outputs it makes: measurement units and histograms. -/
def indigoOutputAll (e : Nat) (b : Block) : Block :=
  let r := indigoOutput e b
  forEach r.1 (fun x b => histIndigo x.1 x.2 (measureIndigo x.1 x.2 b)) r.2

end Sys2Proof.Machine
end

