-- ==== Sys2Proof/Machine/Stim.lean ====
section
/-! DEFINITION. Stimulus drive (10_stimulus_drive.md R303 to R319): drivers and rest states, patterns and their validity,
staging, launches, passes, markers and underrun. -/

namespace Sys2Proof.Machine

/-! ### The store's octets -/

/-- An octet of the capture store (R209): a place nothing has written since its unit was cleared reads 0. -/
def memByte (mem : List Host.Cell) (a : Nat) : Nat := (look (fun _ => (0 : Byte)) mem a).toNat

/-! ### Drivers (R304, R305) -/

def driveObj (n : Nat) : Nat := 0x3800 + n

/-- Idle level of a lane: 0 HIZ, 1 LOW, 2 HIGH (R321). -/
def idleLevel (b : Block) (l : Nat) : Nat := bits (b.rd (driveObj (l / 16)) 3) (2 * (l % 16)) 2

/-- The domain's mode lets its pods drive (R32, R304): the first condition. -/
def Block.driveMode (b : Block) (t : Nat) : Bool :=
  t < 8 && (b.mode t == 0xA || b.mode t == 0xB || (b.mode t == 8 && b.safeOn t))

/-- Enable or disable the drivers of a pod by the conditions of R304; a newly enabled lane rests at its idle level. The delays of an
enable (at most 10 µs) and of a disable (at most 1 µs) are taken as 0 (DESIGN CHOICE, log 15). -/
def refreshDrivers (n : Nat) (b : Block) : Block :=
  let o := driveObj n
  let old := b.rd o 4
  let new := if b.driveMode (b.podDom n) && b.rd 0x2002 2 < 2 && !bit (b.rd 0x2005 1) 2 then
      maskOf ((setBits 16 (b.rd o 2)).filter (fun m => !bit (b.rd o 5) m)) else 0
  let b := b.wr o 4 new
  let b := if bit new ((b.pod n).visit / 2) then cutVisit n b else b
  forEach (List.range 16) (fun m b =>
    let l := 16 * n + m
    if bit new m && !bit old m then b.setDriver l { b.driver l with rest := idleLevel b l }
    else if !bit new m && bit old m then b.setDriver l Driver.reset else b) b

/-- Levels word accepted (R306). -/
def levelsOk (w : Nat) : Bool :=
  let hi := signed (bits w 16 16) 16
  let lo := signed (bits w 0 16) 16
  decide (-2000 ≤ lo) && decide (hi ≤ 10000) && decide (200 ≤ hi - lo)

/-- Idle levels word accepted (R321): no field reads 3. -/
def idleOk (w : Nat) : Bool := (List.range 16).all (fun m => bits w (2 * m) 2 != 3)

/-! ### Pattern descriptors (R308 to R310) -/

def descObj (t p : Nat) : Nat := 0x3900 + 16 * t + p

structure PatDesc where
  enable : Bool
  stretch : Nat
  rest : Bool
  start : Nat
  len : Nat
  loops : Nat
  pods : List Nat
  deriving DecidableEq, Repr

def Block.patDesc (b : Block) (t p : Nat) : PatDesc :=
  let o := descObj t p
  let c := b.rd o 1
  { enable := bit c 0, stretch := bits c 1 4, rest := bit c 5, start := b.rd o 2, len := b.rd o 3, loops := b.rd o 4,
    pods := setBits 32 (b.rd o 5) }

/-- Physical samples of a bit slot and of a pass (R308). -/
def PatDesc.slot (d : PatDesc) : Nat := 2 * 2 ^ d.stretch
def PatDesc.pass (d : PatDesc) : Nat := d.len * 16 * d.slot
/-- Octets of a drive frame (R309). -/
def PatDesc.frameBytes (d : PatDesc) : Nat := 32 * d.pods.length

/-- A pattern is valid (R310). -/
def patValid (b : Block) (t p : Nat) : Bool :=
  let d := b.patDesc t p
  d.enable && d.start % 32 == 0 && decide (d.start + d.len * d.frameBytes ≤ b.regionSize 8 * unitBytes) &&
    !d.pods.isEmpty && d.pods.all (fun n => b.podDom n == t)

/-- The patterns named for an arm: by LAUNCH actions of any level, or by the safe pattern setting in the modes where it applies, WATCH
and RESPOND (R310, R294). -/
def patsNamed (b : Block) (t : Nat) : List Nat :=
  let acts := (List.range 16).flatMap (fun l => [b.actWord t l 0, b.actWord t l 1])
  let launch := (acts.filter (fun w => bit w 13)).map (fun w => bits w 14 4)
  let named := launch ++ (if b.safeOn t && (b.mode t == 8 || b.mode t == 0xB) then [b.rd (0x6840 + t) 4] else [])
  (List.range 16).filter named.contains

/-- The drive frames staged at arm: the first 8, or the whole pattern (R311). -/
def stagePattern (b : Block) (mem : List Host.Cell) (t p : Nat) : List Byte :=
  let d := b.patDesc t p
  let base := b.regionFirst 8 * unitBytes + d.start
  (List.range (min 8 d.len * d.frameBytes)).map (fun i => BitVec.ofNat 8 (memByte mem (base + i)))

/-- The 16-bit unit of a lane in a drive frame (R309, R311): from the staged frames, or as the block was read when it fell due. -/
def driveUnit (s : Stim) (d : PatDesc) (p frame l : Nat) : Nat :=
  let i := 32 * d.pods.idxOf (l / 16) + 2 * (l % 16)
  let at_ := fun (bs : List Byte) (k : Nat) => (bs.getD k 0).toNat + 256 * (bs.getD (k + 1) 0).toNat
  if frame < 8 then at_ (look (fun _ => ([] : List Byte)) s.staged p) (frame * d.frameBytes + i)
  else match s.blocks.find? (fun x => x.1 == p && x.2.1 == frame) with
    | some x => at_ x.2.2 i
    | none => 0

/-- The octets of a drive frame in the stimulus region (R309). -/
def frameOctets (b : Block) (mem : List Host.Cell) (d : PatDesc) (frame : Nat) : List Byte :=
  let a := b.regionFirst 8 * unitBytes + d.start + frame * d.frameBytes
  (List.range d.frameBytes).map (fun i => BitVec.ofNat 8 (memByte mem (a + i)))

/-! ### Launches (R312 to R315) -/

def stimObj (t : Nat) : Nat := 0x3A00 + t

/-- A sequencer launch at action position `j` in a drive mode (R312); while the engine is locked it is ignored (R315). -/
def launch (t j p : Nat) (b : Block) : Block :=
  let s := b.stim t
  if !b.driveMode t then b
  else if s.locked then b.flag (stimObj t) 9 0xA 1
  else b.setStim t { s with launches := s.launches ++ [{ at_ := j + 256, pat := p, safe := false }] }

/-- The mask unit launches the safe pattern in frame K: sample 0 of frame K + 3 (R290, R315). Sequencer launches that would
reach the contact from then on are ignored. -/
def safeLaunch (t : Nat) (b : Block) : Block :=
  let s := b.stim t
  if !b.driveMode t then b
  else
    let at_ := (b.time.abs + 3) * 32
    let keep := s.launches.filter (fun l => l.at_ < at_)
    let n := s.launches.length - keep.length
    let b := b.setStim t { s with locked := true, launches := keep ++ [{ at_ := at_, pat := b.rd (0x6840 + t) 4, safe := true }] }
    if n = 0 then b else b.flag (stimObj t) 9 0xA n

/-- What a pattern engine drives at one physical sample: nothing, a bit slot of a drive frame, or the end of a pattern whose
last slot that was; each also in a drive frame that has not arrived (R317). -/
inductive DriveStep where
  | rest
  | slot (pat frame bit_ : Nat)
  | last (pat frame bit_ : Nat) (hold : Bool)
  | lateSlot
  | lateLast (pat : Nat) (hold : Bool)
  deriving DecidableEq, Repr

/-- Position of a physical sample in the frame being driven; a dropped sample belongs to sample 0 (R355). -/
def physPos (tk : Taking) (q : Nat) : Nat := tk.abs * 32 + (q - tk.phys - tk.drop)

/-- Markers of the running pattern at a bit slot that begins now (R316). -/
def marksAt (b : Block) (t p slot n : Nat) : Nat :=
  maskOf ((List.range 8).filter (fun m => b.rd (descObj t p) (6 + m) == slot && slot < n))

/-- A lane of a pattern has its driver enabled (R304). -/
def patDriven (b : Block) (t p : Nat) : Bool :=
  (b.patDesc t p).pods.any (fun n => (List.range 16).any (fun m => b.driverOn (16 * n + m)))

/-- One physical sample of a pattern engine. `stopAt` is the contact position of the domain's last evaluated sample. -/
def driveStep (mem : List Host.Cell) (t : Nat) (tk : Taking) (late : Bool) (stopAt : Option Nat) (q : Nat) (b : Block) : DriveStep × Block :=
  let s := b.stim t
  let pos := physPos tk q
  let real := decide (tk.phys + tk.drop ≤ q)
  -- launches whose contact position has been reached replace what runs (R313)
  let due := if real then s.launches.filter (fun l => l.at_ ≤ pos) else []
  let s := if real then { s with launches := s.launches.filter (fun l => pos < l.at_) } else s
  -- a launch that a void position (R355) has moved onto the safe pattern's is ignored (R315)
  let ignored := if due.any (·.safe) then (due.filter (fun l => !l.safe)).length else 0
  let b := if ignored = 0 then b else b.flag (stimObj t) 9 0xA ignored
  let s := match (due.find? (·.safe)).orElse (fun _ => due.getLast?) with
    | some l =>
      { s with run := some { pat := l.pat, safe := l.safe, start := q, pass := 1, lastPass := 0 },
               reached := s.reached ++ [(pos, l.pat, l.safe, patDriven b t l.pat)] }
    | none => s
  match s.run with
  | none => (.rest, b.setStim t s)
  | some r =>
    let d := b.patDesc t r.pat
    let r := if real && !r.safe && r.lastPass = 0 && (match stopAt with | some x => decide (x ≤ pos) | none => false) then
        { r with lastPass := r.pass } else r
    let o := q - r.start
    let slot := o / d.slot
    let frame := slot / 16
    let first := o % d.slot = 0
    let s := if first then
        let m := marksAt b t r.pat slot (d.len * 16)
        if m = 0 then s else { s with marks := (pos, m) :: s.marks.filter (fun x => decide (pos ≤ x.1 + 512)) }
      else s
    -- a drive frame beyond the staged ones is read from the store as it falls due (R311, R317)
    let fetch := first && slot % 16 = 0 && decide (8 ≤ frame)
    let s := if fetch then
        { s with used := s.used + d.frameBytes, late := if late then some q else none,
                 blocks := (r.pat, frame, frameOctets b mem d frame) :: s.blocks.take 3 } else
      if first && slot % 16 = 0 then { s with late := none } else s
    let b := if fetch && late then b.flag (stimObj t) 6 7 1 else b
    let passEnd := decide (o + 1 = d.pass)
    let isOver := passEnd && ((d.loops != 0 && decide (d.loops ≤ r.pass)) || (r.lastPass != 0 && decide (r.lastPass ≤ r.pass)))
    -- a pass that ends on a dropped sample (R355) ends before the next position, where a launch may stand
    let endAt := if real then pos else pos - 1
    let s := if isOver then { s with run := none, ends := s.ends ++ [(endAt, 0, r.safe)] }
      else if passEnd then
        { s with run := some { r with pass := r.pass + 1, start := r.start + d.pass },
                 ends := s.ends ++ [(endAt, r.pass + 1, r.safe)] }
      else { s with run := some r }
    let st : DriveStep :=
      if s.late.isSome then (if isOver then .lateLast r.pat (!d.rest) else .lateSlot)
      else if isOver then .last r.pat frame (slot % 16) (!d.rest) else .slot r.pat frame (slot % 16)
    (st, b.setStim t s)

/-- A lane follows the steps of its domain's engine: what it drives by sample, and its rest state after (R305, R312). -/
def laneWave (b : Block) (t l : Nat) : Nat → List DriveStep → List Nat × Nat
  | rest, [] => ([], rest)
  | rest, st :: sts =>
    let mine := fun (p : Nat) => (b.patDesc t p).pods.contains (l / 16)
    let bitv := fun (p f k : Nat) => if bit (driveUnit (b.stim t) (b.patDesc t p) p f l) k then 2 else 1
    let (v, rest') := match st with
      | .rest => (rest, rest)
      | .lateSlot => (rest, rest)
      | .lateLast p hold => (rest, if mine p && !hold then idleLevel b l else rest)
      | .slot p f k => if mine p then (bitv p f k, rest) else (rest, rest)
      | .last p f k hold => if mine p then (bitv p f k, if hold then bitv p f k else idleLevel b l) else (rest, rest)
    let r := laneWave b t l rest' sts
    (v :: r.1, r.2)

/-- A running pattern as it stands before physical sample `q`, for at most so many pass ends (R308, R312). -/
def PatRun.upTo (d : PatDesc) (q : Nat) : Nat → PatRun → Option PatRun
  | 0, r => some r
  | n + 1, r =>
    if q < r.start + d.pass then some r
    else if (d.loops != 0 && decide (d.loops ≤ r.pass)) || (r.lastPass != 0 && decide (r.lastPass ≤ r.pass)) then none
    else PatRun.upTo d q n { r with pass := r.pass + 1, start := r.start + d.pass }

/-- The newest frame ends at physical sample `q` after all, because its tail has become void: the pattern that ran at its start stands as
it does before that sample, so that the slip neither stretches nor shortens it (R355). -/
def rewindRun (q t : Nat) (b : Block) : Block :=
  let s := b.stim t
  match s.before with
  | none => b
  | some r =>
    let past := match (b.dom t).stop with | some x => decide (x.pos + 256 < b.time.abs * 32 + 32) | none => false
    let r := if !r.safe && r.lastPass = 0 && past then { r with lastPass := r.pass } else r
    b.setStim t { s with run := r.upTo (b.patDesc t r.pat) q 3 }

/-- A pattern engine and the drivers of its domain over the physical samples of a frame. -/
def driveDomain (mem : List Host.Cell) (tk : Taking) (late : List Nat) (t : Nat) (b : Block) : Block :=
  let b := if (b.stim t).used = 0 then b else b.setStim t { b.stim t with used := 0 }
  let s := b.stim t
  let b := if s.before = s.run then b else b.setStim t { s with before := s.run }
  let lanes := (b.lanesOf t).filter b.driverOn
  if s.run.isNone && s.launches.isEmpty then
    forEach lanes (fun l b => b.setDriver l { b.driver l with wave := List.replicate tk.len (b.driver l).rest }) b
  else
    let stopAt := ((b.dom t).stop).map (fun x => x.pos + 256)
    let r := (List.range tk.len).foldl (fun (acc : List DriveStep × Block) i =>
      let x := driveStep mem t tk (late.contains t) stopAt (tk.phys + i) acc.2
      (acc.1 ++ [x.1], x.2)) ([], b)
    forEach lanes (fun l b =>
      let w := laneWave r.2 t l (b.driver l).rest r.1
      b.setDriver l { rest := w.2, wave := w.1 }) r.2

/-! ### Events of the engine -/

/-- A launch that reached the contact at a position is counted and its timestamp recorded, where a driver of the pattern was enabled
then (R312); the engine's state follows (R323). -/
def recordLaunch (t pos p : Nat) (safe driven : Bool) (b : Block) : Block :=
  let o := stimObj t
  let b := if driven then (b.wr o 4 (b.tsPos pos)).bump 32 o 5 1 else b
  ((b.wr o 1 (if safe then 2 else 1)).wr o 2 p).wr o 3 1

/-- A pass end is recorded: the next pass, or the end of the pattern (R312, R314, R323). -/
def recordEnd (t n : Nat) (safe : Bool) (b : Block) : Block :=
  let o := stimObj t
  if n = 0 then (if safe then b.wr o 1 3 else (b.wr o 1 0).wr o 2 0xFF) else b.wr o 3 (satTo 32 n)

/-- LAUNCH_AT_CONTACT: the oldest launch that has reached the contact is recorded, after the pass ends that lie before it. -/
def launchAtContact (t : Nat) (b : Block) : Block :=
  let s := b.stim t
  match s.reached with
  | (pos, p, safe, driven) :: rest =>
    let b := b.setStim t { s with reached := rest, ends := s.ends.filter (fun e => decide (pos ≤ e.1)) }
    recordLaunch t pos p safe driven (forEach (s.ends.filter (fun e => decide (e.1 < pos))) (fun e b => recordEnd t e.2.1 e.2.2 b) b)
  | [] => b

/-- PASS_END: the oldest pass end not yet recorded is recorded, after the launches that do not lie behind it. -/
def passEnd (t : Nat) (b : Block) : Block :=
  let s := b.stim t
  match s.ends with
  | (pos, n, safe) :: rest =>
    let b := b.setStim t { s with ends := rest, reached := s.reached.filter (fun l => decide (pos < l.1)) }
    recordEnd t n safe
      (forEach (s.reached.filter (fun l => decide (l.1 ≤ pos))) (fun l b => recordLaunch t l.1 l.2.1 l.2.2.1 l.2.2.2 b) b)
  | [] => b

/-- What a pattern engine has not yet recorded is recorded, in the order of its positions. -/
def settleStim (t : Nat) (b : Block) : Block :=
  let b := forEach (b.stim t).reached (fun _ b => launchAtContact t b) b
  forEach (b.stim t).ends (fun _ b => passEnd t b) b

/-- The drive modes end for a domain (R304, R311): nothing runs and nothing is launched. -/
def stimOff (t : Nat) (b : Block) : Block :=
  let o := stimObj t
  ((b.setStim t { Stim.reset with marks := (b.stim t).marks }).wr o 1 0).wr o 2 0xFF

/-- The engine at an arm (R311, R315, R323): the lock is released, the patterns named are staged. -/
def stimArm (mem : List Host.Cell) (t : Nat) (b : Block) : Block :=
  let o := stimObj t
  let st := (patsNamed b t).map (fun p => (p, stagePattern b mem t p))
  let s := b.stim t
  let b := b.setStim t { s with staged := st, locked := false }
  if b.rd o 1 = 3 then (b.wr o 1 0).wr o 2 0xFF else b

/-- DRIVER_SHORT: a driver has stayed at its limit for 2 µs and is latched off (R318). -/
def driverShort (l : Nat) (b : Block) : Block :=
  if 512 ≤ l || !b.driverOn l then b
  else
    let n := l / 16
    let t := b.podDom n
    let stop := t < 8 && b.armed t && bit (b.rd (stimObj t) 0xC) 0
    let stopped := stop && b.faultApplies t
    let b := refreshDrivers n (b.wrBit (driveObj n) 5 (l % 16) true)
    let b := b.flag (driveObj n) 7 8 1
    let b := if stop then faultStop t b else b
    let b := postError (if t < 8 then t else 0xF) 4 0 l 0 stopped b
    emcyEvent 0x2310 3 (toLe 2 l ++ toLe 1 t ++ [0, 0]) b

end Sys2Proof.Machine
end

