-- ==== Sys2Proof/Machine/Dma.lean ====
section
/-! DEFINITION. The DMA channels (15_pcie_endpoint.md R447 to R456, R459, R460, R466, R471): descriptors fetched and served, data
reads by tag, completion in the order of R451, halts and aborts. -/

namespace Sys2Proof.Machine

/-! ### Fields (R471) -/

def Dma.enabled (x : Dma) : Bool := bit x.ctrl 31
def Dma.entries (x : Dma) : Nat := 2 ^ bits x.ctrl 20 5
def Dma.bound (x : Dma) : Bool := bit x.ctrl 19
def Dma.domain (x : Dma) : Nat := bits x.ctrl 16 3
def Dma.vector (x : Dma) : Nat := bits x.ctrl 10 6
def Dma.staged (x : Dma) : Bool := bit x.ctrl 9
def Dma.bank (x : Dma) : Nat := bits x.ctrl 3 6
/-- Descriptors posted and not completed. -/
def Dma.waiting (x : Dma) : Nat := (x.tail + 2 ^ 17 - x.head) % 2 ^ 17
/-- Host address of a ring entry. -/
def Dma.entryAddr (x : Dma) (i : Nat) : Nat := x.ring + 32 * (i % x.entries)

/-- The channel as a producer or consumer of queues (R415). -/
def dmaAgent (c : Nat) : Agent := { cls := .dma, inst := c }

/-- The enabled channel bound to a domain (R453). -/
def boundChan (b : Block) (t : Nat) : Option Nat :=
  (List.range 32).find? (fun c => let x := b.chan c; x.enabled && x.bound && x.domain == t)

/-- The function may issue requests (R459, R461, R462). -/
def Block.mayRequest (b : Block) : Bool := b.pcie.loaded && b.pcie.cfg.bme && !b.pcie.d3 && !b.pcie.flr

/-! ### Writes into the store by the host (R210, R211) -/

/-- A discarded write: DISCARD, its count, and the unit. -/
def discardWrite (u : Nat) (b : Block) : Block :=
  ((b.bset 0xA04 0 1).bset 0xA04 1 (satTo 16 (b.bget 0xA04 1 + 1))).bset 0xA08 0 (u % 32768)

/-- A part of a write that lies in one unit: it lands in the stimulus region, or is discarded. -/
def storeWritePart (addr : Nat) (data : List Byte) (b : Block) : Block :=
  let u := addr / unitBytes
  if b.regionOfUnit u != some 8 then discardWrite u b
  else
    let b := if b.unit u = 0 then b.setUnit u 2 else b
    { b with mops := b.mops ++ [.write addr data] }

/-- A write of one transfer or TLP, part by part; `n` bounds the parts. The hold of the first write to a CLEAR unit, at most 2 µs
(R210), is taken as 0 (DESIGN CHOICE, log 15). -/
def storeWrite : Nat → Nat → List Byte → Block → Block
  | 0, _, _, b => b
  | n + 1, addr, data, b =>
    if data.isEmpty then b
    else
      let k := unitBytes - addr % unitBytes
      storeWrite n (addr + k) (data.drop k) (storeWritePart addr (data.take k) b)

/-- Octets of the store (R444). -/
def storeOctets (mem : List Host.Cell) (addr n : Nat) : List Byte :=
  (List.range n).map (fun i => look (fun _ => (0 : Byte)) mem (addr + i))

/-- An uncorrectable error that a read meets (R444, R404): POISONED, STORE_UNCORRECTABLE and its record. -/
def poisonedRead (addr : Nat) (b : Block) : Block :=
  let b := (b.flag 0x7011 4 5 1).wr 0x7011 7 addr
  postError 0xF 0x05 0 (addr / unitBytes) addr false b

/-- POISONED and its count (R444). -/
def poisoned (b : Block) : Block := (b.bset 0x1808 0 1).bset 0x180C 1 (satTo 16 (b.bget 0x180C 1 + 1))

/-! ### Reads of host memory (R456) -/

/-- Reads that may be outstanding at once. -/
def Block.tagLimit (b : Block) : Nat := min (b.rd 0x7100 6) b.pcie.cfg.tags

/-- The lowest tag that is not in use. -/
def freeTag (rs : List DmaRead) : Nat :=
  ((List.range (rs.length + 1)).find? (fun t => !rs.any (fun r => r.tag == t))).getD 0

/-- Octets from a host address to the next 4 KiB boundary, which no memory request crosses (R443). -/
def toBoundary (addr : Nat) : Nat := 4096 - addr % 4096

/-- Issue a read, if a tag is free. -/
def issueRead (c : Nat) (fetch : Bool) (pos addr len : Nat) (b : Block) : Block :=
  let tag := freeTag b.pcie.reads
  let r : DmaRead := { tag := tag, chan := c, fetch := fetch, pos := pos, len := len, late := false }
  { b.emit (.hostRead addr len tag) with pcie := { b.pcie with reads := b.pcie.reads ++ [r], link := 0 } }

/-- Reads of a channel that it still wants. -/
def Block.wanted (b : Block) (c : Nat) : List DmaRead := b.pcie.reads.filter (fun r => r.chan == c && !r.late)

/-! ### Checking a descriptor (R450) -/

/-- LENGTH as the ABI in force reads it (R442). -/
def descLen (b : Block) (d : Descriptor) : Nat := if b.rd 0x1E00 5 = 1 then bits d.w2 0 24 else bits d.w2 0 32
def descKind (d : Descriptor) : Nat := bits d.w2 32 4

/-- A reserved bit or kind is set, or an alignment of R449 is broken. -/
def descMalformed (b : Block) (d : Descriptor) : Bool :=
  let k := descKind d
  let n := descLen b d
  let al := if k = 2 || k = 3 then 16 else 8
  let dev := if k ≤ 1 then d.w1 / 2 ^ 36 else if k ≤ 3 then d.w1 / 2 ^ 12 else d.w1
  n == 0 || decide (4 < k) || bits d.w2 37 27 != 0 || (b.rd 0x1E00 5 == 1 && bits d.w2 24 8 != 0) || dev != 0 ||
    d.w0 % al != 0 || n % al != 0 || (decide (k ≤ 1) && d.w1 % 8 != 0)

/-- Octets from a store address to the end of the installed store, or of the stimulus region. -/
def storeLeft (b : Block) (addr : Nat) : Nat := b.installed * unitBytes - addr
def stimLeft (b : Block) (addr : Nat) : Nat := (b.regionFirst 8 + b.regionSize 8) * unitBytes - addr

/-- Status of a descriptor when its service begins, and the octets of host data that it needs. -/
def descStatus (b : Block) (c : Nat) (d : Descriptor) : Nat × Nat :=
  let n := descLen b d
  let q := b.queue (bits d.w1 0 12)
  if descMalformed b d then (stRANGE, 0)
  else match descKind d with
    | 1 => if b.regionOfUnit (d.w1 / unitBytes) != some 8 then (stSTATE, 0) else (stOK, min n (stimLeft b d.w1))
    | 2 => if !q.enabled || !q.mayPop (dmaAgent c) then (stSTATE, 0) else (stOK, 0)
    | 3 => if !q.mayPush (dmaAgent c) then (stSTATE, 0) else (stOK, n)
    | 4 => if !(b.chan c).bound then (stSTATE, 0) else (stOK, 0)
    | _ => (stOK, 0)

/-! ### Running -/

/-- The service of a fetched descriptor begins when the one before it has completed. A channel with STAGE_EN stages through its bank
(R455), and wakes it (R397). -/
def beginService (c : Nat) (b : Block) : Block :=
  let x := b.chan c
  match x.cur, x.fetched with
  | none, d :: _ =>
    if x.st = 1 && b.mayRequest then
      let b := b.setChan c { x with cur := some (descStatus b c d), asked := 0, got := [], sent := 0, dry := false }
      if x.staged && (descStatus b c d).1 = stOK then wakeBank x.bank b else b
    else b
  | _, _ => b

/-- Data can move through a channel: its staging bank, where it has one, is ON (R396, R397, R455). -/
def Block.stageOn (b : Block) (c : Nat) : Bool := !(b.chan c).staged || (b.bank (b.chan c).bank).power == 0

/-- Descriptors of a channel that are fetched, or whose fetch is outstanding. -/
def Block.ahead (b : Block) (c : Nat) : Nat :=
  (b.chan c).fetched.length + (b.chan c).early.length + ((b.wanted c).filter (·.fetch)).length

/-- The next request of a channel, if it has one: a descriptor fetch while fewer than 8 are ahead and one is posted, else a read of host
data of the descriptor in service. It gives fetch, place, host address and octets. -/
def nextRequest (c : Nat) (b : Block) : Option (Bool × Nat × Nat × Nat) :=
  let x := b.chan c
  let ahead := b.ahead c
  if x.st != 1 || !b.mayRequest || decide (b.tagLimit ≤ b.pcie.reads.length) then none
  else if ahead < 8 && ahead < x.waiting then some (true, (x.head + ahead) % 2 ^ 17, x.entryAddr (x.head + ahead), 32)
  else match x.cur, x.fetched with
    | some (_, need), d :: _ =>
      if x.asked < need && b.stageOn c then
        let addr := d.w0 + x.asked
        some (false, x.asked, addr, max 1 (min (toBoundary addr) (min b.pcie.cfg.maxRead (need - x.asked))))
      else none
    | _, _ => none

/-- A channel issues its request, and the turn passes to the next channel. -/
def takeTurn (c : Nat) (q : Bool × Nat × Nat × Nat) (b : Block) : Block :=
  let b := if q.1 then b else b.setChan c { b.chan c with asked := (b.chan c).asked + q.2.2.2 }
  issueRead c q.1 q.2.1 q.2.2.1 q.2.2.2 { b with pcie := { b.pcie with turn := (c + 1) % 32 } }

/-- Up to `n` turns of the rotation, one transfer each (R447); it ends when no channel has a request. -/
def turns : Nat → Block → Block
  | 0, b => b
  | n + 1, b =>
    match (List.range 32).findSome? (fun i => let c := (b.pcie.turn + i) % 32; (nextRequest c b).map (fun q => (c, q))) with
    | none => b
    | some (c, q) => turns n (takeTurn c q b)

/-- Begin the service of descriptors that wait, and issue what the channels may issue. At most 1,024 reads are outstanding. -/
def pumpAll (b : Block) : Block := turns 1024 (forEach (List.range 32) beginService b)

/-- The transfers of host data of the descriptor in service that have arrived without a gap, in order (R447). -/
def Dma.parts (x : Dma) : List (Nat × List Byte) := ((List.range x.got.length).foldl (fun (acc : List (Nat × List Byte) × Nat) _ =>
  match x.got.find? (fun g => g.1 == acc.2) with | some g => (acc.1 ++ [g], acc.2 + g.2.length) | none => acc) ([], 0)).1

/-- The host data of the descriptor in service, in order. -/
def Dma.data (x : Dma) : List Byte := x.parts.flatMap Prod.snd

/-- The transfers of a kind 1 descriptor land, each by itself (R211): at most `need` octets in all. -/
def landParts (addr need : Nat) (ps : List (Nat × List Byte)) (b : Block) : Block :=
  forEach ps (fun g b => storeWrite (g.2.length / unitBytes + 2) (addr + g.1) (g.2.take (need - g.1)) b) b

/-- The queue that a kind 2 descriptor in service reads. -/
def Dma.reads (x : Dma) : Option Nat :=
  match x.cur, x.fetched with
  | some (st, _), d :: _ => if st = stOK && descKind d = 2 then some (bits d.w1 0 12) else none
  | _, _ => none

/-- A channel stops: what it has fetched is given up, and what it has outstanding is no longer wanted. A kind 2 descriptor in service
rewinds its queue (R454). -/
def stopChan (c st cause : Nat) (b : Block) : Block :=
  let x := b.chan c
  let b := match x.reads with | some q => qRewind q b | none => b
  let b := { b with pcie := { b.pcie with reads := b.pcie.reads.map (fun (r : DmaRead) => if r.chan = c then { r with late := true } else r) } }
  b.setChan c { x with st := st, cause := cause, fetched := [], early := [], cur := none, asked := 0, got := [], sent := 0, dry := false }

/-- A RUNNING channel halts; every fetched descriptor not completed is counted (R459). -/
def haltChan (cause c : Nat) (b : Block) : Block :=
  let x := b.chan c
  if x.st != 1 then b
  else stopChan c 2 cause (b.setChan c { x with aborted := satTo 32 (x.aborted + x.fetched.length + x.early.length) })

/-- Every RUNNING channel halts. -/
def haltAll (cause : Nat) (b : Block) : Block := forEach (List.range 32) (haltChan cause) b

/-! ### Completion (R451) -/

/-- The memory requests that write octets to the host: at most Max_Payload_Size each, none across a 4 KiB boundary (R437, R443, R447);
`n` bounds their number. -/
def payloads (size : Nat) : Nat → Nat → List Byte → List (Nat × List Byte)
  | 0, _, _ => []
  | n + 1, addr, data =>
    if data.isEmpty then []
    else
      let k := max 1 (min size (toBoundary addr))
      (addr, data.take k) :: payloads size n (addr + k) (data.drop k)

/-- A write of the device to host memory, request by request. `bad` are the host addresses of octets that were read with an
uncorrectable error: the requests that carry them are poisoned and count (R444). -/
def hostPut (addr : Nat) (data : List Byte) (bad : List Nat) (b : Block) : Block :=
  let b := forEach (payloads b.pcie.cfg.maxPayload (data.length + 1) addr data) (fun q b =>
    let hit := bad.any (fun i => decide (q.1 ≤ i) && decide (i < q.1 + q.2.length))
    (if hit then poisoned b else b).emit (.hostWrite q.1 q.2 hit)) b
  { b with pcie := { b.pcie with link := 0 } }

/-- The status write: HEAD and DONE (R451). -/
def statusWrite (c : Nat) (b : Block) : Block :=
  let x := b.chan c
  if x.wb = 0 then b else hostPut x.wb (toLe 8 (x.head + x.done * 2 ^ 32)) [] b

/-- The descriptor in service completes: word 3, HEAD and DONE, the status word, the message; another status than OK halts the
channel. -/
def completeDesc (c st bytes : Nat) (short ended int : Bool) (b : Block) : Block :=
  let x := b.chan c
  let w3 := 2 ^ 63 + st * 2 ^ 48 + b2n ended * 2 ^ 41 + b2n short * 2 ^ 40 + bytes % 2 ^ 32
  let b := hostPut (x.entryAddr x.head + 24) (toLe 8 w3) [] b
  let b := b.setChan c { x with
    head := (x.head + 1) % 2 ^ 17, done := (x.done + 1) % 2 ^ 32, last := st, fetched := x.fetched.drop 1, cur := none,
    asked := 0, got := [], sent := 0, dry := false }
  let b := statusWrite c b
  let b := if int || st != stOK then sendMsix x.vector b else b
  if st = stOK then b else haltChan 6 c b

/-- Pop up to `n` readable items: their octets in the form of R424. -/
def popReadable (q : Nat) : Nat → Block → List Byte × Block
  | 0, b => ([], b)
  | n + 1, b =>
    match qPop q b with
    | (none, _) => ([], b)
    | (some p, b') =>
      let here := wordsToLe [p.data, itemStatus b' q (some p)]
      let r := popReadable q n b'
      (here ++ r.1, r.2)

/-- An entry of a kind 3 descriptor: data, priority, END. -/
def entriesOf : Nat → List Byte → List (Nat × Nat × Bool)
  | 0, _ => []
  | n + 1, bs =>
    if bs.isEmpty then []
    else
      let w1 := ofLe ((bs.drop 8).take 8)
      (ofLe (bs.take 8), bits w1 32 3, bit w1 1) :: entriesOf n (bs.drop 16)

/-- Packets of entries; the last entry carries END. -/
def packetsOf : List (Nat × Nat × Bool) → List (List (Nat × Nat))
  | [] => []
  | (d, p, e) :: rest =>
    match packetsOf rest with
    | [] => [[(d, p)]]
    | y :: ys => if e then [(d, p)] :: y :: ys else ((d, p) :: y) :: ys

/-! ### Data on their way to the host (R447, R453) -/

/-- Octets of the descriptor in service, of kind 0, 2 or 4, that can be written to the host now. Of a kind 4 descriptor they are the
committed octets that it has not written yet (R453). -/
def putLeft (b : Block) (c : Nat) : Nat :=
  let x := b.chan c
  match x.cur, x.fetched with
  | some (st, _), d :: _ =>
    let n := descLen b d
    if st != stOK then 0
    else match descKind d with
      | 0 => min n (storeLeft b d.w1) - x.sent
      | 2 => if x.dry || qBroken b (bits d.w1 0 12) || (qNext b (bits d.w1 0 12)).isNone then 0 else n - x.sent
      | 4 => min n (if b.mode x.domain = 7 then (b.store x.domain).fill else 0) - x.sent
      | _ => 0
  | _, _ => 0

/-- Octets of a channel's next write to the host, 0 where it has none: at most Max_Payload_Size, and none across a 4 KiB boundary
(R437, R443, R447). -/
def nextPut (b : Block) (c : Nat) : Nat :=
  let x := b.chan c
  match x.fetched with
  | d :: _ =>
    if x.st != 1 || !b.mayRequest || !b.stageOn c then 0
    else min (putLeft b c) (max 1 (min b.pcie.cfg.maxPayload (toBoundary (d.w0 + x.sent))))
  | [] => 0

/-- What a channel's next write carries: store octets, those of `bad` met with an uncorrectable error (R444), or the items of its queue
that are readable. It gives the octets and the host addresses of those in error. -/
def putData (mem : List Host.Cell) (bad : List Nat) (c n : Nat) (d : Descriptor) (b : Block) : List Byte × List Nat × Block :=
  let x := b.chan c
  if descKind d = 2 then
    let r := popReadable (bits d.w1 0 12) (n / 16) b
    (r.1, [], r.2)
  else
    let s := b.store x.domain
    let at_ := fun (i : Nat) => if descKind d = 0 then d.w1 + x.sent + i else s.fifoAddr (s.rpos + x.sent + i)
    let hit := (List.range n).filter (fun i => bad.contains (at_ i))
    ((List.range n).map (fun i => look (fun _ => (0 : Byte)) mem (at_ i)), hit.map (fun i => d.w0 + x.sent + i),
      forEach (hit.map at_) poisonedRead b)

/-- A channel's turn: one write of data to the host, else one request for a read (R447). -/
def channelTurn (mem : List Host.Cell) (bad : List Nat) (c : Nat) (b : Block) : Block :=
  let n := nextPut b c
  match (b.chan c).fetched with
  | d :: _ =>
    if n = 0 then (match nextRequest c b with | some q => takeTurn c q b | none => b)
    else
      let r := putData mem bad c n d b
      let b := r.2.2
      let x := b.chan c
      let b := b.setChan c { x with sent := x.sent + r.1.length }
      hostPut (d.w0 + x.sent) r.1 r.2.1 { b with pcie := { b.pcie with turn := (c + 1) % 32 } }
  | [] => (match nextRequest c b with | some q => takeTurn c q b | none => b)

/-- One turn of each channel, from the one whose turn it is. -/
def rotation (mem : List Host.Cell) (bad : List Nat) (b : Block) : Block :=
  let t := b.pcie.turn
  forEach ((List.range 32).map (fun i => (t + i) % 32)) (channelTurn mem bad) b

/-- Rotations while a channel has data to write, at most `n`. -/
def rotations (mem : List Host.Cell) (bad : List Nat) : Nat → Block → Block
  | 0, b => b
  | n + 1, b => if (List.range 32).all (fun c => nextPut b c == 0) then b else rotations mem bad n (rotation mem bad b)

/-- The queue of a kind 2 descriptor in service: its pointers are checked (R427) and its bank is woken (R397). -/
def readQueue (c : Nat) (b : Block) : Block :=
  match (b.chan c).reads with
  | some q => if (b.chan c).st = 1 && b.mayRequest && !(b.chan c).dry then
      (match qCheck q b with | (true, b) => ringWake q b | (false, b) => b) else b
  | none => b

/-- A kind 2 descriptor that has popped an item stops where no further one is readable (R449, R450). -/
def runDry (c : Nat) (b : Block) : Block :=
  let x := b.chan c
  match x.reads, x.fetched with
  | some _, d :: _ => if x.sent != 0 && decide (x.sent < descLen b d) && b.stageOn c then b.setChan c { x with dry := true } else b
  | _, _ => b

/-- All data that the channels have ready leave for the host, in rotation (R447, R453); at most one write an octet. -/
def serveDma (mem : List Host.Cell) (bad : List Nat) (b : Block) : Block :=
  let b := forEach (List.range 32) readQueue (forEach (List.range 32) beginService b)
  let b := rotations mem bad ((List.range 32).map (putLeft b)).sum b
  pumpAll (forEach (List.range 32) runDry b)

/-- A channel serves a descriptor, or has one fetched. -/
def Block.dmaWorks (b : Block) : Bool := b.pcie.dma.any (fun x => !x.2.fetched.isEmpty)

/-- The data that the channels have ready in a frame leave for the host. DESIGN CHOICE (log 12): data rates (R455) are no part of the model,
so what is ready at the end of a frame leaves then. -/
def serveFrame (mem : List Host.Cell) (bad : List Nat) (b : Block) : Block := if b.dmaWorks then serveDma mem bad b else b

/-- Octets of a packet that a channel can stage (R455). -/
def Dma.staging (x : Dma) : Nat := if x.staged then 524288 else 16384

/-- The descriptor in service completes, if what it needs has come and what it writes has left. -/
def finishService (c : Nat) (b : Block) : Block :=
  let x := b.chan c
  match x.cur, x.fetched with
  | some (st, need), d :: _ =>
    let n := descLen b d
    let int := bit d.w2 36
    let q := bits d.w1 0 12
    if st != stOK then completeDesc c st 0 false false int b
    else if !b.stageOn c then b
    else match descKind d with
      | 0 => if putLeft b c = 0 then completeDesc c stOK x.sent (decide (x.sent < n)) false int b else b
      | 1 =>
        if x.data.length < need then b
        else completeDesc c stOK need (decide (need < n)) false int (landParts d.w1 need x.parts b)
      | 2 => if n ≤ x.sent || x.dry then qRelease q (completeDesc c stOK x.sent (decide (x.sent < n)) false int b) else b
      | 3 =>
        if x.data.length < need then b
        else if !b.ringOn q then ringWake q b
        else
          let ps := packetsOf (entriesOf (need / 16) (x.data.take need))
          if ps.any (fun p => decide (x.staging < 16 * p.length)) then completeDesc c stRANGE 0 false false int b
          else
            let b := ps.foldl (fun b p =>
              match qCheck q b with
              | (false, b) => b
              | (true, b) => pushItems q (dmaAgent c) ((p.head?.map Prod.snd).getD 0) true (p.map Prod.fst) b) b
            completeDesc c stOK need false false int b
      | _ =>
        let t := x.domain
        let ended := decide (x.sent < n)
        if !ended || (putLeft b c = 0 && !b.armed t && !x.ended) then
          let b := completeDesc c stOK x.sent ended ended int b
          let b := b.setChan c { b.chan c with ended := x.ended || ended }
          let s := b.store t
          setFill t (b.setStore t { s with rpos := s.rpos + x.sent })
        else b
  | _, _ => b

/-- DESCRIPTOR_COMPLETE: the descriptor in service completes, if what it needs has come. `bad` are the store addresses that read
with an uncorrectable error (R444). -/
def descriptorComplete (mem : List Host.Cell) (c : Nat) (bad : List Nat) (b : Block) : Block :=
  let b := serveDma mem bad b
  if 32 ≤ c || (b.chan c).st != 1 || !b.mayRequest then b else pumpAll (finishService c b)

/-! ### Completions of reads (R459, R466) -/

/-- LATE_CPL and its count. -/
def lateCpl (b : Block) : Block := (b.bset 0x1808 1 1).bset 0x180C 0 (satTo 16 (b.bget 0x180C 0 + 1))

/-- Take the read of a tag off the list. -/
def takeRead (tag : Nat) (b : Block) : Option (DmaRead × Block) :=
  (b.pcie.reads.find? (fun r => r.tag == tag)).map (fun r =>
    (r, { b with pcie := { b.pcie with reads := b.pcie.reads.filter (fun r => r.tag != tag) } }))

/-- The descriptor that 32 octets spell. -/
def descOf (bs : List Byte) : Descriptor :=
  { w0 := ofLe (bs.take 8), w1 := ofLe ((bs.drop 8).take 8), w2 := ofLe ((bs.drop 16).take 8), w3 := ofLe ((bs.drop 24).take 8) }

/-- Descriptors that have come take their places in the ring's order (R447): each follows the last fetched one. -/
def inOrder : Nat → Dma → Dma
  | 0, x => x
  | n + 1, x =>
    let next := (x.head + x.fetched.length) % 2 ^ 17
    match x.early.find? (fun e => e.1 == next) with
    | some e => inOrder n { x with fetched := x.fetched ++ [e.2], early := x.early.filter (fun e => e.1 != next) }
    | none => x

/-- DMA_READ_COMPLETION: the completion of a read arrives with its octets. One whose ECRC check fails leaves the read outstanding. -/
def readCompletion (tag : Nat) (data : List Byte) (bad : TlpState) (b : Block) : Block :=
  if b.ecrcFails bad then aerSet 19 b
  else match takeRead tag b with
  | none => b
  | some (r, b) =>
    let c := r.chan
    let x := b.chan c
    if r.late then lateCpl b
    else if bad = .poisoned then haltChan 5 c (aerSet 12 b)
    else if r.fetch then pumpAll (b.setChan c (inOrder 8 { x with early := x.early ++ [(r.pos, descOf data)] }))
    else pumpAll (b.setChan c { x with got := x.got ++ [(r.pos, data.take r.len)] })

/-- COMPLETION_TIMEOUT: a read that a channel still wants halts it; any other is not reported (R459, R466). -/
def completionTimeout (tag : Nat) (b : Block) : Block :=
  match takeRead tag b with
  | none => b
  | some (r, b) => if r.late then b else haltChan 4 r.chan (aerSet 14 b)

/-! ### Registers of a channel -/

/-- Status of a write of DMA_CTRL beside ABORT (R442, R447, R453, R455, R471). -/
def ctrlStatus (b : Block) (c w : Nat) : Nat :=
  let x := b.chan c
  let e := bits w 20 5
  let on := bit w 31 && !x.enabled
  if on && b.rd 0x1E00 5 = 0 then stVERSION
  else if e < 2 || 16 < e then stRANGE
  else if x.st != 0 && bits w 3 22 != bits x.ctrl 3 22 then stSTATE
  else if on && bit w 9 && (b.bank (bits w 3 6)).owner != owDMA then stOWNER
  else if on && bit w 19 && (match boundChan b (bits w 16 3) with | some k => k != c | none => false) then stREFUSED
  else stOK

/-- Bits of the enabled channels (R468). -/
def Block.channelsOn (b : Block) : Nat := maskOf ((List.range 32).filter (fun c => (b.chan c).enabled))

/-- An LTR message, where the mechanism is enabled (R465): 20 µs while no channel is enabled and 1 µs otherwise. -/
def reportLatency (b : Block) : Block :=
  if b.pcie.cfg.ltr then linkUse (b.emit (.latency (if b.channelsOn = 0 then 20 else 1))) else b

/-- An accepted write of DMA_CTRL beside ABORT. -/
def setCtrl (c w : Nat) (b : Block) : Block :=
  let x := b.chan c
  let ctrl := bits w 3 22 * 8 + b2n (bit w 31) * 2 ^ 31
  if bit w 31 then
    if x.enabled then b.setChan c { x with ctrl := ctrl }
    else pumpAll (b.setChan c { x with
      ctrl := ctrl, st := 1, cause := 0, ended := !(b.armed (bits w 16 3)) && (b.store (bits w 16 3)).fill == 0 })
  else
    let b := stopChan c 0 0 b
    b.setChan c { b.chan c with ctrl := ctrl }

/-- DMA_CTRL beside ABORT is written; the latency that the device tolerates is reported where it changes (R465). -/
def writeCtrl (c w : Nat) (b : Block) : Block :=
  let r := setCtrl c w b
  if (b.channelsOn == 0) == (r.channelsOn == 0) then r else reportLatency r

/-- ABORT (R460): word 3 of each fetched descriptor, one status write, and the halt. -/
def abortChan (c : Nat) (b : Block) : Block :=
  let x := b.chan c
  if x.st != 1 then b
  else
    let w3 := stREFUSED * 2 ^ 48 + 2 ^ 42
    let b := if !b.mayRequest then b
      else
        let places := (List.range x.fetched.length).map (x.head + ·) ++ x.early.map Prod.fst
        let b := forEach places (fun i b => hostPut (x.entryAddr i + 24) (toLe 8 w3) [] b) b
        statusWrite c b
    haltChan 1 c b

/-- Status of a write of DMA_TAIL (R447). -/
def tailStatus (b : Block) (c v : Nat) : Nat :=
  let x := b.chan c
  if x.entries < (v % 2 ^ 17 + 2 ^ 17 - x.head) % 2 ^ 17 then stRANGE else stOK

/-- An accepted write of DMA_TAIL posts descriptors. -/
def setTail (c v : Nat) (b : Block) : Block := pumpAll (b.setChan c { b.chan c with tail := v % 2 ^ 17 })

/-- A channel names a queue (R454): a descriptor that it has fetched does. -/
def chanNames (b : Block) (q : Nat) : Bool :=
  (List.range 32).any (fun c =>
    ((b.chan c).fetched ++ (b.chan c).early.map Prod.snd).any (fun d => (descKind d == 2 || descKind d == 3) && bits d.w1 0 12 == q))

/-- A STREAM domain that arms begins a capture for the channel bound to it. A kind 4 descriptor in service belongs to the capture that is
over: it completes, if it has not done so by its own event (log entry 4). -/
def streamArm (mem : List Host.Cell) (t : Nat) (b : Block) : Block :=
  match boundChan b t with
  | some c =>
    let x := b.chan c
    let drains := x.cur.isSome && (match x.fetched with | d :: _ => descKind d = 4 | [] => false)
    let b := if drains then descriptorComplete mem c [] b else b
    let x := b.chan c
    b.setChan c { x with ended := false, sent := if drains then 0 else x.sent }
  | none => b

/-- DMA_STATUS. -/
def Dma.status (x : Dma) : Nat := x.last * 2 ^ 16 + x.cause * 2 ^ 8 + x.st

end Sys2Proof.Machine
end

