-- ==== Sys2Proof/Machine/Maint.lean ====
section
/-! DEFINITION. The maintenance engine (13_sram_banks_and_maintenance.md R399 to R406) with the probe test and the ladder
recalibration of 03_probe_lanes.md (R89 to R94). -/

namespace Sys2Proof.Machine

/-! ### Activities on pods (R89, R91, R400) -/

/-- Object of a request: 0x3010 probe test, 0x3011 recalibration. -/
def actObj (probe : Bool) : Nat := if probe then 0x3010 else 0x3011

/-- The pods that running activities hold. -/
def Block.heldPods (b : Block) : List Nat := b.maint.running.flatMap (·.pods)

/-- A software request of this kind waits or runs. -/
def Block.requested (b : Block) (probe : Bool) : Bool :=
  (b.maint.waiting ++ b.maint.running).any (fun a => a.probe == probe && !a.auto)

/-- Insert into the waiting list in the arbitration order (R399): probe tests first, then by order of request. -/
def enqueueActivity (a : Activity) (b : Block) : Block :=
  let w := b.maint.waiting
  let w' := if a.probe then w.filter (·.probe) ++ [a] ++ w.filter (fun x => !x.probe) else w ++ [a]
  { b with maint := { b.maint with waiting := w' } }

/-- Show the running and waiting activities (R409): bits 0 scrub, 1 bank test, 2 recalibration, 3 band verify, 4 probe test. -/
def showActivities (b : Block) : Block :=
  let has := fun (xs : List Activity) (p : Bool) => xs.any (fun a => a.probe == p)
  let scrub := b.maint.scrubbing || (bit (b.rd 0x7010 1) 0 && b.ready)
  let run := b2n scrub + b2n b.maint.test.isSome * 2 + b2n (has b.maint.running false) * 4 +
    b2n (decide (b.time.abs < b.maint.verifyEnd)) * 8 + b2n (has b.maint.running true) * 16
  let wait := b2n (!b.maint.testReqs.isEmpty) * 2 + b2n (has b.maint.waiting false) * 4 + b2n (has b.maint.waiting true) * 16
  (b.wr 0x7010 2 run).wr 0x7010 3 wait

/-- Status of a start request for the pods of a mask (R89, R91). -/
def activityStatus (b : Block) (probe : Bool) : Nat :=
  let m := b.rd (actObj probe) 1
  if m = 0 then stRANGE
  else if (setBits 32 m).any (fun n => (b.podDom n < 8 && b.armed (b.podDom n)) || b.rd (0x3800 + n) 4 != 0) then stSTATE
  else if b.requested probe then stBUSY
  else stOK

/-- An accepted start request waits for all its pods at once (R89, R91, R400). -/
def requestActivity (probe : Bool) (b : Block) : Block :=
  let m := b.rd (actObj probe) 1
  let b := enqueueActivity { probe := probe, auto := false, pods := setBits 32 m } b
  let b := { b with maint := if probe then { b.maint with probeMask := m } else { b.maint with recalMask := m } }
  showActivities ((b.wr (actObj probe) 3 1).wr (actObj probe) 4 0)

/-- The first waiting activity that may start (R400): its pods are free and no activity before it waits for one of them; with
the waiting list without it. -/
def startable (held : List Nat) : List Activity → Option (Activity × List Activity)
  | [] => none
  | a :: rest =>
    if a.pods.all (fun n => !held.contains n) then some (a, rest)
    else (startable (held ++ a.pods) rest).map (fun r => (r.1, a :: r.2))

/-- The short flags of a lane are cleared at the start of a probe test (R90). -/
def clearShorts (l : Nat) (b : Block) : Block := setLaneStatus l (putBits (b.laneStatus l) 5 4 0) b

/-- MAINTENANCE_ACTIVITY_START: the engine starts the first waiting activity that may start (R93, R400). DESIGN CHOICE (log 34): an
activity that still waits for a pod whose domain has armed meanwhile goes on waiting and starts by the same rule; R94 speaks of a pod
under test only. -/
def activityStart (b : Block) : Block :=
  match startable b.heldPods b.maint.waiting with
  | none => b
  | some (a, rest) =>
    let b := { b with maint := { b.maint with waiting := rest, running := b.maint.running ++ [a] } }
    let b := forEach a.pods (fun n b => setOos n (if a.probe then 1 else 2) b) b
    let b := if a.probe then
        forEach a.pods (fun n b => forEach (List.range 16) (fun m b => clearShorts (16 * n + m) b)
          (b.wrBit (0x3100 + n) 10 2 false)) b
      else b
    showActivities (if a.auto then b else b.wr (actObj a.probe) 3 2)

/-- Every activity that may start has started. -/
def settleActivities (b : Block) : Block :=
  forEach (List.range b.maint.waiting.length) (fun _ b => activityStart b) b

/-- A request whose activities have all ended reads DONE, or ABORTED when one of them was abandoned (R94, R97). -/
def endRequest (probe : Bool) (b : Block) : Block :=
  let o := actObj probe
  if b.requested probe then b
  else b.wr o 3 (if b.rd o 4 = (if probe then b.maint.probeMask else b.maint.recalMask) then 3 else 4)

/-- The fault flags that the drive of one contact gives a status word (R90): no neighbour lies in another pod (R67), and PN_SHORT
comes from P driven in DIFF. -/
def probeStatus (se : Bool) (r : ProbeResult) (st : Nat) : Nat :=
  let strong := decide (20000 ≤ r.own)
  let st := if decide (r.own < 40000) && decide (r.rest < 10000) then putBit st 5 true else st
  let st := if strong && r.lane % 16 != 0 && decide (r.own < 2 * r.lower) then putBit st 6 true else st
  let st := if strong && r.lane % 16 != 15 && decide (r.own < 2 * r.upper) then putBit st 7 true else st
  if !se && r.contact == 0 && strong && decide (9 * r.own < 10 * r.pn) then putBit st 8 true else st

/-- The results of a lane's tested contacts (R90): flags join, CONNECTION follows the refreshed classes. In SE contact N is not
tested (R66). -/
def probeLane (l : Nat) (rs : List ProbeResult) (b : Block) : Block :=
  let se := (b.pod (l / 16)).se
  let mine := rs.filter (fun r => r.lane == l && !(se && r.contact == 1))
  if mine.isEmpty then b
  else
    let b := forEach mine (fun r b => setClass l r.contact (zsClass r.zs) b) b
    let st := mine.foldl (fun st r => probeStatus se r st) (b.laneStatus l)
    setLaneStatus l (putBits st 0 4 (connectionOf se (b.lane l))) b

/-- PROBE_TEST_END: the running probe test ends with its results; its pods return to service (R89, R90, R93). -/
def probeTestEnd (rs : List ProbeResult) (b : Block) : Block :=
  match b.maint.running.find? (·.probe) with
  | none => b
  | some a =>
    let b := { b with maint := { b.maint with running := b.maint.running.filter (fun x => !x.probe) } }
    let b := forEach a.pods (fun n b =>
      let b := setOos n 0 b
      let b := forEach (List.range 16) (fun m b => probeLane (16 * n + m) rs b) b
      (b.wrBit (0x3100 + n) 10 2 true).wrBit 0x3010 4 n true) b
    showActivities (endRequest true b)

/-- The difference of the die temperature from that of a pod's last calibration, and RECAL_ADVISED (R92), which a pod on its factory
trims keeps (R517). -/
def refreshAdvice (n : Nat) (b : Block) : Block :=
  let d := b.rdI 0x2000 1 - (b.pod n).calTemp
  (b.wrI (0x3100 + n) 6 d).wrBit (0x3100 + n) 10 0 (decide (100 ≤ d.natAbs) || (b.pod n).factory)

/-- A pod's calibration completes at the die temperature measured last (R92). -/
def calibrated (n : Nat) (b : Block) : Block :=
  refreshAdvice n (b.setPod n { b.pod n with calTemp := b.rdI 0x2000 1, factory := false })

/-- A pod leaves a running activity, which ends with its last pod. -/
def leaveActivity (a : Activity) (n : Nat) (b : Block) : Block :=
  let left := a.pods.filter (fun x => x != n)
  let running := b.maint.running.filterMap (fun x => if x == a then (if left.isEmpty then none else some { a with pods := left }) else some x)
  let b := setOos n 0 { b with maint := { b.maint with running := running } }
  showActivities (if a.auto || !left.isEmpty then b else endRequest a.probe b)

/-- RECAL_END: the recalibration of a pod completes and the pod returns to service (R91 to R93); the request ends with its last pod. -/
def recalEnd (n : Nat) (b : Block) : Block :=
  match b.maint.running.find? (fun a => !a.probe && a.pods.contains n) with
  | none => b
  | some a => leaveActivity a n (calibrated n (if a.auto then b else b.wrBit 0x3011 4 n true))

/-- The engine abandons its activity on a pod (R94, R511): the pod returns to service. -/
def abandonPod (n : Nat) (b : Block) : Block :=
  match b.maint.running.find? (fun a => a.pods.contains n) with
  | none => b
  | some a => leaveActivity a n b

/-- The engine requests recalibration of pods whose RECAL_ADVISED is set and that neither wait for nor undergo one, unless a probe test
waits for the pod (R405). -/
def autoRecal (b : Block) : Block :=
  if !bit (b.rd 0x7010 1) 2 || !b.ready then b
  else
    let ok := fun (n : Nat) => bit (b.rd (0x3100 + n) 10) 0 && !(b.podDom n < 8 && b.armed (b.podDom n)) &&
      !b.maint.waiting.any (fun a => a.pods.contains n) && !b.maint.running.any (fun a => !a.probe && a.pods.contains n)
    let ns := (List.range 32).filter ok
    if ns.isEmpty then b
    else showActivities (forEach ns (fun n b => enqueueActivity { probe := false, auto := true, pods := [n] } b) b)

/-! ### The bank test (R401 to R403) -/

/-- The owner of a bank has made no access to it for the idle time of 0x7010.05, as far as accesses reach the model: those of the host,
counted in frames of the rate in force (R401; log entry 43). -/
def Block.bankIdle (b : Block) (k : Nat) : Bool :=
  match (b.bank k).used with
  | some a => decide (b.rd 0x7010 5 * b.rd 0x2100 8 / 32000000000 ≤ b.time.abs - a)
  | none => true

/-- The bank may be borrowed (R401); `idle` tells that its owner has made no access for the idle time. -/
def borrowable (b : Block) (k : Nat) (idle : Bool) : Bool :=
  let x := b.bank k
  let mask := b.rd 0x7010 6
  !x.firmware && !x.clearing && !x.borrowed &&
    (x.owner == owUNOWNED || (idle && b.bankIdle k && ((x.owner == owHOST && bit mask 0) || (x.owner == owCORE && bit mask 1))))

/-- Borrow a target, with a spare where it has a lender; no spare: the test is skipped (R401). -/
def borrow (k : Nat) (b : Block) : Block :=
  let lender := (b.bank k).owner
  let spare := if lender = owUNOWNED then none else pickBank b
  if lender != owUNOWNED && spare.isNone then showActivities (b.bump 32 0x7012 0xB 1)
  else
    let b := wakeBank k (setOwner k owMAINT b)
    let b := b.setBank k { b.bank k with lender := lender, borrowed := true }
    let b := match spare with | some s => wakeBank s (setOwner s owMAINT b) | none => b
    showActivities { b with maint := { b.maint with test := some { target := k, lender := lender, spare := spare, aborted := false } } }

/-- BANK_TEST_INTERVAL: the first requested bank that is eligible, or the next eligible one in ascending order after the last tested,
is borrowed (R400, R401). -/
def bankTestInterval (idle : List Nat) (b : Block) : Block :=
  if b.maint.test.isSome || !bit (b.rd 0x7010 1) 1 then b
  else
    let ok := fun (k : Nat) => borrowable b k (idle.contains k)
    let last := b.rd 0x7012 3
    let order := (List.range 64).map (fun i => (i + (if 64 ≤ last then 0 else last + 1)) % 64)
    match b.maint.testReqs.find? ok <|> order.find? ok with
    | some k => borrow k { b with maint := { b.maint with testReqs := b.maint.testReqs.erase k } }
    | none => b

/-- Retire a bank that failed (R402): BANK_FAILED, an ERROR record, the flash map and an emergency message. -/
def retireBank (k owner : Nat) (b : Block) : Block :=
  let b := setOwner k owRETIRED b
  let b := (b.setBank k { b.bank k with borrowed := false, lender := 0 }).zeroBank k
  let b := { b with flash := { b.flash with retired := putBit b.flash.retired k true } }
  let b := (b.flag 0x7012 4 5 1).wr 0x7012 7 k
  let b := postError 0xF 0x03 owner k 0 false b
  emcyEvent 0xFF50 6 (toLe 1 k ++ toLe 1 owner ++ toLe 3 0) b

/-- The target returns to its lender with its generation increased, and the spare is released (R402, R403). -/
def returnTarget (x : BankTest) (b : Block) : Block :=
  let b := if x.lender = owUNOWNED then unown x.target b
    else
      let b := setOwner x.target x.lender b
      b.setBank x.target { b.bank x.target with lender := 0, borrowed := false }
  let b := match x.spare with | some s => unown s b | none => b
  showActivities (serveWaitingOps x.target { b with maint := { b.maint with test := none } })

/-- The words of one bank become those of another. -/
def copyWords (src dst : Nat) (b : Block) : Block :=
  forEach (b.words.filter (fun w => w.1 / 65536 == src)) (fun w b => b.setWord dst (w.1 % 65536) w.2) (b.zeroBank dst)

/-- BANK_TEST_END (R402): 0 the test passes; 1 the read-back of the spare fails, so the spare is retired and another is taken;
2 the march fails, so the target is retired and its lender receives the spare. -/
def bankTestEnd (outcome : Nat) (b : Block) : Block :=
  match b.maint.test with
  | none => b
  | some x =>
    if x.aborted then b
    else match outcome, x.spare with
      | 0, _ => returnTarget x ((b.bump 32 0x7012 1 1).wr 0x7012 3 x.target)
      | 1, some s =>
        let b := retireBank s owMAINT b
        (match pickBank b with
        | some s' =>
          { wakeBank s' (setOwner s' owMAINT b) with maint := { b.maint with test := some { x with spare := some s' } } }
        | none => (returnTarget { x with spare := none } b).bump 32 0x7012 0xB 1)
      | 1, none => b
      | _, some s =>
        let b := (b.bump 32 0x7012 1 1).wr 0x7012 3 x.target
        let b := copyWords x.target s b
        let b := retireBank x.target owMAINT b
        let b := (if x.lender = owUNOWNED then unown s b else setOwner s x.lender b).wr 0x7012 8 s
        let ops := b.maint.ops.map (fun o => if o.bank = x.target then { o with bank := s } else o)
        showActivities (serveWaitingOps s { b with maint := { b.maint with test := none, ops := ops } })
      | _, none =>
        let b := (b.bump 32 0x7012 1 1).wr 0x7012 3 x.target
        let b := retireBank x.target owMAINT b
        showActivities { b with maint := { b.maint with test := none } }

/-- RECLAIM_COMPLETE: the bank of an aborted test returns to its lender (R403). -/
def reclaimComplete (b : Block) : Block :=
  match b.maint.test with
  | some x => if x.aborted then returnTarget x b else b
  | none => b

/-! ### Patrol scrub (R404) -/

/-- A unit that is not CLEAR lies in a range of unit numbers (R207). -/
def Block.unitIn (b : Block) (lo hi : Nat) : Bool := b.units.any (fun x => x.2 != 0 && decide (lo ≤ x.1) && decide (x.1 < hi))

/-- A pass is over: its end is counted, and its time where it overran it. -/
def scrubOver (late : Bool) (b : Block) : Block :=
  let b := { b.bump 32 0x7011 1 1 with maint := { b.maint with scrubSeen := [], scrubAt := none, scrubbing := false } }
  let b := showActivities b
  if late then b.bump 32 0x7011 2 1 else b

/-- The running pass has read its last unit: none that is not CLEAR lies above it. -/
def Block.scrubLast (b : Block) : Bool := match b.maint.scrubAt with | some p => !b.unitIn (p + 1) (2 ^ 16) | none => false

/-- The unit is the one that the scrub reads now: the one it is reading, or the next that is not CLEAR; in a new pass the first. -/
def Block.scrubNext (b : Block) (u : Nat) : Bool :=
  b.unit u != 0 &&
  (match b.maint.scrubAt with
  | some p => decide (p ≤ u) && !b.unitIn (p + 1) u
  | none => !b.unitIn 0 u)

/-- What a read of the scrub has found: no error (0), a corrected one (1), or an uncorrectable one, which is reported once per address
per pass. -/
def scrubFound (addr kind : Nat) (b : Block) : Block :=
  let u := addr / 2097152
  match kind with
  | 0 => b
  | 1 => b.bump 32 0x7011 3 1
  | _ =>
    let b := (b.flag 0x7011 4 5 1).wr 0x7011 7 addr
    if b.maint.scrubSeen.contains addr then b
    else
      let b := { b with maint := { b.maint with scrubSeen := addr :: b.maint.scrubSeen } }
      let b := postError 0xF 0x05 0 u addr false b
      emcyEvent 0xFF51 6 (toLe 2 u ++ toLe 3 0) b

/-- PATROL_SCRUB_READ: the scrub has read at a store address, and found `kind` there. A pass reads every unit that is not CLEAR in ascending
order; it is over where `passEnd` says so behind its last unit, `late` if it overran its time, and at the latest when the next begins. A
read out of that order has no effect (DESIGN CHOICE, log 43). A pass that has begun goes on to its end when scrubbing is
disabled (R409). -/
def scrubRead (addr kind : Nat) (passEnd late : Bool) (b : Block) : Block :=
  let u := addr / 2097152
  let begun := b.maint.scrubAt.isNone || b.scrubNext u
  let b := if !begun && b.scrubLast && (b.unit u != 0 || passEnd) then scrubOver (late && b.unit u == 0) b else b
  if !(bit (b.rd 0x7010 1) 0 || b.maint.scrubbing) || !b.scrubNext u then b
  else
    let b := { b with maint := { b.maint with scrubbing := true, scrubAt := some u } }
    let b := scrubFound addr kind (b.wr 0x7011 8 u)
    if passEnd && b.scrubLast then scrubOver late b else b

end Sys2Proof.Machine
end

