-- ==== Sys2Proof/Machine/Mask.lean ====
section
/-! DEFINITION. The mask units (09_record_measurements_and_masks.md R284 to R291): limit masks, amplitude-time masks, the
numbering of violations, the stop on violation N and MASK_VIOL records. -/

namespace Sys2Proof.Machine

def maskObj (t : Nat) : Nat := 0x6840 + t
def limitObj (t e : Nat) : Nat := 0x6850 + 16 * t + e

/-- The unit works (R284): its domain is ARMED or STOPPING in a mode that has mask units. -/
def Block.maskWorks (b : Block) (t : Nat) : Bool := b.armed t && b.recordsMode t

/-! ### Limit masks (R285) -/

/-- Value of an item in the words of a MEAS record, in the compared form (R285). -/
def itemValue (ws : List Nat) (item : Nat) : Nat :=
  let w := fun i => ws.getD i 0
  match item with
  | 1 => bits (w 3) 0 32
  | 2 => bits (w 3) 32 32
  | 3 => stampAdd (w 4) (-((w 1 : Nat) : Int))
  | 4 => stampAdd (w 5) (-((w 1 : Nat) : Int))
  | 5 => w 6 | 6 => w 7 | 7 => w 8 | 8 => w 9 | 9 => w 10 | 10 => w 11
  | 11 => bits (w 12) 0 32
  | 12 => bits (w 12) 32 32
  | _ => bits (w 13) 0 32

/-- The item's VALID condition holds in a MEAS record (R274). -/
def itemValid (ws : List Nat) (item : Nat) : Bool :=
  let p := bits (ws.getD 0 0) 32 32
  match item with
  | 1 | 2 => true
  | 3 | 4 => bit p 12
  | 5 | 6 | 7 => bit p 13
  | 8 => bit p 14
  | 9 => bit p 15
  | 10 => bit p 16
  | 11 | 12 | 13 => bit p 17
  | _ => false

/-- REAL32 words by value: a number that orders them; none for a NaN. -/
def realKey (w : Nat) : Option Int :=
  if isNaN32 w then none else some (if bit w 31 then -((bits w 0 31 : Nat) : Int) else ((bits w 0 31 : Nat) : Int))

/-- `a` lies below `c` as the item compares (R285). -/
def itemBelow (item a c : Nat) : Bool :=
  if 11 ≤ item then
    match realKey a, realKey (bits c 0 32) with
    | some x, some y => decide (x < y)
    | _, _ => false
  else decide (a < c)

/-- Violations of one entry on one lane's record. -/
def entryViolations (b : Block) (t e : Nat) (lat : Latched) (ws : List Nat) : List Violation :=
  let c := b.rd (limitObj t e) 1
  let item := bits c 12 4
  let lane := bits (ws.getD 0 0) 32 9
  if !(bit c 16 || bit c 17) || !(bit c 9 || bits c 0 9 == lane) || !itemValid ws item then []
  else
    let v := itemValue ws item
    let lo := b.rd (limitObj t e) 2
    let hi := b.rd (limitObj t e) 3
    let mk := fun (limit : Nat) =>
      ({ ts := lat.endTs, kind := 0, lane := lane, entry := e, item := item, measured := v, limit := limit, pos := lat.lastPos } : Violation)
    -- the limit in the form of MEASURED (R266)
    let form := fun (x : Nat) => if 11 ≤ item then bits x 0 32 else bits x 0 63
    (if bit c 16 && itemBelow item v lo then [mk (form lo)] else []) ++
      (if bit c 17 && itemBelow item hi v then [mk (2 ^ 63 + form hi)] else [])

/-- Violations of a latched window. -/
def latchedViolations (b : Block) (t : Nat) (lat : Latched) : List Violation :=
  (List.range 16).flatMap (fun e => lat.recs.flatMap (entryViolations b t e lat))

/-! ### Amplitude-time masks (R286) -/

/-- A trigger that places opens a window, or is counted as skipped. -/
def openAmp (t a : Nat) (b : Block) : Block :=
  let o := 0x6900 + t
  if !b.maskWorks t || !b.on o 1 then b
  else
    let m := b.mask t
    let first := (a : Int) + b.rdI o 2
    if (match m.lastOpened with | some l => decide (first ≤ l) | none => false) then b.bump 32 (maskObj t) 0xE 1
    else b.setMask t { m with amps := m.amps ++ [{ a := a, done := 0 }], lastOpened := some (first + b.rd o 3 - 1) }

/-- The lanes that the amplitude-time mask selects. -/
def ampLanes (b : Block) (t : Nat) : List Nat :=
  (List.range 16).flatMap (fun k => (setBits 32 (b.rd (0x6900 + t) (4 + k))).map (fun i => 32 * k + i))

/-- Violations at sample `i` of a window. -/
def ampViolations (b : Block) (t a i : Nat) : List Violation :=
  let s := ((a : Int) + b.rdI (0x6900 + t) 2 + i).toNat
  let band := bits (b.rd (0x6910 + t) (i / 4 + 1)) (8 * (i % 4)) 8
  let off := unsigned ((s : Int) - a) 16
  (ampLanes b t).filterMap (fun l =>
    let c := b.cAt l s
    if c < bits band 0 4 || bits band 4 4 < c then
      some { ts := b.tsPos s, kind := 1, lane := l, entry := 0, item := 0, measured := off * 65536 + c, limit := band, pos := s }
    else none)

/-- The samples of a window that are compared in this frame (R286): the window afterwards, none once all are compared. -/
def ampStep (b : Block) (t : Nat) (w : AmpWin) : List Violation × Option AmpWin :=
  let o := 0x6900 + t
  let n := b.rd o 3
  let now := b.time.abs
  if now < w.a / 32 + 6 then ([], some w)
  else
    let pos := fun (i : Nat) => ((w.a : Int) + b.rdI o 2 + i).toNat
    let idx := ((List.range n).filter (fun i => w.done ≤ i)).filter (fun i => pos i / 32 + 6 ≤ now)
    let judged := idx.filter (fun i => match (b.dom t).stop with | some s => decide (pos i ≤ s.pos) | none => true)
    let done := w.done + idx.length
    (judged.flatMap (ampViolations b t w.a), if done < n then some { w with done := done } else none)

/-! ### Violations (R284, R287 to R291) -/

/-- Order of numbering (R287). -/
def Violation.before (x y : Violation) : Bool :=
  let d := stampDiff x.ts y.ts
  decide (0 < d) || (d == 0 && (decide (x.kind < y.kind) || (x.kind == y.kind &&
    (decide (x.lane < y.lane) || (x.lane == y.lane && decide (x.entry ≤ y.entry))))))

def insertViol (v : Violation) : List Violation → List Violation
  | [] => [v]
  | x :: xs => if v.before x then v :: x :: xs else x :: insertViol v xs

def sortViol (vs : List Violation) : List Violation := vs.foldr insertViol []

/-- The newest segment that opened at or before a position. -/
def segAt (b : Block) (t pos : Nat) : Option SegSpan := (b.store t).history.find? (fun x => x.o ≤ pos)

/-- Sequence number of the segment open at a position; all-ones for none (R266). -/
def segSeqAt (b : Block) (t pos : Nat) : Nat :=
  match segAt b t pos with
  | some x => if (match x.c with | some c => decide (pos ≤ c) | none => true) then x.seq else 2 ^ 64 - 1
  | none => 2 ^ 64 - 1

/-- The words of a MASK_VIOL record (R266), but for EMCY: that is the handover in the next frame (R290). -/
def violWords (b : Block) (t n : Nat) (v : Violation) (stopped safe : Bool) : List Nat :=
  [headerWord 8 t 6 0 (v.kind + b2n stopped * 2 + b2n safe * 4), v.ts, segSeqAt b t v.pos,
   v.item * 2 ^ 48 + v.lane * 2 ^ 32 + satTo 32 n, v.measured, v.limit]

/-- One violation becomes known in the running frame K: it is counted, and violation N requests the stop (R284, R288 to
R291). -/
def violation (t : Nat) (v : Violation) (b : Block) : Block :=
  let o := maskObj t
  let n := b.rd o 6 + 1
  let b := (b.wr o 6 (satTo 32 n)).flag o 8 9 1
  let stopN := b.rd o 1
  let isN := stopN != 0 && n == stopN
  let opts := b.rd o 3
  let acts := isN && b.dstate t == 1
  let safe := acts && bit opts 0 && b.driveMode t
  let ws := violWords b t n v acts safe
  let b := if !acts then b
    else
      let b := (b.wr o 7 v.ts).wr o 5 2
      let stop := max ((b.time.abs + 1) * 32 + 31) (v.pos + b.rd o 2)
      let prot := if segmented (b.mode t) then (segAt b t v.pos).map (·.slot) else none
      let b := b.setMask t { b.mask t with requested := true, protect := prot }
      let b := requestStop t stop srMASK (stop / 32) b
      let b := if safe then safeLaunch t b else b
      let bytes := toLe 2 v.lane ++ toLe 1 v.item ++ toLe 2 n
      let b := logEntry (0xFF10 + t) bytes b
      if bit opts 1 then b.setMask t { b.mask t with emcy := some bytes } else b
  let b := if isN && !acts then b.wr o 7 v.ts else b
  let m := b.mask t
  let others := (m.recs.filter (fun r => !(stopN != 0 && bits (r.getD 3 0) 0 32 == stopN))).length
  if isN || others < 63 then b.setMask t { m with recs := m.recs ++ [ws] } else b.flag o 0xB 0xC 1

/-- Violations known in the running frame, in the order of R287. -/
def violations (t : Nat) (vs : List Violation) (b : Block) : Block := forEach (sortViol vs) (violation t) b

/-- The latched windows of a domain that are due for comparison. -/
def dueLatched (b : Block) (t : Nat) : List Latched :=
  (b.podsOf t).flatMap (fun n => (b.measUnit n).latched.filter (fun l => l.compareAt ≤ b.time.abs))

/-- LIMIT_COMPARE: every latched window of the domain that is due is compared; violations of the frame are numbered together
(R276, R285, R287). -/
def limitCompare (t : Nat) (b : Block) : Block :=
  let vs := if b.maskWorks t then (dueLatched b t).flatMap (latchedViolations b t) else []
  let b := forEach (b.podsOf t) (fun n b =>
    let m := b.measUnit n
    if m.latched.any (fun l => l.compareAt ≤ b.time.abs) then
      b.setMeas n { m with latched := m.latched.filter (fun l => b.time.abs < l.compareAt) } else b) b
  let m := b.mask t
  violations t (m.found ++ vs) (if m.found.isEmpty then b else b.setMask t { m with found := [] })

/-- Amplitude-time comparison of a frame (R286); it waits for a limit comparison due in the same frame (R287). -/
def ampCompare (t : Nat) (b : Block) : Block :=
  let m := b.mask t
  if m.amps.isEmpty then b
  else
    let r := m.amps.map (ampStep b t)
    let vs := r.flatMap Prod.fst
    let b := b.setMask t { m with amps := r.filterMap Prod.snd }
    let due := (b.podsOf t).any (fun n => let u := b.measUnit n
      u.latched.any (fun l => l.compareAt == b.time.abs))
    if due then b.setMask t { b.mask t with found := vs } else violations t vs b

/-- In frame K + 1 the emergency message of violation N is handed to the CAN FD controller; EMCY of its record tells whether it was
taken (R290). -/
def handEmcy (t : Nat) (b : Block) : Block :=
  let m := b.mask t
  match m.emcy with
  | none => b
  | some bytes =>
    let stopN := b.rd (maskObj t) 1
    let mark := fun (r : List Nat) => if bits (r.getD 3 0) 0 32 = stopN then r.set 0 (putBit (r.getD 0 0) 35 true) else r
    let m := { m with emcy := none, recs := if emcyRoom b then m.recs.map mark else m.recs }
    queueEmcy (0xFF10 + t) bytes (b.setMask t m)

/-- A unit's records awaiting the record writer: up to 4 in a frame (R291). -/
def writeViol (t : Nat) (b : Block) : Block :=
  let m := b.mask t
  if m.recs.isEmpty then b
  else
    let b := b.setMask t { m with recs := m.recs.drop 4 }
    forEach (m.recs.take 4) (fun ws b => report t kMASK ws b) b

/-- The stop in force has been made and lies before position `lim`: it takes effect after its sample (R172). -/
def stopPassed (b : Block) (t lim : Nat) : Bool :=
  b.dstate t != 1 && (match (b.dom t).stop with | some s => decide (s.pos < lim) | none => true)

/-- HOLDOFF ends once the stop, whichever it is, has taken effect by position `lim` (R284, R288). -/
def holdoffEndBy (lim t : Nat) (b : Block) : Block :=
  let b := knowStop t b
  if b.rd (maskObj t) 5 = 2 && stopPassed b t lim then b.wr (maskObj t) 5 3 else b

/-- MASK_HOLDOFF_END: the stop that ends the holdoff has taken effect in the running frame (R284, R288). -/
def holdoffEnd (t : Nat) (b : Block) : Block := holdoffEndBy (b.time.abs * 32 + 31) t b

/-- The unit at arm (R284, R297). -/
def maskArm (t : Nat) (b : Block) : Block :=
  let o := maskObj t
  let b := b.setMask t Mask.reset
  (((b.wr o 5 (if b.recordsMode t then 1 else 0)).wr o 6 0).wr o 7 0).wr o 0xE 0

/-- The unit when its domain becomes UNARMED (R284). -/
def maskLeave (t : Nat) (b : Block) : Block :=
  let o := maskObj t
  if b.rd o 5 = 1 then b.wr o 5 0 else if b.rd o 5 = 2 then b.wr o 5 3 else b

end Sys2Proof.Machine
end

