-- ==== Sys2Proof/Machine/Memory.lean ====
section
/-! DEFINITION. The contents of the capture store: a canonical list of address and octet pairs. An octet that nothing has written
since its unit was last cleared reads 0 (07_capture_store_and_segments.md R208, R209). -/

namespace Sys2Proof.Machine

/-- What a store address that is not listed reads as. -/
def memDefault : Nat → Byte := fun _ => 0

/-- The octet at a store address. -/
def memRead (mem : List Host.Cell) (a : Nat) : Byte := look memDefault mem a

/-- Write octets from an address on. -/
def memWrite (mem : List Host.Cell) : Nat → List Byte → List Host.Cell
  | _, [] => mem
  | a, x :: xs => place memDefault (memWrite mem (a + 1) xs) a x

/-- Clear the octets from `lo` to below `hi`. -/
def memClear (mem : List Host.Cell) (lo hi : Nat) : List Host.Cell := dropKeys (fun a => decide (lo ≤ a) && decide (a < hi)) mem

/-- One change of the contents. -/
def memStep (mem : List Host.Cell) : MemOp → List Host.Cell
  | .write a xs => memWrite mem a xs
  | .clear lo hi => memClear mem lo hi

/-- The changes that a command makes, oldest first. -/
def memApply (mem : List Host.Cell) (ops : List MemOp) : List Host.Cell := ops.foldl memStep mem

/-- The canonical form holds: addresses rise strictly and no listed octet is 0. -/
def Memory.wf (mem : List Host.Cell) : Bool := canon memDefault mem

end Sys2Proof.Machine
end

