-- ==== Sys2Proof/Machine/Ptu.lean ====
section
/-! DEFINITION. The protocol term units (06_protocol_terms.md R182 to R201): decoders of the nine standards, items, matches,
term marks and DECODE records. What the chapter leaves to the standards themselves is log entry 16. -/

namespace Sys2Proof.Machine

def ptuObj (u : Nat) : Nat := 0x5810 + u
def ptuStat (u : Nat) : Nat := 0x5850 + u

/-- The domain of a unit (R182). -/
def Block.ptuDom (b : Block) (u : Nat) : Nat := b.rd 0x5800 (u + 1)
def Block.ptuStd (b : Block) (u : Nat) : Nat := b.rd (ptuObj u) 1
/-- Lane of a role; none for 0xFFFF. -/
def Block.ptuRole (b : Block) (u r : Nat) : Option Nat :=
  let l := b.rd (ptuObj u) (2 + r)
  if l = 0xFFFF then none else some l

/-- Defaults of options and parameters (R199). -/
def ptuDefaults (std : Nat) : Nat × Nat × Nat :=
  match std with
  | 1 => (0x38, 0, 0)
  | 3 => (0x08, 2777778, 0)
  | 4 => (0x2850, 640000, 160000)
  | 7 => (0x18, 100000, 0)
  | 8 => (0x17, 100000, 0x00050003)
  | _ => (0, 0, 0)

/-- Options and parameters are in range for a standard (R199): `sub` 6 options, 7 parameter A, 8 parameter B. -/
def ptuParamOk (std sub v : Nat) : Bool :=
  match sub, std with
  | 6, 1 => decide (v < 2 ^ 9)
  | 6, 3 => decide (v < 2 ^ 9) && decide (5 ≤ bits v 0 4) && decide (bits v 0 4 ≤ 9) && bits v 4 2 != 3
  | 6, 4 => decide (v < 2 ^ 15) && decide (50 ≤ bits v 0 7) && decide (bits v 0 7 ≤ 90) && decide (50 ≤ bits v 7 7) && decide (bits v 7 7 ≤ 90)
  | 6, 5 => decide (v < 2 ^ 4) && bits v 2 2 != 3
  | 6, 6 => decide (v < 2 ^ 2)
  | 6, 7 => decide (v < 2 ^ 7)
  | 6, 8 => decide (v < 2 ^ 7)
  | 6, 9 => decide (v < 2)
  | 6, _ => v == 0
  | 7, 1 | 7, 6 => true
  | 7, 2 => decide (v ≤ 1023)
  | 7, 3 => decide (3200 ≤ v)
  | 7, 4 => decide (320000 ≤ v)
  | 7, 7 | 7, 8 => decide (1 ≤ v)
  | 7, _ => v == 0
  | _, 4 => decide (40000 ≤ v)
  | _, 8 => decide (v < 2 ^ 20)
  | _, _ => v == 0

/-- The roles that a standard requires (R183, R186). -/
def ptuRequired (std : Nat) : List Nat :=
  match std with
  | 1 | 2 | 5 | 6 | 7 | 8 => [0, 1]
  | 3 | 4 | 9 => [0]
  | _ => []

/-- The roles that a standard has. -/
def ptuRoles (std : Nat) : List Nat :=
  match std with
  | 1 => [0, 1, 2, 3]
  | 5 => [0, 1, 2]
  | s => ptuRequired s

/-- A decided item (R188, R189): KIND, flags [13:8], AUX, field, decision sample, timestamp in absolute SSU, whether it
is a CAN FD END item decided at the CRC delimiter, whose ACK slot is read one bit later than the item is decided, and its INDEX. -/
structure Item where
  kind : Nat
  flags : Nat
  aux : Nat
  field : Nat
  d : Nat
  ssu : Nat
  ack : Bool
  index : Nat
  deriving DecidableEq, Repr

/-- Context flags (R188), as bits of [13:8]. -/
def fCHECK : Nat := 1
def fFRAMING : Nat := 2
def fSTUFF : Nat := 4
def fTIMEOUT : Nat := 8
def fILLEGAL : Nat := 16
def fTRUNCATED : Nat := 32

/-- Configuration of a unit as its decoder uses it. -/
structure PtuCfg where
  std : Nat
  lanes : List (Option Nat)
  opts : Nat
  pa : Nat
  pb : Nat
  preset : Int
  deriving DecidableEq, Repr

def Block.ptuCfg (b : Block) (u : Nat) : PtuCfg :=
  let o := ptuObj u
  { std := b.rd o 1, lanes := (List.range 4).map (b.ptuRole u), opts := b.rd o 6, pa := b.rd o 7, pb := b.rd o 8, preset := b.rdI o 0xB }

/-- The lane of a role; lane 0 stands in where there is none, and is then not read. -/
def PtuCfg.lane (c : PtuCfg) (r : Nat) : Nat := (c.lanes.getD r none).getD 0
def PtuCfg.has (c : PtuCfg) (r : Nat) : Bool := (c.lanes.getD r none).isSome

/-- The edge of a role's lane placed at a position. -/
def PtuCfg.edge (c : PtuCfg) (b : Block) (r pos : Nat) : Option Edge :=
  match c.lanes.getD r none with
  | some l => b.edgePlaced l pos
  | none => none

/-- The number that bits spell, oldest first, most significant first. -/
def msbNum (bs : List Bool) : Nat := bs.foldl (fun n v => 2 * n + b2n v) 0
/-- The number that bits spell, oldest first, least significant first. -/
def lsbNum (bs : List Bool) : Nat := bs.foldr (fun v n => 2 * n + b2n v) 0

/-- What one position yields: items in order and the unit afterwards. -/
abbrev Decoded := List Item × Ptu

/-- An item with no flags of its own kind. -/
def mkItem (kind flags aux field pos ssu : Nat) : Item :=
  { kind := kind, flags := flags, aux := aux, field := field, d := pos, ssu := ssu, ack := false, index := 0 }

/-- A unit decides items: each takes its position within the transaction as it is decided (R188), so that a transaction that begins
later at the same sample does not renumber it. -/
def Ptu.emit (x : Ptu) : List Item → Decoded
  | [] => ([], x)
  | it :: its => let r := Ptu.emit { x with index := x.index + 1 } its; ({ it with index := x.index } :: r.1, r.2)

/-- Items decided before, then what follows at the same sample. -/
def after (its : List Item) (r : Decoded) : Decoded := (its ++ r.1, r.2)

/-! ### SPI -/

/-- The word collected so far as an item. -/
def spiWord (c : PtuCfg) (x : Ptu) (flags pos ssu : Nat) : Item :=
  let num := fun (bs : List Bool) => if bit c.opts 2 then lsbNum bs.reverse else msbNum bs.reverse
  let mosi := x.bits.take x.k
  let miso := x.bits.drop x.k
  mkItem 1 flags x.k (num mosi + num (miso.take x.k) * 2 ^ 32) pos ssu

/-- The idle timeout of SPI at a position (R194). Without CS it ends the transaction: the unit hunts, and the next clock edge begins one
(`y` 1). -/
def spiTimeout (c : PtuCfg) (x : Ptu) (pos : Nat) : Decoded :=
  let its := if 0 < x.k then [spiWord c x fTIMEOUT pos (pos * 64)] else []
  Ptu.emit { x with bits := [], k := 0, z := 0, y := if c.has 3 then x.y else 1,
                    hunting := !c.has 3 || x.hunting || decide (0 < x.k) } its

/-- SPI at a position: CS assertion, clock edge, CS release. MOSI bits stand first in `bits`, MISO bits after them. Without CS a
transaction begins with the first clock edge after the idle timeout (R194); DESIGN CHOICE (log 47): with no timeout set either, with the
first clock edge after arm. DESIGN CHOICE (log 47): here and at every clock or step edge of the other standards a data lane is read
at the instant of the edge by the rule that R168 gives for bit-timed reads. -/
def spiStep (b : Block) (c : PtuCfg) (pos : Nat) (x : Ptu) : Decoded :=
  let cs := c.edge b 3 pos
  let active := bit c.opts 8
  let start := match cs with | some e => e.rise == active | none => false
  let stop := match cs with | some e => e.rise != active | none => false
  let t := (cs.map (·.ssu)).getD 0
  let r0 : Decoded := if start then Ptu.emit { x with hunting := false, bits := [], k := 0, index := 0 } [mkItem 2 0 0 0 pos t] else ([], x)
  let clk := c.edge b 0 pos
  let r1 : Decoded := match clk with
    | none => r0
    | some e =>
      let x := { r0.2 with z := pos + 1 }
      let x := if !c.has 3 && x.hunting && (x.y = 1 || c.pa = 0) then { x with hunting := false, y := 0, index := 0 } else x
      let sampling := e.rise == (bit c.opts 0 == bit c.opts 1)
      if x.hunting || !sampling then (r0.1, x)
      else
        let mosi := stateBit b (c.lane 1) e.ssu
        let miso := c.has 2 && stateBit b (c.lane 2) e.ssu
        let x := { x with bits := (mosi :: x.bits.take x.k) ++ (miso :: x.bits.drop x.k), k := x.k + 1 }
        if x.k = bits c.opts 3 5 + 1 then after r0.1 (Ptu.emit { x with bits := [], k := 0 } [spiWord c x 0 pos e.ssu]) else (r0.1, x)
  if stop && !r1.2.hunting then
    let x := r1.2
    let its := if 0 < x.k then [spiWord c x fTRUNCATED pos t] else []
    after r1.1 (Ptu.emit { x with hunting := true, bits := [], k := 0 } (its ++ [mkItem 3 0 0 0 pos t]))
  else r1

/-! ### I²C -/

/-- Address item bits: [9:0] address, [10] R/W, [11] 10-bit. -/
def i2cAux (x : Ptu) (nack : Bool) : Nat := b2n nack + 2 * bits x.x 12 1

/-- A START, repeated START or STOP condition at an SDA edge while SCL is high (R189, R194). The latest SCL rise belongs to the
condition, so the condition lies inside a byte when a bit was taken before that rise. DESIGN CHOICE (log 47): TRUNCATED then
stands on the item of the condition, and the byte cut short gives no item; the spec does not say which item carries it. DESIGN CHOICE
(log 47): a START inside a byte is itself the next START at which the unit resumes (R194); it is a REP_START, and INDEX and the high-speed
mode go on. -/
def i2cCondition (start : Bool) (pos ssu : Nat) (x : Ptu) : Decoded :=
  let inByte := !x.hunting && decide (2 ≤ x.k)
  let tr := if inByte then fTRUNCATED else 0
  if start then
    let again := !x.hunting
    Ptu.emit { x with hunting := false, phase := 1, bits := [], k := 0, index := if again then x.index else 0,
                      x := if again then x.x else 0 } [mkItem (if again then 2 else 1) tr 0 0 pos ssu]
  else if x.hunting then ([], x)
  else Ptu.emit { x with hunting := true, phase := 0, bits := [], k := 0, x := 0 } [mkItem 5 tr 0 0 pos ssu]

/-- A bit of I²C at a rising SCL edge (R189): phase 1 address, 2 second byte of a 10-bit address, 3 data. -/
def i2cBit (v : Bool) (pos ssu : Nat) (x : Ptu) : Decoded :=
  if x.hunting then ([], x)
  else if x.k < 8 then ([], { x with bits := v :: x.bits, k := x.k + 1 })
  else
    let w := msbNum x.bits.reverse
    let x' := { x with bits := [], k := 0 }
    let hs := bits x.x 12 1 * 4096
    match x.phase with
    | 1 =>
      if w / 8 = 1 then
        -- a master code: the high-speed mode begins (log entry 16)
        let x' := { x' with x := 4096 + w / 2 }
        Ptu.emit { x' with phase := 3 } [mkItem 3 0 (i2cAux x' v) (w / 2) pos ssu]
      else if w / 8 = 30 && w % 2 = 0 then ([], { x' with phase := 2, y := w / 2 % 4, x := hs + x.x % 4096 })
      else if w / 8 = 30 then
        let f := (w / 2 % 4) * 256 + x.y / 4 % 256 + 1024 + 2048
        let x' := { x' with x := hs + f, phase := 3 }
        x'.emit [mkItem 3 0 (i2cAux x' v) f pos ssu]
      else
        let f := w / 2 + w % 2 * 1024
        let x' := { x' with x := hs + f, phase := 3 }
        x'.emit [mkItem 3 0 (i2cAux x' v) f pos ssu]
    | 2 =>
      let f := x.y % 4 * 256 + w + 2048
      let x' := { x' with x := hs + f, phase := 3, y := x.y % 4 + w * 4 }
      x'.emit [mkItem 3 0 (i2cAux x' v) f pos ssu]
    | _ => x'.emit [mkItem 4 0 (i2cAux x v) (w + bits x.x 0 10 * 2 ^ 32 + bits x.x 10 1 * 2 ^ 42) pos ssu]

/-- Spike filter of one line (R199): the pending edge (its instant plus 1) and what passes at this position. DESIGN CHOICE (log 47): an
item's decision sample is that at which the edge has passed the filter, and its timestamp is that of the edge itself. -/
def spike (a : Nat) (pend : Nat) (pos : Nat) (e : Option Edge) : Option Nat × Nat :=
  if a = 0 then (e.map (·.ssu), 0)
  else match e with
    | some e => if pend = 0 then (none, e.ssu + 1) else (none, 0)
    | none => if pend != 0 && decide (a ≤ pos - (pend - 1) / 64) then (some (pend - 1), 0) else (none, pend)

/-- I²C at a position: role 0 SCL, role 1 SDA. The filtered levels stand in `u` (bit 0 SCL, bit 1 SDA), pending edges in `t0`
and `z`. -/
def i2cStep (b : Block) (c : PtuCfg) (pos : Nat) (x : Ptu) : Decoded :=
  let s := spike c.pa x.t0 pos (c.edge b 0 pos)
  let d := spike c.pa x.z pos (c.edge b 1 pos)
  let x := { x with t0 := s.2, z := d.2 }
  let scl := fun (r : Decoded) => match s.1 with
    | some t =>
      let up := !bit r.2.u 0
      let x := { r.2 with u := putBit r.2.u 0 up }
      if up then
        let v := if c.pa = 0 then stateBit b (c.lane 1) t else bit x.u 1
        after r.1 (i2cBit v pos t x)
      else (r.1, x)
    | none => r
  let sda := fun (r : Decoded) => match d.1 with
    | some t =>
      let up := !bit r.2.u 1
      let x := { r.2 with u := putBit r.2.u 1 up }
      if bit x.u 0 then after r.1 (i2cCondition (!up) pos t x) else (r.1, x)
    | none => r
  if (d.1.getD 0) < (s.1.getD 0) then scl (sda ([], x)) else sda (scl ([], x))

/-! ### UART -/

/-- Instant of bit k (R187). -/
def uartTau (c : PtuCfg) (x : Ptu) : Nat := x.t0 + (2 * x.k + 1) * c.pa / 2

/-- A bit of a character has been read (R187, R189). DESIGN CHOICE (log 47): a BREAK carries no flag, although its stop bit reads 0. `bits` holds what follows the start bit, newest first. The item is decided at
the first stop bit; a second one (option [6]) is read before the unit looks for a start edge again. DESIGN CHOICE (log 47): a second stop
bit that reads 0 is ignored: no item, no flag. -/
def uartBit (c : PtuCfg) (v : Bool) (pos ssu : Nat) (x : Ptu) : Decoded :=
  let n := bits c.opts 0 4
  let par := bits c.opts 4 2
  let total := n + (if par = 0 then 0 else 1)
  if x.k = 0 then (if v then ([], { x with hunting := true, z := ssu + 1 }) else ([], { x with k := 1, bits := [] }))
  else if x.k ≤ total then ([], { x with k := x.k + 1, bits := v :: x.bits })
  else if x.k = total + 2 then ([], { x with hunting := true, k := 0, z := ssu + 1 })
  else
    let bs := x.bits.reverse
    let data := bs.take n
    let pbit := bs.getD n false
    let ones := (bs.filter id).length
    let bad := par != 0 && (ones % 2 == 1) != (par == 2)
    let x' := if v && bit c.opts 6 then { x with k := x.k + 1, bits := [] } else { x with hunting := true, k := 0, bits := [], z := ssu + 1 }
    if !v && ones = 0 then Ptu.emit x' [mkItem 2 0 0 0 pos ssu]
    else
      let w := if bit c.opts 8 then msbNum data else lsbNum data
      Ptu.emit x' [mkItem 1 ((if bad then fCHECK else 0) + (if v then 0 else fFRAMING)) (b2n (par != 0 && pbit)) w pos ssu]

/-- Timed reads of a character whose instants name a position; `n` bounds them. -/
def uartReads (b : Block) (c : PtuCfg) (pos : Nat) : Nat → Decoded → Decoded
  | 0, r => r
  | n + 1, r =>
    let x := r.2
    if x.hunting || uartTau c x / 64 != pos then r
    else
      let t := uartTau c x
      let v := stateBit b (c.lane 0) t != bit c.opts 7
      uartReads b c pos n (after r.1 (uartBit c v pos t x))

def uartStep (b : Block) (c : PtuCfg) (pos : Nat) (x : Ptu) : Decoded :=
  let r := uartReads b c pos 4 ([], x)
  match c.edge b 0 pos with
  | some e =>
    -- a start edge leaves the idle level; it counts when no character is in progress, and after the read that ended the last
    -- one (R194): where that read was 0, the line returns to the idle level before such an edge
    if r.2.hunting && e.rise == bit c.opts 7 && r.2.z ≤ e.ssu then
      (r.1, { r.2 with hunting := false, t0 := e.ssu, k := 0, bits := [], index := 0 })
    else r
  | none => r

/-! ### CAN FD -/

/-- Remainder of a bit list, most significant first, by a CRC polynomial of `n` bits without its leading term. -/
def crcOf (n poly init : Nat) (bs : List Bool) : Nat :=
  bs.foldl (fun r v =>
    let top := bit r (n - 1) != v
    let r := r * 2 % 2 ^ n
    if top then Nat.xor r poly else r) init

/-- Bits of a header that is complete, by what has been read so far (base or extended, classical or FD). -/
def canHeaderLen (d : List Bool) : Option Nat :=
  if d.length < 14 then none
  else if d.getD 13 false then (if d.length < 34 then none else if d.getD 33 false then some 41 else some 39)
  else if d.length < 15 then none
  else if d.getD 14 false then some 22 else some 19

/-- Index of the BRS bit of an FD header. -/
def canBrs (d : List Bool) : Option Nat :=
  if d.length < 15 then none
  else if d.getD 13 false then (if d.length < 34 then none else if d.getD 33 false then some 35 else none)
  else if d.getD 14 false then some 16 else none

/-- Field word of a complete header (R189). -/
def canHeader (d : List Bool) : Nat :=
  let ext := d.getD 13 false
  let sub := fun (i n : Nat) => msbNum ((d.drop i).take n)
  if ext then
    let fd := d.getD 33 false
    sub 1 11 * 2 ^ 18 + sub 14 18 + 2 ^ 29 + b2n fd * 2 ^ 30 + b2n (d.getD 32 false) * 2 ^ 31 +
      (if fd then b2n (d.getD 35 false) * 2 ^ 32 + b2n (d.getD 36 false) * 2 ^ 33 + sub 37 4 * 2 ^ 36 else sub 35 4 * 2 ^ 36)
  else
    let fd := d.getD 14 false
    sub 1 11 + b2n fd * 2 ^ 30 + b2n (d.getD 12 false) * 2 ^ 31 +
      (if fd then b2n (d.getD 16 false) * 2 ^ 32 + b2n (d.getD 17 false) * 2 ^ 33 + sub 18 4 * 2 ^ 36 else sub 15 4 * 2 ^ 36)

/-- Data octets of a header. -/
def canLen (hdr : Nat) : Nat :=
  let dlc := bits hdr 36 4
  if bit hdr 30 then [0, 1, 2, 3, 4, 5, 6, 7, 8, 12, 16, 20, 24, 32, 48, 64].getD dlc 0
  else if bit hdr 31 then 0 else min dlc 8

/-- Length of the CRC of a frame (R186). -/
def canCrcLen (hdr len : Nat) : Nat := if !bit hdr 30 then 15 else if len ≤ 16 then 17 else 21

/-- The frame is over and the unit hunts: for 11 recessive bits after an error (R194); after a frame without one (phase 1) for the ACK
delimiter, the end of frame and two bits of intermission, so that a start of frame in the third is decoded (DESIGN CHOICE, log 47). -/
def canOver (ok : Bool) (x : Ptu) : Ptu := { x with hunting := true, phase := b2n ok, can := CanSt.reset }

/-- The END item (R189), decided at the CRC delimiter or, with STUFF, where the frame breaks off before its ACK slot. -/
def canEnd (x : Ptu) (flags crc pos ssu : Nat) (ack : Bool) : Item :=
  { kind := 3, flags := flags, aux := 0, field := x.can.hdr + crc * 2 ^ 43, d := pos, ssu := ssu, ack := ack, index := 0 }

/-- A bit of the header, the data or a classical CRC that is not a stuff bit. -/
def canData (c : PtuCfg) (v : Bool) (pos ssu : Nat) (x : Ptu) : Decoded :=
  let k := { x.can with data := v :: x.can.data }
  let d := k.data.reverse
  match k.stage with
  | 0 =>
    -- the data phase begins at the sample point of a recessive BRS bit (R187, log entry 16)
    let toFast := v && canBrs d == some (d.length - 1)
    let spD := bits c.opts 7 7
    let x := if toFast then { x with t0 := ssu + (100 - spD) * c.pb / 100, k := 0, can := { k with fast := true } } else { x with can := k }
    (match canHeaderLen d with
    | some n =>
      if d.length = n then
        let hdr := canHeader d
        let len := canLen hdr
        Ptu.emit { x with can := { x.can with hdr := hdr, len := len, got := 0,
                                              stage := if 0 < len then 1 else if bit hdr 30 then 3 else 2 } }
          [mkItem 1 0 0 hdr pos ssu]
      else ([], x)
    | none => ([], x))
  | 1 =>
    let n := (canHeaderLen d).getD 0
    if (d.length - n) % 8 = 0 then
      let byte := msbNum (d.drop (d.length - 8))
      let got := k.got + 1
      let k := { k with got := got, stage := if got < k.len then 1 else if bit k.hdr 30 then 3 else 2 }
      Ptu.emit { x with can := k } [mkItem 2 0 0 (byte + bits k.hdr 0 29 * 2 ^ 12) pos ssu]
    else ([], { x with can := k })
  | _ =>
    let k := { x.can with crc := v :: x.can.crc }
    if k.crc.length = 15 then
      let crcv := crcOf 15 0x4599 0 x.can.data.reverse
      ([], { x with can := { k with stage := 4, err := if crcv = msbNum k.crc.reverse then 0 else fCHECK } })
    else ([], { x with can := k })

/-- A bit of the CRC field of an FD frame: fixed stuff bits, stuff count, CRC (log entry 16). -/
def canFdCrc (v : Bool) (x : Ptu) : Ptu :=
  let k := { x.can with crc := v :: x.can.crc }
  let f := k.crc.reverse
  let n := canCrcLen k.hdr k.len
  let total := n + 4 + (n + 4 + 3) / 4
  if f.length < total then { x with can := k }
  else
    let prev := k.last :: f
    let idx := List.range total
    let fixedBad := (idx.filter (· % 5 = 0)).any (fun i => f.getD i false == prev.getD i false)
    let plain := (idx.filter (fun i => i % 5 != 0)).map (fun i => f.getD i false)
    let cnt := k.stuffed % 8
    let gray := Nat.xor cnt (cnt / 2)
    let want := gray * 2 + popCount 3 gray % 2
    let stuffBad := msbNum (plain.take 4) != want
    let poly := if n = 17 then 0x1685B else 0x102899
    let crcv := crcOf n poly (2 ^ (n - 1)) (k.raw.reverse ++ plain.take 4)
    let got := msbNum (plain.drop 4)
    { x with can := { k with stage := 4, err := (if fixedBad || stuffBad then fSTUFF else 0) + (if crcv = got then 0 else fCHECK) } }

/-- The CRC as received. -/
def canCrcGot (k : CanSt) : Nat :=
  if !bit k.hdr 30 then msbNum k.crc.reverse
  else
    let f := k.crc.reverse
    msbNum ((((List.range f.length).filter (fun i => i % 5 != 0)).map (fun i => f.getD i false)).drop 4)

/-- A bit has been read at its sample point: true for recessive (R187). DESIGN CHOICE (log 47): a recessive stuff error before the CRC
field of an FD frame gives an END item with STUFF, CRC 0 and the header as far as it is complete; a start-of-frame bit that reads
recessive is read on as the first bit of a frame (R187 discards only a UART start bit that reads 1). -/
def canBit (c : PtuCfg) (v : Bool) (pos ssu : Nat) (x : Ptu) : Decoded :=
  let k := x.can
  let x := { x with k := x.k + 1 }
  if k.stage = 3 then
    -- six dominant bits in a row are an error frame, for which there is no item (R194)
    let run := (v :: (k.crc ++ k.raw)).take 6
    if run.length = 6 && run.all (· == false) then ([], canOver false x) else ([], canFdCrc v x)
  else if k.run = 5 && (k.stage < 3 || (k.stage = 4 && !bit k.hdr 30 && k.crc.length = 15)) then
    -- a dynamic stuff bit; six dominant bits are an error frame, for which there is no item (R194)
    if v == k.last then Ptu.emit (canOver false x) (if v then [canEnd x fSTUFF 0 pos ssu false] else [])
    else ([], { x with can := { k with last := v, run := 1, raw := v :: k.raw, stuffed := k.stuffed + 1 } })
  else if k.stage = 4 then
    let flags := k.err + (if v then 0 else fFRAMING)
    Ptu.emit (canOver (flags == 0) x) [canEnd x flags (canCrcGot k) pos ssu true]
  else
    let run := if v == k.last then k.run + 1 else 1
    canData c v pos ssu { x with can := { k with last := v, run := run, raw := v :: k.raw } }

/-- Instant of the next read (R187). -/
def canTau (c : PtuCfg) (x : Ptu) : Nat :=
  let p := if x.can.fast then c.pb else c.pa
  let sp := if x.can.fast then bits c.opts 7 7 else bits c.opts 0 7
  x.t0 + x.k * p + sp * p / 100

/-- Timed reads whose instants name a position and do not lie after `lim`; `n` bounds them. DESIGN CHOICE (log 47): a bit whose instant is
that of a dominant edge is read before the edge anchors the reads anew. -/
def canReads (b : Block) (c : PtuCfg) (pos lim : Nat) : Nat → Decoded → Decoded
  | 0, r => r
  | n + 1, r =>
    let x := r.2
    if x.hunting || canTau c x / 64 != pos || lim < canTau c x then r
    else
      let t := canTau c x
      let v := stateBit b (c.lane 0) t != bit c.opts 14
      canReads b c pos lim n (after r.1 (canBit c v pos t x))

/-- CAN FD at a position: the reads up to its edge, the edge, the reads after it. A dominant edge anchors the reads anew (R187). `y` is
the instant plus 1 from which the line has been recessive, 0 while dominant. DESIGN CHOICE (log 47): a number of consecutive recessive
bits is that time between two edges, less half a bit. -/
def canStep (b : Block) (c : PtuCfg) (pos : Nat) (x : Ptu) : Decoded :=
  match c.edge b 0 pos with
  | some e =>
    let r := canReads b c pos e.ssu 4 ([], x)
    let dominant := e.rise == bit c.opts 14
    let x := r.2
    let x' :=
      if !dominant then { x with y := e.ssu + 1 }
      else if x.hunting then
        let halves := if x.phase = 1 then 19 else 21
        let quiet := x.y != 0 && decide (halves * c.pa ≤ 2 * (e.ssu + 1 - x.y))
        { x with y := 0, hunting := !quiet, phase := if quiet then 0 else x.phase, t0 := e.ssu, k := 0,
                 index := if quiet then 0 else x.index, can := CanSt.reset }
      else { x with y := 0, t0 := e.ssu, k := 0 }
    canReads b c pos (pos * 64 + 63) 4 (r.1, x')
  | none => canReads b c pos (pos * 64 + 63) 4 ([], x)

/-! ### Motion interfaces -/

/-- Positions wrap in two's complement (R189). -/
def wrap32 (i : Int) : Int := signed (unsigned i 32) 32

/-- QUAD at a position (R189): A and B edges, then Z. DESIGN CHOICE (log 47): ×2 counts the edges of A, ×1 those at which B is low; the
count goes up where A leads B; and the unit, which has no transactions, reads IN_TRANSACTION from its first sample. -/
def quadStep (b : Block) (c : PtuCfg) (pos : Nat) (x : Ptu) : Decoded :=
  let ea := c.edge b 0 pos
  let eb := c.edge b 1 pos
  let x := { x with hunting := false }
  let r : Decoded := match ea, eb with
    | some e, some f => x.emit [mkItem 1 fILLEGAL 0 (unsigned x.pos 32) pos (max e.ssu f.ssu)]
    | none, none => ([], x)
    | _, _ =>
      let isA := ea.isSome
      let e := (ea <|> eb).getD { lane := 0, rise := false, at_ := 0, ssu := 0, q := 0, step := 0 }
      let other := b.fAt (c.lane (if isA then 1 else 0)) (b.nextPos pos)
      let plus := (if isA then e.rise != other else e.rise == other) != bit c.opts 1
      let counts := match bits c.opts 2 2 with | 0 => true | 1 => isA | _ => isA && !other
      if counts then
        let p := wrap32 (if plus then x.pos + 1 else x.pos - 1)
        Ptu.emit { x with pos := p } [mkItem 1 0 (b2n !plus) (unsigned p 32) pos e.ssu]
      else ([], x)
  match c.edge b 2 pos with
  | some e =>
    if e.rise then after r.1 (Ptu.emit (if bit c.opts 0 then { r.2 with pos := c.preset } else r.2) [mkItem 2 0 0 (unsigned r.2.pos 32) pos e.ssu])
    else r
  | none => r

/-- STEP_DIR at a position (R189). `x` is the position of the latest DIR edge plus 1. DESIGN CHOICE (log 47): the unit, which has no
transactions, reads IN_TRANSACTION from its first sample. -/
def stepDirStep (b : Block) (c : PtuCfg) (pos : Nat) (x : Ptu) : Decoded :=
  let x := { x with hunting := false }
  let dirEdge := c.edge b 1 pos
  let r : Decoded := match c.edge b 0 pos with
    | some e =>
      if e.rise == bit c.opts 0 then ([], x)
      else
        let before := match dirEdge with | some d => if d.ssu ≤ e.ssu then pos + 1 else x.x | none => x.x
        let neg := stateBit b (c.lane 1) e.ssu == bit c.opts 1
        let p := wrap32 (if neg then x.pos - 1 else x.pos + 1)
        let bad := before != 0 && decide (pos + 1 - before < c.pa)
        Ptu.emit { x with pos := p } [mkItem 1 (if bad then fILLEGAL else 0) (b2n neg) (unsigned p 32) pos e.ssu]
    | none => ([], x)
  if dirEdge.isSome then (r.1, { r.2 with x := pos + 1 }) else r

/-- Gray code decoded. -/
def ungray (bs : List Bool) : List Bool :=
  (bs.foldl (fun (acc : List Bool × Bool) v => let w := acc.2 != v; (acc.1 ++ [w], w)) ([], false)).1

/-- The word of an SSI unit from the bits taken, oldest first (R189, R199). -/
def ssiWord (c : PtuCfg) (flags : Nat) (bs : List Bool) (pos ssu : Nat) : Item :=
  mkItem 1 flags 0 (msbNum (if bit c.opts 6 then ungray bs else bs)) pos ssu

/-- The item of a BiSS-C unit from the bits taken after the start bit, oldest first: CDS, data, nE, nW (R189). Bits that a timeout
cut off read 0 (DEDUCED, log 47). -/
def bissItem (c : PtuCfg) (flags : Nat) (bs : List Bool) (pos ssu : Nat) : Item :=
  let n := bits c.opts 0 6 + 1
  mkItem 1 flags (b2n (bs.getD (n + 1) false) + 2 * b2n (bs.getD (n + 2) false) + 4 * b2n (bs.getD 0 false))
    (msbNum ((bs.drop 1).take n)) pos ssu

/-- SSI at a position (R189): the first falling clock edge after the timeout (`y` 1) latches; each falling edge after it takes a bit.
`z` is the position of the latest clock edge plus 1; phase 1 in a word, 2 word complete. -/
def ssiStep (b : Block) (c : PtuCfg) (pos : Nat) (x : Ptu) : Decoded :=
  match c.edge b 0 pos with
  | none => ([], x)
  | some e =>
    let x := { x with z := pos + 1 }
    if e.rise then ([], x)
    else if x.hunting then
      ([], if x.y = 1 then { x with hunting := false, y := 0, phase := 1, bits := [], k := 0, index := 0 } else x)
    else if x.phase = 1 then
      let x := { x with bits := stateBit b (c.lane 1) e.ssu :: x.bits, k := x.k + 1 }
      if x.k = bits c.opts 0 6 + 1 then
        Ptu.emit { x with phase := 2, bits := [], k := 0 } [ssiWord c 0 x.bits.reverse pos e.ssu]
      else ([], x)
    else ([], x)

/-- BiSS-C at a position: a frame begins with the first rising MA edge after the timeout (`y` 1); SLO is taken at rising MA edges;
phase 0 waits for the acknowledge (0), 1 for the start bit (1), 2
takes CDS, data, nE, nW and CRC, 3 word complete (log entry 16). -/
def bissStep (b : Block) (c : PtuCfg) (pos : Nat) (x : Ptu) : Decoded :=
  match c.edge b 0 pos with
  | none => ([], x)
  | some e =>
    let x := { x with z := pos + 1 }
    let x := if x.hunting && x.y = 1 && e.rise then { x with hunting := false, y := 0, phase := 0, index := 0 } else x
    if x.hunting || !e.rise then ([], x)
    else
      let v := stateBit b (c.lane 1) e.ssu
      match x.phase with
      | 0 => ([], if v then x else { x with phase := 1 })
      | 1 => ([], if v then { x with phase := 2, bits := [], k := 0 } else x)
      | 2 =>
        let x := { x with bits := v :: x.bits, k := x.k + 1 }
        let n := bits c.opts 0 6 + 1
        let m := bits c.pb 16 4 + 1
        if x.k = n + 3 + m then
          let bs := x.bits.reverse
          let data := (bs.drop 1).take n
          let nE := bs.getD (n + 1) false
          let nW := bs.getD (n + 2) false
          let got := msbNum (bs.drop (n + 3))
          let crcv := crcOf m (bits c.pb 0 16 % 2 ^ m) 0 (data ++ [nE, nW])
          let want := if bit c.opts 6 then crcv else 2 ^ m - 1 - crcv
          let bad := got != want
          Ptu.emit { x with phase := 3, hunting := bad, bits := [], k := 0 } [bissItem c (if bad then fCHECK else 0) bs pos e.ssu]
        else ([], x)
      | _ => ([], x)

/-- The monoflop timeout of SSI and BiSS-C (R194): a word that it cuts off is an item of the bits taken; the unit hunts until the next
frame starts. -/
def frameTimeout (x : Ptu) (inWord : Bool) (it : Item) : Decoded :=
  Ptu.emit { x with hunting := true, y := 1, phase := 0, bits := [], k := 0, z := 0 } (if inWord && !x.hunting then [it] else [])

/-- PWM at a position (R189). `x` is the closing edge before plus 1, `y` the latest rising edge plus 1, `z` the high time
gathered in the period. DESIGN CHOICE (log 47): the unit reads IN_TRANSACTION from its first closing edge. -/
def pwmStep (b : Block) (c : PtuCfg) (pos : Nat) (x : Ptu) : Decoded :=
  match c.edge b 0 pos with
  | none => ([], x)
  | some e =>
    let x := if e.rise then { x with y := pos + 1 } else { x with z := if x.y = 0 then x.z else x.z + (pos + 1 - x.y), y := 0 }
    if e.rise == bit c.opts 0 then ([], x)
    else
      let its := if x.x = 0 then [] else
        [mkItem 1 0 0 (satTo 32 (pos + 1 - x.x) + satTo 32 x.z * 2 ^ 32) pos e.ssu]
      Ptu.emit { x with x := pos + 1, z := 0, hunting := false } its

/-! ### A unit over positions -/

/-- The position at which a running timeout falls due, if one runs. -/
def ptuDue (c : PtuCfg) (x : Ptu) : Option Nat :=
  if x.z = 0 || c.pa = 0 then none
  else match c.std with
    | 1 | 7 | 8 => some (x.z - 1 + c.pa)
    | _ => none

/-- The timeout is carried out. -/
def ptuExpire (c : PtuCfg) (pos : Nat) (x : Ptu) : Decoded :=
  let cut := fTIMEOUT + fTRUNCATED
  match c.std with
  | 1 => spiTimeout c x pos
  | 7 => frameTimeout x (x.phase == 1) (ssiWord c cut x.bits.reverse pos (pos * 64))
  | _ => frameTimeout x (x.phase == 1 || x.phase == 2) (bissItem c cut x.bits.reverse pos (pos * 64))

/-- A decoder at one position. -/
def ptuStep (b : Block) (c : PtuCfg) (pos : Nat) (x : Ptu) : Decoded :=
  match c.std with
  | 1 => spiStep b c pos x
  | 2 => i2cStep b c pos x
  | 3 => uartStep b c pos x
  | 4 => canStep b c pos x
  | 5 => quadStep b c pos x
  | 6 => stepDirStep b c pos x
  | 7 => ssiStep b c pos x
  | 8 => bissStep b c pos x
  | 9 => pwmStep b c pos x
  | _ => ([], x)

/-- Range check of half a field word (R190). -/
def rangeOk (ctl lo hi v : Nat) (i : Nat) : Bool :=
  if !bit ctl (2 * i) then true
  else if bit ctl (2 * i + 1) then decide (signed lo 32 ≤ signed v 32) && decide (signed v 32 ≤ signed hi 32)
  else decide (lo ≤ v) && decide (v ≤ hi)

/-- An item matches (R190). -/
def ptuMatch (b : Block) (u ctx field : Nat) : Bool :=
  let o := 0x5830 + u
  let same := fun (x v m : Nat) => Nat.land (Nat.xor x v) m == 0
  same ctx (b.rd o 2) (b.rd o 1) && same field (b.rd o 4) (b.rd o 3) &&
    rangeOk (b.rd o 5) (b.rd o 6) (b.rd o 7) (bits field 0 32) 0 && rangeOk (b.rd o 5) (b.rd o 8) (b.rd o 9) (bits field 32 32) 1

/-- A DECODE record is offered to the record writer (R196). -/
def keepRecord (u : Nat) (ws : List Nat) (b : Block) : Block :=
  let x := b.ptu u
  if 64 ≤ x.buf.length then b.flag (ptuStat u) 7 8 1 else b.setPtu u { x with buf := x.buf ++ [ws] }

/-- Whether an item matches. The ACK slot of a CAN FD END item is read after the item is compared: where the match depends on it
(AUX[0]), which way it goes is a free value (log 47). -/
def itemHit (u ctx field : Nat) (ack : Bool) (b : Block) : Bool × Block :=
  let h := ptuMatch b u ctx field
  if ack && ptuMatch b u (ctx + 1) field != h then (let r := b.fresh; (bit r.1.toNat 0, r.2)) else (h, b)

/-- An item is decided: counted, compared, marked for the sequencer and kept for the record writer (R191, R194 to R196). The record
of a CAN FD END item waits for the read of the ACK slot. DESIGN CHOICE (log 47): INDEX of the motion standards, which have no
transactions, counts from arm. -/
def takeItem (u : Nat) (it : Item) (b : Block) : Block :=
  let x := b.ptu u
  let ctx := it.kind * 2 ^ 28 + min it.index 0xFFF * 2 ^ 16 + it.flags * 2 ^ 8 + it.aux
  let r := itemHit u ctx it.field it.ack b
  let hit := r.1
  let b := r.2.setPtu u { x with marks := ((it.d + 64, hit) :: x.marks).take 256 }
  let o := ptuStat u
  let b := b.bump 32 o 2 1
  let b := if hit then b.bump 32 o 3 1 else b
  let b := if it.flags != 0 then b.flag o 4 5 1 else b
  let mode := b.rd (ptuObj u) 0xA
  if mode = 2 || (mode = 1 && hit) then
    let ws := [headerWord 9 (b.ptuDom u) 4 0 (u + b2n hit * 16), b.tsSsu it.ssu, ctx, it.field]
    if it.ack then b.setPtu u { b.ptu u with ack := some (it.ssu + b.rd (ptuObj u) 7, ws) } else keepRecord u ws b
  else b

/-- The ACK slot of the last CAN FD frame has been read: AUX[0] of its END record tells whether it was dominant (R189). -/
def ackTaken (u : Nat) (dominant : Bool) (b : Block) : Block :=
  match (b.ptu u).ack with
  | none => b
  | some (_, ws) => keepRecord u (ws.set 2 (ws.getD 2 0 + b2n dominant)) (b.setPtu u { b.ptu u with ack := none })

/-- The ACK slot at a position (R187): a dominant edge before its read anchors the read anew. -/
def ackStep (u : Nat) (c : PtuCfg) (pos : Nat) (b : Block) : Block :=
  match (b.ptu u).ack with
  | none => b
  | some (tau, ws) =>
    let tau := match c.edge b 0 pos with
      | some e => if e.rise == bit c.opts 14 && e.ssu < tau then e.ssu + bits c.opts 0 7 * c.pa / 100 else tau
      | none => tau
    if tau / 64 ≤ pos then ackTaken u (stateBit b (c.lane 0) tau == bit c.opts 14) b
    else b.setPtu u { b.ptu u with ack := some (tau, ws) }

/-- The domain's stop leaves an ACK slot unread: AUX[0] of the record is a free value (log 47). -/
def ackUnread (u : Nat) (b : Block) : Block :=
  if (b.ptu u).ack.isSome then (let r := b.fresh; ackTaken u (bit r.1.toNat 0) r.2) else b

/-- Items of one sample in ascending KIND (R193). -/
def byKind (its : List Item) : List Item := (List.range 16).flatMap (fun k => its.filter (fun i => i.kind == k))

/-- Take what a decoder yields. -/
def takeItems (u : Nat) (r : Decoded) (b : Block) : Block :=
  let old := b.ptu u
  let b := b.setPtu u { r.2 with marks := old.marks, buf := old.buf, ack := old.ack }
  forEach (byKind r.1) (takeItem u) b

/-- Carry out a timeout that is due at or before position `p` (R194), and at or before the domain's stop (R185). -/
def settlePtu (u p : Nat) (b : Block) : Block :=
  let c := b.ptuCfg u
  let x := b.ptu u
  let last := match (b.dom (b.ptuDom u)).stop with | some s => min p s.pos | none => p
  match ptuDue c x with
  | some q => if q ≤ last then takeItems u (ptuExpire c q x) b else b
  | none => b

/-- A unit takes one evaluated position, a void one too: it repeats f of the last real sample (R354). A timeout before the position
comes first. DESIGN CHOICE (log 47): an edge at the very sample at which a timeout runs out is taken before it. -/
def ptuPos (u : Nat) (c : PtuCfg) (pos : Nat) (b : Block) : Block :=
  let b := ackStep u c pos (settlePtu u (pos - 1) b)
  takeItems u (ptuStep b c pos (b.ptu u)) b

/-- The domain's last evaluated position lies in frame `a` or before it. -/
def stoppedBy (b : Block) (t a : Nat) : Bool :=
  match (b.dom t).stop with
  | some s => decide (s.pos < (a + 1) * 32)
  | none => false

/-- A unit takes frame `a`, at the positions that its domain evaluates (R184, R185). -/
def ptuFrame (a u : Nat) (b : Block) : Block :=
  let t := b.ptuDom u
  let c := b.ptuCfg u
  if 8 ≤ t || c.std = 0 || !b.armed t then b
  else
    let b := settlePtu u (a * 32 - 1) b
    let b := forEach ((List.range 32).map (· + a * 32)) (fun p b => if b.evaluates t p then ptuPos u c p b else b) b
    let b := if stoppedBy b t a then ackUnread u b else b
    if c.std = 5 || c.std = 6 then b.wrI (ptuStat u) 0xA (b.ptu u).pos else b

/-- PTU_TIMEOUT: a timeout of the unit that falls at or before the last position taken. -/
def ptuTimeout (u : Nat) (b : Block) : Block :=
  let t := b.ptuDom u
  if 8 ≤ t || !b.armed t then b
  else
    let last := (b.dom t).evaluated - 1
    settlePtu u last b

/-- The unit at its domain's arm (R185, R201): hunting, position preset, counts 0; a unit of standard NONE too. -/
def ptuArm (u first : Nat) (b : Block) : Block :=
  let c := b.ptuCfg u
  let o := ptuStat u
  let lvl := fun (r : Nat) => c.has r && b.fAt (c.lane r) (first * 32)
  let x := { Ptu.reset with
    pos := c.preset, z := if c.std = 1 || c.std = 7 || c.std = 8 then first * 32 + 1 else 0,
    u := b2n (lvl 0) + 2 * b2n (lvl 1), y := if c.std = 4 then first * 2048 + 1 else 0 }
  let b := b.setPtu u x
  let b := if c.std = 5 || c.std = 6 then b.wrI o 0xA c.preset else b.wr o 0xA 0
  (b.wr o 2 0).wr o 3 0

/-- Up to 4 DECODE records of a unit reach the record writer in a frame. -/
def writeDecode (u : Nat) (b : Block) : Block :=
  let x := b.ptu u
  if x.buf.isEmpty then b
  else
    let b := b.setPtu u { x with buf := x.buf.drop 4 }
    if b.ptuDom u < 8 then forEach (x.buf.take 4) (fun ws b => report (b.ptuDom u) kDECODE ws b) b else b

/-- Unit state (R201). DESIGN CHOICE (log 47): a unit of standard NONE reads STOPPED in an armed domain too. -/
def Block.ptuState (b : Block) (u : Nat) : Nat :=
  let t := b.ptuDom u
  if 8 ≤ t then 0 else if !b.armed t || b.ptuStd u = 0 then 1 else if (b.ptu u).hunting then 2 else 3

end Sys2Proof.Machine
end

