-- ==== Sys2Proof/Machine/Sync.lean ====
section
/-! DEFINITION. SYNC_IN, slips and frame number loads (12_frame_sync_and_sloe_chains.md R353 to R360) and the frame numbers of the
chain's words. -/

namespace Sys2Proof.Machine

/-! ### Chain state (R366, R379) -/

def chSOLO : Nat := 0
def chDISCOVERING : Nat := 1
def chFORMED : Nat := 2
def chDEGRADED : Nat := 3
def chORPHAN : Nat := 4

/-- The module belongs to a formed chain: FORMED, DEGRADED or ORPHAN. -/
def Block.inChain (b : Block) : Bool := let s := b.rd 0x2200 4; s == 2 || s == 3 || s == 4
/-- The role is MASTER. -/
def Block.isMaster (b : Block) : Bool := b.rd 0x2200 2 == 1
/-- A member of a chain. -/
def Block.isMember (b : Block) : Bool := b.inChain && !b.isMaster
/-- Horizon H and chain mask. -/
def Block.horizon (b : Block) : Nat := b.rd 0x2220 1
def Block.chainMask (b : Block) : Nat := b.rd 0x2220 2
def Block.dmax (b : Block) : Nat := if b.inChain then b.rd 0x2200 6 else 0
def Block.depth (b : Block) : Nat := if b.inChain then b.rd 0x2200 5 else 0

/-- The frame, in the model's count, whose number ends in the `w` bits of `x` and that lies nearest the running one. -/
def Block.absNear (b : Block) (x w : Nat) : Nat :=
  ((b.time.abs : Int) + signed ((x % 2 ^ w + 2 ^ 54 - b.time.frame.toNat % 2 ^ w) % 2 ^ w) w).toNat

/-! ### Slips and loads -/

/-- Accept a slip or load. -/
def acceptSlip (x : SlipLoad) (b : Block) : Block := { b with sync := { b.sync with wait := b.sync.wait ++ [x] } }

/-- What applies at frame `a`: the slip, and the number loaded. -/
def Sync.slipAt (s : Sync) (a : Nat) : Int := ((s.wait.filter (fun x => x.at_ == a)).map (·.s)).sum
def Sync.loadAt (s : Sync) (a : Nat) : Option Nat := (s.wait.filter (fun x => x.at_ == a)).findSome? (·.load)

/-- Frame `a` begins with number `num`, which without a load would be `old`: what waited for it has taken effect. A slip or load
of R358, R359 or R375 moves A_last; a local load of alignment renumbers it. -/
def syncApply (a num old : Nat) (b : Block) : Block :=
  let now := b.sync.wait.filter (fun x => x.at_ == a)
  if now.isEmpty then b
  else
    let s := b.sync.slipAt a
    let loaded := (b.sync.loadAt a).isSome
    let last := if now.any (·.counts) then some num else b.sync.aLast.map (fun x => (x + num + 2 ^ 53 - old) % 2 ^ 53)
    { b with sync := { b.sync with wait := b.sync.wait.filter (fun x => x.at_ != a), aLast := last,
                                   slipDue := if s = 0 then none else some s, loadDue := if loaded then some old else none } }

/-- The last positions of the running frame become void by a slip (R353): they hold the last real sample before them (R354). The
samples taken there belong to the frame that follows, which takes them: the deskew buffers give them back, and the inputs hold the
value decided at the last position that stays real (R550). -/
def voidTail (v : Nat) (b : Block) : Block :=
  let cut := fun (xs : List Bool) => to32 false (xs.take v)
  let hold := fun (p : LanePkt) => { p with c := to32 0 (p.c.take v), a := to32 0 (p.a.take v) }
  match b.packets with
  | p :: rest =>
    if p.abs = b.time.abs && v < p.voidFrom then
      { b with packets := { p with voidFrom := v, trig0 := cut p.trig0, trig1 := cut p.trig1,
                                   lanes := p.lanes.map (fun x => (x.1, hold x.2)) } :: rest,
               lanes := b.lanes.map (fun x => (x.1, { x.2 with raw := x.2.raw.take (x.2.raw.length - (p.voidFrom - v)) })),
               sync := { b.sync with level := cut b.sync.level, syncIn := (cut b.sync.level).getLastD b.sync.syncIn,
                                     trig0 := (cut p.trig0).getLastD b.sync.trig0,
                                     trig1 := (cut p.trig1).getLastD b.sync.trig1 } }
    else b
  | [] => b

/-- A local slip of alignment that is to be made before frame `a`: it is made while no domain is armed (R41, R369). -/
def Block.localSlip (b : Block) (a : Nat) : Option SlipLoad :=
  (b.sync.wait.find? (fun x => x.at_ == a && !x.counts)).filter (fun _ => b.armedDoms.isEmpty)

/-- The first position of the running frame that is about to be void by a local slip; 32 with none. -/
def Block.voidSoon (b : Block) : Nat :=
  match b.localSlip (b.time.abs + 1) with
  | some x => if x.s < 0 then 32 - x.s.natAbs else 32
  | none => 32

/-- A local slip and load of alignment fall due before frame `a`: they are made while no domain is armed, and are else given up, and
alignment waits in PENDING (R41, R369). -/
def settleLocal (a : Nat) (b : Block) : Block :=
  match b.sync.wait.find? (fun x => x.at_ == a && !x.counts) with
  | none => b
  | some x =>
    if b.armedDoms.isEmpty then (if x.s < 0 then voidTail (32 - x.s.natAbs) b else b)
    else ({ b with sync := { b.sync with wait := b.sync.wait.filter (fun y => y.at_ != a || y.counts) } }).wr 0x2200 0xA 2

/-- The logic value of an input over `n` physical samples, from the value last decided: an input inside its hysteresis band keeps it
(R536, R550). -/
def decided (v : Bool) : Nat → List (Option Bool) → List Bool
  | 0, _ => []
  | n + 1, [] => v :: decided v n []
  | n + 1, x :: xs => x.getD v :: decided (x.getD v) n xs

/-- SYNC_IN and SYNC_OUT over the new frame (R355, R357, R360): SYNC_IN is read at every position, void positions hold; SYNC_OUT
follows positions by the period then in force and is low during dropped samples. -/
def syncFrame (tk : Taking) (level : List (Option Bool)) (b : Block) : Block :=
  let now := decided b.sync.syncIn tk.len level
  let p := b.rd 0x2201 0xD
  let high := p != 0 && b.time.frame.toNat % p == 0
  { b with sync := { b.sync with
      before := b.sync.level.getLast?, syncIn := now.getLastD b.sync.syncIn,
      level := to32 false (now.drop tk.drop),
      out := (List.range tk.len).map (fun i => high && decide (tk.drop ≤ i) && decide (i < tk.drop + 16)) } }

/-- SYNC_OUT at a physical sample of the running frame, dropped samples first: low while the clock is stopped, high-impedance (none)
while VIN is not valid (R503). -/
def Block.syncOut (b : Block) (i : Nat) : Option Bool :=
  if b.power.on then some (b.clk.run && b.sync.out.getD i false) else none

/-- SYNC_IN reads 1 at sample `e` of the running frame after having read 0 at the position before it (R357, R550). -/
def Block.syncRise (b : Block) (e : Nat) : Bool :=
  b.sync.level.getD e false &&
    (match e with | 0 => b.sync.before == some false | k + 1 => !b.sync.level.getD k false)

/-- SYNC_SLIP: the slip that has moved the boundary before the running frame causes its reset and records (R356, R380, R383). -/
def syncSlip (b : Block) : Block :=
  match b.sync.slipDue with
  | some s =>
    let b := syncReset { b with sync := { b.sync with slipDue := none } }
    let b := eventAll 7 (unsigned s 6) b.tsNow [] b
    ((b.bump 32 0x2201 0xB 1).wr 0x2201 0xC b.time.frame.toNat).bset 0xF00 0 (unsigned s 8)
  | none => b

/-- FRAME_LOAD: the load that has given the running frame its number causes its reset and records, after those of a slip (R359). -/
def frameLoad (b : Block) : Block :=
  let b := syncSlip b
  match b.sync.loadDue with
  | some old =>
    let b := syncReset { b with sync := { b.sync with loadDue := none } }
    let b := b.wr 0x4010 2 b.time.frame.toNat
    eventAll 9 0 b.tsNow [old] b
  | none => b

/-- The requested slip of an event at global position `g` (R357). -/
def requestedSlip (mode p g : Nat) : Int :=
  if mode = 1 then
    let m := g % 32
    if m ≤ 16 then (m : Int) else (m : Int) - 32
  else
    -- the multiple K of P nearest to g / 32
    let q := g / (32 * p)
    let k := if 2 * (g - q * 32 * p) ≤ 32 * p then q * p else (q + 1) * p
    (g : Int) - 32 * (k : Int)

/-- Cause of a refused request, 0 for none (R358). -/
def slipCause (b : Block) (s : Int) : Nat :=
  if 16 < s.natAbs then 1
  else if !b.sync.wait.isEmpty then 2
  else if (match b.sync.aLast with | some a => decide ((b.time.frame.toNat + 2 ^ 53 - a) % 2 ^ 53 < 1024) | none => false) then 3
  else if b.isMember then 4
  else 0

/-- Frames from the running frame F to the applying frame A: 2 on a SOLO module, H on the master of a chain (R358, R375). -/
def Block.applyAfter (b : Block) : Nat := if b.inChain then b.horizon else 2

/-- A downward command of the master (R364, R375): the applying frame lies `k` frames ahead. -/
def sendCommand (cmd arg k : Nat) (b : Block) : Block :=
  if !b.inChain then b
  else { b with chain := { b.chain with
    cmds := b.chain.cmds ++ [{ at_ := b.time.abs, cmd := cmd, arg := arg, frame := (b.time.frame.toNat + k) % 65536 }] } }

/-- SYNC_IN_EVENT: SYNC_IN rises at sample `e` of the running frame (R357 to R359). A sample that a slip is about to give to the next
frame (R353) is taken there. -/
def syncInEvent (e : Nat) (b : Block) : Block :=
  if !b.clk.run || e < b.sync.from_ || b.voidSoon ≤ e || !b.syncRise e then b
  else if b.rd 0x2201 1 = 0 then { b with sync := { b.sync with from_ := e + 1 } }
  else
    let b := frameLoad { b with sync := { b.sync with from_ := e + 1 } }
    let mode := b.rd 0x2201 1
    let f := b.time.frame.toNat
    let g := 32 * f + e + b.rd 0x2201 2
    let s := requestedSlip mode (b.rd 0x2201 3) g
    let b := b.wrI 0x2201 6 (clampI (-32767) 32767 s)
    let c := slipCause b s
    if s = 0 && !b.on 0x2201 4 then b
    else if c != 0 then
      let b := (b.wr 0x2201 7 c).flag 0x2201 8 9 1
      eventAll 8 0 b.tsNow [unsigned (clampI (-32767) 32767 s) 16] b
    else
      let k := b.applyAfter
      let ld := if b.on 0x2201 4 then
          some ((((b.rd 0x2201 5 : Nat) : Int) + (32 * ((f + k : Nat) : Int) + s - g) / 32) % ((2 ^ 53 : Nat) : Int)).toNat
        else none
      let b := if ld.isSome then b.wr 0x2201 4 0 else b
      let b := if s = 0 then b else sendCommand 1 (unsigned s 6) k b
      let b := match ld with | some v => sendCommand 2 v k b | none => b
      acceptSlip { at_ := b.time.abs + k, s := s, load := ld, counts := true } b

/-- Status of a chain load (R375). -/
def chainLoadStatus (b : Block) (v : Nat) : Nat :=
  if 2 ^ 53 ≤ v then stRANGE
  else if b.isMember then stSTATE
  else if b.sync.wait.any (fun x => x.load.isSome) then stBUSY
  else stOK

/-- CHAIN_LOAD_WRITE (R375). -/
def chainLoad (v : Nat) (b : Block) : Nat × Block :=
  let st := chainLoadStatus b v
  (st, if st != stOK then b
    else
      let k := b.applyAfter
      acceptSlip { at_ := b.time.abs + k, s := 0, load := some v, counts := true } (sendCommand 2 v k b))

/-- SYNC_STATUS (R383). -/
def Block.syncStatus (b : Block) : Nat :=
  b.bget 0xF00 0 * 2 ^ 16 + b.rd 0x2201 7 * 2 ^ 8 + b2n (!b.sync.wait.isEmpty) * 32 + b.rd 0x2201 4 * 16 + b.rd 0x2201 1

end Sys2Proof.Machine
end

