-- ==== Sys2Proof/Machine/Sloe.lean ====
section
/-! DEFINITION. Sloe ports and chains (12_frame_sync_and_sloe_chains.md R361 to R378): training, frame messages, link loss,
discovery, alignment, trigger bits across links and the trigger horizon. -/

namespace Sys2Proof.Machine

def portObj (p : Nat) : Nat := 0x2210 + p

def SloePort.reset : SloePort := { bad := 0, n := 0, own := 0, far := 0, mine := none, armedAny := false, next := none }

def Block.port (b : Block) (p : Nat) : SloePort := look (fun _ => SloePort.reset) b.chain.ports p
def Block.setPort (b : Block) (p : Nat) (x : SloePort) : Block :=
  { b with chain := { b.chain with ports := place (fun _ => SloePort.reset) b.chain.ports p x } }

/-- The port's link is UP (R361, R381): UP or ALIGNED. -/
def Block.linkUp (b : Block) (p : Nat) : Bool := let s := b.rd (portObj p) 2; s == 2 || s == 3
/-- Version in force on a port's link. -/
def Block.linkVersion (b : Block) (p : Nat) : Nat := b.rd (portObj p) 4
/-- Role of a link: 0 NONE, 1 PARENT, 2 CHILD, 3 STANDBY (R368). -/
def Block.linkRole (b : Block) (p : Nat) : Nat := b.rd (portObj p) 8
/-- The ports whose links have a role. -/
def Block.portsWith (b : Block) (role : Nat) : List Nat := (List.range 4).filter (fun p => b.linkUp p && b.linkRole p == role)

/-- The parent link carries traffic. -/
def Block.parentUp (b : Block) : Bool := !(b.portsWith 1).isEmpty

/-- A domain of the module or, as its neighbours report it, of the chain below is ARMED or STOPPING (R364, R373). -/
def Block.anyArmed (b : Block) : Bool :=
  !b.armedDoms.isEmpty || (b.portsWith 2).any (fun p => (b.port p).armedAny)

/-! ### Training (R361 to R363) -/

/-- A port becomes FAILED with a cause (R361 to R365, R523). -/
def portFailed (p cause : Nat) (b : Block) : Block :=
  let b := (b.wr (portObj p) 2 4).wr (portObj p) 3 cause
  let b := b.setPort p SloePort.reset
  emcyEvent 0xFF40 5 (toLe 1 p ++ toLe 1 cause ++ [0, 0, 0]) b

/-- SLOE_SIGNAL_PRESENT: an enabled port without a link enters TRAINING. A port that is held in DISABLED, as each is in PS2 to PS5 (R509)
and until the module is ready, does not. -/
def sloeSignal (p : Nat) (b : Block) : Block :=
  if 4 ≤ p || !b.on (portObj p) 1 || b.rd (portObj p) 2 = 0 || b.linkUp p then b
  else ((b.wr (portObj p) 2 1).wr (portObj p) 3 0).wr (portObj p) 4 0

/-- SLOE_TRAINING_LANES_TIMEOUT: the port stays in TRAINING with cause LANES. -/
def sloeLanesTimeout (p : Nat) (b : Block) : Block :=
  if 4 ≤ p || b.rd (portObj p) 2 != 1 then b else b.wr (portObj p) 3 2

/-- The version that two sides bring into force (R63): the higher of those both support. -/
def sloeVersion (low high : Nat) : Option Nat :=
  let v := min 2 high
  if max 1 low ≤ v then some v else none

/-- Another port's link uses the transmitters of this one, which then carries no link of its own (R362). -/
def Block.txTaken (b : Block) (p : Nat) : Bool :=
  (List.range 4).any (fun q => q != p && b.linkUp q && bits (b.rd (portObj q) 6) 4 4 == p)

/-- SLOE_TRAINING_COMPLETE (R362, R363). -/
def sloeTrained (p : Nat) (x : Training) (b : Block) : Block :=
  if 4 ≤ p || b.rd (portObj p) 2 != 1 || b.txTaken p then b
  else
    let o := portObj p
    let b := (b.wr o 6 (bits x.txPort 0 4 * 16 + bits x.farPort 0 4)).wr o 7 (bits x.corrections 0 12)
    match sloeVersion x.farLow x.farHigh with
    | none => portFailed p 4 b
    | some v =>
      -- a link between members of a chain that trains anew is no tree link: it is STANDBY (R368)
      let member := 2 ≤ b.rd 0x2200 4 && (!b.isMaster || b.chain.found.any (fun n => n.id == bits x.farId 0 16))
      (((((b.wr o 5 (bits x.farId 0 16)).wr o 4 v).wr o 3 0).wr o 8 (if member then 3 else 0)).wr o 2 2).setPort p SloePort.reset

/-! ### Link loss (R365, R368, R377) -/

/-- What the loss of a link of the tree, on port `p` or beyond it, means for the chain (R368, R377): towards the parent the module
becomes ORPHAN and its FOLLOW domains stop; towards a child the master becomes DEGRADED. Whether a domain was stopped by it. -/
def treeBroken (p : Nat) (b : Block) : Bool × Block :=
  let role := b.linkRole p
  if role = 1 then
    let ts := b.armedDoms.filter (fun t => b.mode t == 0xC)
    let b := (b.wr 0x2200 4 4).wr 0x2200 0xA 0
    let b := { b with chain := { b.chain with downs := [], cmds := [], relay := none, relayHeld := [] } }
    (ts.any b.faultApplies, forEach ts faultStop b)
  else if role = 2 && b.isMaster then (false, b.wr 0x2200 4 3)
  else (false, b)

/-- What the loss of a port's link means: the port has no role and no version any more, and the tree is broken there. -/
def chainLoss (p : Nat) (b : Block) : Bool × Block :=
  let r := treeBroken p b
  (r.1, ((r.2.wr (portObj p) 8 0).wr (portObj p) 4 0).setPort p SloePort.reset)

/-- A link ends by loss of signal (5) or by sixteen discarded messages (6) (R365). DESIGN CHOICE (log 13): its ERROR record goes to
Q1 alone with DOMAIN 0xF, also where it stopped FOLLOW domains, for R251 names a domain only where there is one. -/
def loseLink (p cause : Nat) (b : Block) : Block :=
  if 4 ≤ p || !b.linkUp p then b
  else
    let r := chainLoss p b
    let b := portFailed p cause r.2
    postError 0xF 6 cause p 0 r.1 (b.bump 32 (portObj p) 0xD 1)

/-- LINK_LOSS (R365, R368): the link of a port of this module, or one beyond its neighbour, whose loss reaches this module as a break
of the tree alone. -/
def linkLost (l : LostLink) (b : Block) : Block :=
  match l with
  | .own p => loseLink p 5 b
  | .beyond p => (treeBroken p b).2

/-- An enabled port that receives nothing is in TRAINING with cause NO_SIGNAL (R362; DEDUCED, log entry 13). -/
def listenPort (p : Nat) (b : Block) : Block :=
  if b.ready && b.rd 0x2002 2 < 2 && b.on (portObj p) 1 && b.rd (portObj p) 2 = 0 then (b.wr (portObj p) 2 1).wr (portObj p) 3 1
  else b

/-- Every port listens. -/
def listenPorts (b : Block) : Block := forEach (List.range 4) listenPort b

/-- A write of a port's enable: 0 holds it in DISABLED, which ends its link. -/
def setPortEnable (p v : Nat) (b : Block) : Block :=
  let b := b.wr (portObj p) 1 v
  if v % 2 = 1 then listenPort p b
  else
    let b := if b.linkUp p then (chainLoss p b).2 else b
    ((b.wr (portObj p) 2 0).wr (portObj p) 3 0).wr (portObj p) 4 0

/-! ### Frame messages (R364) -/

/-- CRC-16 of octets, each most significant bit first (R364; the order of bits in an octet is the model's choice). -/
def crc16 (ws : List Byte) : Nat :=
  crcOf 16 0x1021 0xFFFF (ws.flatMap (fun o => (List.range 8).reverse.map (fun i => bit o.toNat i)))

/-- The octets that CHECK covers. -/
def checked (ws : List Nat) : List Byte := wordsToLe (ws.take 5) ++ toLe 6 (ws.getD 5 0)

/-- The six words of a message with its CHECK. -/
def withCheck (ws : List Nat) : List Nat := ws.take 5 ++ [putBits (ws.getD 5 0) 48 16 (crc16 (checked ws))]

/-- A message whose CHECK holds. -/
def messageGood (ws : List Nat) : Bool := ws.length == 6 && bits (ws.getD 5 0) 48 16 == crc16 (checked ws)

/-- A trigger vector of a frame. -/
def Block.vector (b : Block) (a : Nat) : Nat := look (fun _ => 0) b.vectors a

/-- Own chain bits that the upward vector of the running frame carries (R372). -/
def Block.ownChain (b : Block) : Nat :=
  let k := 6 * (b.dmax - b.depth)
  if b.time.abs < k then 0 else b.vector (b.time.abs - k) &&& b.chainMask

/-- Apply trigger bits to a frame. -/
def applyBits (a v : Nat) (b : Block) : Block :=
  if v = 0 then b else { b with casc := place (fun _ => 0) b.casc a (look (fun _ => 0) b.casc a ||| v) }

/-- CHAIN_DAMAGED (R365). -/
def chainDamaged (b : Block) : Block := b.flag 0x2220 4 5 1

/-- Chain bits received upward for frame `a`: those of every child (R372). -/
def Chain.upAt (c : Chain) (a : Nat) : Nat × Bool :=
  (c.ups.filter (fun x => x.at_ == a)).foldl (fun acc x => (acc.1 ||| x.bits, acc.2 || x.bad)) (0, false)

/-- Chain bits that go downward in frame `a`. -/
def Chain.downAt (c : Chain) (a : Nat) : Option ChainBits := c.downs.find? (fun x => x.at_ == a)

/-- At the end of a frame the master, or a SOLO module, joins its own and the received chain bits, applies them and sends them
downward (R372, R373). -/
def masterChain (b : Block) : Block :=
  if b.isMember then b
  else
    let up := b.chain.upAt b.time.abs
    let v := b.ownChain ||| (if b.inChain then up.1 else 0)
    let k := 5 + 6 * b.dmax
    let b := applyBits (b.time.abs + b.horizon - k) v b
    let b := if b.inChain && up.2 then chainDamaged b else b
    let x : ChainBits :=
      { at_ := b.time.abs, bits := v, bad := up.2, tag := (b.time.frame.toNat + 2 ^ 16 + b.horizon - k) % 65536 }
    { b with chain := { b.chain with downs := x :: b.chain.downs } }

/-- The message that a port sends for the running frame (R364): w1, w4 and the fields of w5 are 0 in version 1. ARMED_ANY is an
upward field: a link to a child carries 0, any other link what the module has to report. -/
def messageFor (b : Block) (p : Nat) : List Nat :=
  let role := b.linkRole p
  let v2 := b.linkVersion p == 2
  let up := b.chain.upAt b.time.abs
  let chain : Nat × Bool × Nat :=
    if role = 1 && v2 then (b.ownChain ||| up.1, up.2, 0)
    else if role = 2 && v2 then (match b.chain.downAt b.time.abs with | some x => (x.bits, x.bad, x.tag) | none => (0, false, 0))
    else (0, false, 0)
  let cmd : Nat × Nat × Nat :=
    match b.chain.cmds.head? with
    | some c => if role = 2 && v2 && c.at_ ≤ b.time.abs then (c.cmd, c.arg, c.frame) else (0, 0, 0)
    | none => (0, 0, 0)
  let arr := match (b.port p).mine with | some m => unsigned m 64 | none => 2 ^ 63
  let w5 := cmd.1 * 2 ^ 45 + b2n chain.2.1 * 2 ^ 44 + b2n (v2 && role != 2 && b.anyArmed) * 2 ^ 43 + cmd.2.2 * 2 ^ 16 + chain.2.2
  withCheck [b.vector b.time.abs, chain.1, b.time.frame.toNat, arr, cmd.2.1, w5]

/-- The end of the running frame: every UP link carries its message (R364), and what was gathered for it is done with. -/
def sendMessages (b : Block) : Block :=
  let b := masterChain b
  let b := forEach ((List.range 4).filter b.linkUp) (fun p b => b.emit (.sloe p (messageFor b p))) b
  let c := b.chain
  let later := fun (x : ChainBits) => decide (b.time.abs < x.at_)
  let keep := fun (x : Nat × Nat) => decide (b.time.abs ≤ x.1 + 2100)
  let cmds := match c.cmds with | x :: rest => if x.at_ ≤ b.time.abs then rest else c.cmds | [] => []
  { b with
    chain := { c with ups := c.ups.filter later, downs := c.downs.filter later, cmds := cmds },
    vectors := b.vectors.filter keep, casc := b.casc.filter (fun x => decide (b.time.abs ≤ x.1 + 16)) }

/-- The frame in which a message of FRAME `n` counts as received (R372): six frames after its sender's, and not before it is there. -/
def Block.received (b : Block) (n : Nat) : Nat := max b.time.abs (b.absNear n 53 + 6)

/-- CHAIN_FRAME that a member expects of chain bits received in a frame `d` after the running one. -/
def Block.chainTag (b : Block) (d : Nat) : Nat :=
  (b.time.frame.toNat + d + 2 ^ 16 + b.horizon - (5 + 6 * b.dmax + 6 * b.depth)) % 65536

/-- A message is discarded (R365): its vectors count as 0 and its command as NONE; sixteen in a row end the link. A link of version
1 carries no chain vector (R363). -/
def discardMessage (p : Nat) (b : Block) : Block :=
  let x := b.port p
  let a := x.next.getD b.time.abs
  let b := (b.flag (portObj p) 0xA 0xB 1).setPort p { x with bad := x.bad + 1, next := some (a + 1) }
  let role := b.linkRole p
  let lost : ChainBits := { at_ := a, bits := 0, bad := true, tag := b.chainTag (a - b.time.abs) }
  let b :=
    if b.linkVersion p != 2 then b
    else if role = 2 then { b with chain := { b.chain with ups := lost :: b.chain.ups } }
    else if role = 1 && b.rd 0x2200 4 != 4 then chainDamaged { b with chain := { b.chain with downs := lost :: b.chain.downs } }
    else b
  if 16 ≤ x.bad + 1 then loseLink p 6 b else b

/-- The downward vector of a message reaches a member, which applies it and forwards it in the frame in which it is received
(R372, R365). -/
def takeDown (ws : List Nat) (b : Block) : Block :=
  let w5 := ws.getD 5 0
  let r := b.received (bits (ws.getD 2 0) 0 53)
  let x : ChainBits := { at_ := r, bits := ws.getD 1 0 &&& b.chainMask, bad := bit w5 44, tag := bits w5 0 16 }
  let b := applyBits (r + b.horizon - (5 + 6 * b.dmax + 6 * b.depth)) x.bits b
  let b := if x.bad || x.tag != b.chainTag (r - b.time.abs) then chainDamaged b else b
  { b with chain := { b.chain with downs := x :: b.chain.downs } }

/-- A downward command reaches a member, which applies it at its frame A and forwards it in the frame in which it is received
(R375). -/
def takeCommand (ws : List Nat) (b : Block) : Block :=
  let w5 := ws.getD 5 0
  let arg := ws.getD 4 0
  let x : ChainCmd := { at_ := b.received (bits (ws.getD 2 0) 0 53), cmd := bits w5 45 3, arg := arg, frame := bits w5 16 16 }
  let a := b.absNear x.frame 16
  let forward := { b with chain := { b.chain with cmds := b.chain.cmds ++ [x] } }
  if x.cmd = 1 then acceptSlip { at_ := a, s := signed (bits arg 0 6) 6, load := none, counts := true } forward
  else if x.cmd = 2 then acceptSlip { at_ := a, s := 0, load := some (bits arg 0 53), counts := true } forward
  else b

/-- The measures of a message (R369): this side's is the arrival instant, in SSU, less 2,048 × FRAME. They are averaged over 256
messages. -/
def takeMeasure (p off : Nat) (ws : List Nat) (b : Block) : Block :=
  let x := b.port p
  let m : Int := stampDiff (bits (ws.getD 2 0) 0 53 * 2048) (stampOf b.time.frame.toNat 0 0 + off)
  let far := ws.getD 3 0
  let x := { x with bad := 0, mine := some m, armedAny := bit (ws.getD 5 0) 43 && b.linkVersion p == 2,
                    next := some (b.received (bits (ws.getD 2 0) 0 53) + 1) }
  b.setPort p (if far = 2 ^ 63 || 256 ≤ x.n then x else { x with n := x.n + 1, own := x.own + m, far := x.far + signed far 64 })

/-- SLOE_FRAME_MESSAGE: a message arrives on a port at `off` SSU into the running frame (R364, R365, R369, R371, R372). -/
def sloeMessage (p off : Nat) (ws : List Nat) (b : Block) : Block :=
  if 4 ≤ p || !b.linkUp p then b
  else if !messageGood ws then discardMessage p b
  else
    let role := b.linkRole p
    let v2 := b.linkVersion p == 2
    let b := takeMeasure p (min off 2047) ws b
    let b := if b.rd (portObj p) 2 = 3 then
        let direct := ws.getD 0 0 - (ws.getD 0 0 &&& b.chainMask)
        applyBits (b.absNear (bits (ws.getD 2 0) 0 53) 53 + 3) direct b
      else b
    if !v2 then b
    else if role = 2 then
      let x : ChainBits := { at_ := b.received (bits (ws.getD 2 0) 0 53), bits := ws.getD 1 0 &&& b.chainMask,
                             bad := bit (ws.getD 5 0) 44, tag := 0 }
      { b with chain := { b.chain with ups := x :: b.chain.ups } }
    else if role = 1 && b.rd 0x2200 4 != 4 then takeCommand ws (takeDown ws b)
    else b

/-! ### Discovery (R367, R368) -/

/-- Hmin (R373). -/
def hMin (dmax : Nat) : Nat := 2 + 12 * dmax

/-- Of the links by which a module can join at depth `d` + 1, the one to the neighbour of lowest device ID, then of its own lowest
port (R367), with that neighbour. Neighbours reached over a version 1 link are leaves and take no further modules. -/
def joinLink (tree : List ChainNode) (d : Nat) (m : ChainMember) : Option (ChainLink × ChainNode) :=
  (m.links.filterMap (fun l => (tree.find? (fun x => x.id == l.peer && x.depth == d && !x.leaf)).map (fun x => (l, x)))).foldl
    (fun best y => match best with
      | some z => if y.1.peer < z.1.peer || (y.1.peer = z.1.peer && y.1.own < z.1.own) then some y else some z
      | none => some y) none

/-- The modules that join at depth `d` + 1. -/
def joinLayer (tree : List ChainNode) (d : Nat) (ms : List ChainMember) : List ChainNode :=
  ms.filterMap (fun m =>
    if tree.any (fun x => x.id == m.id) then none
    else (joinLink tree d m).map (fun y =>
      { id := m.id, depth := d + 1, port := if d = 0 then y.1.far else y.2.port, leaf := y.1.version == 1,
        coldBefore := m.coldBefore }))

/-- The tree after `n` layers below depth `d` (R367). -/
def growTree (ms : List ChainMember) : Nat → Nat → List ChainNode → List ChainNode
  | 0, _, tree => tree
  | n + 1, d, tree => growTree ms n (d + 1) (tree ++ joinLayer tree d ms)

/-- The modules that join the tree of a master, itself left out: every UP port is explored (R367). -/
def discoveryTree (b : Block) (ms : List ChainMember) : List ChainNode :=
  let own := b.rd 0x2200 1
  let up := fun (l : ChainLink) => l.peer != own || b.linkUp l.far
  let root : ChainNode := { id := own, depth := 0, port := 0xFF, leaf := false, coldBefore := 0 }
  (growTree (ms.map (fun m => { m with links := m.links.filter up })) ms.length 0 [root]).drop 1

/-- Status of a discovery, given what it finds. -/
def discoveryStatus (b : Block) (found : List ChainMember) : Nat :=
  let ids := b.rd 0x2200 1 :: found.map (·.id)
  if !b.isMaster then stSTATE
  else if !b.armedDoms.isEmpty || (List.range 4).any (fun p => b.linkUp p && (b.port p).armedAny) then stSTATE
  else if found.any (·.master) || ids.any (fun i => decide (1 < (ids.filter (· == i)).length)) ||
      (discoveryTree b found).any (fun m => decide (341 < m.depth)) then stREFUSED
  else stOK

/-- DISCOVERY: an accepted one puts the master into DISCOVERING. -/
def discovery (found : List ChainMember) (b : Block) : Nat × Block :=
  let st := discoveryStatus b found
  (st, if st = stOK then { b.wr 0x2200 4 1 with chain := { b.chain with found := discoveryTree b found } } else b)

/-- Give the UP links their roles (R368). -/
def setRoles (parent : Nat) (children : List Nat) (b : Block) : Block :=
  forEach (List.range 4) (fun p b =>
    if !b.linkUp p then b
    else b.wr (portObj p) 8 (if p = parent then 1 else if children.contains p then 2 else 3)) b

/-- DISCOVERY_COMPLETE: on the master that discovers, the chain is FORMED and H is at least Hmin; a member takes its place, H and
the chain mask from the master, and learns what lies below it. -/
def discoveryComplete (x : ChainInfo) (b : Block) : Block :=
  if b.isMaster then
    if b.rd 0x2200 4 != 1 then b
    else
      let dmax := (b.chain.found.map (·.depth)).foldl Nat.max 0
      let b := (((b.wr 0x2200 5 0).wr 0x2200 6 dmax).wr 0x2200 7 (b.rd 0x2200 1)).wr 0x2200 8 (b.chain.found.length + 1)
      let b := (b.wr 0x2220 3 (hMin dmax)).wr 0x2220 1 (max (b.horizon) (hMin dmax))
      setRoles 0xFF ((b.chain.found.filter (·.depth == 1)).map (·.port)) (((b.wr 0x2200 9 0xFF).wr 0x2200 0xA 3).wr 0x2200 4 2)
  else if 4 ≤ x.parent || !b.linkUp x.parent || !b.armedDoms.isEmpty then b
  else
    let b := (((b.wr 0x2200 5 (x.depth % 65536)).wr 0x2200 6 (x.dmax % 65536)).wr 0x2200 7 (x.masterId % 65536)).wr 0x2200 8
      (x.modules % 65536)
    let b := ((b.wr 0x2220 3 (hMin x.dmax % 65536)).wr 0x2220 1 (x.horizon % 65536)).wr 0x2220 2 x.mask
    let b := ((b.wr 0x2200 9 x.parent).wr 0x2200 4 2).wr 0x2200 0xA 1
    let below := x.below.map (fun n => ({ id := n.1, depth := 0, port := n.2, leaf := false, coldBefore := 0 } : ChainNode))
    let b := { b with chain := { b.chain with found := below } }
    setRoles x.parent x.children (b.setPort x.parent { b.port x.parent with n := 0, own := 0, far := 0 })

/-! ### Alignment (R369, R370) -/

/-- θ and δ over the averaged messages of a port. -/
def SloePort.theta (x : SloePort) : Rat := ((x.far - x.own : Int) : Rat) / ((2 * x.n : Nat) : Rat)
def SloePort.delta (x : SloePort) : Rat := ((x.far + x.own : Int) : Rat) / ((2 * x.n : Nat) : Rat)

/-- The nearest whole number, ties toward +infinity. -/
def roundRat (q : Rat) : Int := roundHalfUp q.num q.den

/-- The quantities have been averaged over 256 messages. -/
def measured256 (x : SloePort) : Bool := decide (256 ≤ x.n)

/-- Move the target phase offset by `d` units. -/
def movePhase (d : Int) (b : Block) : Block := b.wrI 0x2102 1 (clampI (-(2 ^ 31)) (2 ^ 31 - 1) (b.rdI 0x2102 1 + d))

/-- The corrections of a member that is not aligned (R369): a local load and a local slip at the next frame boundary, and a phase
change. -/
def correct (theta : Rat) (b : Block) : Block :=
  let n := roundRat (theta / 2048)
  let r := theta - 2048 * (n : Rat)
  let sr := roundRat (r / 64)
  let phi := r - 64 * (sr : Rat)
  let num := (((b.time.frame.toNat + 1 : Nat) : Int) + n) % ((2 ^ 53 : Nat) : Int)
  let b := if n = 0 && sr = 0 then b
    else acceptSlip { at_ := b.time.abs + 1, s := -sr, load := if n = 0 then none else some num.toNat, counts := false } b
  movePhase (roundRat (-16 * phi)) b

/-- ALIGNMENT: a port's measure over 256 messages is complete. A link is ALIGNED when |θ| ≤ 2 SSU; a member corrects itself
against its parent, once that is aligned (`ready`), while none of its domains is armed, and else waits in PENDING (R369); a delay
above 4 frames fails the link. -/
def alignment (p : Nat) (ready : Bool) (b : Block) : Block :=
  let x := b.port p
  if 4 ≤ p || !b.linkUp p || !measured256 x || !b.sync.wait.isEmpty then b
  else
    let parent := b.linkRole p == 1 && b.isMember
    if parent && (b.rd 0x2200 0xA == 0 || b.rd 0x2200 0xA == 3) then b
    else
      let d := roundRat x.delta
      let b := b.wr (portObj p) 9 (satTo 32 d.toNat)
      let b := if parent then b.wrI 0x2200 0xB (roundRat x.theta) else b
      if 8192 < x.delta then portFailed p 3 (chainLoss p b).2
      else
        let small := decide (-2 ≤ x.theta) && decide (x.theta ≤ 2)
        let fresh := { x with n := 0, own := 0, far := 0 }
        if parent && !ready then b.setPort p fresh
        else if small then
          let b := (b.wr (portObj p) 2 3).setPort p fresh
          if parent then b.wr 0x2200 0xA 3 else b
        else if !parent then b.setPort p fresh
        else if !b.armedDoms.isEmpty then (b.setPort p fresh).wr 0x2200 0xA 2
        else correct x.theta ((b.setPort p fresh).wr 0x2200 0xA 1)

/-- ALIGN_TRACK: an aligned member sets its phase target to the offset at which the mean of θ is 0, counted from the offset in force,
whatever software has written to the target; it flags a mean above 32 SSU (R370). -/
def alignTrack (b : Block) : Block :=
  let p := b.rd 0x2200 9
  let x := b.port p
  if 4 ≤ p || !b.linkUp p || !b.isMember || b.rd 0x2200 0xA != 3 || !measured256 x then b
  else
    let th := x.theta
    let b := b.setPort p { x with n := 0, own := 0, far := 0 }
    let b := b.wrI 0x2200 0xB (roundRat th)
    let b := b.wrI 0x2102 1 (clampI (-(2 ^ 31)) (2 ^ 31 - 1) (b.rdI 0x2102 2 + roundRat (-16 * th)))
    if th < -32 || 32 < th then
      let b := (b.flag 0x2200 0xC 0xD 1).wr 0x2200 0xA (if b.armedDoms.isEmpty then 1 else 2)
      let b := b.wr (portObj p) 3 7
      let b := postError 0xF 6 7 p 0 false b
      emcyEvent 0xFF40 5 (toLe 1 0xFF ++ toLe 1 7 ++ [0, 0, 0]) b
    else b

/-! ### Horizon and chain mask (R373) -/

/-- Status of a write of H (`mask` false) or of the chain mask. `copy` tells that a member gets its master's copy; `refused`
that a member refuses the copy of the master's write. -/
def horizonStatus (b : Block) (mask copy refused : Bool) (v : Nat) : Nat :=
  if b.isMember && !copy then stACCESS
  else if !mask && (v < hMin b.dmax || 4096 < v) then stRANGE
  else if b.anyArmed || refused then stSTATE
  else stOK

/-- Serve such a write. -/
def horizonWrite (mask copy refused : Bool) (v : Nat) (b : Block) : Nat × Block :=
  let st := horizonStatus b mask copy refused v
  (st, if st = stOK then b.wr 0x2220 (if mask then 2 else 1) v else b)

/-! ### Views (R383) -/

/-- CHAIN_STATUS. -/
def Block.chainStatus (b : Block) : Nat :=
  let ps := (List.range 4).map (fun p => (match b.rd (portObj p) 2 with | 2 => 1 | 3 => 2 | 4 => 3 | _ => 0) * 4 ^ p)
  b.rd 0x2200 5 * 2 ^ 16 + b.rd 0x2200 4 * 2 ^ 10 + b.rd 0x2200 0xA * 2 ^ 8 + ps.sum

/-- A forwarding entry is in range (R382). -/
def forwardOk (w : Nat) : Bool :=
  bits w 28 3 == 0 && bits w 12 4 == 0 && (!bit w 31 || (decide (2 ≤ bits w 16 12) && decide (2 ≤ bits w 0 12)))

/-- Check 7 of R30 (R376). -/
def followOk (b : Block) (t : Nat) : Bool :=
  let ok := fun (k : Nat) => k == 0xFF || bit b.chainMask k
  b.isMember && (b.rd 0x2200 4 == 2 || b.rd 0x2200 4 == 3) && b.rd 0x2200 0xA == 3 &&
    (b.portsWith 1).any (fun p => b.linkVersion p == 2) && ok (b.rd (0x2230 + t) 1) && ok (b.rd (0x2230 + t) 2)

end Sys2Proof.Machine
end

