-- ==== Sys2Proof/Machine/QueueHost.lean ====
section
/-! DEFINITION. Commands on the queues (14_queues.md R415 to R424, R432 to R436): pushes and pops by their agents, waiting host
reads, configuration and endpoints. -/

namespace Sys2Proof.Machine

/-- The host as producer or consumer. -/
def hostAgent : Agent := { cls := .host, inst := 0 }

/-- A denied access of a queue window (R432, R433). -/
def queueDenied (q : Nat) (b : Block) : Block :=
  ((b.bset 0x1704 0 1).bset 0x1704 1 (satTo 16 (b.bget 0x1704 1 + 1))).bset 0x1704 2 (q % 4096)

/-- The pointer copies differ at this use where `upset` tells so; the check of R429 follows. -/
def qUse (key : Nat) (upset : Bool) (b : Block) : Bool × Block := qCheck key (if upset then qUpset key 0 b else b)

/-- A pop by the host: the items, or the wait of the first of them (R423), also for the ring's bank to wake (R396) and behind an access
that waits already (R432). -/
def hostPop (key n : Nat) (b : Block) : Block :=
  let b := ringWake key b
  let x := b.queue key
  let first := x.hostReads.isEmpty && !hostHolds b (keyQueue key)
  match first, qNext b key with
  | true, some _ => let r := popMany key n b; r.2.emit (.popped (keyQueue key) r.1)
  | _, _ =>
    if b.rd 0x7080 1 != 0 then b.setQueue key { x with hostReads := x.hostReads ++ [.read n] }
    else if first && (qReadable b key).isNone then b.emit (.popped (keyQueue key) (emptyTokens n))
    else b.setQueue key { x with hostReads := x.hostReads ++ [.poll n] }

/-- QUEUE_PUSH (R415, R416, R425, R432). A priority above 7 stands for every other write of the host to the window that is denied: at another
offset, of another size, or at CMD with one of the bits 31 to 2 set (DESIGN CHOICE, log entry 22). A packet
that is forwarded to a queue of the master goes on towards it where the module is a member; its link's port is the agent's instance (R378). -/
def queuePush (a : Agent) (q prio data : Nat) (end_ upset : Bool) (b : Block) : Block :=
  let key := pushKey a q
  if 4096 ≤ q then b
  else if a.cls = .sloeRx && b.isMember then (if b.forwards then relayItem a q data end_ b else b)
  else if a.cls = .host && 8 ≤ prio then queueDenied q b
  else if !(b.queue key).mayPush a then (if a.cls = .host then queueDenied q b else pushRefused q b)
  else
    match qUse key upset b with
    | (false, b) =>
      let b := qPushVoid key a (if a.cls = .host then prio else (b.queue key).hwPrio) end_ b
      if end_ then admitHeld key (b.queue key).held.length b else b
    | (true, b) =>
      let w := b.queue (popKey q)
      -- the accesses to one window are served in the order they arrive
      if a.cls = .host && !w.hostReads.isEmpty then b.setQueue (popKey q) { w with hostReads := w.hostReads ++ [.push prio data end_] }
      else
      let b := pushOrHold key a (if a.cls = .host then prio else (b.queue key).hwPrio) end_ [data] b
      if end_ then admitHeld key (b.queue key).held.length b else b

/-- QUEUE_POP (R420, R423, R424): the host's pop answers with item and status; an on-chip consumer gets the item or stalls. -/
def queuePop (a : Agent) (q : Nat) (upset : Bool) (b : Block) : Block :=
  let key := popKey q
  if 4096 ≤ q then b
  else if a.cls = .host then
    if !(b.queue key).mayPop a then (queueDenied q b).emit (.popped q [0, 0])
    else match qUse key upset b with
      | (false, b) => b.emit (.popped q [0, 2 ^ 63])
      | (true, b) => hostPop key 1 b
  else
    let key := if a.cls = .controlCore && q = 0 then 0 else key
    let x := b.queue key
    if !x.enabled || !x.mayPop a || !mayServe b key a then b
    else match qUse key upset b with
      | (false, b) => b.setQueue key { b.queue key with stalled := (b.queue key).stalled ++ [a] }
      | (true, b) =>
        match qPop key (ringWake key b) with
        | (some p, b) => deliver (forwardIn 8) q a p b
        | (none, b) => b.setQueue key { b.queue key with stalled := (b.queue key).stalled ++ [a] }

/-- The host reads COUNT (R432), behind an access that waits, a push of its own included. -/
def countRead (q : Nat) (upset : Bool) (b : Block) : Block :=
  let key := popKey q
  let b := (qUse key upset b).2
  let x := b.queue key
  if x.hostReads.isEmpty && !hostHolds b q then b.emit (.popped q [b.windowCount q])
  else b.setQueue key { x with hostReads := x.hostReads ++ [.count] }

/-- POP_BURST of `len` octets (R423, R432). A length of 8 stands for the window's one read of 8 octets, that of COUNT; every other length
that POP_BURST does not have stands for a read that is denied (DESIGN CHOICE,
log entry 22). -/
def popBurst (q len : Nat) (upset : Bool) (b : Block) : Block :=
  let key := popKey q
  if 4096 ≤ q then b
  else if !(b.queue key).mayPop hostAgent || (len != 8 && len < 16) || 4096 < len || (len != 8 && len % 16 != 0) then
    (queueDenied q b).emit (.popped q (List.replicate (len / 8) 0))
  else if len = 8 then countRead q upset b
  else match qUse key upset b with
    | (false, b) => b.emit (.popped q (emptyTokens (len / 16)))
    | (true, b) => hostPop key (len / 16) b

/-- HOST_POP_TIMEOUT: the oldest waiting host read of a queue that finds nothing returns empty tokens (R423), and what waits behind it is
served. One that waits for the ring's bank to wake waits on (R396). -/
def hostPopTimeout (q : Nat) (b : Block) : Block :=
  let key := popKey q
  let x := b.queue key
  match x.hostReads with
  | .read n :: rest =>
    if (qReadable b key).isSome then b
    else serveWaiting key
      ((b.setQueue key { x with hostReads := rest }).emit (.popped q (emptyTokens n)))
  | _ => b

/-- MARK (1), REWIND (2) or RELEASE (3) by a consumer (R422, R432); one by the host waits behind an access that waits. -/
def queueCommand (c : Nat) (a : Agent) (q : Nat) (upset : Bool) (b : Block) : Block :=
  let key := if a.cls = .controlCore && q = 0 then 0 else popKey q
  if 4096 ≤ q then b
  else if !(b.queue key).mayPop a then (if a.cls = .host then queueDenied q b else b)
  else match qUse key upset b with
    | (false, b) => b
    | (true, b) =>
      let x := b.queue key
      if a.cls = .host && (!x.hostReads.isEmpty || hostHolds b q) then b.setQueue key { x with hostReads := x.hostReads ++ [.command c] }
      else serveWaiting key (qCommand c key b)

/-! ### Configuration (R417, R418, R434) -/

/-- A queue is bound (R417). On the master an entry of 0x2240 also names the queue of its own that it fills (R378). -/
def qBound (b : Block) (q : Nat) : Bool :=
  b.armedDoms.any (fun t => b.rd (0x6200 + t) 1 == q) || chanNames b q ||
    (List.range 8).any (fun i =>
      let w := b.rd 0x2240 (i + 1); bit w 31 && (bits w 0 12 == q || (b.isMaster && bits w 16 12 == q)))

/-- The fields of a configuration word. -/
def qcfgFields (w : Nat) : Nat := bits w 0 16 + bits w 16 6 * 2 ^ 16 + bits w 24 5 * 2 ^ 24 + bits w 30 2 * 2 ^ 30
/-- The fields of an endpoint word. -/
def qendFields (w : Nat) : Nat := bits w 0 9 + bits w 12 9 * 2 ^ 12 + bits w 24 3 * 2 ^ 24

/-- Status of a configuration write, in the order of R417. -/
def qcfgStatus (b : Block) (q w : Nat) : Nat :=
  let x := b.queue q
  let w := qcfgFields w
  if q ≤ 1 then stACCESS
  else if !cfgOk w then stRANGE
  else if x.enabled && bits w 0 31 != bits x.cfg 0 31 then stSTATE
  else if x.enabled && qBound b q && !bit w 31 then stSTATE
  else if bit w 31 && (b.bank (bits w 16 6)).owner != owQUEUE then stOWNER
  else if bit w 31 && ((b.bank (bits w 16 6)).firmware ||
      b.queues.any (fun y => y.1 != q && y.2.enabled && ringsOverlap y.2.cfg w)) then stREFUSED
  else stOK

/-- A host access that waits when its queue is disabled: a pop returns the empty token (R418), a push is denied (R415, R432), a command
finds an empty ring, and COUNT reads 0. -/
def releaseWait (q : Nat) (w : HostWait) (b : Block) : Block :=
  match w with
  | .read n | .poll n => b.emit (.popped q (emptyTokens n))
  | .count => b.emit (.popped q [0])
  | .push _ _ _ => queueDenied q b
  | .command _ => b

/-- A push that waits when its queue is disabled is refused (R415): each of the host's is a denied access. -/
def refuseHeld (q : Nat) (h : HeldPush) (b : Block) : Block :=
  if h.by_.cls = .host then forEach h.words (fun _ b => queueDenied q b) b else pushRefused q b

/-- Disable a queue (R418): its items are discarded and those who wait on it are released. -/
def qDisable (key : Nat) (b : Block) : Block :=
  let b := qDiscard key b
  let x := b.queue key
  let b := b.setQueue key { x with cfg := bits x.cfg 0 31, held := [], hostReads := [], stalled := [] }
  forEach x.held (refuseHeld (keyQueue key)) (forEach x.hostReads (releaseWait (keyQueue key)) b)

/-- QCFG_WRITE. -/
def qcfgWrite (q w : Nat) (b : Block) : Nat × Block :=
  let st := qcfgStatus b q w
  let x := b.queue q
  let w := qcfgFields w
  (st,
    if st != stOK then b
    else if x.enabled then (if bit w 31 then b else qDisable q b)
    else b.setQueue q { x with cfg := w, rings := [], open_ := none, prio := 0, dropping := false, reading := none,
                               mReading := none, fReading := none })

/-- Status of an endpoint write (R434). -/
def qendStatus (b : Block) (q w : Nat) : Nat :=
  let x := b.queue q
  let w := qendFields w
  if q = 0 || (q = 1 && (bits w 0 12 != bits x.ends 0 12 || bits w 24 3 != bits x.ends 24 3 ||
      !(bits w 12 4 == 1 || bits w 12 4 == 4))) then stACCESS
  else if q != 1 && !endsOk w then stRANGE
  else if q != 1 && x.enabled && w != x.ends then stSTATE
  else stOK

/-- QEND_WRITE. -/
def qendWrite (q w : Nat) (b : Block) : Nat × Block :=
  let st := qendStatus b q w
  (st, if st = stOK then b.setQueue q { b.queue q with ends := qendFields w } else b)

/-- QUEUE_RESULT after a BAR0 write (R433). -/
def queueResult (q st : Nat) (b : Block) : Block := b.bset 0x1700 0 (q * 2 ^ 16 + st)

/-- Enabled queues (R435). -/
def Block.queuesOn (b : Block) : Nat := 2 + (b.queues.filter (fun y => 2 ≤ y.1 && y.1 < 4096 && y.2.enabled)).length

/-- The queue that a path has selected (R436). -/
def pathNo (p : Path) : Nat := match p with | .host => 0 | .can => 1 | .sloe => 2
def Block.selected (b : Block) (p : Path) : Nat := look (fun _ => 0) b.selectors (pathNo p)

/-- QFLAGS (R434). -/
def Queue.flags (x : Queue) : Nat := x.resets * 2 ^ 24 + b2n x.reset * 2 + b2n x.gap

/-! ### What a reset or a power state does to queues (R431, R463) -/

/-- Keys of the queues that hold something other than the default. -/
def Block.queueKeys (b : Block) : List Nat := b.queues.map Prod.fst

/-- An FLR (R463): queues with a HOST or DMA class are disabled, Q0 is emptied, the consumer of Q1 becomes HOST. -/
def queuesFlr (b : Block) : Block :=
  let hostSide := fun (x : Queue) => [x.producer, x.consumer].any (fun c => c == .host || c == .dma)
  let b := forEach (b.queueKeys.filter (fun k => decide (2 ≤ k) && k != q0Response)) (fun k b =>
    if (b.queue k).enabled && hostSide (b.queue k) then qDisable k b else b) b
  let b := loseReplies (qDiscard 0 (qDiscard q0Response b))
  let drop := fun (k : Nat) (b : Block) => b.setQueue k { b.queue k with hostReads := [] }
  let b := drop 1 (drop q0Response b)
  let q1 := b.queue 1
  b.setQueue 1 { q1 with ends := putBits q1.ends 12 9 1 }

/-- The queues whose rings lie in banks that lose their contents are disabled (R431). -/
def queuesLose (lost : Nat → Bool) (b : Block) : Block :=
  forEach (b.queueKeys.filter (fun k => decide (2 ≤ k) && k != q0Response)) (fun k b =>
    if (b.queue k).enabled && lost (b.queue k).bank then qDisable k b else b) b

end Sys2Proof.Machine
end

