-- ==== Sys2Proof/Machine/Pcie.lean ====
section
/-! DEFINITION. The PCI Express function (15_pcie_endpoint.md R437 to R446, R457 to R466): configuration space, aperture windows,
reads and writes of the store, Precision Time Measurement, D3hot, function-level and conventional resets, link power. -/

namespace Sys2Proof.Machine

/-- The function serves memory requests (R439, R461, R462, R464). -/
def Block.barUp (b : Block) : Bool := b.pcie.loaded && !b.pcie.perst && !b.pcie.d3 && !b.pcie.flr

/-- The configuration before the host has written any (R437): Max_Read_Request_Size 512 B, Max_Payload_Size 128 B, 32 tags and AER's masks
and severities as the base specification has them at reset (PRESUMED, log entry 12). -/
def HostConfig.reset : HostConfig :=
  { bme := false, msix := false, fmask := false, tags := 32, maxRead := 512, ptm := false, ltr := false, aspm := 0, rate := 0, width := 0,
    flit := false, maxPayload := 128, l1ss := 0, ecrcGen := false, ecrcCheck := false, cplTimeout := 0, bar0 := 0, bar2 := 0, bar4 := 0,
    aerClear := 0, aerMask := 0x400000, aerSeverity := 0x462030, aerCorMask := 0x2000, aerCorClear := 0, errReport := 0 }

/-- Octets that the three BARs decode (R440). -/
def bar0Size : Nat := 2 ^ 26
def bar2Size : Nat := 2 ^ 28
def bar4Size : Nat := 2 ^ 36

/-- The base address that a 64-bit BAR of `size` octets holds after a write: the bits below the size read 0. -/
def barBase (size v : Nat) : Nat := v % 2 ^ 64 / size * size

/-- The link's width: the widest that the function supports within what the host offers (R437). -/
def legalWidth (w : Nat) : Nat := ([16, 8, 4, 2, 1].find? (fun x => decide (x ≤ w))).getD 0

/-- Completion Timeout Values of ranges A to D (R466), with 0, the default range. -/
def timeoutValues : List Nat := [0, 1, 2, 5, 6, 9, 10, 13, 14]

/-- A configuration with the limits that the specification puts on its values: the link trains to a rate and width that the function
supports, FLIT mode is always used at 64.0 GT/s (R437); a BAR holds a multiple of its size (R440). -/
def legalConfig (c : HostConfig) : HostConfig :=
  { c with
    tags := if c.tags = 1024 || c.tags = 256 then c.tags else 32, maxRead := max 128 (min 4096 c.maxRead),
    maxPayload := max 128 (min 1024 c.maxPayload), rate := min 6 c.rate, width := legalWidth c.width, flit := c.flit || decide (6 ≤ c.rate),
    cplTimeout := if timeoutValues.contains c.cplTimeout then c.cplTimeout else 0, bar0 := barBase bar0Size c.bar0,
    bar2 := barBase bar2Size c.bar2, bar4 := barBase bar4Size c.bar4, aerClear := 0, aerCorClear := 0 }

/-! ### Configuration space -/

/-- PERST_DEASSERT (R439). -/
def perstDeassert (b : Block) : Block := { b with pcie := { b.pcie with perst := false } }

/-- How a configuration request is answered: not at all while PERST_N is asserted (R464), with Request Retry Status until
configuration space is loaded and during an FLR (R439, R462), and served otherwise, in D3hot too (R461). -/
inductive ConfigAnswer where
  | none
  | retry
  | served
  deriving DecidableEq, Repr

/-- The answer to a configuration request that arrives now. -/
def Block.configAnswer (b : Block) : ConfigAnswer :=
  if b.pcie.perst then .none else if !b.pcie.loaded || b.pcie.flr then .retry else .served

/-- The capabilities of the function (R437, R457). -/
def pcieCaps : PcieCaps :=
  { rates := 6, widths := [1, 2, 4, 8, 16], maxPayload := 1024, maxRead := 4096, extendedTag := true, tag10 := true, tag14 := false,
    msixVectors := 64, msixTable := 0x10000, msixPba := 0x10800, intPin := 0, aer := true, ecrc := true, ptmRequester := true,
    ptmResponder := false, flr := true, d3hot := true, noSoftReset := true, aspmL0s := true, aspmL1 := true, l1ss := 15, l0p := true,
    ltr := true }

/-- The configuration header of a part (R438), and its BARs (R440): bit 2 is the 64-bit type, bit 3 prefetchable. Its Revision ID has 8
bits: the low ones of the die revision (DEDUCED, log 18). -/
def configHeader (p : Part) (c : HostConfig) : ConfigHeader :=
  { vendor := Config.pciVendor, device := match p with | .h48 => 0x2048 | .h24 => 0x2024, classCode := 0x118000,
    revision := Config.dieRevision.setWidth 8, subVendor := Config.pciVendor, subsystem := 0,
    bar0 := BitVec.ofNat 64 (c.bar0 + 4), bar2 := BitVec.ofNat 64 (c.bar2 + 4), bar4 := BitVec.ofNat 64 (c.bar4 + 12),
    caps := pcieCaps }

/-- CONFIG_SPACE_READY: configuration space is loaded; `c` is what the host's configuration writes then make of it (R439). Vectors that
are no longer masked are sent (R457), a newly enabled LTR mechanism reports (R465), a cleared Bus Master Enable halts the channels
(R459), and AER status bits written 1 are cleared (R466). -/
def configReady (c : HostConfig) (b : Block) : Block :=
  if b.pcie.perst || b.pcie.flr then b
  else
    let ltr := b.pcie.cfg.ltr
    let b := if b.pcie.cfg.bme && !c.bme then haltAll 2 b else b
    let cfg := legalConfig c
    let b := { b with pcie := { b.pcie with
      header := some (configHeader b.part cfg), loaded := true, cfg := cfg, aer := b.pcie.aer - (b.pcie.aer &&& c.aerClear),
      aerCor := b.pcie.aerCor - (b.pcie.aerCor &&& c.aerCorClear) } }
    pumpAll (sendPending (if ltr then b else reportLatency b))

/-! ### Windows (R443, R445, R446) -/

/-- Default base of a window (R470). -/
def winDefault (b : Block) (w : Nat) : Nat := 2048 * w % b.installed
/-- Base in force and staged base of a window. -/
def Block.win (b : Block) (w : Nat) : Nat × Nat :=
  match b.pcie.wins.find? (fun x => x.1 == w) with
  | some x => x.2
  | none => (winDefault b w, winDefault b w)
def setWin (w base staged : Nat) (b : Block) : Block :=
  { b with pcie := { b.pcie with wins := upsert b.pcie.wins w (base, staged) } }

/-- Status of a write of STAGED (R445). -/
def stagedStatus (b : Block) (v : Nat) : Nat := if b.installed ≤ v % 32768 then stRANGE else stOK

/-- A write of WIN_COMMIT: BUSY while old translations drain, else the windows of the mask take their staged bases. -/
def winCommit (mask : Nat) (b : Block) : Block :=
  if b.pcie.drain then b.bset 0x181C 0 stBUSY
  else
    let b := forEach (setBits 8 mask) (fun w b => setWin w (b.win w).2 (b.win w).2 b) b
    { b.bset 0x181C 0 stOK with pcie := { b.pcie with drain := true } }

/-- WINDOW_DRAIN_END. -/
def drainEnd (b : Block) : Block := { b with pcie := { b.pcie with drain := false } }

/-- Store address of a BAR4 offset. -/
def Block.apertureAddr (b : Block) (x : Nat) : Nat := (b.win (x / 2 ^ 32 % 8)).1 * unitBytes + x % 2 ^ 32

/-- BAR4_READ of `len` octets at an offset; `bad` are the store addresses that read with an uncorrectable error (R444). -/
def bar4Read (mem : List Host.Cell) (x len : Nat) (bad : List Nat) (b : Block) : Block :=
  let n := min len 4096
  if !b.barUp then unsupported b
  else if !b.ready then b.emit (.bar4Data x (List.replicate n 0) false)
  else
    let a := b.apertureAddr x
    let hit := bad.filter (fun i => decide (a ≤ i) && decide (i < a + n) && decide (i < b.installed * unitBytes))
    let b := if hit.isEmpty then b else poisoned (forEach hit poisonedRead b)
    b.emit (.bar4Data x (storeOctets mem a n) (!hit.isEmpty))

/-- BAR4_WRITE (R206, R211, R466). -/
def bar4Write (x : Nat) (data : List Byte) (bad : TlpState) (b : Block) : Block :=
  if !b.barUp then b
  else if b.ecrcFails bad then aerSet 19 b
  else if bad = .poisoned then aerSet 12 b
  else if !b.ready then b
  else storeWritePart (b.apertureAddr x) (data.take 4096) b

/-! ### Precision Time Measurement (R458) -/

/-- PTM_CTRL: the interval is 20 until it is written. -/
def ptmCtrl (b : Block) : Nat := if b.bget 0x1840 0 = 0 then 20 else b.bget 0x1840 0

/-- With AUTO an interval of 2^n frames ends in each frame whose number is a multiple of 2^n, once (DEDUCED, log 43). -/
def ptmDue (b : Block) : Bool :=
  bit (ptmCtrl b) 7 && b.time.frame.toNat % 2 ^ bits (ptmCtrl b) 0 5 == 0 && b.pcie.ptmAt != some b.time.abs

/-- A dialog starts at `off` SSU into the running frame; while one runs, the next waits for its end. -/
def ptmStart (off : Nat) (b : Block) : Block :=
  if !b.barUp || !b.pcie.cfg.ptm then b
  else if b.pcie.ptm then { b with pcie := { b.pcie with ptmWant := b.pcie.ptmWant + 1 } }
  else linkUse { b.bset 0x1848 6 (stampAdd b.tsNow (min off 2047)) with pcie := { b.pcie with ptm := true } }

/-- PTM_REQUEST: a dialog starts, asked for by software or, with AUTO, at the end of an interval. -/
def ptmRequest (asked : Bool) (off : Nat) (b : Block) : Block :=
  if asked then ptmStart off b
  else if ptmDue b then ptmStart off { b with pcie := { b.pcie with ptmAt := some b.time.abs } }
  else b

/-- A dialog whose instant in the running frame nothing gives: it is a free value. -/
def ptmAnywhere (f : Nat → Block → Block) (b : Block) : Block := let r := b.fresh; f (r.1.toNat % 2048) r.2

/-- An interval that ended in the frame that is over has had its dialog (R458). -/
def ptmTick (b : Block) : Block := if ptmDue b then ptmAnywhere (ptmRequest false) b else b

/-- PTM_DIALOG_COMPLETE with the PTM Master Time in ns. A dialog asked for while this one ran begins. -/
def ptmComplete (th : Nat) (b : Block) : Block :=
  if !b.pcie.ptm then b
  else
    let b := { b with pcie := { b.pcie with ptm := false } }
    let b := ((b.bset 0x1848 0 (b.bget 0x1848 6)).bset 0x1848 1 (th % 2 ^ 64)).bset 0x1848 2 ((b.bget 0x1848 2 + 1) % 2 ^ 32)
    if b.pcie.ptmWant = 0 then b
    else ptmAnywhere ptmStart { b with pcie := { b.pcie with ptmWant := b.pcie.ptmWant - 1 } }

/-- A read of PTM_DEV_LO latches the other registers of the pair. -/
def ptmDevLo (b : Block) : Block :=
  ((b.bset 0x1848 3 (b.bget 0x1848 0)).bset 0x1848 4 (b.bget 0x1848 1)).bset 0x1848 5 (b.bget 0x1848 2)

/-! ### Bus master, D3hot (R459, R461) -/

/-- BME_CLEAR. -/
def bmeClear (b : Block) : Block :=
  let b := haltAll 2 b
  { b with pcie := { b.pcie with cfg := { b.pcie.cfg with bme := false } } }

/-- D3HOT_ENTRY and the return to D0, at which the vectors go that were unmasked in D3hot while pending (R457). -/
def d3Entry (b : Block) : Block :=
  if !b.pcie.loaded then b else let b := haltAll 3 b; { b with pcie := { b.pcie with d3 := true } }
def returnD0 (b : Block) : Block := sendPending { b with pcie := { b.pcie with d3 := false } }

/-! ### Resets (R462 to R464) -/

/-- Banks of the host's side become Unowned (R463). -/
def banksFlr (b : Block) : Block :=
  let b := { b with maint := { b.maint with
    ops := [], oldReads := [],
    test := b.maint.test.map (fun x => if x.lender = owHOST || x.lender = owDMA then { x with lender := owUNOWNED } else x) } }
  forEach (List.range 64) (fun k b =>
    let x := b.bank k
    if x.firmware then b
    else if x.owner = owHOST || x.owner = owDMA then unown k b
    else if x.borrowed && (x.lender == owHOST || x.lender == owDMA) then b.setBank k { x with lender := 0 }
    else b) b

/-- The fields that only BAR0 holds and an FLR returns to their defaults: windows' status, PTM, flags and ALERT_VECTOR of the
endpoint, MSI-X table and PBA. -/
def flrBar (key : Nat) : Bool :=
  let off := key / 8
  (decide (0x1808 ≤ off) && decide (off < 0x180C)) || (decide (0x1814 ≤ off) && decide (off < 0x1858)) ||
    (decide (0x10000 ≤ off) && decide (off < 0x10C00))

/-- What an FLR does once no domain is armed: channels at their defaults, the store, queues and banks (R462, R463). -/
def flrEffect (b : Block) : Block :=
  let b := clearAllUnits (banksFlr (queuesFlr b))
  { b with
    bar := dropKeys flrBar b.bar,
    pcie := { b.pcie with flrDue := false, wins := [], drain := false, ptm := false, ptmAt := none, ptmWant := 0, dma := [], turn := 0 } }

/-- The effect of an FLR is carried out as soon as no domain is armed. -/
def settleFlr (b : Block) : Block := if b.pcie.flrDue && b.armedDoms.isEmpty then flrEffect b else b

/-- An FLR begins: requests stop, and every ARMED domain is stopped with reason SOFTWARE (R462). -/
def flrStart (b : Block) : Block :=
  let b := forEach (List.range 32) (fun c b => stopChan c 0 0 b) b
  let b := { b with pcie := { b.pcie with flr := true, flrDue := true, d3 := false } }
  let b := forEach (b.armedDoms.filter (fun t => b.dstate t == 1))
    (fun t b => requestStop t ((b.time.abs + 1) * 32 + 31) srSOFTWARE (b.time.abs + 1) b) b
  settleFlr b

/-- FLR. -/
def flr (b : Block) : Block := if b.pcie.loaded && !b.pcie.perst then flrStart b else b

/-- FLR_COMPLETE: configuration space is at its defaults but for the sticky AER bits, the ABI session has ended, arms are accepted (R462). -/
def flrComplete (b : Block) : Block :=
  if !b.pcie.flr || b.pcie.flrDue then b
  else
    let c := b.pcie.cfg
    let cfg := { HostConfig.reset with rate := c.rate, width := c.width, flit := c.flit, aerMask := c.aerMask,
                                       aerSeverity := c.aerSeverity, aerCorMask := c.aerCorMask }
    let b := (b.wr 0x1E00 5 0).bset 0x1800 0 0
    { b with pcie := { b.pcie with flr := false, cfg := cfg, header := b.pcie.header.map (fun _ => configHeader b.part cfg) } }

/-- CONVENTIONAL_RESET: an FLR that also retrains the link; PERST_N stays asserted where it is the cause (R464). -/
def conventionalReset (perst : Bool) (b : Block) : Block :=
  let b := flrStart b
  { b with pcie := { b.pcie with
      perst := b.pcie.perst || perst, header := if perst then none else b.pcie.header, loaded := b.pcie.loaded && !perst, link := 0,
      cfg := { b.pcie.cfg with rate := 0, width := 0, flit := false } } }

/-! ### Link power (R465) -/

/-- The link is idle: no read of the device or of the host is outstanding, of a queue window, a bank or BANK_ATOMIC_OLD_LO (R395), and no
channel is RUNNING. -/
def Block.linkIdle (b : Block) : Bool :=
  b.pcie.reads.isEmpty && (List.range 32).all (fun c => (b.chan c).st != 1) && b.queues.all (fun x => x.2.hostReads.isEmpty) &&
    b.maint.ops.all (fun o => o.kind != 0) && b.maint.oldReads.isEmpty

/-- The host permits a link power state: 1 L0s without FLIT mode, 2 L0p with it, 3 L1, 4 L1.1, 5 L1.2. In D3hot L1 and its substates
come by PCI-PM. -/
def Block.linkAllows (b : Block) (s : Nat) : Bool :=
  let c := b.pcie.cfg
  match s with
  | 1 => !c.flit && bit c.aspm 0
  | 2 => c.flit && bit c.aspm 1
  | 3 => bit c.aspm 2 || b.pcie.d3
  | 4 => (bit c.aspm 2 && bit c.l1ss 0) || (b.pcie.d3 && bit c.l1ss 2)
  | 5 => (bit c.aspm 2 && bit c.l1ss 1) || (b.pcie.d3 && bit c.l1ss 3)
  | _ => false

/-- LINK_IDLE_ENTRY into 1 L0s, 2 L0p, 3 L1, 4 L1.1 or 5 L1.2. A substate entered from L1 is no further L1 entry. -/
def linkIdleEntry (s : Nat) (b : Block) : Block :=
  let p := b.pcie
  if !p.loaded || p.perst || p.flr || !b.linkAllows s || !b.linkIdle || s ≤ p.link then b
  else
    let b := { b with pcie := { p with link := s } }
    if 3 ≤ s then (if p.link < 3 then b.bump 32 0x7101 5 1 else b) else if s = 2 then b.bump 32 0x7101 6 1 else b

/-- LINK_POWER_STATE_EXIT. -/
def linkExit (b : Block) : Block := { b with pcie := { b.pcie with link := 0 } }

/-- PCIE_STATUS (R470). -/
def Block.pcieStatus (b : Block) : Nat :=
  let c := b.pcie.cfg
  b2n b.ready * 2 ^ 31 + b2n c.flit * 2 ^ 9 + bits b.linkWidth 0 5 * 16 + bits c.rate 0 4

end Sys2Proof.Machine
end

