-- ==== Sys2Proof/Machine/Sequencer.lean ====
section
/-! DEFINITION. The prefix resolve of the sequencer (05_trigger_sequencer.md R150 to R163, R166, 12_frame_sync_and_sloe_chains.md
R376): one frame of a domain sample by sample, with every action of a taken branch. -/

namespace Sys2Proof.Machine

/-! ### Actions -/

/-- What a TRIG at a sample places, if it places (R162, R163). -/
structure TrigSrc where
  inst : Inst
  level : Nat
  forced : Bool
  both : Bool
  branch : Nat
  slot : Option Nat
  tsA : Nat
  tsB : Nat
  deriving DecidableEq, Repr

/-- The trigger information word (R163). -/
def trigInfo (x : TrigSrc) : Nat :=
  x.level * 2 ^ 12 + b2n x.forced * 2 ^ 11 + b2n x.both * 2 ^ 10 + x.branch * 2 ^ 9 + b2n x.slot.isSome * 2 ^ 8 +
    x.slot.getD 0 * 2 ^ 6 + b2n (x.inst.cls == clsINDIGO && x.inst.coarse) * 2 ^ 5 + 2 ^ 4 + x.inst.cls

/-- Replace the trigger stamp set (R179); the six words of it that a SEG_HDR carries (R256). -/
def stampTrigger (t j : Nat) (x : TrigSrc) (coinc : Nat) (b : Block) : List Nat × Block :=
  let o := 0x5520 + t
  let seq := (b.rd o 7 + 1) % 2 ^ 32
  let action := b.tsPos j
  let tsA := if x.both then x.tsA else 0
  let tsB := if x.both then x.tsB else 0
  let b := ((((((b.wr o 1 x.inst.ts).wr o 2 (trigInfo x)).wr o 3 coinc).wr o 4 tsA).wr o 5 tsB).wr o 6 action).wr o 7 seq
  ([x.inst.ts, seq * 2 ^ 32 + trigInfo x, coinc, tsA, tsB, action], b)

/-- A trigger of a ring capture (R226): the store notes it and, with a post-trigger count, ends the capture after it. -/
def ringTrigger (t j : Nat) (ws : List Nat) (b : Block) : Block :=
  let p := b.rd (0x6100 + t) 3
  let s := b.store t
  let b := b.setStore t { s with
    trig := some ws, trigPos := some j, postStop := if p = 2 ^ 64 - 1 then none else some (j + p) }
  if p = 2 ^ 64 - 1 then b else requestStop t (j + p) srSTORE ((j + p) / 32 + 5) b

/-- A TRIG at sample `j` (R152): it is counted, and it places when the capture unit has no trigger. -/
def trigAction (t j : Nat) (x : TrigSrc) (coinc : Nat) (b : Block) : Block :=
  let b := b.flag (0x5100 + t) 6 7 1
  if segmented (b.mode t) then
    match (b.store t).seg with
    | some g =>
      if g.trig.isSome then b
      else
        let r := stampTrigger t j x coinc b
        let s := r.2.store t
        openAmp t j (r.2.setStore t { s with seg := some { g with trig := some r.1 } })
    | none => b
  else
    let d := b.dom t
    if d.placed then b
    else
      let r := stampTrigger t j x coinc (b.setDom t { d with placed := true })
      let b := if (r.2.store t).live && regionClass (r.2.mode t) = 0 then ringTrigger t j r.1 r.2 else r.2
      openAmp t j b

/-- A counter action (R155). -/
def counterAction (t c op : Nat) (b : Block) : Block :=
  let o := 0x5500 + t
  let v := b.counter t c
  if op = 1 then
    b.wr o (0x19 + c) (if v = 2 ^ 48 - 1 then (if b.rd o (1 + c) = 0 then 0 else v) else v + 1)
  else if op = 2 then b.wr o (0x19 + c) (b.rd o (9 + c))
  else b

/-- A timer is started or restarted at sample `j` (R156). -/
def timerStart (t j m : Nat) (b : Block) : Block :=
  let d := b.dom t
  b.setDom t { d with
    timers := place (fun _ => Timer.reset) d.timers m { due := j + b.rd (0x5510 + t) (1 + m), expired := false } }

/-- A bit of the trigger vector that the module sends in frame `n` (R153). -/
def cascSet (n k : Nat) (b : Block) : Block :=
  { b with vectors := place (fun _ => 0) b.vectors n (putBit (look (fun _ => 0) b.vectors n) k true) }

/-- A TOUT action at sample `j` (R154): it asserts an output that the domain owns, 7 frames later. -/
def toutAction (t j o : Nat) (b : Block) : Block :=
  if bits (b.rd 0x5540 (o + 1)) 0 4 = t then
    let x := b.trigOut o
    b.setTrigOut o { x with coming := x.coming ++ [(j / 32 + 7, j % 32)] }
  else b

/-- The actions of a word beside TRIG, the segment actions and STOP (R150): their order does not matter. -/
def plainActions (t j w : Nat) (b : Block) : Block :=
  let b := counterAction t (bits w 6 3) (bits w 4 2) b
  let b := if bit w 9 then timerStart t j (bits w 10 3) b else b
  let b := if bit w 13 then launch t j (bits w 14 4) b else b
  let b := if bit w 18 then cascSet (j / 32 + 5) (bits w 19 6) b else b
  let b := if bit w 25 then toutAction t j 0 b else b
  if bit w 26 then toutAction t j 1 b else b

/-! ### One sample -/

/-- A received trigger bit named by 0x2230 + t applies to the frame of a position (R376). -/
def followBit (b : Block) (t sub pos : Nat) : Bool :=
  let k := b.rd (0x2230 + t) sub
  b.mode t == 0xC && decide (k < 64) && b.cascAt k pos

/-- The forced trigger of the domain acts at this position (R166). -/
def forcedAt (b : Block) (t pos : Nat) : Bool := pos % 32 == 0 && (b.dom t).forced.contains (pos / 32)

/-- How a frame is walked: the segment found open closes with reason FULL after `close`, where one is given; a segment that
opens in the frame closes so at once where `failOpen` holds (R229). -/
structure WalkMode where
  close : Option Nat
  failOpen : Bool
  deriving DecidableEq, Repr

/-- Close the open segment with reason FULL where the mode of the walk says so: after `c`, when the walk has reached it. -/
def fullClose (t j : Nat) (m : WalkMode) (b : Block) : Block :=
  match m.close, (b.store t).seg with
  | some c, some g => if c < j && g.o ≤ c then closeSegment t c 2 b else b
  | _, _ => b

/-- One evaluated sample (R157): the counter and timer terms are those of the state left by the sample before. DESIGN CHOICE (log 45):
a forced trigger or a FOLLOW at a sample where no taken branch carries TRIG has LEVEL the current level, BOTH 0, BRANCH 0 and
branch instants 0 in its information, even if both branches match; R163 does not say. DESIGN CHOICE (log 45): the EVENT record of a
branch coincidence is staged with the frame of its sample; other report records go with the running frame (R254). -/
def walkSample (t : Nat) (ws : WidthTerms) (m : WalkMode) (j : Nat) (b : Block) : Block :=
  let b := fullClose t j m b
  -- a deferred open that falls in the protected slot stops the domain before it (R289)
  let blocked := fun (b : Block) =>
    (match (b.store t).deferred with | some d => decide (d.at_ ≤ j) | none => false) && slotProtected b t
  if !b.evaluates t j then b
  else if blocked b then requestStop t (j - 1) srMASK b.time.abs b
  else
    let b := settleSegment t j b
    let lvl := b.rd (0x5100 + t) 3
    let terms := levelTerms b t ws lvl j
    let cA := b.condWord t lvl 0
    let cB := b.condWord t lvl 1
    let mA := branchMatch cA terms
    let mB := branchMatch cB terms
    let both := mA && mB
    let br := if mA then 0 else 1
    let taken := mA || mB
    let w := if taken then b.actWord t lvl br else 0
    if bit w 1 && opensAt b t j && slotProtected b t then requestStop t (j - 1) srMASK b.time.abs b
    else
      let slotA := placingSlot cA terms
      let slotB := placingSlot cB terms
      let iA := branchInst b j slotA
      let iB := branchInst b j slotB
      let coinc := coincidenceWord b t ws j
      let b := if both then
          let b := b.flag (0x5100 + t) 9 0xA 1
          if bit (b.rd (0x5100 + t) 5) 0 then
            eventRecordAt (j / 32) t 3 lvl (b.tsPos j) [coinc, iA.ts, iB.ts, iA.cls + iB.cls * 16] b
          else b
        else b
      let inst := if br = 0 then iA else iB
      let slot := if br = 0 then slotA else slotB
      let b := if bit w 1 then segOpen t j inst b else b
      let forced := forcedAt b t j
      let follow := followBit b t 1 j
      let here := sampleInst b j
      let b := if bit w 0 then
          trigAction t j { inst := inst, level := lvl, forced := forced, both := both, branch := br, slot := slot.map Prod.fst,
                           tsA := iA.ts, tsB := iB.ts } coinc b
        else if forced || follow then
          trigAction t j { inst := { here with cls := if forced then clsFORCED else clsCASCADE }, level := lvl, forced := forced,
                           both := false, branch := 0, slot := none, tsA := 0, tsB := 0 } coinc b
        else b
      let b := if forced then b.setDom t { b.dom t with forced := (b.dom t).forced.filter (· != j / 32) } else b
      -- a segment that its slot cannot hold closes where it opened, after the TRIG of the same word (R151, R229)
      let b := if m.failOpen then
          (match (b.store t).seg with | some g => if g.o = j then closeSegment t j 2 b else b | none => b)
        else b
      let b := if bit w 2 then segClose t j b else b
      let b := plainActions t j w b
      let b := if taken then b.wr (0x5100 + t) 3 (bits (if br = 0 then cA else cB) 10 4) else b
      -- a length close at the very sample at which the segment opened, and one that ends the last slot
      let b := settleClose t (j + 1) b
      let b := if bit w 3 then requestStop t j srACTION b.time.abs b else b
      if followBit b t 2 j then requestStop t (j / 32 * 32 + 31) srCHAIN (j / 32 + 5) b else b

/-! ### One frame -/

/-- The width units that used slots name (R147). -/
def usedWidths (b : Block) (t : Nat) : List Nat :=
  (List.range 16).filter (fun u => (b.usedSlots t).any (fun w => bits w 28 4 == 4 && bits w 0 4 == u))

/-- The width units take the evaluated positions of frame `a`: their terms, and the block with the units after them. -/
def widthFrame (t a : Nat) (b : Block) : WidthTerms × Block :=
  (usedWidths b t).foldl (fun (acc : WidthTerms × Block) u =>
    let d := acc.2.dom t
    let n := match d.stop with
      | some s => if s.pos < a * 32 then 0 else min 32 (s.pos + 1 - a * 32)
      | none => 32
    let r := widthRun acc.2 (acc.2.widthCfg t u) n (a * 32) (look (fun _ => Width.reset) d.widths u)
    ((u, r.1) :: acc.1, acc.2.setDom t { d with widths := place (fun _ => Width.reset) d.widths u r.2 })) ([], b)

/-- One walk of frame `a`. -/
def walk (t a : Nat) (m : WalkMode) (b : Block) : Block :=
  let r := widthFrame t a b
  let b := forEach ((List.range 32).map (fun i => a * 32 + i)) (walkSample t r.1 m) r.2
  let b := fullClose t (a * 32 + 32) m b
  let d := b.dom t
  let upTo := match d.stop with | some s => min (s.pos + 1) (a * 32 + 32) | none => a * 32 + 32
  b.setDom t { d with evaluated := max d.evaluated upTo }

/-- STOP_ON_GAP (R223). -/
def Block.stopOnGap (b : Block) (t : Nat) : Bool := bit (b.rd (0x6100 + t) 7) 0

/-- The last sample of the last frame whose records fit the slot, where the open segment has one (R229). -/
def lastFitOf (b : Block) (t : Nat) : Option Nat := ((b.store t).seg).bind (·.lastFit)

/-- The used clock edges before the stop whose state samples fall into frame `a`, which the stop leaves out, are still held to the distance
of R169: those too close count and set STATE_OVERRUN. -/
def overrunsOf (t a : Nat) (b : Block) : Block :=
  if b.dataType t = 5 then (stateOf t a b).2 else b

/-- Walk frame `a`, again where the records of the frame then do not fit the slot: the segment that was open closes FULL after
the last frame that fits, or the one that opens in the frame closes at its open sample (R229). With STOP_ON_GAP a frame that
staging does not take stops the domain before it (R223). -/
def resolveFrame (t a : Nat) (b : Block) : Block :=
  let once := walk t a { close := none, failOpen := false } b
  let fits := fun (x : Block) => !(x.store t).live || !(releaseFits t a x).slotFull
  let r :=
    if fits once then once
    else
      match (b.store t).seg with
      | some g =>
        let c := (lastFitOf b t).getD g.o
        let again := walk t a { close := some c, failOpen := false } b
        if fits again then again else walk t a { close := some c, failOpen := true } b
      | none => walk t a { close := none, failOpen := true } b
  if (r.store t).live && !(releaseFits t a r).ok && b.stopOnGap t then
    overrunsOf t a (requestStop t (a * 32 - 1) srSTORE b.time.abs (dropWhole t a b))
  else r

end Sys2Proof.Machine
end

