-- ==== Sys2Proof/Machine/Arm.lean ====
section
/-! DEFINITION. Pods, modes, arming and stopping (01_frame_and_flow.md R21 to R33, 05_trigger_sequencer.md R170 to R173). -/

namespace Sys2Proof.Machine

/-- The status of the first check that fails, OK where none does: each entry is a condition of refusal with its status. -/
def firstFail : List (Bool × Nat) → Nat
  | [] => stOK
  | (c, st) :: rest => if c then st else firstFail rest

/-! ### Pods and modes -/

/-- Status of a write of a pod's domain (R22, R25). -/
def podAssignStatus (b : Block) (n v : Nat) : Nat :=
  let idle := fun (t : Nat) => 8 ≤ t || b.mode t == 0
  firstFail [(!(v < 8 || v == 0xFF), stRANGE), (!(idle (b.podDom n) && idle v), stSTATE)]

/-- A pod moves to a domain or to none; its drivers follow (R23, R304). -/
def podAssign (n v : Nat) (b : Block) : Nat × Block :=
  let st := podAssignStatus b n v
  if st = stOK then (st, refreshDrivers n (b.wr 0x5000 (n + 1) v)) else (st, b)

/-- Status of a write of a domain's mode (R28). -/
def modeStatus (b : Block) (t v : Nat) : Nat :=
  firstFail [(decide (0xC < v), stRANGE), (b.dstate t == 1, stSTATE), (b.dstate t == 2, stBUSY),
    (b.mode t != 0 && v != 0, stSTATE)]

/-- The first condition of R304 has stopped holding for a domain: its pattern engine ends, returns its bank, and its drivers are
disabled (R311). -/
def leaveDrive (t : Nat) (b : Block) : Block :=
  let b := (returnBank owSTIM t (stimOff t b)).wr (stimObj t) 0xD 0xFF
  forEach (b.podsOf t) refreshDrivers b

/-- The settings that R304 names have changed: the drivers and the pattern engine of the domain follow. -/
def driveChanged (t : Nat) (was : Bool) (b : Block) : Block :=
  if was && !b.driveMode t then leaveDrive t b else forEach (b.podsOf t) refreshDrivers b

/-- A domain's mode is written (R28, R32). -/
def modeWrite (t v : Nat) (b : Block) : Nat × Block :=
  let st := modeStatus b t v
  if st = stOK then (st, driveChanged t (b.driveMode t) (b.wr 0x5001 (t + 1) v)) else (st, b)

/-! ### Checks of an arm -/

/-- Lanes that a used term slot names (R24). -/
def slotLanes (b : Block) (t w : Nat) : List Nat :=
  match bits w 28 4 with
  | 2 | 5 | 6 => [bits w 0 9]
  | 3 => (b.patMask t (bits w 0 4)).map Prod.fst
  | 4 => [(b.widthCfg t (bits w 0 4)).lane]
  | _ => []

/-- The units assigned to a domain (R182). -/
def Block.unitsOf (b : Block) (t : Nat) : List Nat := (List.range 16).filter (fun u => b.ptuDom u == t)

/-- The units assigned to a domain whose standard is not NONE (R182, R183). -/
def Block.ptusOf (b : Block) (t : Nat) : List Nat := (b.unitsOf t).filter (fun u => b.ptuStd u != 0)

/-- The limit entries with an enable set (R285). -/
def limitsOn (b : Block) (t : Nat) : List Nat :=
  (List.range 16).filter (fun e => let c := b.rd (limitObj t e) 1; bit c 16 || bit c 17)

/-- The limit entries with an enable set that name one lane: entry and lane. -/
def limitLanes (b : Block) (t : Nat) : List (Nat × Nat) :=
  (limitsOn b t).filterMap (fun e => let c := b.rd (limitObj t e) 1; if bit c 9 then none else some (e, bits c 0 9))

/-- The lanes that a domain's configuration names (R24). -/
def lanesNamed (b : Block) (t : Nat) : List Nat :=
  let hs := (List.range 16).filter (fun h => b.rd (hObj h) 1 == t && b.rd (hObj h) 2 != 0)
  (b.usedSlots t).flatMap (slotLanes b t) ++
  (b.ptusOf t).flatMap (fun u => (ptuRoles (b.ptuStd u)).filterMap (fun r => b.ptuRole u r)) ++
  (if b.mode t = 4 then (b.clocksUsed t).map (fun k => ckLane (b.clockWord t k)) else []) ++
  (limitLanes b t).map Prod.snd ++
  (if b.on (0x6900 + t) 1 then ampLanes b t else []) ++
  hs.flatMap (fun h => b.rd (hObj h) 3 :: (if b.rd (hObj h) 2 = 4 then [b.rd (hObj h) 4] else []))

/-- Check 3 of R30 fails: a lane named lies outside the domain, a role that a standard requires has no lane, or a PROTOCOL term
names a unit that is not assigned to the domain (R24, R170, R183). -/
def lanesOutside (b : Block) (t : Nat) : Bool :=
  (lanesNamed b t).any (fun l => b.podDom (l / 16) != t || 512 ≤ l) ||
  (b.ptusOf t).any (fun u => (ptuRequired (b.ptuStd u)).any (fun r => (b.ptuRole u r).isNone)) ||
  (b.usedSlots t).any (fun w => bits w 28 4 == 7 && b.ptuDom (bits w 0 4) != t)

/-- Check 5 of R30 fails (R310). -/
def patsInvalid (b : Block) (t : Nat) : Bool :=
  let ps := patsNamed b t
  ps.any (fun p => !patValid b t p) || ((b.mode t == 0xA || b.mode t == 0xB) && ps.isEmpty)

/-- Check 6 of R30 fails (R167). -/
def clocksInvalid (b : Block) (t : Nat) : Bool :=
  let used := b.clocksUsed t
  b.mode t == 4 && (used.isEmpty || (b.podsOf t).any (fun n =>
    let k := b.rd (0x5530 + t) (9 + n); k != 0xFF && !used.contains k))

/-- Full-amplitude lanes of the domains ARMED or STOPPING (R31). -/
def Block.fullLanes (b : Block) : Nat :=
  ((b.armedDoms.filter (fun t => b.mode t == 1 || b.mode t == 5)).map (fun t => 16 * (b.podsOf t).length)).sum

/-- The full-amplitude limit (R33). -/
def Block.fullLimit (b : Block) : Nat := match b.part with | .h48 => 512 | .h24 => 256

/-- The checks of R30. -/
def r30Checks (b : Block) (t : Nat) : List (Bool × Nat) :=
  let m := b.mode t
  [(m == 0, stSTATE), ((b.podsOf t).isEmpty, stREFUSED), (lanesOutside b t, stREFUSED),
   (needsRegion m && b.regionSize t == 0, stREFUSED), (patsInvalid b t, stREFUSED), (clocksInvalid b t, stRANGE),
   (m == 0xC && !followOk b t, stREFUSED),
   ((m == 1 || m == 5) && decide (b.fullLimit < b.fullLanes + 16 * (b.podsOf t).length), stREFUSED),
   (decide (b.budgetLimit < b.budgetUsed + b.charge t), stREFUSED)]

/-- A branch action of a level carries SEG_OPEN or SEG_CLOSE. -/
def segActions (b : Block) (t : Nat) : Bool :=
  (List.range 16).any (fun l => [0, 1].any (fun br => let w := b.actWord t l br; bit w 1 || bit w 2))

/-- The check of R27 and those of R240. -/
def r240Checks (b : Block) (t : Nat) : List (Bool × Nat) :=
  let m := b.mode t
  let fmt := b.rd (0x6100 + t) 2
  let chooses := m == 7 || m == 8 || m == 0xB || m == 0xC
  let routed := (List.range 6).any (fun k => let d := b.rd (0x6200 + t) (2 + k); d == 1 || d == 2)
  [(m == 0xA && segActions b t, stREFUSED),
   (needsRegion m && !segmented m && segActions b t, stREFUSED),
   (segmented m && decide (b.regionSize t * 32 < b.rd (0x6100 + t) 4), stRANGE),
   (chooses && !(fmt == 0 || fmt == 2 || (fmt == 1 && m != 8)), stRANGE),
   (needsRegion m && routed && b.rd (0x6200 + t) 1 == 0xFFFF, stREFUSED)]

/-- The checks of R294. -/
def r294Checks (b : Block) (t : Nat) : List (Bool × Nat) :=
  let m := b.mode t
  let es := limitsOn b t
  let unmeasured := fun (l : Nat) => !bit (b.rd (unitObj (l / 16)) 1) (l % 16)
  let crossed := fun (e : Nat) =>
    let c := b.rd (limitObj t e) 1
    bit c 16 && bit c 17 && itemBelow (bits c 12 4) (b.rd (limitObj t e) 3) (b.rd (limitObj t e) 2)
  [(m == 8 && (b.rd (maskObj t) 1 == 0 || (es.isEmpty && !b.on (0x6900 + t) 1)), stREFUSED),
   (b.rd (0x6800 + t) 1 == 0 && !segmented m, stREFUSED),
   ((limitLanes b t).any (fun x => unmeasured x.2), stREFUSED),
   (es.any crossed, stRANGE),
   (b.safeOn t && m != 8 && m != 0xB, stREFUSED),
   ((b.enginesAt t).any (histBusy b), stBUSY)]

/-- The hardware banks that an arm needs (R221, R283, R311): staging, stimulus staging, one for each accumulating engine. -/
def banksNeeded (b : Block) (t : Nat) : Nat :=
  b2n (needsRegion (b.mode t)) + b2n (b.driveMode t && (b.heldBank owSTIM t).isNone) + (b.histsOf t).length

/-- The checks of an arm before that of the banks, in their order (R94, R170, R462, R515, R30, R27, R240, R453, R294, R311). From the
shutdown on until thermal hold has ended no domain arms, so that PS3 is entered (R519; the status is DESIGN CHOICE, log entry 49). -/
def armChecks (b : Block) (t : Nat) : Nat :=
  firstFail ([(b.power.lockWait || b.pcie.flr, stBUSY), (b.dstate t == 1, stSTATE), (b.dstate t == 2, stBUSY), (bit (b.rd 0x2005 1) 2, stSTATE)] ++
    r30Checks b t ++ r240Checks b t ++ [(b.mode t == 7 && (boundChan b t).isNone, stREFUSED)] ++ r294Checks b t)

/-- Every check of an arm: those, and then that of the banks that it takes (R392). -/
def armStatus (b : Block) (t : Nat) : Nat :=
  if armChecks b t = stOK then takeStatus b (banksNeeded b t) else armChecks b t

/-! ### Arming -/

/-- A histogram engine takes its bank (R283). -/
def takeHistBank (h : Nat) (b : Block) : Block :=
  match pickBank b with
  | some k => histArm h k (wakeBank k (setOwner k owMEAS b))
  | none => b

/-- The banks of an arm are taken together (R392): staging first, then stimulus staging, then measurement. -/
def takeArmBanks (t : Nat) (b : Block) : Block :=
  let b := if needsRegion (b.mode t) then takeBank owSTAGING t b else b
  let b := if b.driveMode t && (b.heldBank owSTIM t).isNone then
      let b := takeBank owSTIM t b
      match b.heldBank owSTIM t with | some k => b.wr (stimObj t) 0xD k | none => b
    else b
  forEach (b.histsOf t) takeHistBank b

/-- The arm is accepted in the running frame N (R171): sample 0 of frame N + 2 is the first evaluated. -/
def armAccept (mem : List Host.Cell) (t : Nat) (b : Block) : Block :=
  let b := takeArmBanks t (if b.mode t = 7 then streamArm mem t b else b)
  let first := b.time.abs + 2
  let b := (b.wr (0x5100 + t) 2 1).wr (0x5100 + t) 4 srNONE
  let b := b.setDom t { b.dom t with first := some first, evaluated := first * 32, stops := [], forced := [], placed := false }
  let b := forEach (b.podsOf t) (fun n b => b.setMeas n Meas.reset) b
  let b := forEach (b.podsOf t) armVisit b
  let b := maskArm t b
  let b := forEach (b.unitsOf t) (fun u b => ptuArm u first b) b
  let b := ((if b.driveMode t then stimArm mem t b else b).wr (stimObj t) 3 0).wr (stimObj t) 5 0
  coastedAtArm t b

/-- ARM (R94, R170, R171). -/
def arm (mem : List Host.Cell) (t : Nat) (b : Block) : Nat × Block :=
  let b := forEach (b.podsOf t) abandonPod b
  let st := armStatus b t
  if st = stOK then (st, armAccept mem t b)
  else if armChecks b t = stOK && st = stBUSY then (st, reclaimUnowned b)
  else (st, b)

/-- What frame N + 1 of an arm served in frame N does (R171, R238): the sequencer's counters, timers, width units, trigger stamp
set and level, and the store. -/
def armNext (t : Nat) (b : Block) : Block :=
  let o := 0x5100 + t
  let b := forEach (List.range 8) (fun c b => b.wr (0x5500 + t) (0x19 + c) (b.rd (0x5500 + t) (9 + c))) b
  let d := b.dom t
  let b := b.setDom t { d with timers := [], widths := [], clocks := [] }
  let b := forEach (List.range 6) (fun i b => b.wr (0x5520 + t) (i + 1) 0) b
  storeArm t (b.wr o 3 0)

/-! ### Stopping -/

/-- STOP (R170, R172): after sample 31 of the next frame. -/
def stopCommand (t : Nat) (b : Block) : Nat × Block :=
  match b.dstate t with
  | 0 => (stSTATE, b)
  | 1 => (stOK, requestStop t ((b.time.abs + 1) * 32 + 31) srSOFTWARE (b.time.abs + 1) b)
  | _ => (stBUSY, b)

/-- FORCE_TRIGGER (R166, R170): at sample 0 of the second frame after this. -/
def forceTrigger (t : Nat) (b : Block) : Nat × Block :=
  if b.dstate t = 1 then (stOK, b.setDom t { b.dom t with forced := (b.dom t).forced.filter (· != b.time.abs + 2) ++ [b.time.abs + 2] }) else (stSTATE, b)

/-- FORCED_TRIGGER_EFFECT: the trigger itself acts in the walk of its frame; here every one is cancelled that the domain's last
evaluated sample lies before (R166). -/
def forcedEffect (t : Nat) (b : Block) : Block :=
  let d := b.dom t
  match d.stop with
  | some s => b.setDom t { d with forced := d.forced.filter (fun f => decide (f * 32 ≤ s.pos)) }
  | none => b

/-- A command of the domain control object or of SEQ_CMD: 1 ARM, 2 STOP, 3 FORCE_TRIGGER. -/
def domainCommand (mem : List Host.Cell) (t c : Nat) (b : Block) : Nat × Block :=
  match c with
  | 1 => arm mem t b
  | 2 => stopCommand t b
  | 3 => forceTrigger t b
  | _ => (stRANGE, b)

/-- Everything that the domain has taken has passed its last stage (R19, R29): evaluation has ended, what it sent to TRIG_OUT and,
in a mode that drives, to the drivers has reached the contacts, the frames up to the stop are released, and windows, items and
violations are recorded. -/
def leaveReady (b : Block) (t : Nat) : Bool :=
  match (b.dom t).stop with
  | some s =>
    b.dstate t == 2 && decide (s.pos < (b.dom t).evaluated) &&
    decide (s.pos / 32 + (if b.driveMode t then 9 else 8) ≤ b.time.abs) && (b.stim t).reached.isEmpty &&
    (!(b.store t).live || decide (s.pos / 32 < (b.store t).released) ||
      (match (b.dom t).first with | some f => decide (s.pos < f * 32) | none => true)) &&
    measDone b t && (b.mask t).recs.isEmpty && (b.mask t).found.isEmpty && (b.mask t).amps.isEmpty &&
    (b.ptusOf t).all (fun u => (b.ptu u).buf.isEmpty)
  | none => false

/-- The first word of a header in the store. -/
def headWord (mem : List Host.Cell) (a : Nat) : Nat := ofLe ((List.range 8).map (fun i => memRead mem (a + i)))

/-- LEAVE_STOPPING: the capture is finished and the domain becomes UNARMED (R29, R239, R284, R289). -/
def leaveStopping (mem : List Host.Cell) (t : Nat) (b : Block) : Block :=
  if !leaveReady b t then b
  else
    let b := finishCapture t b
    let b := if (b.mask t).requested then
        rewriteMaskStop t ((b.mask t).protect.map (fun k => headWord (memApply mem b.mops) ((b.store t).slotAddr k 0))) b
      else b
    let b := maskLeave t b
    let b := forEach (b.histsOf t) histStop b
    let b := returnBank owSTAGING t b
    settleFlr (b.wr (0x5100 + t) 2 0)

end Sys2Proof.Machine
end

