-- ==== Sys2Proof/Machine/Flags.lean ====
section
/-! DEFINITION. Sticky flags and event counters (02_conventions.md R49 to R52): the flag that a dictionary subindex holds, the
counter beside it, the field that clears the counter, and the BAR0 registers that show the same flags. -/

namespace Sys2Proof.Machine

/-- The subindex holds a sticky flag: its meaning begins "W1C". -/
def isFlag (idx sub : Nat) : Bool :=
  match odRow? idx sub with
  | some r => r.chk == .w1c
  | none => false

/-- Subindex of a flag's event counter, where it has one: beside the flag, but for the COASTED flags (R350); REVERSED has none
(R528). -/
def flagCounter (idx sub : Nat) : Option Nat :=
  if idx = 0x2104 then some (sub + 8)
  else if idx = 0x2005 && sub = 8 then none
  else some (sub + 1)

/-- The BOOL subindices of access WO that do something else than clear a counter. -/
def notClear (idx sub : Nat) : Bool :=
  (idx == 0x2110 && sub == 0x81) || (idx == 0x2200 && sub == 3) || (idx == 0x3010 && sub == 2) || (idx == 0x3011 && sub == 2) ||
  (idx == 0x4010 && sub == 1) || (0x6400 ≤ idx && idx ≤ 0x6407 && sub == 6) || (0x6A00 ≤ idx && idx ≤ 0x6A0F && sub == 0xA) ||
  (idx == 0x7012 && sub == 9) || (idx == 0x8000 && sub == 2)

/-- The subindex is a clear field (R51); the counter that it clears. -/
def clearedBy (idx sub : Nat) : Option Nat :=
  match odRow? idx sub with
  | some r =>
    if r.acc == .wo && r.ty == .bool && !notClear idx sub then
      some (if idx = 0x2104 then sub - 8 else sub - 1)
    else none
  | none => none

/-- Hardware sets a flag: it is set, and its event counter counts (R49, R51). -/
def setFlag (idx sub : Nat) (b : Block) : Block :=
  match flagCounter idx sub with
  | some c => b.flag idx sub c 1
  | none => b.wr idx sub 1

/-- A write of `v` to a sticky flag takes effect: 1 clears it, 0 has no effect. Where hardware sets the flag in the same fabric
cycle, `hwSet`, the set wins and its event counts (R49, R50). -/
def clearFlag (idx sub v : Nat) (hwSet : Bool) (b : Block) : Block :=
  let b := if v = 1 then b.wr idx sub 0 else b
  if hwSet then setFlag idx sub b else b

/-- A write of `v` to a clear field takes effect: 1 clears the counter. An event in the same fabric cycle counts after it, so that
the counter reads 1 (R51). -/
def clearCounter (idx sub v : Nat) (event : Bool) (b : Block) : Block :=
  match clearedBy idx sub with
  | some c =>
    let b := if v = 1 then b.wr idx c 0 else b
    if event then b.bump 32 idx c 1 else b
  | none => b

/-- Flags of BAR0 registers that show dictionary flags: by offset, the bit, index and subindex. -/
def barFlags (off : Nat) : List (Nat × Nat × Nat) :=
  let run := fun (lo n idx sub : Nat) => (List.range n).map (fun i => (lo + i, idx + i, sub))
  if off = 0x200 then run 0 32 0x3100 7
  else if off = 0x600 then run 0 16 0x5850 4 ++ run 16 16 0x5850 7
  else if off = 0xB00 then run 0 32 0x6810 4
  else if off = 0xB04 then run 0 16 0x6A00 0xE ++ run 16 16 0x6A00 0x11
  else if off = 0xD00 then run 0 32 0x3800 7
  else if 0xD20 ≤ off && off < 0xD40 then
    let t := (off - 0xD20) / 4
    [(8, 0x3A00 + t, 6), (9, 0x3A00 + t, 9)]
  else if off = 0xE04 then [(0, 0x2101, 8), (1, 0x2101, 0xB), (2, 0x2101, 0xE), (3, 0x2110, 0x82)]
  else if off = 0xE08 then (List.range 8).map (fun i => (i, 0x2104, i + 1))
  else if off = 0xF08 then run 0 4 0x2210 0xA ++ [(4, 0x2200, 0xC), (5, 0x2220, 4), (6, 0x2201, 8)]
  else if off = 0x1604 then [(0, 0x7012, 4), (1, 0x7011, 4)]
  else if off = 0x170C then [(0, 0x7080, 3)]
  else if 0x400 ≤ off && off < 0x600 && off % 0x40 = 8 then
    let i := 0x5100 + (off - 0x400) / 0x40
    [(0, i, 6), (1, i, 9), (2, i, 0xC)]
  else if 0x800 ≤ off && off < 0xA00 && off % 0x40 = 0 then
    let t := (off - 0x800) / 0x40
    [(0, 0x6300 + t, 0xB), (1, 0x6400 + t, 2), (2, 0x6300 + t, 0xE)]
  else if 0xC00 ≤ off && off < 0xD00 && off % 0x20 = 4 then
    let i := 0x6840 + (off - 0xC00) / 0x20
    [(0, i, 8), (1, i, 0xB)]
  else []

/-- The bits that a BAR0 register shows of dictionary flags. -/
def flagBits (b : Block) (off : Nat) : Nat := maskOf (((barFlags off).filter (fun x => b.on x.2.1 x.2.2)).map Prod.fst)

/-- A write of BAR0 clears each flag whose bit is 1 (R49). -/
def clearFlagBits (off w : Nat) (b : Block) : Block :=
  forEach ((barFlags off).filter (fun x => bit w x.1)) (fun x b => clearFlag x.2.1 x.2.2 1 false b) b

end Sys2Proof.Machine
end

