-- ==== Sys2Proof/Machine/Power.lean ====
section
/-! DEFINITION. Supply, power states and temperature (17_power_start_up_and_survival.md R503 to R515, R519) and what a power state
does to banks and queues (R398, R431). -/

namespace Sys2Proof.Machine

/-- Power state in force (R527). -/
def Block.ps (b : Block) : Nat := b.rd 0x2002 2
/-- Thermal hold (R519). -/
def Block.thermalHold (b : Block) : Bool := bit (b.rd 0x2005 1) 2

/-- Asleep in thermal hold: every wake source is ignored (R519), so what needs a return to PS0 is not carried out, and the server does not
run (R509, R512). Only a request for PS0 by PWR_CTRL is served. -/
def Block.asleepInHold (b : Block) : Bool := b.thermalHold && b.ps != 0
/-- A store or restore-default writes flash (0x1E03.01). -/
def Block.flashBusy (b : Block) : Bool := b.server.job.isSome

/-- The code with which a request of R512 over the link wakes the module from the state that it is in or enters (R513): in PS4 the link's
own source alone acts. -/
def Block.requestCode (b : Block) : Nat := if b.power.entry.getD b.ps = 4 then 7 else 5

/-! ### Requests (R510) -/

/-- The PCIe link is up. -/
def Block.linkIsUp (b : Block) : Bool := b.pcie.loaded && !b.pcie.perst && b.pcie.cfg.rate != 0

/-- Wake lanes are enabled, and the wake pod belongs to a domain whose mode is not IDLE (R510, R514). -/
def wakePodBusy (b : Block) (n : Nat) : Bool := decide (n < 32) && decide (b.podDom n < 8) && b.mode (b.podDom n) != 0

/-- Status of a power state request. -/
def powerStatus (b : Block) (s : Nat) : Nat :=
  let stim := (List.range 8).any (fun t => b.mode t == 0xA || b.mode t == 0xB || (b.mode t == 8 && b.safeOn t))
  if 5 < s then stRANGE
  else if s = 0 && b.ps = 0 then stOK
  else if s != 0 && !b.armedDoms.isEmpty then stSTATE
  else if 2 ≤ s && stim then stSTATE
  else if 2 ≤ s && (b.rd 0x2200 4 == 2 || b.rd 0x2200 4 == 3) then stSTATE
  else if 3 ≤ s && (List.range 32).any (fun c => (b.chan c).st != 0) then stSTATE
  else if (s = 1 || s = 2) && bit (b.rd 0x2002 3) 1 && wakePodBusy b (b.rd 0x2003 1) then stSTATE
  else if s = 0 && b.thermalHold && 1000 ≤ b.rdI 0x2000 1 then stSTATE
  else if b.flashBusy || b.power.entry.isSome then stBUSY
  else if 2 ≤ s && s ≤ 4 && b.linkIsUp && !bit b.pcie.cfg.aspm 2 && !b.pcie.d3 then stREFUSED
  else stOK

/-! ### Entry (R509, R511) -/

/-- Entry begins: running maintenance activities are abandoned. -/
def beginEntry (s : Nat) (b : Block) : Block :=
  let b := verifyOver (forEach b.heldPods abandonPod b)
  let b := match b.maint.test with | some x => reclaim x.target b | none => b
  { b with power := { b.power with entry := some s } }

/-- A bank under a power state (R398): in PS3 it keeps its contents, in PS4 only a firmware or KEEP bank does, in PS5 none. -/
def bankSleep (s k : Nat) (b : Block) : Block :=
  let x := b.bank k
  if s = 3 || (s = 4 && (x.firmware || x.keep)) then b.setBank k { x with power := 1, waking := false }
  else if s = 4 then
    let b := if x.owner = owRETIRED then b else unown k b
    (b.setBank k { b.bank k with power := 2, clearing := false, waking := false }).zeroBank k
  else (b.setBank k { x with power := 2, waking := false }).zeroBank k

/-- The sample clock stops (R509): the loop is OFF and nothing is left in the pipeline. -/
def stopClock (b : Block) : Block :=
  let b := (b.wr 0x2101 1 0).wr 0x2101 2 0
  { b with packets := [], due := [], vectors := [], casc := [], sync := { b.sync with level := [], from_ := 0, out := [], syncIn := false, trig0 := false, trig1 := false },
           clk := { b.clk with run := false, coast := none, fall := false, jump := none, slew := none } }

/-- The state is in force. -/
def enterState (s : Nat) (b : Block) : Block :=
  let b := ((b.wr 0x2002 2 s).bump 32 0x2002 5 1)
  let b := { b with power := { b.power with entry := none } }
  let b := if s < 2 then b
    else
      let b := forEach (List.range 32) refreshDrivers b
      forEach (List.range 4) (fun p b => if b.linkUp p then ((chainLoss p b).2.wr (portObj p) 2 0).wr (portObj p) 3 0
        else (b.wr (portObj p) 2 0).wr (portObj p) 3 0) b
  let b := if 2 ≤ s && s ≤ 4 && b.linkIsUp then { b with pcie := { b.pcie with link := 3 } } else b
  let b := if s < 3 then b else stopClock (reclaimComplete b)
  let b := if s = 4 then queuesLose (fun k => !((b.bank k).firmware || (b.bank k).keep)) b else b
  if 3 ≤ s then forEach (List.range 64) (bankSleep s) b else b

/-! ### Exit (R513, R515) -/

/-- Sources that act in a state `s` (R513). -/
def wakeAllowed (b : Block) (s code : Nat) : Bool :=
  let en := b.rd 0x2002 3
  match code with
  | 1 => decide (1 ≤ s) && decide (s ≤ 4)
  | 2 => decide (1 ≤ s) && bit en 0
  | 3 => (s == 1 || s == 2) && bit en 1
  | 4 => (s == 1 || s == 2) && bit en 2
  | 5 => decide (1 ≤ s) && decide (s ≤ 3)
  | 6 => s == 4 && bit en 3
  | 7 => decide (1 ≤ s) && decide (s ≤ 4)
  | 8 => s == 5
  | _ => false

/-- A wake source acts: exit begins. While an entry is in progress, a source that acts in the state entered is held; the lowest code of
those held is kept. In thermal hold every source is ignored (R519). -/
def wake (code : Nat) (b : Block) : Block :=
  if b.thermalHold then b
  else match b.power.entry with
  | some s =>
    if wakeAllowed b s code then
      { b with power := { b.power with held := if b.power.held = 0 then code else min b.power.held code } }
    else b
  | none =>
    if !wakeAllowed b b.ps code || b.power.waking then b
    else { b.wr 0x2002 4 code with power := { b.power with waking := true } }

/-- A direction is chosen by a code: 1 rising, 2 falling, 3 either. -/
def chosenEdge (code : Nat) (rise : Bool) : Bool := code == 3 || (code == 1 && rise) || (code == 2 && !rise)

/-- WAKE_LANE: h of a wake lane changes. -/
def wakeLane (l : Nat) (rise : Bool) (b : Block) : Block :=
  let n := l / 16
  if b.rd 0x2003 1 = n && bit (b.rd 0x2003 2) (l % 16) && chosenEdge (bits (b.rd 0x2003 3) (2 * (l % 16)) 2) rise &&
      !wakePodBusy b n then wake 3 b
  else b

/-- In PS1 and PS2 a wake lane is sampled at sample 0 of a frame, on taps RISE and FALL under its lane settings; a change of h in the
direction chosen wakes the module (R514, R77). -/
def wakeSample (tk : Taking) (inp : Option LaneIn) (l : Nat) (b : Block) : Block :=
  let ln := b.lane l
  let set := (inForce tk.abs ln.set ln.pend).1
  let x := ln.held.getD ((ladder b 0 l tk.phys tk.len inp).getD tk.drop (0, 0))
  let h := hystStep (setRise set) (setFall set) ln.h (corrected (setPol set) x).1
  if h = ln.h then b else wakeLane l h (b.setLane l { ln with h := h })

/-- The wake lanes of the wake pod over a new frame (R514). -/
def wakeLanes (tk : Taking) (lanes : List LaneIn) (b : Block) : Block :=
  let n := b.rd 0x2003 1
  if 32 ≤ n || (b.ps != 1 && b.ps != 2) then b
  else forEach (setBits 16 (b.rd 0x2003 2)) (fun m b => wakeSample tk (lanes.find? (fun x => x.lane == 16 * n + m)) (16 * n + m) b) b

/-- A bank at the exit from a sleep (R398): one in RETENTION returns to its requested state, one that was OFF is cleared before use. Accesses
that waited on it when the sleep began are served, or refused where it has lost its owner (R394, R395). -/
def bankBack (k : Nat) (b : Block) : Block :=
  let x := b.bank k
  if x.power = 1 then
    let b := bankOn k b
    if (b.bank k).power = 0 then ringsWoken k b else b
  else
    serveWaitingOps k (if x.power = 2 && x.want != 2 then
      b.setBank k { x with power := x.want, clearing := x.clearing || x.owner == owUNOWNED } else b)

/-- The engines restart (R515, R125), the store is cleared where the HBM was off, the banks return to their requested states. -/
def leaveSleep (b : Block) : Block :=
  let s := b.ps
  let b := if s = 4 || s = 5 then clearAllUnits b else b
  let b := if 3 ≤ s then forEach (List.range 64) bankBack b else b
  let b := ((b.wr 0x2002 2 0).bump 32 0x2002 5 1)
  let b := { b with power := { b.power with waking := false } }
  let b := listenPorts (forEach (List.range 32) refreshDrivers b)
  if s < 3 then b
  else
    let b := forEach ((List.range 64).filter b.engOn) settleEngine b
    { startAcquisition b with power := { b.power with lockWait := true } }

/-- Frames asleep (R515): floor(C × f / 40 MHz), f being the frame tick of the rate in force, which 0x2100.08 gives in mHz. -/
def framesAsleep (rate c : Nat) : Nat := c * rate / (32 * 1000 * 40000000)

/-- WAKE_EXIT: the module is back in PS0; after PS3 or PS4 the frame number resumes by the TCXO cycles counted (R515). -/
def wakeExit (c : Nat) (b : Block) : Block :=
  if !b.power.waking || b.ps = 0 || b.ps = 5 then b
  else
    let s := b.ps
    let b := leaveSleep b
    let b := if s < 3 then b
      else
        let n := framesAsleep (b.rd 0x2100 8) c
        let next := b.time.frame.toNat + 1 + n
        let b := (b.wr 0x2002 6 n).bump 32 0x2011 1 (next / 2 ^ 53)
        { b with clk := { b.clk with run := true, next := some (next % 2 ^ 53) } }
    match b.power.after with
    | some s => beginEntry s { b with power := { b.power with after := none } }
    | none => b

/-- A request that needs PS0 is served as in PS0 (R512): from PS1 and PS2 the module is back at once, from PS3 and PS4 its exit
begins. -/
def needPs0 (code : Nat) (b : Block) : Block :=
  if b.ps = 0 then b
  else
    let b := wake code b
    if b.power.waking && b.ps < 3 then wakeExit 0 b else b

/-- An accepted power state request: PS0 wakes the module, another state is entered, from a state other than PS0 by way of PS0 (R510), which
thermal hold does not allow (R519; DEDUCED, log 49). -/
def powerRequest (s : Nat) (b : Block) : Nat × Block :=
  let st := powerStatus b s
  (st,
    if st != stOK || (s = 0 && b.ps = 0) then b
    else if s = 0 then
      -- an accepted request for PS0 ends thermal hold (R519)
      wake 1 { b.wrBit 0x2005 1 2 false with power := { b.power with after := none } }
    else if b.ps = 0 then beginEntry s b
    else if b.thermalHold then b
    else
      let b := wake 1 { b with power := { b.power with after := some s } }
      if b.power.waking && b.ps < 3 then wakeExit 0 b else b)

/-! ### Temperature (R519, R92) -/

/-- PS3 is entered from a state above it. -/
def holdAsleep (b : Block) : Block := if 3 ≤ b.ps then b else beginEntry 3 (if b.ps = 0 then b else leaveSleep b)

/-- Thermal shutdown (R519): every ARMED domain stops with FAULT, every driver becomes high-impedance, THERMAL is set and counted, and
entry into PS3 begins without the checks of a request; thermal hold holds from then on. A module that is in PS3 or deeper stays there. -/
def thermalShutdown (bytes : List Byte) (b : Block) : Block :=
  let b := forEach (b.armedDoms.filter (fun d => b.dstate d == 1)) faultStop b
  let b := forEach (List.range 32) refreshDrivers (b.wrBit 0x2005 1 2 true)
  let b := emcyEvent 0x4211 1 bytes (b.flag 0x2005 2 3 1)
  holdAsleep { b with power := { b.power with waking := false, after := none } }

/-- TEMPERATURE_MEASURE: the die temperature in 0.1 °C. -/
def temperature (t : Int) (b : Block) : Block :=
  let b := b.wrI 0x2000 1 t
  let b := if b.rdI 0x2000 2 < t then b.wrI 0x2000 2 t else b
  let bytes := toLe 2 (unsigned t 16) ++ [0, 0, 0]
  let warn := bit (b.rd 0x2005 1) 1
  let b := if !warn && 1100 ≤ t then emcyEvent 0x4210 1 bytes (b.wrBit 0x2005 1 1 true)
    else if warn && t ≤ 1050 then b.wrBit 0x2005 1 1 false else b
  let b := forEach (List.range 32) refreshAdvice b
  let b := autoRecal b
  if t < 1250 || b.thermalHold then b else thermalShutdown bytes b

/-! ### Supply (R503, R505) -/

/-- VIN_RANGE_CHANGE: VIN, in mV, leaves or enters the operating range. -/
def vinRange (mv : Nat) (b : Block) : Block :=
  let out := decide (mv < 6000) || decide (40000 < mv)
  let was := bit (b.rd 0x2005 1) 0
  let b := (b.wr 0x2000 3 (satTo 16 mv)).wrBit 0x2005 1 0 out
  if out && !was then
    emcyEvent (if 40000 < mv then 0x3210 else 0x3220) 0 (toLe 2 mv ++ [0, 0, 0]) (b.flag 0x2005 5 6 1)
  else b

/-- The status word PWR_STATUS (R530): the status of the last PWR_CTRL request is a field of BAR0's own. -/
def Block.pwrStatus (b : Block) : Nat :=
  b.bget 0x44 0 * 2 ^ 16 + b.rd 0x2002 4 * 2 ^ 8 + b.ps * 16 + b.rd 0x2001 0

end Sys2Proof.Machine
end

