-- ==== Sys2Proof/Machine/Frame.lean ====
section
/-! DEFINITION. The frame tick: every pipeline stage advances one frame (01_frame_and_flow.md R10 to R20), and what falls due in a
frame is carried out at the latest at its end (log entries 4 and 15). -/

namespace Sys2Proof.Machine

/-! ### Events of a frame that have rows of their own -/

/-- TIMEBASE_WRAP: the frame number has returned to 0 (R40). -/
def timebaseWrap (b : Block) : Block :=
  if !b.time.wrapDue then b
  else
    let b := ({ b with time := { b.time with wrapDue := false } }).bump 32 0x2011 1 1
    eventAll 2 0 0 [b.rd 0x2011 1] b

/-- TIMER_EXPIRED: timer `m` of a domain has reached its preset at a sample that has been resolved (R156). -/
def timerExpired (t m : Nat) (b : Block) : Block :=
  let d := b.dom t
  let x := d.timer m
  if x.due != 0 && !x.expired && x.due < d.evaluated then
    b.setDom t { d with timers := place (fun _ => Timer.reset) d.timers m { x with expired := true } }
  else b

/-- State of a timer: 0 STOPPED, 1 RUNNING, 2 EXPIRED (R178). A timer that reaches its preset in frame F reads EXPIRED from the
resolve of F on (R151). -/
def Block.timerState (b : Block) (t m : Nat) : Nat :=
  let x := (b.dom t).timer m
  if x.due = 0 then 0 else if x.expired then 2 else 1

/-- Samples remaining of a timer: 0 unless it is RUNNING (R178). They are counted from the next position to be evaluated
(DESIGN CHOICE, log entry 45: R178 does not say from which sample). -/
def Block.timerLeft (b : Block) (t m : Nat) : Nat :=
  if b.timerState t m = 1 then ((b.dom t).timer m).due - (b.dom t).evaluated else 0

/-- Whether a trigger output is at its high level at physical sample `i` of the running frame: asserted, or deasserted where bit 4 of
0x5540 makes it active low (R154, R180). Without VIN the contact is high-impedance (R503). -/
def Block.trigOutLevel (b : Block) (o i : Nat) : Option Bool :=
  if b.power.on then some ((b.trigOut o).wave.getD i false != bit (b.rd 0x5540 (o + 1)) 4) else none

/-- TRIG_OUT_PULSE_END: a pulse that has run out its WIDTH ends (R154); `q` is the physical sample that has been reached. -/
def pulseEnd (o q : Nat) (b : Block) : Block :=
  let x := b.trigOut o
  if x.on && x.stopAt ≤ q then b.setTrigOut o { x with on := false } else b

/-! ### The end of the running frame -/

/-- Detector periods whose results must be latched by now. -/
def settleDetectors (b : Block) : Block :=
  forEach (List.range 32) (fun n b =>
    if b.due.any (fun d => d.task == .detectorLatch n && decide (d.by_ ≤ b.time.abs)) then detectorPeriodEnd n b else b) b

/-- Work of the Indigo engines that is due in the running frame: of each stage at most that of two rounds (R121). -/
def settleRounds (b : Block) : Block :=
  let waits := fun (b : Block) (e : Nat) => b.due.any (fun d => isOutputOf e d && decide (d.by_ ≤ b.time.abs))
  forEach (List.range 64) (fun e b => forEach (List.range 6) (fun _ b => if waits b e then indigoOutputAll e b else b) b) b

/-- What the domains have due in the running frame. -/
def settleDomain (t : Nat) (b : Block) : Block :=
  let b := if b.armed t then limitCompare t (forcedEffect t (forEach (List.range 8) (timerExpired t) b)) else b
  settleStim t (holdoffEndBy ((b.time.abs + 1) * 32) t b)

/-- A band-table verify has taken its time (R406, R409). -/
def verifyDone (b : Block) : Block :=
  if (bit (b.rd 0x7010 2) 3 || !b.clk.waits.isEmpty) && b.maint.verifyEnd ≤ b.time.abs then verifyOver b else b

/-- What is due in the running frame and has not been carried out by its own event is carried out (log entry 4). -/
def endOfFrame (b : Block) : Block :=
  let b := indigoSyncReset (timebaseWrap (frameLoad b))
  let b := forEach (List.range 32) syncInEvent b
  let b := settleDetectors (settleRounds b)
  let b := forEach (List.range 32) applyEnd b
  let b := forEach (List.range 32) (fun n b => forEach (List.range 4) (fun _ b => resultsLatch n b) b) b
  let b := forEach (List.range 16) ptuTimeout b
  let b := forEach (List.range 8) settleDomain b
  let b := forEach (List.range 64) fadeEnd b
  let b := forEach (List.range 16) (fun h b => readoutEnd h (readoutStart h b)) b
  sendMessages (clockFallback (verifyDone (settleActivities (autoRecal (ptmTick b)))))

/-! ### The new frame's number and place in time -/

/-- The next frame: its place in the physical sample stream, its number and what a slip or load makes of them (R39, R353, R355,
R359, R515). -/
def nextFrame (b : Block) : Taking × Nat × Block :=
  -- after a sleep the count of frames takes in those that the sleep replaces; a restart begins at a frame 0 that is also S (R113)
  let skip := match b.clk.next with | some n => (n + 2 ^ 53 - b.time.frame.toNat) % 2 ^ 53 | none => 1
  let a := b.time.abs + max 1 skip
  let ends : Block → Nat := fun b => match b.packets with | p :: _ => (if p.abs = b.time.abs then p.voidFrom else 32) | [] => 32
  let whole := ends b
  let b := settleLocal a b
  let b := if skip = 0 then { b with syncAbs := a } else b
  let prev := ends b
  let b := if prev < whole then forEach (List.range 8) (rewindRun (b.time.phys + prev)) b else b
  -- a rise that has been taken at a sample that is now the new frame's is not taken again
  let b := { b with sync := { b.sync with from_ := if prev < whole then b.sync.from_ - prev else 0 } }
  let old := match b.clk.next with | some n => n | none => (b.time.frame.toNat + 1) % 2 ^ 53
  let num := (b.sync.loadAt a).getD old
  let wrap := b.clk.next.isNone && old == 0 && (b.sync.loadAt a).isNone
  let after := b.sync.slipAt (a + 1)
  let voidFrom := if after < 0 then 32 - after.natAbs else 32
  let drop := (b.sync.slipAt a).toNat
  let tk : Taking := { abs := a, phys := b.time.phys + prev, len := drop + voidFrom, drop := drop }
  let b := { b with
    time := { abs := a, frame := BitVec.ofNat 53 num, wrapDue := wrap, phys := tk.phys + drop,
              jumps := if num = (b.numOf b.time.abs + (a - b.time.abs)) % 2 ^ 53 then b.time.jumps else (a, num) :: b.time.jumps }
    clk := { b.clk with next := none } }
  (tk, voidFrom, syncApply a num old b)

/-- Log entries that arose while the clock was stopped take the timestamp of the first frame after it (R524). -/
def stampLog (b : Block) : Block :=
  if b.logWait.isEmpty then b
  else { forEach b.logWait (fun s b => b.wr 0x8002 s b.tsNow) b with logWait := [] }

/-- Stops become known, and domains that were armed in the frame before are set up (R171, R172). -/
def startDomain (t : Nat) (b : Block) : Block :=
  let b := knowStop t b
  if b.armed t && (b.dom t).first == some (b.time.abs + 1) then armNext t b else b

/-! ### Stages F to F+2 -/

/-- The packet of the new frame, before its lanes. -/
def newPacket (tk : Taking) (voidFrom : Nat) (inp : FrameIn) (b : Block) : Block :=
  let t0 := decided b.sync.trig0 tk.len inp.trig0
  let t1 := decided b.sync.trig1 tk.len inp.trig1
  let p : Packet :=
    { abs := tk.abs, num := b.time.frame.toNat, voidFrom := voidFrom, brk := b.sync.slipDue.isSome,
      cut := b.sync.slipDue.isSome || b.sync.loadDue.isSome, phys := b.time.phys,
      trig0 := to32 false (t0.drop tk.drop), trig1 := to32 false (t1.drop tk.drop), lanes := [] }
  { b with packets := p :: b.packets.take 15, sync := { b.sync with trig0 := t0.getLastD b.sync.trig0, trig1 := t1.getLastD b.sync.trig1 } }

/-- Stage F for a pod: its dither setting (R551), then its lanes. -/
def podStage (tk : Taking) (inp : FrameIn) (n : Nat) (b : Block) : Block :=
  let pod := b.pod n
  let d := inForce tk.abs pod.dith pod.dithPend
  let b := b.setPod n { pod with dith := d.1, dithPend := d.2 }
  forEach (List.range 16) (fun m b => stageF b tk d.1 (16 * n + m) (inp.lanes.find? (fun x => x.lane == 16 * n + m))) b

/-- Stages F to F+2 and the Indigo rounds that are complete (R19, R84, R104, R110, R121). -/
def frontEnd (tk : Taking) (voidFrom : Nat) (inp : FrameIn) (b : Block) : Block :=
  let b := forEach (List.range 32) (podStage tk inp) (newPacket tk voidFrom inp b)
  let b := forEach (List.range 512) stageF1 b
  let b := if 2 ≤ tk.abs then forEach (List.range 32) (detectPod (tk.abs - 2)) b else b
  forEach [0, 1, 2] takeX b

/-! ### Stage F+5: the sequencer, and the units that follow it -/

/-- The units of a domain take frame `a` of their lanes: they begin at its first evaluated frame (R185). -/
def ptusFrame (t a : Nat) (b : Block) : Block :=
  let b := if (b.dom t).first == some a then forEach (b.unitsOf t) (fun u b => ptuArm u a b) b else b
  forEach (b.ptusOf t) (fun u b => ptuFrame a u b) b

/-- Frame `a` of a domain is resolved. Where a stop falls into it, the units take no sample after the stop (R184). -/
def resolveDomain (t a : Nat) (b : Block) : Block :=
  let r := resolveFrame t a (ptusFrame t a b)
  match (r.dom t).stop with
  | some s =>
    if s.pos < a * 32 + 31 && (b.dom t).stop != some s then
      let cut := ptusFrame t a (b.setDom t { b.dom t with stops := [s] })
      resolveFrame t a (cut.setDom t { cut.dom t with stops := (b.dom t).stops })
    else r
  | none => r

/-- Positions of frame `a` that a domain evaluates. -/
def evalSpan (b : Block) (t a : Nat) : Option (Nat × Nat) :=
  let d := b.dom t
  match d.first with
  | none => none
  | some f =>
    let lo := max (f * 32) (a * 32)
    let hi := match d.stop with | some s => min s.pos (a * 32 + 31) | none => a * 32 + 31
    if b.armed t && lo ≤ hi then some (lo, hi) else none

/-- Close positions of the segments that have closed between two states of a store, rising. -/
def closesOf (old new : StoreDom) : List Nat :=
  (new.history.filterMap (fun (x : SegSpan) => match x.c with
    | some c => if old.history.any (fun y => y.seq == x.seq && y.c == some c) then none else some c
    | none => none)).reverse

/-- The last evaluated position, once it lies in frame `a` or before. -/
def stopIn (b : Block) (t a : Nat) : Option Nat :=
  match (b.dom t).stop with
  | some s => if s.pos < a * 32 + 32 then some s.pos else none
  | none => none

/-- A window of a domain's unit that still runs ends at a position. -/
def cutWindow (p n : Nat) (b : Block) : Block :=
  let m := b.measUnit n
  if m.start.isSome && m.endDue.isNone then endWindow n p b else b

/-- The measurement units of a domain take frame `a` (R271 to R276): windows also end where their segment closed before the frame
or with the stop. -/
def measureDomain (t a : Nat) (closes : List Nat) (b : Block) : Block :=
  let b := forEach (b.podsOf t) (measureFrame t a (unitSpan b t a) closes.getLast?) b
  let b := if b.rd (0x6800 + t) 1 = 0 then forEach closes (fun c b => forEach (b.podsOf t) (cutWindow c) b) b else b
  match stopIn b t a with
  | some p => forEach (b.podsOf t) (cutWindow p) b
  | none => b

/-- Snapshot boundaries that frame `a` of a domain makes (R282): windows, segments, and the stop, whose boundary is the last. -/
def boundaries (t a : Nat) (closes : List Nat) (b : Block) : Block :=
  let ends := (b.podsOf t).filterMap (fun n => (b.measUnit n).endDue)
  let b := forEach ends (fun p b => boundAll t 1 (p + 1) (stopIn b t a == some p) b) b
  let b := forEach closes (fun c b => boundAll t 2 (c + 1) (stopIn b t a == some c) b) b
  match stopIn b t a with
  | some p =>
    let b := if (b.store t).seg.isSome then boundAll t 2 (p + 1) true b else b
    boundAll t 3 (p + 1) true b
  | none => b

/-- A histogram engine takes frame `a`; with the stop its last interval closes and it no longer accumulates (R278, R282). -/
def histDomain (t a h : Nat) (b : Block) : Block :=
  if !b.accumulates h then b
  else
    let b := match evalSpan b t a with | some (lo, hi) => histFrame a lo hi h b | none => b
    match stopIn b t a with
    | some p =>
      let last := (b.hist h).bounds.filter (fun x => x.1 == p + 1)
      let b := b.setHist h { b.hist h with bounds := (b.hist h).bounds.filter (fun x => decide (p + 1 < x.1)) }
      histStop h (forEach last (fun x b => histBoundary h x.1 true b) b)
    | none => b

/-- A violation that becomes known in the running frame and protects a slot is known before the frame's opens (R289): the limit
comparison that finds it is made at the boundary. Every other comparison is left to LIMIT_COMPARE. -/
def judgeEarly (t : Nat) (b : Block) : Block :=
  let judged := limitCompare t b
  if (b.mask t).protect.isNone && (judged.mask t).protect.isSome then judged else b

/-- Frame `a` of a domain: sequencer, then measurement units, snapshot boundaries and histograms, and the release to the store
(R19). DESIGN CHOICE (log 47): the counts, flags, state and position of the domain's protocol units become readable here, five frames after
the samples; R191 places decision and comparison in stages F + 2 and F + 3 and says of no stage when they can be read. -/
def domainFrame (a t : Nat) (b : Block) : Block :=
  if !b.armed t || (match (b.dom t).first with | some f => decide (a < f) | none => true) then b
  else
    let b := judgeEarly t b
    let old := b.store t
    let b := resolveDomain t a b
    let b := forEach (List.range 8) (timerExpired t) b
    let closes := closesOf old (b.store t)
    let b := if b.recordsMode t then boundaries t a closes (measureDomain t a closes b) else b
    releaseFrame t a (forEach (b.histsOf t) (histDomain t a) b)

/-! ### Store path and contacts -/

/-- Report records of the frame, a frame of readout, and the commits that are due (R19, R277, R281, R291). -/
def storePath (b : Block) : Block :=
  let b := forEach (List.range 16) writeDecode b
  let b := forEach (List.range 16) (fun h b => readoutFrame h (histLate h b)) b
  if b.time.abs < 24 then b
  else forEach (List.range 8) (fun t b =>
    if (b.store t).staged.isEmpty then b else commitUpTo t (b.time.abs - 24) ((b.store t).stagedCount) b) b

/-- Where the pulse of a trigger output that stands at a physical sample ends: WIDTH after the newest assertion up to that sample, else where
the pulse that ran before ends (R154). -/
def pulseEndsAt (x : TrigOut) (w : Nat) (starts : List Nat) (q : Nat) : Nat :=
  match (starts.filter (fun s => decide (s ≤ q))).max? with
  | some s => s + w
  | none => if x.on then x.stopAt else 0

/-- A trigger output over the new frame (R154, R355): every assertion that falls due starts a pulse of WIDTH physical samples, in the
place of one that runs; an instant at a void position moves to the first real sample after it, and the pulse in progress runs on across dropped
samples. -/
def driveTrigOut (tk : Taking) (voidFrom o : Nat) (b : Block) : Block :=
  let x := b.trigOut o
  let w := bits (b.rd 0x5540 (o + 1)) 8 24
  let starts := (x.coming.filter (fun c => c.1 == tk.abs)).map (fun c => tk.phys + tk.drop + min c.2 voidFrom)
  let stopAt := pulseEndsAt x w starts (tk.phys + tk.len)
  b.setTrigOut o { on := decide (tk.phys + tk.len < stopAt) || !starts.isEmpty || (x.on && decide (tk.phys < x.stopAt)), stopAt := stopAt,
                   coming := x.coming.filter (fun c => decide (tk.abs < c.1)),
                   wave := (List.range tk.len).map (fun i => decide (tk.phys + i < pulseEndsAt x w starts (tk.phys + i))) }

/-- The contacts in the new frame: patterns and drivers, trigger outputs. -/
def contacts (mem : List Host.Cell) (tk : Taking) (voidFrom : Nat) (late : List Nat) (b : Block) : Block :=
  let b := forEach ((List.range 8).filter b.driveMode) (driveDomain mem tk late) b
  forEach [0, 1] (fun o b => driveTrigOut tk voidFrom o (pulseEnd o tk.phys b)) b

/-- The pipeline advances one frame (R19). -/
def pipeline (mem : List Host.Cell) (tk : Taking) (voidFrom : Nat) (inp : FrameIn) (b : Block) : Block :=
  let b := drain (frontEnd tk voidFrom inp b)
  let b := forEach (List.range 8) ampCompare (forEach (List.range 8) (fun t b => writeViol t (handEmcy t b)) (forEach (List.range 32) writeMeas b))
  let b := if 5 ≤ tk.abs then forEach (List.range 8) (domainFrame (tk.abs - 5)) b else b
  contacts mem tk voidFrom inp.late (storePath b)

/-- A domain whose STOPPING has reached its bound leaves it (R29). -/
def leaveAtBound (mem : List Host.Cell) (t : Nat) (b : Block) : Block :=
  match (b.dom t).stop with
  | some s => if s.pos / 32 + 32 ≤ b.time.abs then leaveStopping mem t b else b
  | none => b

/-- FRAME_TICK: the frame boundary. In PS1 and PS2 frames count while the datapath stands still (R508, R509). -/
def frameTick (mem : List Host.Cell) (inp : FrameIn) (b : Block) : Block :=
  if !b.clk.run then b
  else
    let b := serveFrame mem inp.bad b
    -- the frame before a sleep has ended; only the wrap that it may have made is still due (R40)
    let r := nextFrame (if b.clk.next.isSome then timebaseWrap b else endOfFrame b)
    let b := marginTick inp.outer <| clockTick (stampLog (syncFrame r.1 inp.sync r.2.2))
    let b := forEach (List.range 8) startDomain b
    -- asleep, the drivers and outputs go on with what they drive (R509); of the frame only its place in the sample stream is kept
    let b := if b.ps = 0 then pipeline mem r.1 r.2.1 inp b
      else contacts mem r.1 r.2.1 inp.late (wakeLanes r.1 inp.lanes (newPacket r.1 r.2.1 inp { b with packets := [] }))
    let b := forEach (List.range 8) (leaveAtBound mem) b
    -- a slip or load that finds no domain armed at its boundary is over at once, so that no domain gets a record of it (R41)
    if b.armedDoms.isEmpty then frameLoad b else b

end Sys2Proof.Machine
end

