-- ==== Sys2Proof/Machine/Writes.lean ====
section
/-! DEFINITION. What an accepted dictionary write does, chapter by chapter, and the range checks of values that are not one
plain range. Every function answers the status of R58 and the block after the write. -/

namespace Sys2Proof.Machine

/-- A served write. -/
abbrev Served := Nat × Block

/-- The subindex holds the value written, extended by its sign where its type has one. -/
def keepValue (idx sub v : Nat) (b : Block) : Block :=
  match odRow? idx sub with
  | some r => if r.ty.isSigned then b.wrI idx sub (signed v (8 * r.ty.size)) else b.wr idx sub v
  | none => b

/-- The value is kept and nothing else happens. -/
def plainWrite (idx sub v : Nat) (b : Block) : Served := (stOK, keepValue idx sub v b)

/-- Answer a status; where it is OK, the effect. -/
def whenOk (st : Nat) (f : Block → Block) (b : Block) : Served := (st, if st = stOK then f b else b)

/-! ### Ranges of values (R56) -/

/-- The value is legal for a subindex whose fields a plain range does not give. -/
def formOk (b : Block) (idx sub v : Nat) : Bool :=
  let page := idx / 256
  if page = 0x52 then (if sub ≤ 4 then termOk v else if sub = 5 || sub = 7 then decide (v < 2 ^ 14) else actionOk v)
  else match idx with
  | 0x5800 => v < 8 || v == 0xFF
  | 0x5540 => decide (1 ≤ v / 256) && bits v 5 3 == 0 && (bits v 0 4 < 8 || bits v 0 4 == 15)
  | 0x7101 => v == 1 || v == 2 || v == 4 || v == 8
  | 0x2240 => forwardOk v
  | 0x6000 => regionStatus b (sub - 1) v != stRANGE
  | _ =>
    if page = 0x39 then decide (v < 64)
    else if page = 0x46 then rankOk v
    else if page = 0x54 then decide (b.rd idx 3 ≤ v)
    else if page = 0x55 then clockWordOk v
    else if page = 0x58 then ptuParamOk (b.rd idx 1) sub v
    else if page = 0x68 then
      let item := bits v 12 4
      bits v 18 14 == 0 && bits v 10 2 == 0 && !((bit v 16 || bit v 17) && (item == 0 || 14 ≤ item))
    else if page = 0x6A then
      (if sub = 2 then decide (v ≤ 6) else decide (4 ≤ v) && (v ≤ 15 || (v == 16 && bit (b.rd idx 5) 1)))
    else true

/-- Checks of RANGE that a chapter makes on a value beside its table: `RWS` and `RW` subindices whose legal values another setting
bounds. -/
def crossOk (b : Block) (idx sub v : Nat) : Bool :=
  let page := idx / 256
  if page = 0x31 && sub = 1 then windowOk v
  else if page = 0x32 then laneSettingOk v
  else if page = 0x38 then (if sub = 1 then levelsOk v else if sub = 3 then idleOk v else true)
  else if page = 0x54 && sub = 3 then decide (v ≤ b.rd idx 4)
  else if 0x5500 ≤ idx && idx < 0x5508 && 9 ≤ sub then decide (v < 2 ^ 48)
  else if 0x6910 ≤ idx && idx < 0x6918 then
    (List.range 4).all (fun i => decide (bits v (8 * i) 4 ≤ bits v (8 * i + 4) 4))
  else if page = 0x6A && sub = 5 then !(b.rd idx 6 == 16 && !bit v 1)
  else if page = 0x48 || page = 0x49 then
    let x := fun (s : Nat) (len : Nat) => if s = sub then (if s = 3 then (v : Int) else signed v len) else b.rdI idx s
    thresholdsOk (x 1 16) (x 2 16) (x 3 16)
  else if idx = 0x2100 && sub ≤ 5 then clockValueOk b.clockCfg sub v
  else if idx = 0x2100 && sub = 6 then decide (v ≤ 3)
  else if idx = 0x2110 && sub ≤ 0x80 then bandOk v
  else if idx = 0x2200 && sub = 1 then decide (1 ≤ v) && decide (v ≤ 0xFFFE)
  else if idx = 0x2220 && sub = 7 then decide (v < 2 ^ 53)
  else if idx = 0x5001 then decide (v ≤ 0xC)
  else if page = 0x51 && sub = 1 then decide (1 ≤ v) && decide (v ≤ 3)
  else if page = 0x46 && sub = 6 then decide (v ≤ 1)
  else if idx = 0x2002 && sub = 1 then decide (v ≤ 5)
  else if idx = 0x6001 && sub = 6 then decide (v < 2 ^ 9)
  else if idx = 0x7012 && sub = 0xA then decide (v < 64)
  else if idx = 0x7081 && sub = 0xA then decide (v < 4)
  else if idx = 0x7001 && sub = 1 then bits v 12 4 == 0 && bits v 6 2 == 0
  else true

/-! ### Device and power (R527, R528) -/

/-- Writes of 0x2000 to 0x20FF. -/
def deviceWrite (idx sub v : Nat) (b : Block) : Served :=
  if idx = 0x2002 && sub = 1 then powerRequest v b
  else if idx = 0x2003 && sub = 1 then
    let st := if (b.ps = 1 || b.ps = 2) && bit (b.rd 0x2002 3) 1 && wakePodBusy b v then stSTATE else stOK
    whenOk st (keepValue idx sub v) b
  else plainWrite idx sub v b

/-! ### Sample clock (R347 to R351) -/

/-- BAND_FACTORY_RELOAD (R331). -/
def bandReload (v : Nat) (b : Block) : Served :=
  if v = 1 then whenOk (bandWriteStatus b none 0) (bandServe none) b else (stOK, b)

/-- Writes of 0x2100 to 0x21FF. -/
def clockWrite (idx sub v : Nat) (b : Block) : Served :=
  if idx = 0x2100 && sub ≤ 5 then whenOk (clockStatus b sub v) (clockConfig sub v) b
  else if idx = 0x2100 then (stOK, refclkSource v b)
  else if idx = 0x2110 && sub ≤ 0x80 then
    whenOk (bandWriteStatus b (some (sub - 1)) v) (bandServe (some (sub - 1, bandOf v))) b
  else if idx = 0x2110 then bandReload v b
  else plainWrite idx sub v b

/-! ### Sync and Sloe chains (R379 to R382) -/

/-- Writes of 0x2200 to 0x22FF. -/
def chainWrite (p : Path) (idx sub v : Nat) (b : Block) : Served :=
  if idx = 0x2200 && sub ≤ 2 then whenOk (if b.inChain then stSTATE else stOK) (keepValue idx sub v) b
  else if idx = 0x2200 then (stOK, b)
  else if 0x2210 ≤ idx && idx < 0x2214 then (stOK, setPortEnable (idx - 0x2210) v b)
  else if idx = 0x2220 && sub ≤ 2 then horizonWrite (sub == 2) (p == .sloe) false v b
  else if idx = 0x2220 then chainLoad v b
  else plainWrite idx sub v b

/-! ### Lanes (R97 to R99) -/

/-- A window word or an input configuration is accepted and starts settling (R70); the step q follows (R68). -/
def windowWrite (n sub v : Nat) (b : Block) : Block :=
  let b := b.wr (0x3100 + n) sub v
  let b := if sub = 1 then
      (b.setPod n { b.pod n with win := v }).wr (0x3100 + n) 5
        (real32 (((winHi v - winLo v : Int) : Rat) / 2000 / 16))
    else setInput n (v == 1) b
  b.wrBit (0x3100 + n) 10 1 true

/-- WINDOW_SETTLED (R70). -/
def windowSettled (n : Nat) (b : Block) : Block :=
  if bit (b.rd (0x3100 + n) 10) 1 then b.wrBit (0x3100 + n) 10 1 false else b

/-- A lane's setting word applies from sample 0 of the second frame after this one (R551). -/
def laneWrite (l v : Nat) (b : Block) : Block :=
  let x := b.lane l
  (b.wr (0x3200 + l / 16) (l % 16 + 1) v).setLane l { x with pend := x.pend ++ [(b.time.abs + 2, v)] }

/-- A pod's dither setting applies to samples taken from the second frame after this one (R72, R551). -/
def ditherWrite (n v : Nat) (b : Block) : Block :=
  let x := b.pod n
  (b.wr (0x3100 + n) 3 v).setPod n { x with dithPend := x.dithPend ++ [(b.time.abs + 2, v)] }

/-- Writes of 0x3000 to 0x37FF. -/
def probeWrite (idx sub v : Nat) (b : Block) : Served :=
  if idx ≤ 0x3011 then
    if sub = 2 then
      let probe := idx == 0x3010
      if v = 1 then whenOk (activityStatus b probe) (requestActivity probe) b else (stOK, b)
    else plainWrite idx sub v b
  else if idx / 256 = 0x32 then (stOK, laneWrite (16 * (idx - 0x3200) + (sub - 1)) v b)
  else if sub ≤ 2 then (stOK, windowWrite (idx - 0x3100) sub v b)
  else if sub = 3 then (stOK, ditherWrite (idx - 0x3100) v b)
  else plainWrite idx sub v b

/-! ### Stimulus (R321 to R323) -/

/-- A pattern bit is due on the lanes of a pod: the running pattern of its domain drives it (R305). -/
def patternOn (b : Block) (n : Nat) : Bool :=
  match (b.stim (b.podDom n)).run with
  | some r => b.podDom n < 8 && (b.patDesc (b.podDom n) r.pat).pods.contains n
  | none => false

/-- Idle levels are written: the rest state follows on the enabled lanes whose field changes and on which no pattern bit is due
(R305). -/
def idleWrite (n v : Nat) (b : Block) : Block :=
  let old := b.rd (driveObj n) 3
  let b := b.wr (driveObj n) 3 v
  forEach (List.range 16) (fun m b =>
    let l := 16 * n + m
    if b.driverOn l && bits old (2 * m) 2 != bits v (2 * m) 2 && !patternOn b n then
      b.setDriver l { b.driver l with rest := bits v (2 * m) 2 }
    else b) b

/-- Short-off lanes are re-enabled (R319). -/
def driverReenable (n v : Nat) (b : Block) : Block :=
  let off := b.rd (driveObj n) 5
  refreshDrivers n (b.wr (driveObj n) 5 (maskOf ((setBits 16 off).filter (fun m => !bit v m))))

/-- Writes of 0x3800 to 0x3FFF. -/
def stimWrite (idx sub v : Nat) (b : Block) : Served :=
  if idx / 256 = 0x38 then
    let n := idx - 0x3800
    match sub with
    | 2 => (stOK, refreshDrivers n (b.wr idx 2 v))
    | 3 => (stOK, idleWrite n v b)
    | 6 => (stOK, driverReenable n v b)
    | _ => plainWrite idx sub v b
  else plainWrite idx sub v b

/-! ### Ochre and Indigo (R136 to R141) -/

/-- A synchronising reset is requested (R123): it takes effect at the start of the second frame after this one. -/
def syncRequest (v : Nat) (b : Block) : Block := if v % 2 = 1 then requestSync (b.time.abs + 2) b else b

/-- A coefficient or a tap count of bank `k` is written, unless the bank is active or in a fade (R129). -/
def coefWrite (k e idx sub v : Nat) (b : Block) : Served :=
  whenOk (if bankLocked b k e then stSTATE else stOK) (fun b => refreshEngine e (keepValue idx sub v b)) b

/-- Writes of 0x4000 to 0x4FFF. -/
def indigoWrite (idx sub v : Nat) (b : Block) : Served :=
  if idx = 0x4010 then (stOK, syncRequest v b)
  else if idx / 256 = 0x46 then
    let e := idx - 0x4600
    match sub with
    | 1 | 2 | 4 => (stOK, engineWrite e sub v b)
    | 6 => (stOK, bankRequest e v b)
    | 9 => coefWrite 0 e idx sub v b
    | 10 => coefWrite 1 e idx sub v b
    | _ => plainWrite idx sub v b
  else if idx / 256 = 0x47 then coefWrite ((idx - 0x4700) / 64) ((idx - 0x4700) % 64) idx sub v b
  else plainWrite idx sub v b

/-! ### Domains (R25, R33, R175 to R180) -/

/-- A write of 0x5540: not while the current or the new owner is armed (R180). -/
def trigOutWrite (sub v : Nat) (b : Block) : Served :=
  let armed := fun (t : Nat) => decide (t < 8) && b.armed t
  whenOk (if armed (bits (b.rd 0x5540 sub) 0 4) || armed (bits v 0 4) then stSTATE else stOK) (keepValue 0x5540 sub v) b

/-- Writes of 0x5000 to 0x57FF. -/
def domainWrite (mem : List Host.Cell) (idx sub v : Nat) (b : Block) : Served :=
  if idx = 0x5000 then podAssign (sub - 1) v b
  else if idx = 0x5001 then modeWrite (sub - 1) v b
  else if idx = 0x5540 then trigOutWrite sub v b
  else if idx / 256 = 0x51 && sub = 1 then domainCommand mem (idx - 0x5100) v b
  else plainWrite idx sub v b

/-! ### Protocol term units (R197 to R200) -/

/-- The rule of R182 for a unit that moves from one domain to another. -/
def moveStatus (b : Block) (now new : Nat) : Nat :=
  let armed := fun (t : Nat) => decide (t < 8) && b.armed t
  if armed now || armed new then stSTATE else stOK

/-- A unit's standard is written: options and parameters take the standard's defaults (R198). -/
def standardWrite (u v : Nat) (b : Block) : Block :=
  let d := ptuDefaults v
  let b := (((b.wr (ptuObj u) 1 v).wr (ptuObj u) 6 d.1).wr (ptuObj u) 7 d.2.1).wr (ptuObj u) 8 d.2.2
  if v = 5 || v = 6 then b else b.wr (ptuStat u) 0xA 0

/-- Writes of 0x5800 to 0x5FFF. -/
def ptuWrite (idx sub v : Nat) (b : Block) : Served :=
  if idx = 0x5800 then whenOk (moveStatus b (b.rd idx sub) v) (keepValue idx sub v) b
  else if 0x5810 ≤ idx && idx < 0x5820 && sub = 1 then (stOK, standardWrite (idx - 0x5810) v b)
  else plainWrite idx sub v b

/-! ### Store (R242 to R247) -/

/-- A domain that drives patterns is armed: the stimulus region is not to be touched (R243). -/
def stimulusBusy (b : Block) : Bool :=
  b.armedDoms.any (fun t => b.mode t == 0xA || b.mode t == 0xB || b.mode t == 8)

/-- A write of a region's allocation (R204, R243). -/
def regionWrite (r v : Nat) (b : Block) : Served :=
  let st := regionStatus b r v
  whenOk (if st = stRANGE then st else if r = 8 && stimulusBusy b then stSTATE else st) (setRegion r v) b

/-- Clear the regions of a mask (R208, R243). -/
def regionsClear (v : Nat) (b : Block) : Served :=
  let rs := setBits 9 v
  let st := if rs.any (fun r => if r = 8 then stimulusBusy b else b.armed r) then stSTATE else stOK
  whenOk st (fun b => forEach rs clearRegion b) b

/-- A write of the high watermark is evaluated at once (R235). -/
def hwmWrite (t v : Nat) (b : Block) : Block :=
  let was := hwmCond b t
  evalHwm t was (b.wr (0x6100 + t) 8 v)

/-- The peak becomes the fill in force (R235). -/
def peakReset (t v : Nat) (b : Block) : Block := if v % 2 = 1 then b.wr (0x6400 + t) 5 (b.rd (0x6400 + t) 1) else b

/-- Writes of 0x6000 to 0x67FF. -/
def storeObjWrite (idx sub v : Nat) (b : Block) : Served :=
  if idx = 0x6000 then regionWrite (sub - 1) v b
  else if idx = 0x6001 then regionsClear v b
  else if idx / 256 = 0x61 && sub = 8 then (stOK, hwmWrite (idx - 0x6100) v b)
  else if idx / 256 = 0x64 then (stOK, peakReset (idx - 0x6400) v b)
  else plainWrite idx sub v b

/-! ### Measurements and masks (R296 to R300) -/

/-- Writes of 0x6800 to 0x6FFF. -/
def measureWrite (idx sub v : Nat) (b : Block) : Served :=
  if 0x6840 ≤ idx && idx < 0x6848 && sub = 3 then
    let t := idx - 0x6840
    (stOK, driveChanged t (b.driveMode t) (b.wr idx 3 v))
  else if idx / 256 = 0x6A && sub = 1 then whenOk (moveStatus b (b.rd idx 1) v) (keepValue idx sub v) b
  else if idx / 256 = 0x6A && sub = 0xA then (if v = 1 then snapshotCommand (idx - 0x6A00) b else (stOK, b))
  else plainWrite idx sub v b

/-! ### Banks, maintenance and queues (R408 to R410, R435, R436) -/

/-- A handover request in the layout of BANK_HANDOVER (R389). -/
def handoverWord (w : Nat) (b : Block) : Served := handover (bits w 0 6) (bits w 16 16) (bits w 8 4) b

/-- The parts of a control request in the layout of BANK_CTRL that its caller asks for (R397, R403): power, KEEP, reclaim. The
requester acts for Host. -/
def bankControl (w : Nat) (b : Block) : Served :=
  let k := bits w 0 6
  let st := bankCtrlStatus b k w
  let st := if st != stOK then st else if bit w 8 then reclaimStatus b k owHOST else stOK
  whenOk st (fun b =>
    let b := if bit w 11 then setPower k (bits w 12 2) b else b
    let b := if bit w 9 then setKeep k (bit w 10) b else b
    if bit w 8 && (b.bank k).borrowed then reclaim k b else b) b

/-- RETIREMENT_RESET: the retirement map in flash is cleared (R410). -/
def retirementReset (v : Nat) (b : Block) : Block :=
  if v % 2 = 1 then { b with flash := { b.flash with retired := 0 } } else b

/-- A test of a named bank is requested for the next interval (R401, R410). -/
def bankTestRequest (k : Nat) (idle : Bool) (b : Block) : Served :=
  whenOk (if 64 ≤ k then stRANGE else if borrowable b k idle then stOK else stSTATE)
    (fun b => showActivities { b with maint := { b.maint with testReqs := b.maint.testReqs ++ [k] } }) b

/-- Flags and counters of the selected queue are cleared (R436). -/
def queueFlagsClear (q v : Nat) (b : Block) : Block :=
  let x := b.queue q
  b.setQueue q { x with gap := x.gap && !bit v 0, reset := x.reset && !bit v 1 }
def queueCountsClear (q v : Nat) (b : Block) : Block :=
  let x := b.queue q
  b.setQueue q { x with drops := if bit v 0 then 0 else x.drops, resets := if bit v 1 then 0 else x.resets }

/-- A request word of the dictionary: its reserved bits are refused (R56) after the access checks of the request (R60, R397, R417,
R434). -/
def selectedWrite (reserved : Bool) (r : Served) (b : Block) : Served :=
  if reserved && r.1 != stACCESS then (stRANGE, b) else r

/-- A write of 0x7010 (R409): new values apply from the next interval, pass or test, so a scrub pass that runs goes on; newly enabled
automatic recalibration makes its requests (R405). -/
def maintWrite (idx sub v : Nat) (b : Block) : Block :=
  let on := b.maint.scrubbing || (bit (b.rd 0x7010 1) 0 && b.ready)
  let b := keepValue idx sub v { b with maint := { b.maint with scrubbing := on } }
  showActivities (if sub = 1 then autoRecal b else b)

/-- Writes of 0x7000 to 0x7FFF. -/
def bankWrite (p : Path) (idx sub v : Nat) (b : Block) : Served :=
  let q := b.selected p
  match idx, sub with
  | 0x7001, 1 => handoverWord v b
  | 0x7001, _ => selectedWrite (bits v 14 18 != 0 || bits v 6 2 != 0) (bankControl v b) b
  | 0x7010, _ => (stOK, maintWrite idx sub v b)
  | 0x7012, 9 => (stOK, retirementReset v b)
  | 0x7012, _ => bankTestRequest v (b.bankIdle v) b
  | 0x7081, 1 => (stOK, { b with selectors := place (fun _ => 0) b.selectors (pathNo p) v })
  | 0x7081, 2 => selectedWrite (bits v 29 1 != 0 || bits v 22 2 != 0) (qcfgWrite q v b) b
  | 0x7081, 3 => selectedWrite (bits v 27 5 != 0 || bits v 21 3 != 0 || bits v 9 3 != 0) (qendWrite q v b) b
  | 0x7081, 7 => (stOK, queueFlagsClear q v b)
  | 0x7081, _ => (stOK, queueCountsClear q v b)
  | 0x7100, _ => (stOK, pumpAll (keepValue idx sub v b))
  | _, _ => plainWrite idx sub v b

/-! ### Diagnostics (R529) -/

/-- The log becomes empty (R524). -/
def logClear (v : Nat) (b : Block) : Block :=
  if v % 2 = 1 then
    let b := forEach (List.range 64) (fun i b => (b.wr 0x8001 (i + 1) 0).wr 0x8002 (i + 1) 0) b
    { b.wr 0x8000 1 0 with logWait := [] }
  else b

/-- Writes of 0x8000 to 0x8FFF. -/
def diagWrite (idx sub v : Nat) (b : Block) : Served :=
  if sub = 2 then (stOK, logClear v b) else plainWrite idx sub v b

/-! ### All of them -/

/-- The write that the owning chapter serves, once the checks of access, type, range and owning domain have passed. -/
def chapterWrite (p : Path) (mem : List Host.Cell) (idx sub v : Nat) (b : Block) : Served :=
  if isFlag idx sub then (stOK, clearFlag idx sub v false b)
  else if (clearedBy idx sub).isSome then (stOK, clearCounter idx sub v false b)
  else match idx / 4096 with
  | 2 =>
    match idx / 256 with
    | 0x20 => deviceWrite idx sub v b
    | 0x21 => clockWrite idx sub v b
    | _ => chainWrite p idx sub v b
  | 3 => if idx < 0x3800 then probeWrite idx sub v b else stimWrite idx sub v b
  | 4 => indigoWrite idx sub v b
  | 5 => if idx < 0x5800 then domainWrite mem idx sub v b else ptuWrite idx sub v b
  | 6 => if idx < 0x6800 then storeObjWrite idx sub v b else measureWrite idx sub v b
  | 7 => bankWrite p idx sub v b
  | 8 => diagWrite idx sub v b
  | _ => plainWrite idx sub v b

end Sys2Proof.Machine
end

