-- ==== Sys2Proof/Machine/Dict.lean ====
section
/-! DEFINITION. The object dictionary's server (16_object_dictionary.md R472 to R480): rights and locks, the order of checks, abort
codes, live values, reads and writes, and the images of R495 to R498. -/

namespace Sys2Proof.Machine

/-! ### Rights and locks (R475, R476) -/

/-- A path may read, or write, an object. -/
def pathRight (p : Path) (idx sub : Nat) (write : Bool) : Bool :=
  if idx = 0x7001 then p == .host && write
  else if idx = 0x1E04 then p != .can && !write
  else if write && ((idx == 0x1E01 && sub == 4) || idx == 0x7080 || idx / 256 == 0x71 ||
      (idx == 0x7081 && (sub == 2 || sub == 3 || sub == 7 || sub == 0xA))) then p == .host
  else true

/-- A path's writes are locked (R476). -/
def pathLocked (b : Block) (p : Path) (idx : Nat) : Bool :=
  let outside := !(0x1000 ≤ idx && idx < 0x2000)
  match p with
  | .host => false
  | .can => bit (b.rd 0x1E01 4) 0 && outside
  | .sloe => bit (b.rd 0x1E01 4) 1 && outside

/-! ### Abort codes (R480) -/

/-- The abort code of a status where no row of R480 says more. -/
def abortOf (st : Nat) : Nat :=
  match st with
  | 0 => 0
  | 1 => 0x08000021
  | 2 => 0x06090030
  | 3 => 0x08000022
  | 4 => 0x08000020
  | 5 => 0x06010000
  | 6 => 0x06070010
  | 7 => 0x06040047
  | 8 => 0x06060000
  | _ => 0x06040043

/-- An answer with a status and its plain abort code. -/
def Resp.plain (st : Nat) : Resp := { status := st, abort := abortOf st, data := [] }
/-- A refusal with its own abort code. -/
def Resp.refuse (st ab : Nat) : Resp := { status := st, abort := ab, data := [] }

/-- Subindices that take no write as things stand (R60): horizon and chain mask on a member but for its master's copy (R373), configuration and endpoints of the
fixed queues (R434). -/
def fixedNow (b : Block) (p : Path) (idx sub : Nat) : Bool :=
  match idx, sub with
  | 0x2220, 1 => b.isMember && p != .sloe
  | 0x2220, 2 => b.isMember && p != .sloe
  | 0x7081, 2 => decide (b.selected p ≤ 1)
  | 0x7081, 3 => b.selected p == 0
  | _, _ => false

/-- The checks of existence, with read or write class, path right and lock, in the order of R480. -/
def accessCheck (b : Block) (p : Path) (idx sub : Nat) (write : Bool) : Option Resp :=
  match odRow? idx sub with
  | none => some (Resp.refuse stACCESS (if odIndexExists idx then 0x06090011 else 0x06020000))
  | some r =>
    if !write && r.acc == .wo then some (Resp.refuse stACCESS 0x06010001)
    else if write && (r.acc == .ro || r.acc == .const) then some (Resp.refuse stACCESS 0x06010002)
    else if !pathRight p idx sub write || (write && pathLocked b p idx) then some (Resp.refuse stACCESS 0x06010000)
    else if write && fixedNow b p idx sub then some (Resp.plain stACCESS)
    else none

/-- The check of a written value's length (R473). -/
def typeCheck (r : OdRow) (len : Nat) : Option Resp :=
  if r.ty.size < len then some (Resp.refuse stTYPE 0x06070012)
  else if len < r.ty.size then some (Resp.refuse stTYPE 0x06070013)
  else none

/-- Smallest and largest value that R199 states of a unit's parameter A (sub 7) or B (sub 8), by standard. -/
def ptuParamRange (std sub : Nat) : Nat × Nat :=
  match sub, std with
  | 7, 2 => (0, 1023)
  | 7, 3 => (3200, 2 ^ 32)
  | 7, 4 => (320000, 2 ^ 32)
  | 7, 7 | 7, 8 => (1, 2 ^ 32)
  | 8, 4 => (40000, 2 ^ 32)
  | _, _ => (0, 2 ^ 32)

/-- The abort code of a value out of range: above a stated maximum, below a stated minimum, or neither. -/
def rangeAbort (b : Block) (r : OdRow) (idx sub v : Nat) : Nat :=
  let between := fun (lo hi : Nat) => if hi < v then 0x06090031 else if v < lo then 0x06090032 else 0x06090030
  match r.chk with
  | .rng lo hi => between lo hi
  | .rngOr lo _ _ => if v < lo then 0x06090032 else 0x06090030
  | .rngI neg hi =>
    let i := signed v (8 * r.ty.size)
    if (hi : Int) < i then 0x06090031 else if i < -(neg : Int) then 0x06090032 else 0x06090030
  | _ =>
    if r.ty = .bool then 0x06090031
    else if idx = 0x5001 then between 0 0xC
    else if idx = 0x2100 then
      (match sub with
      | 1 => between 10000000 250000000
      | 3 => between 0 1
      | 4 => between 4800000000000 5200000000000
      | 6 => between 0 3
      | _ => between 0 2)
    else if idx = 0x2220 && sub = 1 then between (hMin b.dmax) 4096
    else if idx = 0x2002 && sub = 1 then between 0 5
    else if idx = 0x7012 && sub = 0xA then between 0 63
    else if idx / 256 = 0x51 && sub = 1 then between 1 3
    else if idx / 256 = 0x46 && sub = 6 then between 0 1
    else if idx / 256 = 0x6A && sub = 2 then between 0 6
    else if idx / 256 = 0x6A && sub = 6 then between 4 16
    else if idx = 0x7101 then between 1 8
    else if idx / 128 = 0xA8 && sub = 4 then between (b.rd idx 3) 0xFFFFFFFF
    else if idx / 256 = 0x58 && (sub = 7 || sub = 8) then
      let r := ptuParamRange (b.rd idx 1) sub
      between r.1 r.2
    else 0x06090030

/-- The value is in range (R56, R473, R480). -/
def valueOk (b : Block) (r : OdRow) (idx sub v : Nat) : Bool :=
  (match r.chk with
   | .any => true
   | .rng lo hi => decide (lo ≤ v) && decide (v ≤ hi)
   | .rngOr lo hi x => (decide (lo ≤ v) && decide (v ≤ hi)) || v == x
   | .rngI neg hi => let i := signed v (8 * r.ty.size); decide (-(neg : Int) ≤ i) && decide (i ≤ hi)
   | .mask m => v &&& m == v
   | .w1c => true
   | .form => formOk b idx sub v) &&
  (r.ty != .bool || decide (v ≤ 1)) && (r.ty != .real || !isNaN32 v) && crossOk b idx sub v

/-! ### Owning domains (R96, R135, R174, R198, R241, R295, R320, R382) -/

/-- The owning domain of a subindex of access RWS; 8 or more where it has none, as for a pod that belongs to no domain. -/
def owningDomain (b : Block) (idx sub : Nat) : Nat :=
  let lo := idx % 256
  match idx / 256 with
  | 0x22 => idx - 0x2230
  | 0x31 | 0x32 | 0x38 => b.podDom lo
  | 0x39 | 0x52 | 0x53 | 0x54 => lo / 16
  | 0x46 => b.podDom (lo / 2)
  | 0x55 => lo % 16
  | 0x58 => if idx = 0x5800 then 0xFF else b.ptuDom (lo % 16)
  | 0x60 => sub - 1
  | 0x68 => if lo < 0x10 then lo else if lo < 0x30 then b.podDom (lo - 0x10) else if lo < 0x50 then lo - 0x40 else (lo - 0x50) / 16
  | 0x69 => lo % 16
  | 0x6A => if sub = 1 then 0xFF else b.rd idx 1
  | 0x50 => 0xFF
  | _ => lo

/-- The write is refused because the owning domain is armed (R96). -/
def ownerArmed (b : Block) (r : OdRow) (idx sub : Nat) : Bool :=
  r.acc == .rws && decide (owningDomain b idx sub < 8) && b.armed (owningDomain b idx sub)

/-! ### Values as read -/

/-- Decimal digits of a number, as characters. -/
def digits (n : Nat) : List Byte := (toString n).toList.map (fun c => BitVec.ofNat 8 c.toNat)

/-- The node ID in force (R494). -/
def Block.nodeId (b : Block) : Nat := b.rd 0x1E01 1

/-- Text of a VISIBLE_STRING (R500, R553). -/
def textOf (idx : Nat) : List Byte :=
  match idx with
  | 0x1008 => "ULUBO".toList.map (fun c => BitVec.ofNat 8 c.toNat)
  | 0x1009 => digits Config.dieRevision.toNat
  | _ => (List.range (Config.versionLength.toNat + 1)).map Config.versionChar

/-- A subindex whose value the server takes from where it lives, at the moment of the read. -/
def liveValue (b : Block) (p : Path) (idx sub : Nat) : Option Nat :=
  let q := b.selected p
  if 0x4400 ≤ idx && idx < 0x4600 then
    let l := idx - 0x4400
    (match sub with | 5 => some (b.liveUpper l) | 6 => some (b.liveLower l) | 7 => some (b.liveSum l) | _ => none)
  else if 0x4800 ≤ idx && idx < 0x4A00 then
    let l := idx - 0x4800
    (match sub with | 7 => some (512 * (l % 8)) | 8 => some l | _ => none)
  else if 0x3400 ≤ idx && idx < 0x3420 && 0 < sub then
    some (unsigned (clampI (-5000) 5000 (Config.residualSkew (16 * (idx - 0x3400) + sub - 1)).toInt) 16)
  else if 0x5510 ≤ idx && idx < 0x5518 then
    let t := idx - 0x5510
    (if sub = 0x11 then some ((List.range 8).map (fun m => b.timerState t m * 4 ^ m)).sum
     else if 9 ≤ sub then some (b.timerLeft t (sub - 9)) else none)
  else if 0x5850 ≤ idx && idx < 0x5860 then (if sub = 1 then some (b.ptuState (idx - 0x5850)) else none)
  else match idx, sub with
  | 0x1001, _ => some b.errorRegister
  | 0x1014, _ => some (0x80 + b.nodeId)
  | 0x1018, 1 => some Config.vendorId.toNat
  | 0x1018, 2 => some (match b.part with | .h48 => 0x12048 | .h24 => 0x12024)
  | 0x1018, 3 => some (Config.dieRevision.toNat * 2 ^ 16 + Config.firmwareRevision.toNat)
  | 0x1018, 4 => some Config.serialNumber.toNat
  | 0x1E01, 3 => some b.power.straps
  | 0x1E03, 1 => some (b2n b.flashBusy)
  | 0x1E10, 5 => some b.server.fwd.length
  | 0x2000, 4 => some (Config.inputPower b.time.abs (b.rd 0x1E10 1)).toNat
  | 0x2101, 5 => if b.rd 0x2101 1 = 0 then none else some (Config.phaseError b.time.abs (b.rd 0x1E10 1)).toNat
  | 0x2000, 5 => some b.flash.hours
  | 0x2000, 6 => some b.flash.hoursVin
  | 0x2000, 7 => some b.flash.colds
  | 0x2006, 2 => some b.alertCauses
  | 0x2010, 1 => some b.time.frame.toNat
  | 0x2200, 7 => if b.inChain then none else some (b.rd 0x2200 1)
  | 0x5002, 1 => some b.fullLanes
  | 0x5002, 2 => some b.fullLimit
  | 0x6001, 1 => some b.installed
  | 0x6001, 3 => some b.freeUnits
  | 0x6001, 4 => some b.budgetLimit
  | 0x6001, 5 => some b.budgetUsed
  | 0x7000, 1 => some ((List.range 64).filter (fun k => (b.bank k).owner == owUNOWNED)).length
  | 0x7000, 2 => some ((List.range 64).filter (fun k => (b.bank k).owner == owRETIRED)).length
  | 0x7000, 3 => some (maskOf ((List.range 64).filter (fun k => (b.bank k).owner == owUNOWNED)))
  | 0x7000, 4 => some (maskOf ((List.range 64).filter (fun k => (b.bank k).owner == owRETIRED)))
  | 0x7000, 5 => some (maskOf ((List.range 64).filter (fun k => (b.bank k).firmware)))
  | 0x7002, 0 => none
  | 0x7002, k => some (b.bank (k - 1)).stateWord
  | 0x7080, 2 => some b.queuesOn
  | 0x7081, 1 => some q
  | 0x7081, 2 => some (b.queue q).cfg
  | 0x7081, 3 => some (b.queue q).ends
  | 0x7081, 4 => some (b.qUnread (popKey q))
  | 0x7081, 5 => some (b.qPackets (popKey q))
  | 0x7081, 6 => some (b.qOcc q)
  | 0x7081, 7 => some (b2n (b.queue q).reset * 2 + b2n (b.queue q).gap)
  | 0x7081, 8 => some (b.queue q).drops
  | 0x7081, 9 => some (b.queue q).resets
  | 0x7100, 1 => some b.pcie.cfg.rate
  | 0x7100, 2 => some b.linkWidth
  | 0x7100, 3 => some (b2n b.pcie.cfg.flit)
  | 0x7100, 4 => some (if b.pcie.d3 then 3 else 0)
  | 0x7100, 5 => some (b2n b.pcie.cfg.bme)
  | 0x7100, 7 => some b.channelsOn
  | 0x2110, k => if 1 ≤ k && k ≤ 0x80 then some (b.band (k - 1)).word else none
  | _, _ => none

/-- The stored image of the copy in use (R501): empty where none is. -/
def imageOctets (b : Block) (off len : Nat) : List Byte :=
  if b.rd 0x1E03 2 = 0 then []
  else
    let n := (Config.imageLength (b.rd 0x1E03 3)).toNat + 1
    (List.range (min len (n - off))).map (fun i => Config.imageOctet (b.rd 0x1E03 3) (off + i))

/-- The octets of a value as read. -/
def valueOctets (b : Block) (p : Path) (r : OdRow) (idx sub off len : Nat) : List Byte :=
  match r.ty with
  | .str => textOf idx
  | .domain => imageOctets b off len
  | ty => toLe ty.size ((liveValue b p idx sub).getD (b.rd idx sub))

/-- A READ (R474): `off` and `len` count for a DOMAIN. -/
def dictRead (p : Path) (idx sub off len : Nat) (b : Block) : Resp :=
  match accessCheck b p idx sub false, odRow? idx sub with
  | some x, _ => x
  | none, some r => { status := stOK, abort := 0, data := valueOctets b p r idx sub off len }
  | none, none => Resp.plain stACCESS

/-! ### Images (R495, R496, R498) -/

/-- The image holds a subindex (R496). -/
def stored (r : OdRow) (idx : Nat) : Bool :=
  (r.acc == .rw || r.acc == .rws) && r.chk != .w1c && !(idx == 0x1E01 && r.a == 4) && idx != 0x7001 && idx != 0x7080 && idx != 0x7081 &&
    idx / 256 != 0x71 && idx != 0x1010 && idx != 0x1011

/-- The key is of the communication group. -/
def commKey (k : Nat) : Bool := decide (k / 256 < 0x2000)

/-- The values in force that the image holds and that differ from their defaults. -/
def storedValues (b : Block) : List (Nat × Word) :=
  let band := (b.clk.bands.filter (fun x => x.2 != fusedBand x.1)).map (fun x => (odKey 0x2110 (x.1 + 1), BitVec.ofNat 64 x.2.word))
  (b.regs.filter (fun x => match odRow? (x.1 / 256) (x.1 % 256) with
    | some r => stored r (x.1 / 256)
    | none => false)) ++ band

/-- The image in use: that of the copy that 0x1E03.02 names. -/
def imageInUse (b : Block) : Option Image :=
  match b.rd 0x1E03 2 with
  | 1 => b.flash.copyA
  | 2 => b.flash.copyB
  | _ => none

/-- The product code (R500). -/
def Block.product (b : Block) : Nat := match b.part with | .h48 => 0x12048 | .h24 => 0x12024

/-- Start the background write of an image (R495): into the copy that is not in use, numbered above both. -/
def startFlash (comm app : Option (List (Nat × Word))) (p : Path) (back : ReplyTo) (idx sub : Nat) (b : Block) : Block :=
  let top := fun (x : Option Image) => match x with | some i => i.seq | none => 0
  let img : Image := { seq := (max (top b.flash.copyA) (top b.flash.copyB) + 1) % 2 ^ 32, version := 1, product := b.product,
                       crc := Config.imageCrc ((max (top b.flash.copyA) (top b.flash.copyB) + 1) % 2 ^ 32), comm := comm, app := app }
  { b with server := { b.server with job := some { toA := b.rd 0x1E03 2 != 1, img := img, path := p, back := back, idx := idx, sub := sub } } }

/-- A write of 0x1010 (R495) or of 0x1011 (R498): the answer is none where it comes when the flash write ends. -/
def imageWrite (p : Path) (back : ReplyTo) (idx sub v : Nat) (b : Block) : Option Resp × Block :=
  if b.flashBusy then (some (Resp.plain stBUSY), b)
  else if v != (if idx = 0x1010 then 0x65766173 else 0x64616F6C) then (some (Resp.refuse stREFUSED 0x08000020), b)
  else
    let old := imageInUse b
    let was := fun (f : Image → Option (List (Nat × Word))) => old.bind f
    let now := storedValues b
    let comm := if idx = 0x1010 then some (now.filter (fun x => commKey x.1)) else none
    let app := if idx = 0x1010 then some (now.filter (fun x => !commKey x.1)) else none
    (none, startFlash (if sub = 3 then was (·.comm) else comm) (if sub = 2 then was (·.app) else app) p back idx sub b)

/-- FLASH_WRITE_END: the image is in its copy and in use, or the write has failed (R495, R496). Answers the job and its status. -/
def flashEnd (ok : Bool) (b : Block) : Option (FlashJob × Nat) × Block :=
  match b.server.job with
  | none => (none, b)
  | some j =>
    let b := { b with server := { b.server with job := none } }
    let st := if ok then stOK else stHW
    let b := b.wr 0x1E03 6 st
    let b := if !ok then postError 0xF 7 j.sub j.idx 0 false b
      else
        let b := if j.toA then { b with flash := { b.flash with copyA := some j.img } } else { b with flash := { b.flash with copyB := some j.img } }
        let b := (b.wr 0x1E03 2 (if j.toA then 1 else 2)).wr 0x1E03 3 j.img.seq
        if j.idx = 0x1010 then b.bump 32 0x1E03 7 1 else b
    (some (j, st), b)

/-! ### Writes -/

/-- A write of 1 to 0x2200.03 (R367): the answer comes when the discovery is complete or refused. -/
def discoveryWrite (p : Path) (back : ReplyTo) (b : Block) : Option Resp × Block :=
  let st := discoveryStatus b []
  if st != stOK then (some (Resp.plain st), b)
  else (none, { b.wr 0x2200 4 1 with chain := { b.chain with asked := some { was := b.rd 0x2200 4, path := p, back := back } } })

/-- A WRITE (R474): the checks in the order of R60, then the owning chapter. No answer: it comes later (R495). -/
def dictWrite (p : Path) (back : ReplyTo) (mem : List Host.Cell) (idx sub : Nat) (data : List Byte) (b : Block) : Option Resp × Block :=
  match accessCheck b p idx sub true, odRow? idx sub with
  | some x, _ => (some x, b)
  | none, none => (some (Resp.plain stACCESS), b)
  | none, some r =>
    match typeCheck r data.length with
    | some x => (some x, b)
    | none =>
      let v := ofLe data
      if !valueOk b r idx sub v then (some (Resp.refuse stRANGE (rangeAbort b r idx sub v)), b)
      else if ownerArmed b r idx sub then (some (Resp.plain stSTATE), b)
      else if idx = 0x1010 || idx = 0x1011 then imageWrite p back idx sub v b
      else if idx = 0x2200 && sub = 3 && v = 1 then discoveryWrite p back b
      else
        let r' := chapterWrite p mem idx sub v b
        (some (if r'.1 = stRANGE then Resp.refuse stRANGE (rangeAbort b r idx sub v) else Resp.plain r'.1), r'.2)

/-! ### Serving (R477, R512, R517) -/

/-- Objects that a FAILED module still serves on the CAN path (R517). -/
def failedServes (p : Path) (idx : Nat) : Bool :=
  p == .can && ((0x1000 ≤ idx && idx < 0x2000) || (0x2000 ≤ idx && idx < 0x2100) || (0x8000 ≤ idx && idx < 0x9000))

/-- The CAN FD port sends: it is enabled, its polarity is established, and it is not bus-off (R493, R502, R521). -/
def Block.canSends (b : Block) : Bool := b.rd 0x1E20 1 != 0 && b.rd 0x2005 0xA != 0 && b.rd 0x1E20 8 != 2

/-- The path reaches the server: it stands still in PS4 and PS5 (R509); on the CAN path the port takes part in transfers: it may send, has
started and is not STOPPED (R491, R492, R502, R521). -/
def pathHears (b : Block) (p : Path) : Bool :=
  decide (b.ps < 4) && !b.asleepInHold && (p != .can || (b.canSends && b.rd 0x1E20 7 != 0 && b.rd 0x1E20 7 != 4))

/-- A discovery runs (R367): the request that asked for it is not complete, so the server serves no other (R477). -/
def serverBusy (b : Block) : Bool := b.chain.asked.isSome || b.rd 0x2200 4 == 1

/-- The server serves a request of the path now: it serves one at a time. -/
def serverHears (b : Block) (p : Path) : Bool := pathHears b p && !serverBusy b

/-- What stands before the server's own checks: a module that is starting is BUSY, a FAILED one answers ERR_HW (R517). -/
def notServing (b : Block) (p : Path) (idx : Nat) : Option Resp :=
  match b.rd 0x2001 0 with
  | 1 => none
  | 2 => if failedServes p idx then none else some (Resp.plain stHW)
  | _ => some (Resp.plain stBUSY)

/-- The module returns to PS0 before a request that needs it (R512, R513): a write outside 0x1000 to 0x1FFF and 0x2000 to 0x20FF, any
request in PS3 and any CAN frame for the node. Where it arises in PS0 while an entry is in progress, the wake is held and the request served at
once. The TCXO cycles of a sleep that ends here are a free value. -/
def awake (code : Nat) (b : Block) : Block :=
  if b.ps = 5 then b
  else if b.ps = 0 then (if b.power.entry.isSome then wake code b else b)
  else
    let b := wake code b
    if !b.power.waking then b
    else
      let c := b.fresh
      wakeExit c.1.toNat c.2

/-- A dictionary request wakes the module. -/
def dictWakes (b : Block) (p : Path) (idx : Nat) (write : Bool) : Bool :=
  p == .can || b.ps == 3 || (write && !((0x1000 ≤ idx && idx < 0x2000) || (0x2000 ≤ idx && idx < 0x2100)))

/-- Serve one request: what stands before, the wake, the request counted (0x1E10.01), the checks and the effect. No answer: it comes
later. An ERR_HW posts its ERROR record (R59). -/
def serve (p : Path) (idx sub : Nat) (write : Bool) (f : Block → Option Resp × Block) (b : Block) : Option Resp × Block :=
  match notServing b p idx with
  | some x => (some x, if x.status = stHW then postError 0xF 7 sub idx 0 false b else b)
  | none => f ((if dictWakes b p idx write then awake 5 b else b).bump 32 0x1E10 1 1)

/-- Serve a READ. -/
def serveRead (p : Path) (idx sub off len : Nat) (b : Block) : Option Resp × Block :=
  serve p idx sub false (fun b => (some (dictRead p idx sub off len b), b)) b

/-- Serve a WRITE. -/
def serveWrite (p : Path) (back : ReplyTo) (mem : List Host.Cell) (idx sub : Nat) (data : List Byte) (b : Block) : Option Resp × Block :=
  serve p idx sub true (dictWrite p back mem idx sub data) b

/-- The answer of a request that arrives as a command of the path itself; on the CAN path it leaves as the abort or the response of the
transfer. -/
def answered (p : Path) (r : Option Resp × Block) : Block :=
  match r.1 with
  | some x =>
    let b := r.2.answer x
    if p = .can then b.emit (.answer .can 0 x.status x.abort x.data) else b
  | none => r.2

/-- A dictionary write that a command of the table makes. -/
def dictCommand (p : Path) (mem : List Host.Cell) (idx sub : Nat) (data : List Byte) (b : Block) : Block :=
  if serverHears b p then answered p (serveWrite p .path mem idx sub data b) else b

/-- The value of a dictionary write with the size of its subindex. -/
def valueData (idx sub v : Nat) : List Byte :=
  match odRow? idx sub with
  | some r => toLe r.ty.size v
  | none => toLe 4 v

/-- A dictionary write of a number. -/
def dictPut (p : Path) (mem : List Host.Cell) (idx sub v : Nat) (b : Block) : Block := dictCommand p mem idx sub (valueData idx sub v) b

end Sys2Proof.Machine
end

