-- ==== Sys2Proof/Machine/Server.lean ====
section
/-! DEFINITION. The mailbox and its responses, forwarding along a chain (16_object_dictionary.md R481 to R489), the CAN FD port, NMT and
emergency messages (R490 to R494, R521, R523). -/

namespace Sys2Proof.Machine

/-! ### Responses (R483, R485) -/

/-- The words of a response packet. -/
def responseWords (server tag idx sub : Nat) (x : Resp) : List Nat :=
  let n := x.data.length
  (server % 65536 * 2 ^ 48 + tag % 65536 * 2 ^ 32 + idx % 65536 * 2 ^ 16 + sub % 256 * 2 ^ 8 + x.status) ::
    (x.abort * 2 ^ 32 + n) :: leToWords ((n + 7) / 8) x.data

/-- The Control core as producer and consumer. -/
def coreAgent : Agent := { cls := .controlCore, inst := 0 }

/-- Free slots of the response ring. -/
def responseRoom (b : Block) : Nat := (b.queue q0Response).slots - b.qOcc q0Response

/-- A response packet enters the response ring, or waits in the server until the ring has 2,051 free slots (R485). -/
def sendResponse (ws : List Nat) (b : Block) : Block :=
  if b.server.wait.isEmpty && decide (2051 ≤ responseRoom b) then pushPacket q0Response coreAgent ws b
  else { b with server := { b.server with wait := b.server.wait ++ [ws] } }

/-- Responses that wait enter as room appears. -/
def flushResponses (b : Block) : Block :=
  let ws := b.server.wait
  forEach ws sendResponse { b with server := { b.server with wait := [] } }

/-- A response that a member keeps (R488): those of the last 64 forwarded requests of each master. -/
def keepResponse (master no : Nat) (ws : List Nat) (b : Block) : Block :=
  let mine := (b.server.kept.filter (fun k => k.master == master)).take 63
  let rest := b.server.kept.filter (fun k => k.master != master)
  { b with server := { b.server with kept := { master := master, no := no, words := ws } :: mine ++ rest } }

/-- Words leave toward the master along the tree. -/
def towardMaster (ws : List Nat) (b : Block) : Block := b.emit (.sloe (b.rd 0x2200 9) ws)

/-- To whom an answer on the CAN path goes (R491): over the SDO channel under its COB-ID, else to the USDO client by its node ID. -/
def Block.sdoTag (b : Block) (client : Option Nat) : Nat := client.getD (0x580 + b.nodeId)

/-- A response goes back where its request came from. -/
def respond (p : Path) (back : ReplyTo) (idx sub : Nat) (x : Resp) (b : Block) : Block :=
  let b := b.answer x
  match back with
  | .path => b.emit (.answer p 0 x.status x.abort x.data)
  | .sdo client => b.emit (.answer p (b.sdoTag client) x.status x.abort x.data)
  | .mailbox tag => sendResponse (responseWords (b.rd 0x2200 1) tag idx sub x) b
  | .forwarded master no tag =>
    let ws := responseWords (b.rd 0x2200 1) tag idx sub x
    towardMaster ws (keepResponse master no ws b)
  | .nowhere => b

/-- Respond, unless the answer comes later. -/
def respondTo (p : Path) (back : ReplyTo) (idx sub : Nat) (r : Option Resp × Block) : Block :=
  match r.1 with
  | some x => respond p back idx sub x r.2
  | none => r.2

/-! ### Requests (R482, R484) -/

/-- A request packet taken apart. -/
structure Request where
  target : Nat
  tag : Nat
  idx : Nat
  sub : Nat
  op : Nat
  off : Nat
  len : Nat
  items : Nat
  data : List Byte
  deriving DecidableEq, Repr

/-- The request that the items of a packet spell. -/
def requestOf (ws : List Nat) : Request :=
  let w0 := ws.getD 0 0
  let w1 := ws.getD 1 0
  { target := bits w0 48 16, tag := bits w0 32 16, idx := bits w0 16 16, sub := bits w0 8 8, op := bits w0 0 8,
    off := bits w1 32 32, len := bits w1 0 32, items := ws.length, data := (wordsToLe (ws.drop 2)).take (bits w1 0 32) }

/-- The type of the object, where it exists. -/
def Request.ty (q : Request) : Option OdType := (odRow? q.idx q.sub).map (·.ty)

/-- The first failing check of a request's form, checks 2 to 5 of R484; 0 where none fails. -/
def formStatus (q : Request) : Nat :=
  let domain := q.ty == some .domain
  let other := q.ty.isSome && !domain
  if q.op != 1 && q.op != 2 then stRANGE
  else if q.items != 2 + (if q.op = 2 then (q.len + 7) / 8 else 0) then stTYPE
  else if 16384 < q.len || (q.len = 0 && (q.op = 2 || domain)) then stRANGE
  else if other && (q.off != 0 || (q.op = 1 && q.len != 0)) then stTYPE
  else stOK

/-- The answer to a request whose form fails: the LENGTH of R482 lies from 1 to 16,384 (R480, R484). -/
def formAnswer (q : Request) : Resp :=
  if formStatus q = stRANGE && (q.op = 1 || q.op = 2) then Resp.refuse stRANGE (if 16384 < q.len then 0x06090031 else 0x06090032)
  else Resp.plain (formStatus q)

/-- A request that has passed the checks of its form is served. -/
def serveRequest (p : Path) (back : ReplyTo) (mem : List Host.Cell) (q : Request) (b : Block) : Block :=
  respondTo p back q.idx q.sub
    (if q.op = 1 then serveRead p q.idx q.sub q.off q.len b else serveWrite p back mem q.idx q.sub q.data b)

/-- Check 6 of R484: the status of a request that names another module (R489). -/
def forwardStatus (b : Block) (target : Nat) : Nat :=
  let chain := b.rd 0x2200 4
  if !b.isMaster then stACCESS
  else if (chain != 2 && chain != 3) || !b.chain.found.any (fun m => m.id == target) || 8 ≤ b.server.fwd.length then stREFUSED
  else stOK

/-- Words leave toward a member of the tree, over the port through which it is reached (R487). -/
def towardMember (target : Nat) (ws : List Nat) (b : Block) : Block :=
  match b.chain.found.find? (fun m => m.id == target) with
  | some m => if b.linkUp m.port then b.emit (.sloe m.port ws) else b
  | none => b

/-- A request is numbered, kept until its response, and sent (R487, R488). -/
def forward (target : Nat) (ws : List Nat) (b : Block) : Block :=
  let n := b.server.fwdNo
  towardMember target ws { b with server := { b.server with fwd := b.server.fwd ++ [{ no := n, target := target, words := ws }], fwdNo := n + 1 } }

/-- Pop the request ring until an END item: the items and the tags of the last. -/
def popRequest : Nat → Block → (List Nat × Nat) × Block
  | 0, b => (([], 0), b)
  | n + 1, b =>
    match qPop 0 b with
    | (some x, b) =>
      if bit x.tags 0 then (([x.data], x.tags), b)
      else let r := popRequest n b; ((x.data :: r.1.1, r.1.2), r.2)
    | (none, b) => (([], 0), b)

/-- MALFORMED (R484). -/
def malformed (b : Block) : Block := b.flag 0x1E10 2 3 1

/-- MAILBOX_REQUEST: the server takes the next request packet of Q0, where it may (R484, R485, R509). -/
def mailboxRequest (mem : List Host.Cell) (b : Block) : Block :=
  let b := flushResponses b
  if !b.ready || !serverHears b .host || !b.server.wait.isEmpty || responseRoom b < 2051 || b.qPackets 0 = 0 then b
  else
    match qCheck 0 b with
    | (false, b) => b
    | (true, b) =>
      let r := popRequest (b.qUnread 0) b
      let b := qRelease 0 r.2
      if bit r.1.2 1 then malformed b
      else
        let q := requestOf r.1.1
        let st := formStatus q
        let own := q.target = 0 || q.target = b.rd 0x2200 1
        if st != stOK then respond .host (.mailbox q.tag) q.idx q.sub (formAnswer q) (b.bump 32 0x1E10 1 1)
        else if own then serveRequest .host (.mailbox q.tag) mem q b
        else
          let fs := forwardStatus b q.target
          if fs != stOK then respond .host (.mailbox q.tag) q.idx q.sub (Resp.plain fs) (b.bump 32 0x1E10 1 1)
          else forward q.target r.1.1 b

/-! ### Forwarded requests (R487, R488) -/

/-- SLOE_DICT_REQUEST: a member serves a forwarded request of a master that names it, or returns the kept response of one it has served. -/
def sloeRequest (mem : List Host.Cell) (master no : Nat) (ws : List Nat) (b : Block) : Block :=
  if !b.parentUp || 4 ≤ b.ps then b
  else
    let q := requestOf ws
    -- what is meant for a module below goes on along the tree (R487)
    if q.target != 0 && q.target != b.rd 0x2200 1 then towardMember q.target ws b
    else match b.server.kept.find? (fun k => k.master == master && k.no == no) with
    | some k => towardMaster k.words b
    | none =>
      let back := ReplyTo.forwarded master no q.tag
      let st := formStatus q
      -- one whose response is still to come is not served again (R488)
      if (match b.server.job with | some j => j.back == back | none => false) then b
      else if st != stOK then respond .sloe back q.idx q.sub (formAnswer q) (b.bump 32 0x1E10 1 1)
      else serveRequest .sloe back mem q b

/-- FORWARDED_RESPONSE: a member's response reaches the master, which pushes it unchanged; on its way a member passes it on (R487). -/
def forwardedResponse (no : Nat) (ws : List Nat) (b : Block) : Block :=
  if !b.isMaster then (if b.parentUp then towardMaster ws b else b)
  else if b.server.fwd.any (fun f => f.no == no) then
    sendResponse ws { b with server := { b.server with fwd := b.server.fwd.filter (fun f => f.no != no) } }
  else b

/-- FORWARD_RETRANSMIT: the route of a pending request has returned. -/
def forwardRetransmit (no : Nat) (b : Block) : Block :=
  match b.server.fwd.find? (fun f => f.no == no) with
  | some f => towardMember f.target f.words b
  | none => b

/-- At a rediscovery: a pending request whose member has started cold since it was first sent is answered ERR_STATE (R488). -/
def forwardsLost (b : Block) : Block :=
  let gone := fun (f : Forward) => b.chain.found.any (fun m => m.id == f.target && decide (f.no < m.coldBefore))
  let lost := b.server.fwd.filter gone
  let b := { b with server := { b.server with fwd := b.server.fwd.filter (fun f => !gone f) } }
  forEach lost (fun f b =>
    let q := requestOf f.words
    respond .host (.mailbox q.tag) q.idx q.sub (Resp.plain stSTATE) b) b

/-- FLASH_WRITE_END: the response of the store or restore-default leaves (R495). -/
def flashWriteEnd (ok : Bool) (b : Block) : Block :=
  match flashEnd ok b with
  | (some (j, st), b) => respond j.path j.back j.idx j.sub (Resp.plain st) b
  | (none, b) => b

/-! ### The CAN FD port (R490 to R494) -/

/-- The controller runs (R509). -/
def Block.canRuns (b : Block) : Bool := decide (b.ps < 4)

/-- The port joins the bus: boot-up message, and PRE-OPERATIONAL (R492, R521). -/
def bootUp (b : Block) : Block :=
  let b := b.wr 0x1E20 7 0x7F
  if b.canSends then { b.emit (.can (0x700 + b.nodeId) [0]) with canPort := { b.canPort with bootSent := true } }
  else { b with canPort := { b.canPort with bootSent := false } }

/-- A boot-up message that has waited for the bus is sent. -/
def lateBootUp (b : Block) : Block :=
  if b.canSends && !b.canPort.bootSent && b.rd 0x1E20 7 != 0 then
    { b.emit (.can (0x700 + b.nodeId) [0]) with canPort := { b.canPort with bootSent := true } }
  else b

/-- The node ID in force (R494): the straps, or the stored one when they read 0. -/
def nodeIdNow (b : Block) : Nat := if b.power.straps = 0 then b.rd 0x1E01 2 else b.power.straps

/-- Bit timing and termination as last written (R490, R502). -/
def Block.writtenTiming (b : Block) : CanTiming :=
  { nominal := b.rd 0x1E20 2, data := b.rd 0x1E20 3, nominalPoint := b.rd 0x1E20 4, dataPoint := b.rd 0x1E20 5,
    termination := b.rd 0x1E20 6 != 0 }

/-- Time quanta of 25 ns in a bit of the nominal rate and of the data phase; without bit-rate switch the nominal ones (R490, R502). -/
def CanTiming.quanta (x : CanTiming) : Nat × Nat :=
  let n := [320, 160, 80, 40].getD x.nominal 40
  (n, [n, 40, 20, 10, 8, 5].getD x.data n)

/-- A sample point of so many per cent is realised to the nearest of `n` quanta, the earlier one on a tie (R490). -/
def samplePoint (n percent : Nat) : Nat := (2 * n * percent + 99) / 200

/-- The sample points of the two phases, in quanta of their bit (R490). -/
def CanTiming.samplePoints (x : CanTiming) : Nat × Nat :=
  (samplePoint x.quanta.1 x.nominalPoint, samplePoint x.quanta.2 x.dataPoint)

/-- Transmitter delay compensation is used from 2 Mb/s in the data phase (R490). -/
def CanTiming.compensated (x : CanTiming) : Bool := decide (2 ≤ x.data)

/-- The termination is connected (R533, R539). -/
def Block.canTerminated (b : Block) : Bool := b.power.on && b.canPort.timing.termination

/-- What was written before a reset of communication, the node ID and the bit timing, takes effect (R490, R492, R494); the
termination is that of 0x1E20.06 as it then stands (R539). -/
def takeComm (written b : Block) : Block :=
  let b := b.wr 0x1E01 1 (nodeIdNow written)
  { b with canPort := { b.canPort with timing := { written.writtenTiming with termination := b.writtenTiming.termination } } }

/-- CAN polarity at a reset of communication (R521): the mode written takes effect; NORMAL and SWAPPED are in force at once, AUTO
begins to listen where no polarity is in force, and counts its frames afresh. -/
def polarityReset (b : Block) : Block :=
  let m := b.rd 0x2005 9
  let b := { b with canPort := { b.canPort with mode := m, normal := 0, swapped := 0 } }
  if m = 1 || m = 2 then b.wr 0x2005 0xA m else b

/-- The values of an image's group replace those in force: the defaults where the image holds none (R492, R497). -/
def reloadComm (b : Block) : Block :=
  let vals := (imageInUse b).bind (·.comm) |>.getD []
  let isComm := fun (k : Nat) => match odRow? (k / 256) (k % 256) with
    | some r => commKey k && stored r (k / 256)
    | none => false
  let b := { b with regs := dropKeys isComm b.regs }
  forEach vals (fun x b => if isComm x.1 then { b with regs := place odDefault b.regs x.1 x.2 } else b) b

/-- Reset of communication, and of the node (R492): the communication group is reloaded; the bit timing, the node ID and the polarity
mode that were written before take effect (log entry 14), open transfers end, and the device enters PRE-OPERATIONAL with a boot-up
message. -/
def nmtReset (b : Block) : Block :=
  let b := bootUp (polarityReset (takeComm b (reloadComm b)))
  { b with canPort := { b.canPort with sessions := [] } }

/-- An NMT command reaches the node: it wakes it from PS1 to PS3 (R513). -/
def nmtCommand (f : Block → Block) (b : Block) : Block :=
  if !b.canRuns || b.rd 0x1E20 1 = 0 || b.rd 0x1E20 7 = 0 then b else f (awake 5 b)

/-- HEARTBEAT (R491, R492): the NMT state, at the producer time. -/
def heartbeat (b : Block) : Block :=
  if b.rd 0x1017 0 = 0 || b.rd 0x1E20 7 = 0 || !b.canRuns || !b.canSends then b
  else b.emit (.can (0x700 + b.nodeId) [BitVec.ofNat 8 (b.rd 0x1E20 7)])

/-- EMCY_TRANSMIT (R493): the oldest message of the queue leaves, once the inhibit time has passed; every further field is 0. -/
def emcyTransmit (b : Block) : Block :=
  match b.emcy with
  | m :: rest =>
    if !b.canRuns || !b.canSends || b.rd 0x1E20 7 = 4 || b.rd 0x1E20 7 = 0 then b
    else ({ b with emcy := rest }).emit (.can (0x80 + b.nodeId)
      (toLe 2 m.code ++ toLe 1 m.err ++ m.bytes.take 5 ++ List.replicate Config.emcyFurther.toNat 0))
  | [] => b

/-- The port takes part in transfers (R477, R491, R492, R521). -/
def canHears (b : Block) : Bool := serverHears b .can

/-- Open transfers without that of a client. -/
def sessionEnd (client : Option Nat) (b : Block) : Block :=
  { b with canPort := { b.canPort with sessions := b.canPort.sessions.filter (· != client) } }

/-- A transfer is aborted by the transfer protocol itself: it was never accepted and has had no effect (R480). -/
def sdoAbort (client : Option Nat) (code : Nat) (b : Block) : Block :=
  (sessionEnd client b).emit (.answer .can (b.sdoTag client) 0 code [])

/-- A transfer finds a session: its own, the one of the SDO channel, or one of four with different USDO clients (R491). -/
def sessionFree (b : Block) (client : Option Nat) : Bool :=
  client.isNone || b.canPort.sessions.contains client || decide ((b.canPort.sessions.filter (·.isSome)).length < 4)

/-- A segment of an open transfer arrives: of the open ones it is now the last to have had one. -/
def sessionHeard (client : Option Nat) (b : Block) : Block :=
  let b := sessionEnd client b
  { b with canPort := { b.canPort with sessions := b.canPort.sessions ++ [client] } }

/-- A request that the CAN path has accepted is served, or waits until the one being served is complete (R477). -/
def canServe (mem : List Host.Cell) (x : CanWait) (b : Block) : Block :=
  if serverBusy b || !b.server.later.isEmpty then { b with server := { b.server with later := b.server.later ++ [x] } }
  else respondTo .can (.sdo x.client) x.idx x.sub
    (if x.write then serveWrite .can (.sdo x.client) (memApply mem b.mops) x.idx x.sub x.data b else serveRead .can x.idx x.sub 0 0 b)

/-- The requests that have waited are served in their order (R477). -/
def serveLater (mem : List Host.Cell) (b : Block) : Block :=
  forEach b.server.later (canServe mem) { b with server := { b.server with later := [] } }

/-- CAN_SDO_REQUEST: a frame for the node, which wakes it (R513). A transfer of the CAN path that is whole is served (R477, R491); one that
is not is kept open or aborted (R480). A broadcast is ignored. A DOMAIN has no right on this path. A further segment of a transfer that
is not open is an unknown command (PRESUMED, log entry 14). -/
def canRequest (mem : List Host.Cell) (x : SdoTransfer) (idx sub : Nat) (data : List Byte) (b : Block) : Block :=
  if !pathHears b .can || x.broadcast then b
  else
  let b := awake 5 b
  if !sessionFree b x.client || 16384 < data.length then sdoAbort x.client 0x05040005 b
  else match x.part with
    | .toggle => sdoAbort x.client 0x05030000 b
    | .specifier => sdoAbort x.client 0x05040001 b
    | .begins => sessionHeard x.client b
    | .further => if b.canPort.sessions.contains x.client then sessionHeard x.client b else sdoAbort x.client 0x05040001 b
    | .whole => canServe mem { client := x.client, write := x.write, idx := idx, sub := sub, data := data } (sessionEnd x.client b)

/-- SDO_SEGMENT_TIMEOUT: the open transfer that has been longest without a segment, which is the first to reach 1 s, is aborted (R480,
R491). -/
def segmentTimeout (b : Block) : Block :=
  match b.canPort.sessions with
  | client :: _ => if pathHears b .can then sdoAbort client 0x05040000 b else sessionEnd client b
  | [] => b

/-- A polarity becomes established (R521): NORMAL 1 or SWAPPED 2. -/
def establish (pol : Nat) (b : Block) : Block :=
  if b.rd 0x2005 0xA = pol then b
  else
    let b := b.wr 0x2005 0xA pol
    let b := if pol = 2 then emcyEvent 0x8100 7 [1, 0, 0, 0, 0] (b.bump 32 0x2005 0xB 1) else b
    lateBootUp b

/-- CAN_POLARITY_MEASURE (R521): V(CAN_H) − V(CAN_L), in mV, in the dominant state of a start of frame. DEDUCED (log 14): the port listens
from when it comes up with the mode in force, a stored one included, so a frame of a cold start before that counts for none. -/
def polarityMeasure (mv : Int) (b : Block) : Block :=
  if b.canPort.mode != 0 || !b.canRuns || b.rd 0x1E20 7 = 0 then b
  else
    let n := if 900 ≤ mv then min 8 (b.canPort.normal + 1) else 0
    let s := if mv ≤ -900 then min 8 (b.canPort.swapped + 1) else 0
    let b := { b with canPort := { b.canPort with normal := n, swapped := s } }
    if n = 8 then establish 1 b else if s = 8 then establish 2 b else b

/-- CAN_BUS_STATE_CHANGE (R502, R523): the bus state with its two error counters. -/
def busState (st tx rx : Nat) (b : Block) : Block :=
  if 2 < st || !b.canRuns then b
  else
    let was := b.rd 0x1E20 8
    let b := ((b.wr 0x1E20 8 st).wr 0x1E20 9 (satTo 8 tx)).wr 0x1E20 0xA (satTo 8 rx)
    if st = 1 && was != 1 then emcyEvent 0x8120 7 (toLe 1 (satTo 8 tx) ++ toLe 1 (satTo 8 rx) ++ [0, 0, 0]) b
    else if was = 2 && st != 2 then emcyEvent 0x8140 7 (mbytes 0) b
    else b

end Sys2Proof.Machine
end

