-- ==== Sys2Proof/Machine/Regs.lean ====
section
/-! DEFINITION. BAR0: the registers' values as read, the registers latched by a read of their LO half, and writes with their
rejection (02_conventions.md R49 to R55, 15_pcie_endpoint.md R439, R441, and the BAR0 tables of every chapter). -/

namespace Sys2Proof.Machine

/-! ### Rejected writes (R53, R55) -/

/-- An ERR_HW of a BAR0 write posts its ERROR record (R59), and is the endpoint's Uncorrectable Internal Error (R466; DEDUCED, log 12).
The class names a dictionary index and subindex (R269); which they are for a register the spec does not state: both are free values (log
entry 10). -/
def rejectHw (b : Block) : Block :=
  let r := b.fresh
  let d := r.2.fresh
  aerSet 22 (postError 0xF 7 (d.1.toNat % 256) (r.1.toNat % 65536) 0 false d.2)

/-- A BAR0 write is rejected with a status: REJECT, its counter, LAST_STATUS and the offset. -/
def rejectWrite (off st : Nat) (b : Block) : Block :=
  let b := if st = stHW then rejectHw b else b
  (((b.bset 0x120 0 1).bset 0x120 1 (satTo 16 (b.bget 0x120 1 + 1))).bset 0x120 2 st).bset 0x124 0 (off % 2 ^ 26)

/-- Status with which every BAR0 write is rejected while the module is not ready (R439, R517). -/
def notReadyStatus (b : Block) : Nat := if b.rd 0x2001 0 = 2 then stHW else stBUSY

/-! ### Flags and counters that BAR0 holds (R49 to R52) -/

/-- Queue of a register block of R434, and the offset in the block. -/
def queueOf (off : Nat) : Nat := (off - 0x20000) / 0x20

/-- The offset lies in the queue registers. -/
def inQueues (off : Nat) : Bool := decide (0x20000 ≤ off) && decide (off < 0x40000)

/-- Where BAR0 alone holds a flag: the field of the flag, and offset, field and width of its counter. -/
def ownFlag (off i : Nat) : Option (Nat × Nat × Nat × Nat) :=
  match off, i with
  | 0x120, 0 => some (0, 0x120, 1, 16)
  | 0xA04, 0 => some (0, 0xA04, 1, 16)
  | 0x1704, 0 => some (0, 0x1704, 1, 16)
  | 0x1808, 0 => some (0, 0x180C, 1, 16)
  | 0x1808, 1 => some (1, 0x180C, 0, 16)
  | _, _ => none

/-- Hardware sets the flag at bit `i` of a BAR0 register: it is set and counts. -/
def setBarFlag (off i : Nat) (b : Block) : Block :=
  match (barFlags off).find? (fun x => x.1 == i), ownFlag off i with
  | some x, _ => setFlag x.2.1 x.2.2 b
  | none, some (f, co, cf, w) => (b.bset off f 1).bset co cf (satTo w (b.bget co cf + 1))
  | none, none =>
    if off = 0x140C && i = 0 then bankDenied (bits (b.bget 0x140C 0) 2 6) b
    else if inQueues off && off % 0x20 = 0x14 then
      let q := queueOf off
      let x := b.queue q
      if i = 0 then b.setQueue q { x with gap := true, drops := satTo 32 (x.drops + 1) }
      else if i = 1 then b.setQueue q { x with reset := true, resets := satTo 8 (x.resets + 1) }
      else b
    else b

/-- A write of 1 clears the flag at bit `i` of a BAR0 register. -/
def clearBarFlag (off i : Nat) (b : Block) : Block :=
  match (barFlags off).find? (fun x => x.1 == i), ownFlag off i with
  | some x, _ => clearFlag x.2.1 x.2.2 1 false b
  | none, some (f, _) => b.bset off f 0
  | none, none =>
    if off = 0x140C && i = 0 then b.bset 0x140C 0 (putBit (b.bget 0x140C 0) 0 false)
    else if inQueues off && off % 0x20 = 0x14 then queueFlagsClear (queueOf off) (if i = 0 then 1 else if i = 1 then 2 else 0) b
    else b

/-- A write of 1 to the clear field at bit `i` of a BAR0 register clears its counter. -/
def clearBarCount (off i : Nat) (b : Block) : Block :=
  match off, i with
  | 0x120, 1 => b.bset 0x120 1 0
  | 0xA04, 1 => b.bset 0xA04 1 0
  | 0x140C, 1 => b.bset 0x140C 0 (putBits (b.bget 0x140C 0) 16 16 0)
  | 0x1704, 1 => b.bset 0x1704 1 0
  | 0x170C, 1 => clearCounter 0x7080 5 1 false b
  | 0x1808, 2 => b.bset 0x180C 0 0
  | 0x1808, 3 => b.bset 0x180C 1 0
  | _, _ =>
    if 0x800 ≤ off && off < 0xA00 && off % 0x40 = 4 then
      let t := (off - 0x800) / 0x40
      match i with
      | 0 => clearCounter (0x6300 + t) 0xA 1 false b
      | 1 => clearCounter (0x6300 + t) 0xD 1 false b
      | 2 => clearCounter (0x6400 + t) 4 1 false b
      | 3 => clearCounter (0x6300 + t) 0x10 1 false b
      | _ => b
    else if inQueues off && off % 0x20 = 0x14 then
      queueCountsClear (queueOf off) (if i = 2 then 1 else if i = 3 then 2 else 0) b
    else b

/-- The bits of a register that are flags, and those that are clear fields. -/
def flagPlaces (off : Nat) : List Nat :=
  if (barFlags off).isEmpty then
    (if off = 0x120 || off = 0xA04 || off = 0x140C || off = 0x1704 then [0]
     else if off = 0x1808 || (inQueues off && off % 0x20 = 0x14) then [0, 1] else [])
  else (barFlags off).map Prod.fst
def clearPlaces (off : Nat) : List Nat :=
  if off = 0x120 || off = 0xA04 || off = 0x140C || off = 0x1704 || off = 0x170C then [1]
  else if off = 0x1808 then [2, 3]
  else if 0x800 ≤ off && off < 0xA00 && off % 0x40 = 4 then [0, 1, 2, 3]
  else if inQueues off && off % 0x20 = 0x14 then [2, 3] else []

/-- A written register clears every flag and counter whose bit is 1. -/
def clearBits (off w : Nat) (b : Block) : Block :=
  let b := forEach ((flagPlaces off).filter (bit w)) (clearBarFlag off) b
  forEach ((clearPlaces off).filter (bit w)) (clearBarCount off) b

/-! ### Version negotiation (R63, R442) -/

/-- A version proposed by the host: an answer, with the version that then is in force. A version in force is never changed. -/
def hostAbi (v : Nat) (b : Block) : Block :=
  let now := b.rd 0x1E00 5
  if now != 0 then b.bset 0x1800 0 stOK
  else if v < b.rd 0x1E00 3 then b.bset 0x1800 0 stVERSION
  else pumpAll ((b.wr 0x1E00 5 (min v (b.rd 0x1E00 4))).bset 0x1800 0 stOK)

/-! ### One register (R441) -/

/-- A write that a register serves. -/
def serves (f : Block → Block) : Block → Served := fun b => (stOK, f b)

/-- A write of a domain's command register SEQ_CMD (R181). -/
def seqCmd (mem : List Host.Cell) (t w : Nat) (b : Block) : Block :=
  let c := bits w 0 2
  if c = 0 then b
  else
    let r := domainCommand mem t c b
    r.2.bset (0x404 + 0x40 * t) 0 r.1

/-- A write of a channel's registers (R447, R460, R471). -/
def dmaRegWrite (c r w : Nat) (b : Block) : Served :=
  let x := b.chan c
  let idle := fun (bad : Bool) => if bad then stRANGE else if x.st != 0 then stSTATE else stOK
  match r with
  | 0x00 => whenOk (ctrlStatus b c w) (fun b => writeCtrl c w (if bit w 30 then abortChan c b else b)) b
  | 0x08 => whenOk (idle (bits w 0 6 != 0)) (fun b => b.setChan c { x with ring := putBits x.ring 0 32 w }) b
  | 0x0C => whenOk (idle false) (fun b => b.setChan c { x with ring := putBits x.ring 32 32 w }) b
  | 0x10 => whenOk (idle (bits w 0 3 != 0)) (fun b => b.setChan c { x with wb := putBits x.wb 0 32 w }) b
  | 0x14 => whenOk (idle false) (fun b => b.setChan c { x with wb := putBits x.wb 32 32 w }) b
  | 0x18 => whenOk (tailStatus b c (bits w 0 17)) (setTail c (bits w 0 17)) b
  | _ => (stACCESS, b)

/-- A write of the MSI-X table (R457, R441): a vector that is unmasked while pending is sent. The pending bits are read-only. -/
def msixWrite (off w : Nat) (b : Block) : Block := if 0x10400 ≤ off then b else sendPending (b.bset off 0 w)

/-- A write of the endpoint's registers at 0x1800 to 0x1854 (R470). -/
def endpointWrite (off w : Nat) (b : Block) : Served :=
  match off with
  | 0x1800 => (stOK, hostAbi (bits w 0 16) b)
  | 0x1808 => (stOK, clearBits off w b)
  | 0x1810 =>
    let v := bits w 0 11
    whenOk (if v < 16 || 1024 < v then stRANGE else stOK) (fun b => pumpAll (b.wr 0x7100 6 v)) b
  | 0x1814 => (stOK, b.bset 0x1814 0 (bits w 0 7))
  | 0x1818 => (stOK, winCommit (bits w 0 8) b)
  | 0x1840 =>
    let n := bits w 0 5
    if n < 10 || 30 < n then (stRANGE, b)
    else
      let b := b.bset 0x1840 0 (bits w 7 1 * 128 + n)
      (stOK, if bit w 8 then ptmAnywhere (ptmRequest true) b else b)
  | _ =>
    if 0x1820 ≤ off && off < 0x1840 then
      let i := (off - 0x1820) / 4
      whenOk (stagedStatus b (bits w 0 15)) (setWin i (b.win i).1 (bits w 0 15)) b
    else (stACCESS, b)

/-- A write of the bank and queue manager registers at 0x1400 to 0x17FF (R411, R433). -/
def bankRegWrite (off w : Nat) (b : Block) : Served :=
  match off with
  | 0x1400 => let r := handoverWord w b; (stOK, setBankResult 0 (bits w 0 6) r.1 r.2)
  | 0x1404 => let r := bankControl w b; (stOK, setBankResult 1 (bits w 0 6) r.1 r.2)
  | 0x1410 => (stOK, b.bset 0x1410 0 (bits w 0 22))
  | 0x1414 => (stOK, if bits w 0 2 = 0 then b else bankAtomic (bits w 0 2 + 1) b)
  | 0x1418 => (stOK, b.bset 0x1418 0 w)
  | 0x141C => (stOK, b.bset 0x141C 0 w)
  | 0x140C | 0x1604 | 0x1704 | 0x170C => (stOK, clearBits off w b)
  | 0x1708 => whenOk (if 5000 < bits w 0 16 then stRANGE else stOK) (fun b => b.wr 0x7080 1 (bits w 0 16)) b
  | _ => (stACCESS, b)

/-- A write of one 32-bit register: the status OK where it is served, else that with which it is rejected (R55). -/
def regWrite (mem : List Host.Cell) (off w : Nat) (b : Block) : Served :=
  match off with
  | 0x40 => let r := powerRequest (bits w 0 3) b; (stOK, r.2.bset 0x44 0 r.1)
  | 0x4C => (stOK, b.wr 0x2006 1 (bits w 0 10))
  | 0x318 => (stOK, syncRequest (bits w 0 1) b)
  | 0x31C => (stOK, bankRequest (bits w 0 6) (bits w 8 1) b)
  | 0xE0C => (stOK, b.wrI 0x2102 1 (signed w 32))
  | _ =>
    if !(flagPlaces off).isEmpty && off < 0x1400 then (stOK, clearBits off w b)
    else if 0x400 ≤ off && off < 0x600 && off % 0x40 = 0 then (stOK, seqCmd mem ((off - 0x400) / 0x40) w b)
    else if 0x800 ≤ off && off < 0xA00 && off % 0x40 = 4 then
      (stOK, peakReset ((off - 0x800) / 0x40) (bits w 4 1) (clearBits off w b))
    else if 0x1400 ≤ off && off < 0x1800 then bankRegWrite off w b
    else if 0x1800 ≤ off && off < 0x1858 then endpointWrite off w b
    else if 0x2000 ≤ off && off < 0x2800 then dmaRegWrite ((off - 0x2000) / 0x40) (off % 0x40) w b
    else if (0x10000 ≤ off && off < 0x10400) || (0x10800 ≤ off && off < 0x10808) then (stOK, msixWrite off w b)
    else if inQueues off then
      let q := queueOf off
      match off % 0x20 with
      | 0x00 => let r := qcfgWrite q w b; (stOK, queueResult q r.1 r.2)
      | 0x04 => let r := qendWrite q w b; (stOK, queueResult q r.1 r.2)
      | 0x14 => (stOK, clearBits off w b)
      | _ => (stACCESS, b)
    else (stACCESS, b)

/-- One 32-bit write, served or rejected. -/
def barWrite32 (mem : List Host.Cell) (off w : Nat) (b : Block) : Block :=
  let r := regWrite mem off (w % 2 ^ 32) b
  if r.1 = stOK then r.2 else rejectWrite off r.1 b

/-! ### The host's writes (R439, R441, R512) -/

/-- The module returns to PS0 before the write is served: by a memory request of the host in PS4, by a request of R512 otherwise. A
request for PS0 through PWR_CTRL is its own wake source (R513). -/
def barWake (off w : Nat) (b : Block) : Block :=
  if off = 0x40 && bits w 0 3 = 0 then b else awake b.requestCode b

/-- REGISTER_WRITE: `size` octets at a BAR0 offset. DESIGN CHOICE (log 21): a write of 64 bits to a module that is not ready is one
rejected write (R55, R439), although R441 makes a served one two writes of 32 bits. -/
def barWrite (mem : List Host.Cell) (off size v : Nat) (b : Block) : Block :=
  if !b.barUp || 0x4000000 ≤ off then b
  else if !b.ready then rejectWrite off (notReadyStatus b) b
  else
    let b := barWake off v b
    -- in thermal hold the module does not return to PS0: only a request for PS0 is carried out (R519)
    if b.asleepInHold && !(off = 0x40 && bits v 0 3 = 0) then b
    else if 0x2000000 ≤ off then bankWindow true (off - 0x2000000) size v b
    else if size = 4 && off % 4 = 0 then barWrite32 mem off v b
    else if size = 8 && off % 8 = 0 then barWrite32 mem (off + 4) (v / 2 ^ 32) (barWrite32 mem off v b)
    else rejectWrite off stACCESS b

/-- A 32-bit write of a register. -/
def barPut (mem : List Host.Cell) (off v : Nat) (b : Block) : Block := barWrite mem off 4 v b

/-! ### Values as read -/

/-- Bits [31:0] and [63:32] of a value at a LO register and the HI register after it. -/
def lo32 (v : Nat) : Nat := bits v 0 32
def hi32 (v : Nat) : Nat := bits v 32 32

/-- The registers of a domain at 0x400, 0x800 and 0xC00. HI halves and what a LO read latches read as latched. -/
def domainView (b : Block) (off : Nat) : Nat :=
  if off < 0x600 then
    let t := (off - 0x400) / 0x40
    let o := 0x5100 + t
    match off % 0x40 with
    | 0x04 => b.bget off 0 * 2 ^ 12 + b.rd o 4 * 2 ^ 8 + b.rd o 3 * 16 + b.dstate t
    | 0x08 => flagBits b off
    | 0x0C => lo32 (b.rd (0x5520 + t) 1)
    | 0x10 | 0x14 | 0x18 | 0x1C => b.bget off 0
    | _ => 0
  else if off < 0xA00 then
    let t := (off - 0x800) / 0x40
    let r := b.rd (0x6300 + t) 2
    match off % 0x40 with
    | 0x00 => b.rd (0x6300 + t) 1 * 64 + b2n (b.fifoFull t) * 32 + bits r 1 1 * 16 + bits r 0 1 * 8 + flagBits b off
    | 0x08 => b.rd (0x6300 + t) 9
    | 0x0C => b.rd (0x6300 + t) 0xC
    | 0x10 => lo32 (b.rd (0x6400 + t) 1)
    | 0x18 => lo32 (b.rd (0x6400 + t) 5)
    | 0x20 => b.rd (0x6400 + t) 3
    | 0x24 => b.rd (0x6300 + t) 0xF
    | 0x28 => lo32 (b.rd (0x6300 + t) 3)
    | 0x30 => lo32 (b.rd (0x6300 + t) 6)
    | 0x14 | 0x1C | 0x2C | 0x34 => b.bget off 0
    | _ => 0
  else
    let t := (off - 0xC00) / 0x20
    match off % 0x20 with
    | 0x00 => satTo 16 (b.rd (maskObj t) 6) * 2 ^ 16 + b.rd (maskObj t) 5
    | 0x04 => flagBits b off
    | 0x08 => lo32 (b.rd (maskObj t) 7)
    | 0x0C => b.bget off 0
    | _ => 0

/-- The registers of a DMA channel (R471). -/
def dmaView (b : Block) (off : Nat) : Nat :=
  let x := b.chan ((off - 0x2000) / 0x40)
  match off % 0x40 with
  | 0x00 => x.ctrl
  | 0x04 => x.status
  | 0x08 => lo32 x.ring
  | 0x0C => hi32 x.ring
  | 0x10 => lo32 x.wb
  | 0x14 => hi32 x.wb
  | 0x18 => x.tail
  | 0x1C => x.head
  | 0x20 => x.done
  | 0x24 => x.aborted
  | _ => 0

/-- The registers of a queue (R434). -/
def queueView (b : Block) (off : Nat) : Nat :=
  let q := queueOf off
  match off % 0x20 with
  | 0x00 => (b.queue q).cfg
  | 0x04 => (b.queue q).ends
  | 0x08 => b.qUnread (popKey q)
  | 0x0C => b.qPackets (popKey q)
  | 0x10 => b.qOcc q
  | 0x14 => (b.queue q).flags
  | 0x18 => (b.queue q).drops
  | _ => 0

/-- The registers of the endpoint (R470). -/
def endpointView (b : Block) (off : Nat) : Nat :=
  match off with
  | 0x1800 => b.bget 0x1800 0 * 2 ^ 16 + b.rd 0x1E00 5
  | 0x1804 => b.pcieStatus
  | 0x1808 => b.bget 0x1808 1 * 2 + b.bget 0x1808 0
  | 0x180C => b.bget 0x180C 1 * 2 ^ 16 + b.bget 0x180C 0
  | 0x1810 => b.pcie.reads.length * 2 ^ 16 + b.rd 0x7100 6
  | 0x1814 => b.bget 0x1814 0
  | 0x181C => b.bget 0x181C 0 * 2 ^ 8 + b2n b.pcie.drain
  | 0x1840 => ptmCtrl b
  | 0x1844 => b.bget 0x1848 5
  | 0x1848 => lo32 (b.bget 0x1848 0)
  | 0x184C => hi32 (b.bget 0x1848 3)
  | 0x1850 => lo32 (b.bget 0x1848 4)
  | 0x1854 => hi32 (b.bget 0x1848 4)
  | _ =>
    if 0x1820 ≤ off && off < 0x1840 then let w := b.win ((off - 0x1820) / 4); w.1 * 2 ^ 16 + w.2 else 0

/-- The engines of which something holds, as a mask. -/
def engineMask (b : Block) (p : Nat → Block → Bool) : Nat := maskOf ((List.range 64).filter (fun e => p e b))
/-- An engine fades or holds a pending request. -/
def fading (e : Nat) (b : Block) : Bool := (b.engine e).fade.any Fade.running || (b.engine e).pendBank.isSome
/-- Coarse outputs of an engine remain. -/
def settlingNow (e : Nat) (b : Block) : Bool := b.rd (eObj e) 0xC != 0

/-- The value of a BAR0 register of a ready module (R35, R53, R102, R142, R181, R202, R248, R249, R302, R324, R352, R383, R411, R433,
R434, R470, R471, R530). What only a write acts on, and every absent offset, reads 0. -/
def regView (b : Block) (off : Nat) : Nat :=
  match off with
  | 0x44 => b.pwrStatus
  | 0x48 => bits b.alertCauses 0 10
  | 0x4C => b.rd 0x2006 1
  | 0x50 => b.rd 0x2000 3 * 2 ^ 16 + bits (b.rd 0x2000 1) 0 16
  | 0x100 => lo32 b.time.frame.toNat
  | 0x110 => ((List.range 8).map (fun t => b.mode t * 16 ^ t)).sum
  | 0x114 => maskOf ((List.range 32).filter (fun n => b.podDom n < 8))
  | 0x120 => b.bget 0x120 1 * 2 ^ 16 + b.bget 0x120 2 * 2 ^ 12 + b.bget 0x120 0
  | 0x124 => b.bget 0x124 0
  | 0x300 => lo32 (engineMask b settlingNow)
  | 0x304 => hi32 (engineMask b settlingNow)
  | 0x308 => lo32 (engineMask b fading)
  | 0x30C => hi32 (engineMask b fading)
  | 0x310 => lo32 (b.rd 0x4010 2)
  | 0xA00 => b.budgetLimit * 2 ^ 16 + b.budgetUsed
  | 0xA04 => b.bget 0xA04 1 * 2 ^ 16 + b.bget 0xA04 0
  | 0xA08 => b.bget 0xA08 0
  | 0xE00 => b.rd 0x2101 6 * 2 ^ 24 + b.rd 0x2101 7 * 2 ^ 20 + bits (b.rd 0x2101 3) 0 3 * 2 ^ 8 + b.rd 0x2101 2 * 16 + b.rd 0x2101 1
  | 0xE0C => lo32 (b.rd 0x2102 1)
  | 0xE10 => lo32 (b.rd 0x2102 2)
  | 0xE14 => lo32 (b.rd 0x2103 6)
  | 0xF00 => b.syncStatus
  | 0xF04 => b.chainStatus
  | 0x140C => let w := b.bget 0x140C 0; bits w 16 16 * 2 ^ 16 + bits w 2 6 * 4 + bits w 0 1
  | 0x1600 => b.rd 0x7010 3 * 2 ^ 16 + b.rd 0x7010 2 * 2 ^ 8 +
      (match b.maint.test with | some x => 64 + x.target | none => 0)
  | 0x1704 => b.bget 0x1704 1 * 2 ^ 16 + b.bget 0x1704 2 * 4 + b.bget 0x1704 0
  | 0x1708 => b.rd 0x7080 1
  | 0x170C => satTo 16 (b.rd 0x7080 4) * 2 ^ 16 + b.rd 0x7080 6 * 4 + b.rd 0x7080 3
  | 0x104 | 0x314 | 0xE18 | 0x1408 | 0x1410 | 0x1418 | 0x141C | 0x1420 | 0x1424 | 0x1700 => b.bget off 0
  | _ =>
    if 0xD20 ≤ off && off < 0xD40 then
      let t := (off - 0xD20) / 4
      flagBits b off + (if b.rd (stimObj t) 1 = 0 then 0 else b.rd (stimObj t) 2 % 16 * 16) + b.rd (stimObj t) 1
    else if (0x400 ≤ off && off < 0x600) || (0x800 ≤ off && off < 0xA00) || (0xC00 ≤ off && off < 0xD00) then domainView b off
    else if 0x1000 ≤ off && off < 0x1400 then
      let k := (off - 0x1000) / 4
      b.laneStatus (2 * k + 1) * 2 ^ 16 + b.laneStatus (2 * k)
    else if 0x1500 ≤ off && off < 0x1600 then (b.bank ((off - 0x1500) / 4)).stateWord
    else if 0x1800 ≤ off && off < 0x1858 then endpointView b off
    else if 0x2000 ≤ off && off < 0x2800 then dmaView b off
    else if 0x10000 ≤ off && off < 0x10400 then b.bget off 0
    else if 0x10800 ≤ off && off < 0x10808 then b.bget 0x10800 ((off - 0x10800) / 4)
    else if inQueues off then queueView b off
    else flagBits b off

/-! ### Reads that latch (R35, R142, R181, R249, R302, R352, R411, R458) -/

/-- What a read of a LO register latches. -/
def latchLo (off : Nat) (b : Block) : Block :=
  match off with
  | 0x100 => b.bset 0x104 0 (hi32 b.time.frame.toNat)
  | 0x310 => b.bset 0x314 0 (hi32 (b.rd 0x4010 2))
  | 0xE14 => b.bset 0xE18 0 (hi32 (b.rd 0x2103 6))
  | 0x1848 => ptmDevLo b
  | _ =>
    if 0x400 ≤ off && off < 0x600 && off % 0x40 = 0xC then
      let o := 0x5520 + (off - 0x400) / 0x40
      (((b.bset (off + 4) 0 (hi32 (b.rd o 1))).bset (off + 8) 0 (b.rd o 2)).bset (off + 12) 0 (lo32 (b.rd o 3))).bset (off + 16) 0
        (hi32 (b.rd o 3))
    else if 0x800 ≤ off && off < 0xA00 then
      let t := (off - 0x800) / 0x40
      match off % 0x40 with
      | 0x10 => b.bset (off + 4) 0 (hi32 (b.rd (0x6400 + t) 1))
      | 0x18 => b.bset (off + 4) 0 (hi32 (b.rd (0x6400 + t) 5))
      | 0x28 => b.bset (off + 4) 0 (hi32 (b.rd (0x6300 + t) 3))
      | 0x30 => b.bset (off + 4) 0 (hi32 (b.rd (0x6300 + t) 6))
      | _ => b
    else if 0xC00 ≤ off && off < 0xD00 && off % 0x20 = 8 then
      b.bset (off + 4) 0 (hi32 (b.rd (maskObj ((off - 0xC00) / 0x20)) 7))
    else b

/-- A read of BANK_RESULT, BANK_ATOMIC_OLD_LO or BANK_ATOMIC_OLD_HI is not answered while an operation waits (R395). -/
def regRead (b : Block) (off : Nat) : Option Nat :=
  if (off == 0x1408 || off == 0x1420 || off == 0x1424) && b.atomicWaits then none else some (regView b off)

/-- The default of a BAR0 register: its value in a module that has just begun a cold start. -/
def regDefault (b : Block) (off : Nat) : Nat := regView (Block.cold b.part b.power.straps b.flash) off

/-- A value as the octets of a read completion. -/
def readAnswer (n v : Nat) (b : Block) : Block := b.answer { status := stOK, abort := 0, data := toLe n v }

/-- A host read of `size` octets of BAR0 registers (R441): 32 bits aligned give the register, and latch what it latches; 64 bits
aligned give the lower register first, then the other; any other read gives zeros. One at BANK_ATOMIC_OLD_LO waits for an operation that
does (R395). It wakes the module (R513) and is served in place
(R512). A module that is not ready returns the registers' defaults (R439). -/
def barRead (off size : Nat) (b : Block) : Block :=
  if !b.barUp then unsupported b
  else if !((size == 4 && off % 4 == 0) || (size == 8 && off % 8 == 0)) then readAnswer size 0 (if b.ready then wake 7 (linkUse b) else linkUse b)
  else if !b.ready then readAnswer size (regDefault b off + (if size = 8 then regDefault b (off + 4) * 2 ^ 32 else 0)) (linkUse b)
  else if off = 0x1420 then atomicOldRead size (wake 7 (linkUse b))
  else
    let lo := regView b off
    let b := latchLo off (readAnswer 4 lo (wake 7 (linkUse b)))
    if size = 8 then latchLo (off + 4) (readAnswer 8 (lo + regView b (off + 4) * 2 ^ 32) b) else b

/-- A host read of a LO register. -/
def loRead (off : Nat) (b : Block) : Block := barRead off 4 b

end Sys2Proof.Machine
end

