-- ==== Sys2Proof/Machine/Start.lean ====
section
/-! DEFINITION. Cold start, the dictionary restore, entry and exit of PS5, and the loss of supply (16_object_dictionary.md R494 to
R497, 17_power_start_up_and_survival.md R503 to R518). -/

namespace Sys2Proof.Machine

/-! ### The dictionary restore (R497) -/

/-- Insert an index into a rising list without repeats. -/
def insertIndex (i : Nat) : List Nat → List Nat
  | [] => [i]
  | x :: xs => if i < x then i :: x :: xs else if i = x then x :: xs else x :: insertIndex i xs

/-- The objects of a list of stored values, rising. -/
def indicesOf (vals : List (Nat × Word)) : List Nat := vals.foldr (fun x acc => insertIndex (x.1 / 256) acc) []

/-- The module's registers with stored values of an object in their places. -/
def placeValues (vals : List (Nat × Word)) (b : Block) : Block :=
  forEach vals (fun x b => { b with regs := place odDefault b.regs x.1 x.2 }) b

/-- A stored value passes the checks of its subindex: it is one that an image holds, of its type and in range. -/
def storedOk (b : Block) (x : Nat × Word) : Bool :=
  let idx := x.1 / 256
  let sub := x.1 % 256
  match odRow? idx sub with
  | some r => stored r idx && valueOk b r idx sub (x.2.toNat % 2 ^ (8 * r.ty.size))
  | none => false

/-- A restored object as a whole meets the cross-field conditions of a write (R204, R328, R373; no domain is armed and the module is in no
chain). -/
def objectOk (b : Block) (idx : Nat) : Bool :=
  if idx = 0x6000 then (List.range 9).all (fun r => regionStatus b r (b.rd 0x6000 (r + 1)) == stOK)
  else if idx = 0x2100 then clockStatus b 5 (b.rd 0x2100 5) == stOK
  else if idx = 0x2220 then horizonStatus b false false false (b.rd 0x2220 1) == stOK
  else true

/-- A stored coefficient or tap count of a bank that is active, which its write would refuse (R129). -/
def coefLocked (b : Block) (key : Nat) : Bool :=
  let idx := key / 256
  let sub := key % 256
  if idx / 256 = 0x47 then sub != 0 && bankLocked b ((idx - 0x4700) / 64) ((idx - 0x4700) % 64)
  else idx / 256 == 0x46 && (sub == 9 || sub == 10) && bankLocked b (sub - 9) (idx - 0x4600)

/-- A stored value that its write would refuse for the state of the module (R497), where it differs from the one in force (DEDUCED, log
entry 32). -/
def stateRefuses (b b' : Block) (key : Nat) : Bool :=
  coefLocked b key && b'.rd (key / 256) (key % 256) != b.rd (key / 256) (key % 256)

/-- An object that fails is counted, the first of them named. -/
def objectRefused (idx : Nat) (b : Block) : Block :=
  (if b.rd 0x1E03 4 = 0 then b.wr 0x1E03 5 (idx * 2 ^ 16) else b).bump 16 0x1E03 4 1

/-- One object is loaded whole, or keeps the defaults of all its subindices. -/
def loadObject (vals : List (Nat × Word)) (idx : Nat) (b : Block) : Block :=
  let mine := vals.filter (fun x => x.1 / 256 == idx)
  if idx = 0x2110 then
    (if mine.all (fun x => decide (1 ≤ x.1 % 256) && decide (x.1 % 256 ≤ 128) && bandOk x.2.toNat) then
      forEach mine (fun x b => setBand (x.1 % 256 - 1) (bandOf x.2.toNat) b) b
    else objectRefused idx b)
  else
    let b' := placeValues mine b
    if mine.all (storedOk b') && objectOk b' idx && !mine.any (fun x => stateRefuses b b' x.1) then b' else objectRefused idx b

/-- The objects of one group. -/
def loadGroup (vals : List (Nat × Word)) (b : Block) : Block := forEach (indicesOf vals) (loadObject vals) b

/-- What other state follows the registers that a restore has loaded. -/
def settleRestored (b : Block) : Block :=
  let b := forEach (List.range 32) (fun n b =>
    let o := 0x3100 + n
    let win := b.rd o 1
    let b := b.setPod n { b.pod n with win := win, se := b.rd o 2 == 1, dith := b.rd o 3, visitMode := b.rd o 4 }
    let b := b.wr o 5 (real32 (((winHi win - winLo win : Int) : Rat) / 2000 / 16))
    let b := forEach (List.range 16) (fun m b =>
      b.setLane (16 * n + m) { b.lane (16 * n + m) with set := b.rd (0x3200 + n) (m + 1) }) b
    refreshDrivers n b) b
  let b := forEach (List.range 64) (fun e b =>
    let b := refreshEngine e b
    if b.engOn e then settleEngine e b else b) b
  forEach (List.range 4) (fun p b => if b.rd (portObj p) 1 % 2 = 0 then setPortEnable p 0 b else b) b

/-- A restored clock configuration starts an acquisition, as its write would (R328, R333). -/
def settleClock (old b : Block) : Block :=
  if (List.range 5).all (fun i => b.rd 0x2100 (i + 1) == old.rd 0x2100 (i + 1)) || b.rd 0x2101 1 = 0 then b
  else
    let b := if b.rd 0x2100 1 = old.rd 0x2100 1 then b
      else setCondition (bit (b.rd 0x2101 3) 0) (freqOk (b.rd 0x2100 1) b.clk.refMHz) true b
    startAcquisition b

/-- A copy is valid where its CRC-32 is that of its octets (R496, R497). -/
def Image.valid (i : Image) : Bool := i.crc == Config.imageCrc i.seq

/-- The copy that a loss of supply leaves of an image while it is written: its CRC-32 fails. -/
def Image.torn (i : Image) : Image := { i with crc := ~~~(Config.imageCrc i.seq) }

/-- Flash as a loss of supply leaves it: a background write is cut, and the other copy is whole (R496). -/
def Block.cutFlash (b : Block) : Flash :=
  match b.server.job with
  | some j => if j.toA then { b.flash with copyA := some j.img.torn } else { b.flash with copyB := some j.img.torn }
  | none => b.flash

/-- The valid copy with the higher sequence number: the code of the copy and the image. -/
def newestCopy (f : Flash) : Option (Nat × Image) :=
  match f.copyA.filter Image.valid, f.copyB.filter Image.valid with
  | some a, some c => if c.seq < a.seq then some (1, a) else some (2, c)
  | some a, none => some (1, a)
  | none, some c => some (2, c)
  | none, none => none

/-- The image that a cold start takes: none of another layout version. -/
def startImage (b : Block) : Option (Nat × Image) :=
  match newestCopy b.flash with
  | some x => if x.2.version = b.rd 0x1E00 2 then some x else none
  | none => none

/-- The communication group of the image, which a FAILED module loads too (R517). -/
def restoreComm (b : Block) : Block :=
  match startImage b with
  | some x => loadGroup (x.2.comm.getD []) ((b.wr 0x1E03 2 x.1).wr 0x1E03 3 x.2.seq)
  | none => b

/-- The application group of the image. -/
def restoreApp (b : Block) : Block :=
  match startImage b with
  | some x => settleClock b (settleRestored (loadGroup (x.2.app.getD []) b))
  | none => settleRestored b

/-! ### Cold start (R393, R402, R506, R516 to R518) -/

/-- Retired banks, as the retirement map has them. -/
def restoreRetired (b : Block) : Block :=
  forEach (setBits 64 b.flash.retired) (fun k b => b.setBank k { b.bank k with owner := owRETIRED }) b

/-- A firmware bank. -/
def makeFirmware (k owner : Nat) (b : Block) : Block :=
  let b := setOwner k owner b
  b.setBank k { b.bank k with firmware := true }

/-- The rings of Q0 and Q1 lie in the Queue manager's firmware bank (R414). -/
def placeQueues (k : Nat) (b : Block) : Block :=
  forEach [0, q0Response, 1] (fun q b => b.setQueue q { b.queue q with cfg := putBits (b.queue q).cfg 16 6 k }) b

/-- Firmware takes the three lowest banks that pass. -/
def takeFirmware (pass : List Nat) (b : Block) : Block :=
  match pass with
  | x :: y :: z :: _ => placeQueues z (makeFirmware z owQUEUE (makeFirmware y owCORE (makeFirmware x owCORE b)))
  | _ => b

/-- The latch of a reversed supply is reported (R506): the entry carries timestamp 0. Its code and bytes are a free value. -/
def reportReversal (b : Block) : Block :=
  if !b.flash.reversed then b
  else
    let r := b.fresh
    let n := r.2.rd 0x8000 1
    let b := logEntry (r.1.toNat % 65536) (toLe 5 (r.1.toNat / 65536)) r.2
    let b := (b.wr 0x8002 (n % 64 + 1) 0).wr 0x2005 8 1
    { b with logWait := [], flash := { b.flash with reversed := false } }

/-- VIN_VALID: a cold start begins, with the straps NODEID[6:0] sampled. What left the module and the free values go on. -/
def vinValid (straps : Nat) (b : Block) : Block :=
  if b.power.on then b
  else
    let fl := { b.flash with colds := satTo 32 (b.flash.colds + 1) }
    reportReversal (clearAllUnits { Block.cold b.part straps fl with out := b.out, free := b.free })

/-- VIN is no longer valid (R503): every state that is not held in flash is lost, and a flash write that runs is cut (R496). -/
def vinLoss (b : Block) : Block :=
  if !b.power.on then b
  else
    let c := Block.cold b.part 0 b.cutFlash
    clearAllUnits { c with out := b.out, free := b.free, power := { c.power with on := false } }

/-- SUPPLY_REVERSAL: the latch is set; a reversed supply is not a valid one (R503, R506). -/
def supplyReversal (b : Block) : Block := vinLoss { b with flash := { b.flash with reversed := true } }

/-- The fail cause of 0x2004.01; 0: the module becomes READY (R517). -/
def failCause (x : StartUp) (pass : List Nat) (b : Block) : Nat :=
  if x.rail then 1
  else if !b.clk.run then 2
  else if x.hbm < (match b.part with | .h48 => 2 | .h24 => 1) then 3
  else if pass.length < 3 then 4
  else 0

/-- The CAN port comes up with the polarity mode in force, a restored one included (R492, R521). -/
def startCan (b : Block) : Block := bootUp (polarityReset b)

/-- A pod whose calibration failed keeps its factory trims (R517): it is advised and logged. The entry's code and bytes are a free
value. -/
def calibrationFailed (n : Nat) (b : Block) : Block :=
  let r := b.fresh
  logEntry (r.1.toNat % 65536) (toLe 5 (r.1.toNat / 65536)) (refreshAdvice n (r.2.setPod n { r.2.pod n with factory := true }))

/-- The pods as calibration leaves them (R91, R92); a pod whose calibration failed has had none (R517). -/
def calibratePods (failed : Nat) (b : Block) : Block :=
  let b := forEach ((List.range 32).filter (fun n => !bit failed n)) calibrated b
  forEach (setBits 32 failed) calibrationFailed (b.wr 0x2004 3 (failed % 2 ^ 32))

/-- The default device ID uses the node ID in force at cold start; a restored one replaces it (R379). -/
def defaultDeviceId (b : Block) : Block := b.wr 0x2200 1 (0x100 + b.nodeId)

/-- The module is ready. -/
def becomeReady (x : StartUp) (pass : List Nat) (b : Block) : Block :=
  let b := takeFirmware pass b
  let bad := (setBits 64 x.bankFail).filter (fun k => !bit b.flash.retired k)
  let b := calibratePods x.podFail (forEach bad (fun k b => retireBank k owUNOWNED b) b)
  let b := restoreComm b
  let b := startCan (restoreApp (defaultDeviceId (takeComm b b)))
  showActivities (listenPorts ((b.wr 0x2001 0 1).wr 0x2004 2 (satTo 16 x.ms)))

/-- The module becomes FAILED: only the CAN path serves. -/
def becomeFailed (cause : Nat) (b : Block) : Block :=
  let b := ((restoreComm b).wr 0x2001 0 2).wr 0x2004 1 cause
  emcyEvent 0x5000 8 (toLe 5 cause) (startCan (takeComm b b))

/-- MODULE_READY: cold start completes, or cannot (R516, R517). -/
def moduleReady (x : StartUp) (b : Block) : Block :=
  if b.rd 0x2001 0 != 0 then b
  else
    let b := (restoreRetired b).wr 0x2004 4 (bits x.hbm 0 8)
    let pass := (List.range 64).filter (fun k => !bit b.flash.retired k && !bit x.bankFail k)
    let cause := failCause x pass b
    if cause = 0 then becomeReady x pass b else becomeFailed cause b

/-! ### PS5 (R511, R515, R518) -/

/-- The error log's entries. -/
def logValues (b : Block) : List (Nat × Word) := b.regs.filter (fun x => x.1 / 256 == 0x8001 || x.1 / 256 == 0x8002 || x.1 == odKey 0x8000 1)

/-- The resume image that entry into PS5 writes to flash. -/
def writeResume (b : Block) : Block :=
  let cal := (List.range 32).map (fun n => (n, (b.pod n).calTemp, (b.pod n).factory))
  { b with flash := { b.flash with resume := some { vals := storedValues b, cal := cal, band := b.rd 0x2101 6, log := logValues b } } }

/-- POWER_ENTRY_COMPLETE: the requested state is in force, once no domain is armed and no flash write runs (R511, R519); a wake held
during entry acts at once (R513). -/
def powerEntryComplete (b : Block) : Block :=
  match b.power.entry with
  | none => b
  | some s =>
    if b.flashBusy || !b.armedDoms.isEmpty then b
    else
      let b := enterState s (if s = 5 then writeResume b else b)
      let b := if s = 5 then { b with pcie := { Pcie.off with perst := b.pcie.perst } } else b
      let h := b.power.held
      let b := { b with power := { b.power with held := 0 } }
      if h = 0 then b else wake h b

/-- What a resume from PS5 keeps beside the resume image: the objects 0x2000 and 0x2002, the live conditions of
0x2005.01 (R505) and the counter of synchronising resets. -/
def keptOverPs5 (b : Block) : List (Nat × Word) :=
  b.regs.filter (fun x => x.1 / 256 == 0x2000 || x.1 / 256 == 0x2002 || x.1 == odKey 0x2005 1 || x.1 == odKey 0x4010 3 || x.1 / 256 == 0x2004)

/-- PS5_RESUME_READY: exit from PS5 (R515, R518). The module is as after a cold start but for the resume image, the
entries that the log has gained since it was written (R524), and the responses that a member keeps until a cold start (R488); the frames restart at 0, which is a synchronising reset. -/
def resumeReady (b : Block) : Block :=
  if !b.power.waking || b.ps != 5 then b
  else
    match b.flash.resume with
    | none => b
    | some img =>
      let c := Block.cold b.part b.power.straps b.flash
      let after := b.power.after
      let c := { c with
        out := b.out, free := b.free, logWait := b.logWait, pcie := { c.pcie with perst := b.pcie.perst },
        server := { c.server with kept := b.server.kept } }
      let n := placeValues (img.log ++ keptOverPs5 b ++ logValues b) c
      let n := clearAllUnits (restoreRetired n)
      let n := takeFirmware ((List.range 64).filter (fun k => !bit b.flash.retired k)) n
      let n := loadGroup (img.vals.filter (fun x => commKey x.1)) n
      let n := defaultDeviceId (takeComm n n)
      let n := startCan (settleRestored (loadGroup (img.vals.filter (fun x => !commKey x.1)) n))
      let n := forEach img.cal (fun x b => refreshAdvice x.1 (b.setPod x.1 { b.pod x.1 with calTemp := x.2.1, factory := x.2.2 })) n
      let n := startAcquisition n
      let n := { n with clk := { n.clk with run := true, next := some 0 }, power := { n.power with lockWait := true } }
      let n := (((n.wr 0x2002 2 0).bump 32 0x2002 5 1).bump 32 0x2002 7 1)
      let n := ((n.wr 0x4010 2 0).bump 32 0x4010 3 1).wr 0x2004 5 1
      let n := showActivities (listenPorts (n.wr 0x2001 0 1))
      match after with
      | some s => beginEntry s n
      | none => n

/-! ### Wake lanes and trigger inputs (R513, R514), hours (R526) -/

/-- TRIG_IN_WAKE: an edge at TRIG_IN0 or TRIG_IN1. -/
def trigInWake (i : Nat) (rise : Bool) (b : Block) : Block :=
  if chosenEdge (bits (b.rd 0x2003 4) (2 * i) 2) rise then wake 4 b else b

/-- HOUR_COUNTER_SAVE: an hour with VIN valid has passed (R526); it counts as an hour in PS0 where the module is in PS0. -/
def hourSave (b : Block) : Block :=
  { b with flash := { b.flash with hoursVin := satTo 32 (b.flash.hoursVin + 1),
                                   hours := if b.ps = 0 then satTo 32 (b.flash.hours + 1) else b.flash.hours } }

end Sys2Proof.Machine
end

