-- ==== Sys2Proof/WellFormed.lean ====
section
/-! DEFINITION. Which commands are commands of this block: the units, places and codes that they name exist. What is not well
formed cannot arise; the model gives it no effect. -/

namespace Sys2Proof

/-- The place that a flag command names can exist: an index and a subindex, or a register and one of its bits. -/
def FlagRef.wf : FlagRef → Bool
  | .dict _ idx sub => decide (idx < 65536) && decide (sub < 256)
  | .bar off i => decide (off < 0x4000000) && decide (i < 32)

/-- The command is well formed. -/
def Instr.wf : Instr → Bool
  | .frameTick inp => inp.lanes.all (fun (x : LaneIn) => decide (x.lane < 512)) && inp.late.all (fun (t : Nat) => decide (t < 8))
  | .ptuTimeout u => decide (u < 16)
  | .timebaseWrap => true
  | .timerExpired t m => decide (t < 8) && decide (m < 8)
  | .trigOutPulseEnd o e => decide (o < 2) && decide (e < 64)
  | .forcedTriggerEffect t => decide (t < 8)
  | .leaveStopping t => decide (t < 8)
  | .podAssignWrite _ n _ => decide (n < 32)
  | .modeWrite _ t _ => decide (t < 8)
  | .frameNowLoRead => true
  | .registerWrite off _ _ => decide (off < 0x4000000)
  | .flagClear f _ _ => f.wf
  | .counterClear f _ _ => f.wf
  | .hostAbiWrite _ => true
  | .windowWrite _ n sub _ => decide (n < 32) && [1, 2].contains sub
  | .windowSettled n => decide (n < 32)
  | .laneSettingWrite _ l _ => decide (l < 512)
  | .ditherWrite _ n _ => decide (n < 32)
  | .healthModeWrite _ n _ => decide (n < 32)
  | .contactOvervoltage lane contact _ => decide (lane < 512) && decide (contact < 2)
  | .healthVisitEnd n _ _ _ _ => decide (n < 32)
  | .probeTestStart _ _ => true
  | .probeTestEnd rs => rs.all (fun (r : ProbeResult) => decide (r.lane < 512) && decide (r.contact < 2))
  | .recalStart _ _ => true
  | .recalEnd n => decide (n < 32)
  | .maintenanceActivityStart => true
  | .detectorPeriodEnd n => decide (n < 32)
  | .indigoSyncRequest _ _ => true
  | .indigoSyncReset => true
  | .indigoEngineWrite _ e sub _ => decide (e < 64) && [1, 2, 4].contains sub
  | .indigoOutput e => decide (e < 64)
  | .bankRequest _ e _ => decide (e < 64)
  | .fadeEnd e => decide (e < 64)
  | .coefficientWrite _ k e sub _ => decide (k < 2) && decide (e < 64) && decide (sub ≤ 64)
  | .thresholdWrite _ l sub _ => decide (l < 512) && decide (1 ≤ sub) && decide (sub ≤ 3)
  | .arm _ t => decide (t < 8)
  | .stop _ t => decide (t < 8)
  | .forceTrigger _ t => decide (t < 8)
  | .ptuAssignWrite _ u _ => decide (u < 16)
  | .ptuStandardWrite _ u _ => decide (u < 16)
  | .regionAllocationWrite _ r _ => decide (r < 9)
  | .regionClear _ _ => true
  | .storeCommit t => decide (t < 8)
  | .hwmWrite _ t _ => decide (t < 8)
  | .peakReset _ t _ => decide (t < 8)
  | .postTriggerStop t => decide (t < 8)
  | .segmentLengthClose t => decide (t < 8)
  | .deferredSegmentOpen t => decide (t < 8)
  | .bar4Read x len _ => decide (x < 0x1000000000) && decide (x % 4096 + len ≤ 4096)
  | .bar4Write x data _ => decide (x < 0x1000000000) && decide (x % 4096 + data.length ≤ 4096)
  | .storeLoRead t which => decide (t < 8) && decide (which < 12)
  | .trigTsLoRead t => decide (t < 8)
  | .indigoSyncLoRead => true
  | .windowEnd t => decide (t < 8)
  | .resultsLatch n => decide (n < 32)
  | .limitCompare t => decide (t < 8)
  | .maskHoldoffEnd t => decide (t < 8)
  | .maskTsLoRead t => decide (t < 8)
  | .snapshotCommand _ h _ => decide (h < 16)
  | .snapshotReadoutStart h => decide (h < 16)
  | .snapshotReadoutEnd h => decide (h < 16)
  | .driveEnableWrite _ n _ => decide (n < 32)
  | .idleLevelWrite _ n _ => decide (n < 32)
  | .driverLevelsWrite _ n _ => decide (n < 32)
  | .launchAtContact t => decide (t < 8)
  | .passEnd t => decide (t < 8)
  | .driverShort l => decide (l < 512)
  | .driverReenable _ n _ => decide (n < 32)
  | .clockConfigWrite _ sub _ => decide (1 ≤ sub) && decide (sub ≤ 5)
  | .lock _ => true
  | .bandEntryWrite _ i _ => decide (i < 128)
  | .bandFactoryReload _ _ => true
  | .refclkOutSourceWrite _ _ => true
  | .phaseTargetWrite _ _ => true
  | .phaseStep => true
  | .lockLost cause => decide (1 ≤ cause) && decide (cause ≤ 4)
  | .referenceQualified => true
  | .jumpMeasured _ => true
  | .slewEnd => true
  | .fallback => true
  | .clkJumpLoRead => true
  | .syncInEvent e => decide (e < 32)
  | .syncSlip => true
  | .frameLoad => true
  | .chainLoadWrite _ _ => true
  | .sloeTrainingComplete p _ => decide (p < 4)
  | .sloeFrameMessage p off _ => decide (p < 4) && decide (off < 2048)
  | .linkLoss (.own p) => decide (p < 4)
  | .linkLoss (.beyond p) => decide (p < 4)
  | .discovery _ _ _ => true
  | .discoveryComplete _ => true
  | .alignment x => decide (x.port < 4)
  | .alignTrack => true
  | .horizonWrite _ _ _ => true
  | .chainMaskWrite _ _ _ => true
  | .handoverRequest _ k gen new => decide (k < 64) && decide (gen < 65536) && decide (new < 16)
  | .bankPowerRequest _ k v => decide (k < 64) && decide (v < 4)
  | .bankKeepRequest _ k _ => decide (k < 64)
  | .reclaim _ k => decide (k < 64)
  | .bankClearingEnd k => decide (k < 64)
  | .bankWindowAccess _ off _ _ => decide (off < 0x2000000)
  | .add64 => true
  | .add32x2 => true
  | .swap64 => true
  | .bankAtomicOldLoRead => true
  | .bankTestInterval _ => true
  | .bankTestRequest _ _ _ => true
  | .bankTestEnd outcome => decide (outcome < 3)
  | .retirementReset _ _ => true
  | .patrolScrubRead _ kind _ _ => decide (kind < 3)
  | .bandTableVerify _ => true
  | .queuePush _ q _ data _ _ => decide (q < 4096) && decide (data < 2 ^ 64)
  | .queuePop _ q _ => decide (q < 4096)
  | .popBurst q len _ => decide (q < 4096) && decide (1 ≤ len) && decide (len ≤ 4096)
  | .hostPopTimeout q => decide (q < 4096)
  | .mark _ q _ => decide (q < 4096)
  | .rewind _ q _ => decide (q < 4096)
  | .release _ q _ => decide (q < 4096)
  | .qcfgWrite _ q _ => decide (q < 4096)
  | .qendWrite _ q _ => decide (q < 4096)
  | .perstDeassert => true
  | .configSpaceReady _ => true
  | .winStagedWrite w _ => decide (w < 8)
  | .winCommit _ => true
  | .windowDrainEnd => true
  | .dmaEnable c _ => decide (c < 32)
  | .dmaAbort c => decide (c < 32)
  | .dmaTailWrite c _ => decide (c < 32)
  | .descriptorComplete c _ => decide (c < 32)
  | .dmaReadCompletion tag _ _ => decide (tag < 1024)
  | .completionTimeout tag => decide (tag < 1024)
  | .bmeClear => true
  | .d3hotEntry => true
  | .flr => true
  | .flrComplete => true
  | .conventionalReset _ => true
  | .ptmRequest _ off => decide (off < 2048)
  | .ptmDialogComplete th => decide (th < 2 ^ 64)
  | .ptmDevLoRead => true
  | .linkIdleEntry st => decide (1 ≤ st) && decide (st ≤ 5)
  | .mailboxRequest => true
  | .dictRead _ idx sub off len => decide (idx < 65536) && decide (sub < 256) && decide (off < 2 ^ 32) && decide (len ≤ 16384)
  | .dictWrite _ idx sub data => decide (idx < 65536) && decide (sub < 256) && decide (data.length ≤ 16384)
  | .canSdoRequest x idx sub data =>
    decide (idx < 65536) && decide (sub < 256) && decide (data.length ≤ 65536) && decide (∀ n ∈ x.client, 1 ≤ n ∧ n ≤ 127)
  | .sdoSegmentTimeout => true
  | .sloeDictRequest master _ _ => decide (master < 65536)
  | .forwardRetransmit _ => true
  | .nmtStart => true
  | .nmtStop => true
  | .nmtEnterPreOperational => true
  | .nmtResetCommunication => true
  | .nmtResetNode => true
  | .heartbeat => true
  | .emcyTransmit => true
  | .storeParameters _ sub _ => decide (1 ≤ sub) && decide (sub ≤ 3)
  | .flashWriteEnd _ => true
  | .restoreDefaults _ sub _ => decide (1 ≤ sub) && decide (sub ≤ 3)
  | .vinValid straps => decide (straps < 128)
  | .moduleReady _ => true
  | .vinLoss => true
  | .vinRangeChange _ => true
  | .vinOvervoltageOff => true
  | .supplyReversal => true
  | .powerStateRequest _ _ => true
  | .powerEntryComplete => true
  | .wakeN => true
  | .wakeLane l _ => decide (l < 512)
  | .trigInWake i _ => decide (i < 2)
  | .canWakeupPattern => true
  | .wakeExit _ => true
  | .ps5ResumeReady => true
  | .temperatureMeasure t => decide (-1280 ≤ t) && decide (t ≤ 3000)
  | .canPolarityMeasure _ => true
  | .canBusStateChange st _ _ => decide (st < 3)
  | .logClear _ _ => true
  | .referenceConditionChange _ _ => true
  | .sloeSignalPresent p => decide (p < 4)
  | .sloeTrainingLanesTimeout p => decide (p < 4)
  | .returnToD0 => true
  | .linkPowerStateExit => true
  | .forwardedResponse _ _ => true
  | .reclaimComplete => true
  | .bankWakeComplete k => decide (k < 64)
  | .hourCounterSave => true

end Sys2Proof
end

