-- ==== Sys2Proof/Machine/Operands.lean ====
section
/-! DEFINITION. How a command's operands reach the module: over BAR0 or a dictionary path, over a window of BAR0, BAR2 or BAR4, or as
an event; and how a command's effect on the module becomes the step's outcome. -/

namespace Sys2Proof.Machine

/-! ### The outcome of a command -/

/-- The block and the store's contents after a command's effect: the causes of the error register and of the alert are evaluated, and
the changes of the contents are made. -/
def settle (mem : List Host.Cell) (b : Block) : Block × List Host.Cell :=
  let b := monitor b
  ({ b with mops := [] }, memApply mem b.mops)

/-- A command's effect on everything but the queue. -/
def State.run (s : State) (f : List Host.Cell → Block → Block) : State :=
  let r := settle s.mem (f s.mem s.blk)
  { s with blk := r.1, mem := r.2 }

/-- The outcome of a command that is well formed: its effect while VIN is valid, and nothing while the module is off or where the
command is not well formed. -/
def State.act (s : State) (ok : Bool) (f : List Host.Cell → Block → Block) : Host.Outcome State Fault Refusal :=
  .next (if ok && s.blk.power.on then s.run f else s)

/-- The outcome of a supply event, which also acts while the module is off. -/
def State.supply (s : State) (ok : Bool) (f : List Host.Cell → Block → Block) : Host.Outcome State Fault Refusal :=
  .next (if ok then s.run f else s)

/-! ### A field that both BAR0 and the dictionary hold -/

/-- A write over BAR0, of a word to a register, or over a dictionary path, of a value to a subindex. -/
def viaPut (w : Via) (mem : List Host.Cell) (off word idx sub v : Nat) (b : Block) : Block :=
  match w with
  | .bar => barPut mem off word b
  | .dict p => dictPut p mem idx sub v b

/-! ### Dictionary commands with more than a value -/

/-- A dictionary READ over a path (R474). -/
def dictReadCommand (p : Path) (idx sub off len : Nat) (b : Block) : Block :=
  if serverHears b p then answered p (serveRead p idx sub off len b) else b

/-- A dictionary write of a value whose effect also depends on what the world outside supplies: the checks of R60, then `f`. -/
def dictWith (p : Path) (idx sub v : Nat) (f : Block → Served) (b : Block) : Block :=
  if !serverHears b p then b
  else answered p (serve p idx sub true (fun b =>
    match accessCheck b p idx sub true, odRow? idx sub with
    | some x, _ => (some x, b)
    | none, none => (some (Resp.plain stACCESS), b)
    | none, some r =>
      match typeCheck r (valueData idx sub v).length with
      | some x => (some x, b)
      | none =>
        let v := ofLe (valueData idx sub v)
        if !valueOk b r idx sub v then (some (Resp.refuse stRANGE (rangeAbort b r idx sub v)), b)
        else
          let x := f b
          (some (if x.1 = stRANGE then Resp.refuse stRANGE (rangeAbort b r idx sub v) else Resp.plain x.1), x.2)) b)

/-- DISCOVERY with what it finds (R367): a write of 0 has no effect. -/
def discoveryCommand (p : Path) (v : Nat) (found : List ChainMember) (b : Block) : Block :=
  dictWith p 0x2200 3 v (fun b => if v % 2 = 1 then discovery found b else (stOK, b)) b

/-- A write of H or of the chain mask (R373). -/
def horizonCommand (p : Path) (mask : Bool) (v : Nat) (refused : Bool) (b : Block) : Block :=
  dictWith p 0x2220 (if mask then 2 else 1) v (horizonWrite mask (p == .sloe) refused v) b

/-- A request for the test of a bank (R401). -/
def bankTestCommand (p : Path) (v : Nat) (idle : Bool) (b : Block) : Block :=
  dictWith p 0x7012 0xA v (bankTestRequest v idle) b

/-- A coefficient or, as sub 0, a tap count of a bank of an engine (R129, R139, R140). -/
def coefficientCommand (p : Path) (mem : List Host.Cell) (k e sub v : Nat) (b : Block) : Block :=
  if sub = 0 then dictPut p mem (0x4600 + e) (9 + k) v b else dictPut p mem (coefObj k e) sub v b

/-- Forwarding entries that have waited for the chain are served (R378). -/
def serveForwards (b : Block) : Block :=
  forEach (List.range 8) (fun i b => let w := b.rd 0x2240 (i + 1); if bit w 31 then serveWaiting (bits w 0 12) b else b) b

/-- DISCOVERY_COMPLETE, with the fate of forwarded requests on the master (R367, R488). -/
def discoveryEnd (mem : List Host.Cell) (x : ChainInfo) (b : Block) : Block :=
  let done := fun (b : Block) =>
    let was := b.rd 0x2200 4
    let b := serveForwards (discoveryComplete x b)
    if b.isMaster && was = 1 then forwardsLost b else b
  match b.chain.asked with
  | some q =>
    -- a discovery asked for by a dictionary request is answered now; a refused one leaves the chain as it was (R367)
    let b := { b.wr 0x2200 4 1 with chain := { b.chain with asked := none } }
    let st := discoveryStatus b x.found
    serveLater mem (respond q.path q.back 0x2200 3 (Resp.plain st)
      (if st = stOK then done { b with chain := { b.chain with found := discoveryTree b x.found } } else b.wr 0x2200 4 q.was))
  | none => serveLater mem (done b)

/-! ### Flags and counters (R49 to R51) -/

/-- An event of a counter: with its flag, where it has one. -/
def countEvent (idx c : Nat) (b : Block) : Block :=
  if isFlag idx (c - 1) && flagCounter idx (c - 1) == some c then setFlag idx (c - 1) b
  else if isFlag idx (c - 8) && flagCounter idx (c - 8) == some c then setFlag idx (c - 8) b
  else b.bump 32 idx c 1

/-- A write of `v` to a flag, with the set by hardware that falls in the same fabric cycle (R50). -/
def flagCommand (mem : List Host.Cell) (f : FlagRef) (v : Nat) (hwSet : Bool) (b : Block) : Block :=
  match f with
  | .dict p idx sub =>
    if !isFlag idx sub then b
    else
      let b := dictPut p mem idx sub v b
      if hwSet then setFlag idx sub b else b
  | .bar off i =>
    if !(flagPlaces off).contains i then b
    else
      let b := barPut mem off (v % 2 * 2 ^ i) b
      if hwSet then setBarFlag off i b else b

/-- The flag whose events the clear field at bit `i` of a BAR0 register counts. -/
def clearedFlag (off i : Nat) : Nat :=
  if off = 0x1808 then (if i = 2 then 1 else 0) else if inQueues off then i - 2 else 0

/-- An event of the counter that the clear field at bit `i` of a BAR0 register clears. -/
def barCountEvent (off i : Nat) (b : Block) : Block :=
  if 0x800 ≤ off && off < 0xA00 then
    let t := (off - 0x800) / 0x40
    match i with
    | 0 => countEvent (0x6300 + t) 9 b
    | 1 => countEvent (0x6300 + t) 0xC b
    | 2 => countEvent (0x6400 + t) 3 b
    | _ => countEvent (0x6300 + t) 0xF b
  else setBarFlag off (clearedFlag off i) b

/-- A write of `v` to a clear field, with the event that falls in the same fabric cycle (R51). -/
def counterCommand (mem : List Host.Cell) (f : FlagRef) (v : Nat) (event : Bool) (b : Block) : Block :=
  match f with
  | .dict p idx sub =>
    match clearedBy idx sub with
    | none => b
    | some c =>
      let b := dictPut p mem idx sub v b
      if event then countEvent idx c b else b
  | .bar off i =>
    if !(clearPlaces off).contains i then b
    else
      let b := barPut mem off (v % 2 * 2 ^ i) b
      if event then barCountEvent off i b else b

/-! ### Windows of the function (R394, R432, R439, R443, R512) -/

/-- A host access of BAR2, or a use of a queue by an on-chip agent. `pop` gives queue and words of an access that is answered. A module
that is not ready returns 0 and discards; a request wakes a sleeping one (R513) and is served in place. Responses that waited
for room in the response ring enter (R485). -/
def queueWindow (a : Agent) (pop : Option (Nat × Nat)) (f : Block → Block) (b : Block) : Block :=
  if a.cls != .host then flushResponses (f b)
  else if !b.barUp then (if pop.isSome then unsupported b else b)
  else if !b.ready then
    (match pop with
    | some (q, n) => linkUse (b.emit (.popped q (List.replicate n 0)))
    | none => b)
  else flushResponses (f (wake 7 (if pop.isSome then linkUse b else b)))

/-- An access of the bank window (R394, R439). -/
def bankAccess (mem : List Host.Cell) (write : Bool) (off len data : Nat) (b : Block) : Block :=
  if write then barWrite mem (0x2000000 + off) len data b
  else if !b.barUp then unsupported b
  else if !b.ready then linkUse (b.emit (.bankData (off / 0x80000 % 64) (off % 0x80000 / 8) 0))
  else bankWindow false off len data (wake 7 (linkUse b))

/-- A read of BANK_ATOMIC_OLD_LO (R411). -/
def oldLoRead (b : Block) : Block :=
  if !b.barUp then unsupported b
  else if !b.ready then linkUse (b.emit (.bankData 0 0 0))
  else atomicOldLoRead (wake 7 (linkUse b))

/-- A ready module returns to PS0 before a BAR4 access is served (R512). -/
def apertureWake (b : Block) : Block := if b.barUp && b.ready then awake b.requestCode b else b

/-- BAR4 accesses (R443, R444, R211). A request of 0 octets, which no memory read has, stands for an AtomicOp or a locked read, whose answer is
Unsupported Request (R466; DESIGN CHOICE, log 12). Asleep in thermal hold they are not carried out, and a read gets no completion (log 49). -/
def apertureRead (mem : List Host.Cell) (x len : Nat) (bad : List Nat) (b : Block) : Block :=
  let w := apertureWake b
  if len = 0 then unsupported b
  else if w.asleepInHold then b else bar4Read (memApply mem w.mops) x len bad (if b.barUp then linkUse w else b)
def apertureWrite (x : Nat) (data : List Byte) (bad : TlpState) (b : Block) : Block :=
  let w := apertureWake b
  if w.asleepInHold then b else bar4Write x data bad w

/-- PTM_REQUEST: a write of REQUEST is rejected while the module is not ready (R439, R458). -/
def ptmCommand (asked : Bool) (off : Nat) (b : Block) : Block :=
  if asked && b.barUp && !b.ready then rejectWrite 0x1840 (notReadyStatus b) b
  else
    let w := if asked && b.barUp then barWake 0x1840 0 b else b
    if asked && w.asleepInHold then b else ptmRequest asked off w

/-! ### Ends that the capture store reaches by itself (R226, R229, R230) -/

/-- POST_TRIGGER_STOP: the position after which the post-trigger count ends has been evaluated. The trigger has requested the stop
there (`ringTrigger`); it takes effect if it has become known. -/
def postTriggerStop (t : Nat) (b : Block) : Block :=
  match (b.store t).postStop with
  | some p => if p < (b.dom t).evaluated then knowStop t b else b
  | none => b

/-- SEGMENT_LENGTH_CLOSE: the open segment has reached its length among the positions evaluated. -/
def segmentLengthClose (t : Nat) (b : Block) : Block :=
  if (b.store t).seg.isSome then settleSegment t (b.dom t).evaluated b else b

/-- DEFERRED_SEGMENT_OPEN: the position of a deferred open is the next to be evaluated, or has been. -/
def deferredSegmentOpen (t : Nat) (b : Block) : Block :=
  if (b.store t).seg.isNone then settleSegment t (b.dom t).evaluated b else b

end Sys2Proof.Machine
end

