-- ==== Sys2Proof/Machine/CanPort.lean ====
section
/-! DEFINITION. The meanings of the commands of the CAN FD port (16_object_dictionary.md, 17_power_start_up_and_survival.md). -/

namespace Sys2Proof.Machine

/-- The meaning of NMT_START (R492). -/
def execNmtStart (s : State) : Host.Outcome State Fault Refusal :=
  s.act true (fun (_ : List Host.Cell) (b : Block) => nmtCommand (fun (b : Block) => b.wr 0x1E20 7 5) b)

/-- The meaning of NMT_STOP (R492). -/
def execNmtStop (s : State) : Host.Outcome State Fault Refusal :=
  s.act true (fun (_ : List Host.Cell) (b : Block) => nmtCommand (fun (b : Block) => b.wr 0x1E20 7 4) b)

/-- The meaning of NMT_ENTER_PRE_OPERATIONAL (R492). -/
def execNmtEnterPreOperational (s : State) : Host.Outcome State Fault Refusal :=
  s.act true (fun (_ : List Host.Cell) (b : Block) => nmtCommand (fun (b : Block) => b.wr 0x1E20 7 0x7F) b)

/-- The meaning of NMT_RESET_COMMUNICATION (R492). -/
def execNmtResetCommunication (s : State) : Host.Outcome State Fault Refusal :=
  s.act true (fun (_ : List Host.Cell) (b : Block) => nmtCommand nmtReset b)

/-- The meaning of NMT_RESET_NODE (R492). -/
def execNmtResetNode (s : State) : Host.Outcome State Fault Refusal :=
  s.act true (fun (_ : List Host.Cell) (b : Block) => nmtCommand nmtReset b)

/-- The meaning of HEARTBEAT (R491). -/
def execHeartbeat (s : State) : Host.Outcome State Fault Refusal :=
  s.act true (fun (_ : List Host.Cell) (b : Block) => heartbeat b)

/-- The meaning of EMCY_TRANSMIT (R493). -/
def execEmcyTransmit (s : State) : Host.Outcome State Fault Refusal :=
  s.act true (fun (_ : List Host.Cell) (b : Block) => emcyTransmit b)

/-- The meaning of CAN_POLARITY_MEASURE (R521). -/
def execCanPolarityMeasure (mv : Int) (s : State) : Host.Outcome State Fault Refusal :=
  s.act true (fun (_ : List Host.Cell) (b : Block) => polarityMeasure mv b)

/-- The meaning of CAN_BUS_STATE_CHANGE (R523). -/
def execCanBusStateChange (st : Nat) (tx : Nat) (rx : Nat) (s : State) : Host.Outcome State Fault Refusal :=
  s.act (Instr.canBusStateChange st tx rx).wf (fun (_ : List Host.Cell) (b : Block) => busState st tx rx b)

end Sys2Proof.Machine
end

