-- ==== Sys2Proof/Machine/CaptureStore.lean ====
section
/-! DEFINITION. The meanings of the commands of the capture store (07_capture_store_and_segments.md, 15_pcie_endpoint.md). -/

namespace Sys2Proof.Machine

/-- The meaning of REGION_ALLOCATION_WRITE (R204). -/
def execRegionAllocationWrite (p : Path) (r : Nat) (v : Nat) (s : State) : Host.Outcome State Fault Refusal :=
  s.act (Instr.regionAllocationWrite p r v).wf (fun (mem : List Host.Cell) (b : Block) => dictPut p mem 0x6000 (r + 1) v b)

/-- The meaning of REGION_CLEAR (R208). -/
def execRegionClear (p : Path) (v : Nat) (s : State) : Host.Outcome State Fault Refusal :=
  s.act true (fun (mem : List Host.Cell) (b : Block) => dictPut p mem 0x6001 6 v b)

/-- The meaning of STORE_COMMIT (R18). -/
def execStoreCommit (t : Nat) (s : State) : Host.Outcome State Fault Refusal :=
  s.act (Instr.storeCommit t).wf (fun (_ : List Host.Cell) (b : Block) => storeCommit t b)

/-- The meaning of HWM_WRITE (R235). -/
def execHwmWrite (p : Path) (t : Nat) (v : Nat) (s : State) : Host.Outcome State Fault Refusal :=
  s.act (Instr.hwmWrite p t v).wf (fun (mem : List Host.Cell) (b : Block) => dictPut p mem (0x6100 + t) 8 v b)

/-- The meaning of PEAK_RESET (R235). -/
def execPeakReset (w : Via) (t : Nat) (v : Nat) (s : State) : Host.Outcome State Fault Refusal :=
  s.act (Instr.peakReset w t v).wf (fun (mem : List Host.Cell) (b : Block) => viaPut w mem (0x804 + 0x40 * t) (v % 2 * 16) (0x6400 + t) 6 v b)

/-- The meaning of POST_TRIGGER_STOP (R226). -/
def execPostTriggerStop (t : Nat) (s : State) : Host.Outcome State Fault Refusal :=
  s.act (Instr.postTriggerStop t).wf (fun (_ : List Host.Cell) (b : Block) => postTriggerStop t b)

/-- The meaning of SEGMENT_LENGTH_CLOSE (R229). -/
def execSegmentLengthClose (t : Nat) (s : State) : Host.Outcome State Fault Refusal :=
  s.act (Instr.segmentLengthClose t).wf (fun (_ : List Host.Cell) (b : Block) => segmentLengthClose t b)

/-- The meaning of DEFERRED_SEGMENT_OPEN (R230). -/
def execDeferredSegmentOpen (t : Nat) (s : State) : Host.Outcome State Fault Refusal :=
  s.act (Instr.deferredSegmentOpen t).wf (fun (_ : List Host.Cell) (b : Block) => deferredSegmentOpen t b)

/-- The meaning of BAR4_READ (R444). -/
def execBar4Read (x : Nat) (len : Nat) (bad : List Nat) (s : State) : Host.Outcome State Fault Refusal :=
  s.act (Instr.bar4Read x len bad).wf (fun (mem : List Host.Cell) (b : Block) => apertureRead mem x len bad b)

/-- The meaning of BAR4_WRITE (R211). -/
def execBar4Write (x : Nat) (data : List Byte) (bad : TlpState) (s : State) : Host.Outcome State Fault Refusal :=
  s.act (Instr.bar4Write x data bad).wf (fun (_ : List Host.Cell) (b : Block) => apertureWrite x data bad b)

end Sys2Proof.Machine
end

