-- ==== Sys2Proof/Machine/Chain.lean ====
section
/-! DEFINITION. The meanings of the commands of SYNC_IN and Sloe chains (12_frame_sync_and_sloe_chains.md). -/

namespace Sys2Proof.Machine

/-- The meaning of SYNC_IN_EVENT (R357). -/
def execSyncInEvent (e : Nat) (s : State) : Host.Outcome State Fault Refusal :=
  s.act (Instr.syncInEvent e).wf (fun (_ : List Host.Cell) (b : Block) => syncInEvent e b)

/-- The meaning of SYNC_SLIP (R353). -/
def execSyncSlip (s : State) : Host.Outcome State Fault Refusal :=
  s.act true (fun (_ : List Host.Cell) (b : Block) => syncSlip b)

/-- The meaning of FRAME_LOAD (R359). -/
def execFrameLoad (s : State) : Host.Outcome State Fault Refusal :=
  s.act true (fun (_ : List Host.Cell) (b : Block) => frameLoad b)

/-- The meaning of CHAIN_LOAD_WRITE (R375). -/
def execChainLoadWrite (p : Path) (v : Nat) (s : State) : Host.Outcome State Fault Refusal :=
  s.act true (fun (mem : List Host.Cell) (b : Block) => dictPut p mem 0x2220 7 v b)

/-- The meaning of SLOE_TRAINING_COMPLETE (R361). -/
def execSloeTrainingComplete (p : Nat) (x : Training) (s : State) : Host.Outcome State Fault Refusal :=
  s.act (Instr.sloeTrainingComplete p x).wf (fun (_ : List Host.Cell) (b : Block) => sloeTrained p x b)

/-- The meaning of SLOE_FRAME_MESSAGE (R364). -/
def execSloeFrameMessage (p : Nat) (off : Nat) (ws : List Nat) (s : State) : Host.Outcome State Fault Refusal :=
  s.act (Instr.sloeFrameMessage p off ws).wf (fun (_ : List Host.Cell) (b : Block) => sloeMessage p off ws b)

/-- The meaning of LINK_LOSS (R365). -/
def execLinkLoss (l : LostLink) (s : State) : Host.Outcome State Fault Refusal :=
  s.act (Instr.linkLoss l).wf (fun (_ : List Host.Cell) (b : Block) => linkLost l b)

/-- The meaning of DISCOVERY (R367). -/
def execDiscovery (p : Path) (v : Nat) (found : List ChainMember) (s : State) : Host.Outcome State Fault Refusal :=
  s.act true (fun (_ : List Host.Cell) (b : Block) => discoveryCommand p v found b)

/-- The meaning of DISCOVERY_COMPLETE (R367). -/
def execDiscoveryComplete (x : ChainInfo) (s : State) : Host.Outcome State Fault Refusal :=
  s.act true (fun (mem : List Host.Cell) (b : Block) => discoveryEnd mem x b)

/-- The meaning of ALIGNMENT (R369). -/
def execAlignment (x : MeasuredLink) (s : State) : Host.Outcome State Fault Refusal :=
  s.act (Instr.alignment x).wf (fun (_ : List Host.Cell) (b : Block) => alignment x.port x.ready b)

/-- The meaning of ALIGN_TRACK (R370). -/
def execAlignTrack (s : State) : Host.Outcome State Fault Refusal :=
  s.act true (fun (_ : List Host.Cell) (b : Block) => alignTrack b)

/-- The meaning of HORIZON_WRITE (R373). -/
def execHorizonWrite (p : Path) (v : Nat) (refused : Bool) (s : State) : Host.Outcome State Fault Refusal :=
  s.act true (fun (_ : List Host.Cell) (b : Block) => horizonCommand p false v refused b)

/-- The meaning of CHAIN_MASK_WRITE (R373). -/
def execChainMaskWrite (p : Path) (v : Nat) (refused : Bool) (s : State) : Host.Outcome State Fault Refusal :=
  s.act true (fun (_ : List Host.Cell) (b : Block) => horizonCommand p true v refused b)

/-- The meaning of SLOE_SIGNAL_PRESENT (R361). -/
def execSloeSignalPresent (p : Nat) (s : State) : Host.Outcome State Fault Refusal :=
  s.act (Instr.sloeSignalPresent p).wf (fun (_ : List Host.Cell) (b : Block) => sloeSignal p b)

/-- The meaning of SLOE_TRAINING_LANES_TIMEOUT (R361). -/
def execSloeTrainingLanesTimeout (p : Nat) (s : State) : Host.Outcome State Fault Refusal :=
  s.act (Instr.sloeTrainingLanesTimeout p).wf (fun (_ : List Host.Cell) (b : Block) => sloeLanesTimeout p b)

end Sys2Proof.Machine
end

