-- ==== Sys2Proof/Machine/Dictionary.lean ====
section
/-! DEFINITION. The meanings of the commands of the object dictionary (16_object_dictionary.md). -/

namespace Sys2Proof.Machine

/-- The meaning of MAILBOX_REQUEST (R484). -/
def execMailboxRequest (s : State) : Host.Outcome State Fault Refusal :=
  s.act true (fun (mem : List Host.Cell) (b : Block) => mailboxRequest mem b)

/-- The meaning of DICT_READ (R474). -/
def execDictRead (p : Path) (idx : Nat) (sub : Nat) (off : Nat) (len : Nat) (s : State) : Host.Outcome State Fault Refusal :=
  s.act (Instr.dictRead p idx sub off len).wf (fun (_ : List Host.Cell) (b : Block) => dictReadCommand p idx sub off len b)

/-- The meaning of DICT_WRITE (R474). -/
def execDictWrite (p : Path) (idx : Nat) (sub : Nat) (data : List Byte) (s : State) : Host.Outcome State Fault Refusal :=
  s.act (Instr.dictWrite p idx sub data).wf (fun (mem : List Host.Cell) (b : Block) => dictCommand p mem idx sub data b)

/-- The meaning of CAN_SDO_REQUEST (R491). -/
def execCanSdoRequest (x : SdoTransfer) (idx : Nat) (sub : Nat) (data : List Byte) (s : State) : Host.Outcome State Fault Refusal :=
  s.act (Instr.canSdoRequest x idx sub data).wf (fun (mem : List Host.Cell) (b : Block) => canRequest mem x idx sub data b)

/-- The meaning of SDO_SEGMENT_TIMEOUT (R491). -/
def execSdoSegmentTimeout (s : State) : Host.Outcome State Fault Refusal :=
  s.act true (fun (_ : List Host.Cell) (b : Block) => segmentTimeout b)

/-- The meaning of SLOE_DICT_REQUEST (R487). -/
def execSloeDictRequest (master : Nat) (no : Nat) (ws : List Nat) (s : State) : Host.Outcome State Fault Refusal :=
  s.act (Instr.sloeDictRequest master no ws).wf (fun (mem : List Host.Cell) (b : Block) => sloeRequest mem master no ws b)

/-- The meaning of FORWARD_RETRANSMIT (R488). -/
def execForwardRetransmit (no : Nat) (s : State) : Host.Outcome State Fault Refusal :=
  s.act true (fun (_ : List Host.Cell) (b : Block) => forwardRetransmit no b)

/-- The meaning of STORE_PARAMETERS (R495). -/
def execStoreParameters (p : Path) (sub : Nat) (v : Nat) (s : State) : Host.Outcome State Fault Refusal :=
  s.act (Instr.storeParameters p sub v).wf (fun (mem : List Host.Cell) (b : Block) => dictPut p mem 0x1010 sub v b)

/-- The meaning of FLASH_WRITE_END (R495). -/
def execFlashWriteEnd (ok : Bool) (s : State) : Host.Outcome State Fault Refusal :=
  s.act true (fun (_ : List Host.Cell) (b : Block) => flashWriteEnd ok b)

/-- The meaning of RESTORE_DEFAULTS (R498). -/
def execRestoreDefaults (p : Path) (sub : Nat) (v : Nat) (s : State) : Host.Outcome State Fault Refusal :=
  s.act (Instr.restoreDefaults p sub v).wf (fun (mem : List Host.Cell) (b : Block) => dictPut p mem 0x1011 sub v b)

/-- The meaning of FORWARDED_RESPONSE (R487). -/
def execForwardedResponse (no : Nat) (ws : List Nat) (s : State) : Host.Outcome State Fault Refusal :=
  s.act true (fun (_ : List Host.Cell) (b : Block) => forwardedResponse no ws b)

end Sys2Proof.Machine
end

