-- ==== Sys2Proof/Machine/Domains.lean ====
section
/-! DEFINITION. The meanings of the commands of domains, arming and protocol term units (01_frame_and_flow.md, 05_trigger_sequencer.md, 06_protocol_terms.md). -/

namespace Sys2Proof.Machine

/-- The meaning of POD_ASSIGN_WRITE (R22). -/
def execPodAssignWrite (p : Path) (n : Nat) (v : Nat) (s : State) : Host.Outcome State Fault Refusal :=
  s.act (Instr.podAssignWrite p n v).wf (fun (mem : List Host.Cell) (b : Block) => dictPut p mem 0x5000 (n + 1) v b)

/-- The meaning of MODE_WRITE (R28). -/
def execModeWrite (p : Path) (t : Nat) (v : Nat) (s : State) : Host.Outcome State Fault Refusal :=
  s.act (Instr.modeWrite p t v).wf (fun (mem : List Host.Cell) (b : Block) => dictPut p mem 0x5001 (t + 1) v b)

/-- The meaning of ARM (R171). -/
def execArm (w : Via) (t : Nat) (s : State) : Host.Outcome State Fault Refusal :=
  s.act (Instr.arm w t).wf (fun (mem : List Host.Cell) (b : Block) => viaPut w mem (0x400 + 0x40 * t) 1 (0x5100 + t) 1 1 b)

/-- The meaning of STOP (R172). -/
def execStop (w : Via) (t : Nat) (s : State) : Host.Outcome State Fault Refusal :=
  s.act (Instr.stop w t).wf (fun (mem : List Host.Cell) (b : Block) => viaPut w mem (0x400 + 0x40 * t) 2 (0x5100 + t) 1 2 b)

/-- The meaning of FORCE_TRIGGER (R166). -/
def execForceTrigger (w : Via) (t : Nat) (s : State) : Host.Outcome State Fault Refusal :=
  s.act (Instr.forceTrigger w t).wf (fun (mem : List Host.Cell) (b : Block) => viaPut w mem (0x400 + 0x40 * t) 3 (0x5100 + t) 1 3 b)

/-- The meaning of PTU_ASSIGN_WRITE (R182). -/
def execPtuAssignWrite (p : Path) (u : Nat) (v : Nat) (s : State) : Host.Outcome State Fault Refusal :=
  s.act (Instr.ptuAssignWrite p u v).wf (fun (mem : List Host.Cell) (b : Block) => dictPut p mem 0x5800 (u + 1) v b)

/-- The meaning of PTU_STANDARD_WRITE (R198). -/
def execPtuStandardWrite (p : Path) (u : Nat) (v : Nat) (s : State) : Host.Outcome State Fault Refusal :=
  s.act (Instr.ptuStandardWrite p u v).wf (fun (mem : List Host.Cell) (b : Block) => dictPut p mem (0x5810 + u) 1 v b)

end Sys2Proof.Machine
end

