-- ==== Sys2Proof/Machine/HwQueues.lean ====
section
/-! DEFINITION. The meanings of the commands of the hardware queues (14_queues.md). -/

namespace Sys2Proof.Machine

/-- The meaning of QUEUE_PUSH (R425). -/
def execQueuePush (a : Agent) (q : Nat) (prio : Nat) (data : Nat) (ended : Bool) (upset : Bool) (s : State) : Host.Outcome State Fault Refusal :=
  s.act (Instr.queuePush a q prio data ended upset).wf (fun (_ : List Host.Cell) (b : Block) => queueWindow a none (queuePush a q prio data ended upset) b)

/-- The meaning of QUEUE_POP (R420). -/
def execQueuePop (a : Agent) (q : Nat) (upset : Bool) (s : State) : Host.Outcome State Fault Refusal :=
  s.act (Instr.queuePop a q upset).wf (fun (_ : List Host.Cell) (b : Block) => queueWindow a (some (q, 2)) (queuePop a q upset) b)

/-- The meaning of POP_BURST (R423). -/
def execPopBurst (q : Nat) (len : Nat) (upset : Bool) (s : State) : Host.Outcome State Fault Refusal :=
  s.act (Instr.popBurst q len upset).wf (fun (_ : List Host.Cell) (b : Block) => queueWindow hostAgent (some (q, len / 8)) (popBurst q len upset) b)

/-- The meaning of HOST_POP_TIMEOUT (R423). -/
def execHostPopTimeout (q : Nat) (s : State) : Host.Outcome State Fault Refusal :=
  s.act (Instr.hostPopTimeout q).wf (fun (_ : List Host.Cell) (b : Block) => hostPopTimeout q b)

/-- The meaning of MARK (R422). -/
def execMark (a : Agent) (q : Nat) (upset : Bool) (s : State) : Host.Outcome State Fault Refusal :=
  s.act (Instr.mark a q upset).wf (fun (_ : List Host.Cell) (b : Block) => queueWindow a none (queueCommand 1 a q upset) b)

/-- The meaning of REWIND (R422). -/
def execRewind (a : Agent) (q : Nat) (upset : Bool) (s : State) : Host.Outcome State Fault Refusal :=
  s.act (Instr.rewind a q upset).wf (fun (_ : List Host.Cell) (b : Block) => queueWindow a none (queueCommand 2 a q upset) b)

/-- The meaning of RELEASE (R422). -/
def execRelease (a : Agent) (q : Nat) (upset : Bool) (s : State) : Host.Outcome State Fault Refusal :=
  s.act (Instr.release a q upset).wf (fun (_ : List Host.Cell) (b : Block) => queueWindow a none (queueCommand 3 a q upset) b)

/-- The meaning of QCFG_WRITE (R417). -/
def execQcfgWrite (w : Via) (q : Nat) (v : Nat) (s : State) : Host.Outcome State Fault Refusal :=
  s.act (Instr.qcfgWrite w q v).wf (fun (mem : List Host.Cell) (b : Block) => viaPut w mem (0x20000 + 0x20 * q) v 0x7081 2 v b)

/-- The meaning of QEND_WRITE (R434). -/
def execQendWrite (w : Via) (q : Nat) (v : Nat) (s : State) : Host.Outcome State Fault Refusal :=
  s.act (Instr.qendWrite w q v).wf (fun (mem : List Host.Cell) (b : Block) => viaPut w mem (0x20004 + 0x20 * q) v 0x7081 3 v b)

end Sys2Proof.Machine
end

