-- ==== Sys2Proof/Machine/IndigoEngines.lean ====
section
/-! DEFINITION. The meanings of the commands of the Indigo engines (04_ochre_and_indigo.md). -/

namespace Sys2Proof.Machine

/-- The meaning of INDIGO_SYNC_REQUEST (R123). -/
def execIndigoSyncRequest (w : Via) (v : Nat) (s : State) : Host.Outcome State Fault Refusal :=
  s.act true (fun (mem : List Host.Cell) (b : Block) => viaPut w mem 0x318 v 0x4010 1 v b)

/-- The meaning of INDIGO_SYNC_RESET (R123). -/
def execIndigoSyncReset (s : State) : Host.Outcome State Fault Refusal :=
  s.act true (fun (_ : List Host.Cell) (b : Block) => indigoSyncReset b)

/-- The meaning of INDIGO_ENGINE_WRITE (R125). -/
def execIndigoEngineWrite (p : Path) (e : Nat) (sub : Nat) (v : Nat) (s : State) : Host.Outcome State Fault Refusal :=
  s.act (Instr.indigoEngineWrite p e sub v).wf (fun (mem : List Host.Cell) (b : Block) => dictPut p mem (0x4600 + e) sub v b)

/-- The meaning of INDIGO_OUTPUT (R118). -/
def execIndigoOutput (e : Nat) (s : State) : Host.Outcome State Fault Refusal :=
  s.act (Instr.indigoOutput e).wf (fun (_ : List Host.Cell) (b : Block) => indigoOutputAll e b)

/-- The meaning of BANK_REQUEST (R127). -/
def execBankRequest (w : Via) (e : Nat) (v : Nat) (s : State) : Host.Outcome State Fault Refusal :=
  s.act (Instr.bankRequest w e v).wf (fun (mem : List Host.Cell) (b : Block) => viaPut w mem 0x31C (e + 256 * (v % 2)) (0x4600 + e) 6 v b)

/-- The meaning of FADE_END (R128). -/
def execFadeEnd (e : Nat) (s : State) : Host.Outcome State Fault Refusal :=
  s.act (Instr.fadeEnd e).wf (fun (_ : List Host.Cell) (b : Block) => fadeEnd e b)

/-- The meaning of COEFFICIENT_WRITE (R129). -/
def execCoefficientWrite (p : Path) (k : Nat) (e : Nat) (sub : Nat) (v : Nat) (s : State) : Host.Outcome State Fault Refusal :=
  s.act (Instr.coefficientWrite p k e sub v).wf (fun (mem : List Host.Cell) (b : Block) => coefficientCommand p mem k e sub v b)

/-- The meaning of THRESHOLD_WRITE (R132). -/
def execThresholdWrite (p : Path) (l : Nat) (sub : Nat) (v : Nat) (s : State) : Host.Outcome State Fault Refusal :=
  s.act (Instr.thresholdWrite p l sub v).wf (fun (mem : List Host.Cell) (b : Block) => dictPut p mem (0x4800 + l) sub v b)

end Sys2Proof.Machine
end

