-- ==== Sys2Proof/Machine/Measurement.lean ====
section
/-! DEFINITION. The meanings of the commands of measurements, masks and histograms (09_record_measurements_and_masks.md). -/

namespace Sys2Proof.Machine

/-- The meaning of WINDOW_END (R272). -/
def execWindowEnd (t : Nat) (s : State) : Host.Outcome State Fault Refusal :=
  s.act (Instr.windowEnd t).wf (fun (_ : List Host.Cell) (b : Block) => windowEnd t b)

/-- The meaning of RESULTS_LATCH (R276). -/
def execResultsLatch (n : Nat) (s : State) : Host.Outcome State Fault Refusal :=
  s.act (Instr.resultsLatch n).wf (fun (_ : List Host.Cell) (b : Block) => resultsLatch n b)

/-- The meaning of LIMIT_COMPARE (R285). -/
def execLimitCompare (t : Nat) (s : State) : Host.Outcome State Fault Refusal :=
  s.act (Instr.limitCompare t).wf (fun (_ : List Host.Cell) (b : Block) => limitCompare t b)

/-- The meaning of MASK_HOLDOFF_END (R288). -/
def execMaskHoldoffEnd (t : Nat) (s : State) : Host.Outcome State Fault Refusal :=
  s.act (Instr.maskHoldoffEnd t).wf (fun (_ : List Host.Cell) (b : Block) => holdoffEnd t b)

/-- The meaning of SNAPSHOT_COMMAND (R282). -/
def execSnapshotCommand (p : Path) (h : Nat) (v : Nat) (s : State) : Host.Outcome State Fault Refusal :=
  s.act (Instr.snapshotCommand p h v).wf (fun (mem : List Host.Cell) (b : Block) => dictPut p mem (0x6A00 + h) 0xA v b)

/-- The meaning of SNAPSHOT_READOUT_START (R282). -/
def execSnapshotReadoutStart (h : Nat) (s : State) : Host.Outcome State Fault Refusal :=
  s.act (Instr.snapshotReadoutStart h).wf (fun (_ : List Host.Cell) (b : Block) => readoutStart h b)

/-- The meaning of SNAPSHOT_READOUT_END (R283). -/
def execSnapshotReadoutEnd (h : Nat) (s : State) : Host.Outcome State Fault Refusal :=
  s.act (Instr.snapshotReadoutEnd h).wf (fun (_ : List Host.Cell) (b : Block) => readoutEnd h b)

end Sys2Proof.Machine
end

