-- ==== Sys2Proof/Machine/PcieEndpoint.lean ====
section
/-! DEFINITION. The meanings of the commands of the PCI Express endpoint (15_pcie_endpoint.md). -/

namespace Sys2Proof.Machine

/-- The meaning of PERST_DEASSERT (R439). -/
def execPerstDeassert (s : State) : Host.Outcome State Fault Refusal :=
  s.act true (fun (_ : List Host.Cell) (b : Block) => wake 8 (perstDeassert b))

/-- The meaning of CONFIG_SPACE_READY (R439). -/
def execConfigSpaceReady (c : HostConfig) (s : State) : Host.Outcome State Fault Refusal :=
  s.act true (fun (_ : List Host.Cell) (b : Block) => configReady c b)

/-- The meaning of WIN_STAGED_WRITE (R445). -/
def execWinStagedWrite (w : Nat) (v : Nat) (s : State) : Host.Outcome State Fault Refusal :=
  s.act (Instr.winStagedWrite w v).wf (fun (mem : List Host.Cell) (b : Block) => barPut mem (0x1820 + 4 * w) v b)

/-- The meaning of WIN_COMMIT (R445). -/
def execWinCommit (mask : Nat) (s : State) : Host.Outcome State Fault Refusal :=
  s.act true (fun (mem : List Host.Cell) (b : Block) => barPut mem 0x1818 mask b)

/-- The meaning of WINDOW_DRAIN_END (R446). -/
def execWindowDrainEnd (s : State) : Host.Outcome State Fault Refusal :=
  s.act true (fun (_ : List Host.Cell) (b : Block) => drainEnd b)

/-- The meaning of DMA_ENABLE (R471). -/
def execDmaEnable (c : Nat) (v : Nat) (s : State) : Host.Outcome State Fault Refusal :=
  s.act (Instr.dmaEnable c v).wf (fun (mem : List Host.Cell) (b : Block) => barPut mem (0x2000 + 0x40 * c) v b)

/-- The meaning of DMA_ABORT (R460). -/
def execDmaAbort (c : Nat) (s : State) : Host.Outcome State Fault Refusal :=
  s.act (Instr.dmaAbort c).wf (fun (mem : List Host.Cell) (b : Block) => barPut mem (0x2000 + 0x40 * c) ((b.chan c).ctrl + 2 ^ 30) b)

/-- The meaning of DMA_TAIL_WRITE (R447). -/
def execDmaTailWrite (c : Nat) (v : Nat) (s : State) : Host.Outcome State Fault Refusal :=
  s.act (Instr.dmaTailWrite c v).wf (fun (mem : List Host.Cell) (b : Block) => barPut mem (0x2018 + 0x40 * c) v b)

/-- The meaning of DESCRIPTOR_COMPLETE (R451). -/
def execDescriptorComplete (c : Nat) (bad : List Nat) (s : State) : Host.Outcome State Fault Refusal :=
  s.act (Instr.descriptorComplete c bad).wf (fun (mem : List Host.Cell) (b : Block) => descriptorComplete mem c bad b)

/-- The meaning of DMA_READ_COMPLETION (R459). -/
def execDmaReadCompletion (tag : Nat) (data : List Byte) (bad : TlpState) (s : State) : Host.Outcome State Fault Refusal :=
  s.act (Instr.dmaReadCompletion tag data bad).wf (fun (_ : List Host.Cell) (b : Block) => readCompletion tag data bad b)

/-- The meaning of COMPLETION_TIMEOUT (R466). -/
def execCompletionTimeout (tag : Nat) (s : State) : Host.Outcome State Fault Refusal :=
  s.act (Instr.completionTimeout tag).wf (fun (_ : List Host.Cell) (b : Block) => completionTimeout tag b)

/-- The meaning of BME_CLEAR (R459). -/
def execBmeClear (s : State) : Host.Outcome State Fault Refusal :=
  s.act true (fun (_ : List Host.Cell) (b : Block) => bmeClear (wake 7 b))

/-- The meaning of D3HOT_ENTRY (R461). -/
def execD3hotEntry (s : State) : Host.Outcome State Fault Refusal :=
  s.act true (fun (_ : List Host.Cell) (b : Block) => d3Entry (wake 7 b))

/-- The meaning of FLR (R462). -/
def execFlr (s : State) : Host.Outcome State Fault Refusal :=
  s.act true (fun (_ : List Host.Cell) (b : Block) => flr (awake 7 b))

/-- The meaning of FLR_COMPLETE (R462). -/
def execFlrComplete (s : State) : Host.Outcome State Fault Refusal :=
  s.act true (fun (_ : List Host.Cell) (b : Block) => flrComplete b)

/-- The meaning of CONVENTIONAL_RESET (R464). -/
def execConventionalReset (perst : Bool) (s : State) : Host.Outcome State Fault Refusal :=
  s.act true (fun (_ : List Host.Cell) (b : Block) => conventionalReset perst b)

/-- The meaning of PTM_REQUEST (R458). -/
def execPtmRequest (asked : Bool) (off : Nat) (s : State) : Host.Outcome State Fault Refusal :=
  s.act (Instr.ptmRequest asked off).wf (fun (_ : List Host.Cell) (b : Block) => ptmCommand asked off b)

/-- The meaning of PTM_DIALOG_COMPLETE (R458). -/
def execPtmDialogComplete (th : Nat) (s : State) : Host.Outcome State Fault Refusal :=
  s.act (Instr.ptmDialogComplete th).wf (fun (_ : List Host.Cell) (b : Block) => ptmComplete th b)

/-- The meaning of LINK_IDLE_ENTRY (R465). -/
def execLinkIdleEntry (st : Nat) (s : State) : Host.Outcome State Fault Refusal :=
  s.act (Instr.linkIdleEntry st).wf (fun (_ : List Host.Cell) (b : Block) => linkIdleEntry st b)

/-- The meaning of RETURN_TO_D0 (R461). -/
def execReturnToD0 (s : State) : Host.Outcome State Fault Refusal :=
  s.act true (fun (_ : List Host.Cell) (b : Block) => returnD0 (wake 7 b))

/-- The meaning of LINK_POWER_STATE_EXIT (R465). -/
def execLinkPowerStateExit (s : State) : Host.Outcome State Fault Refusal :=
  s.act true (fun (_ : List Host.Cell) (b : Block) => linkExit b)

end Sys2Proof.Machine
end

