-- ==== Sys2Proof/Machine/ProbeLanes.lean ====
section
/-! DEFINITION. The meanings of the commands of lanes, pods and the maintenance of pods (03_probe_lanes.md, 04_ochre_and_indigo.md, 13_sram_banks_and_maintenance.md). -/

namespace Sys2Proof.Machine

/-- The meaning of WINDOW_WRITE (R69). -/
def execWindowWrite (p : Path) (n : Nat) (sub : Nat) (v : Nat) (s : State) : Host.Outcome State Fault Refusal :=
  s.act (Instr.windowWrite p n sub v).wf (fun (mem : List Host.Cell) (b : Block) => dictPut p mem (0x3100 + n) sub v b)

/-- The meaning of WINDOW_SETTLED (R70). -/
def execWindowSettled (n : Nat) (s : State) : Host.Outcome State Fault Refusal :=
  s.act (Instr.windowSettled n).wf (fun (_ : List Host.Cell) (b : Block) => windowSettled n b)

/-- The meaning of LANE_SETTING_WRITE (R551). -/
def execLaneSettingWrite (p : Path) (l : Nat) (v : Nat) (s : State) : Host.Outcome State Fault Refusal :=
  s.act (Instr.laneSettingWrite p l v).wf (fun (mem : List Host.Cell) (b : Block) => dictPut p mem (0x3200 + l / 16) (l % 16 + 1) v b)

/-- The meaning of DITHER_WRITE (R72). -/
def execDitherWrite (p : Path) (n : Nat) (v : Nat) (s : State) : Host.Outcome State Fault Refusal :=
  s.act (Instr.ditherWrite p n v).wf (fun (mem : List Host.Cell) (b : Block) => dictPut p mem (0x3100 + n) 3 v b)

/-- The meaning of HEALTH_MODE_WRITE (R88). -/
def execHealthModeWrite (p : Path) (n : Nat) (v : Nat) (s : State) : Host.Outcome State Fault Refusal :=
  s.act (Instr.healthModeWrite p n v).wf (fun (mem : List Host.Cell) (b : Block) => dictPut p mem (0x3100 + n) 4 v b)

/-- The meaning of CONTACT_OVERVOLTAGE (R85). -/
def execContactOvervoltage (lane : Nat) (contact : Nat) (above : Bool) (s : State) : Host.Outcome State Fault Refusal :=
  s.act (Instr.contactOvervoltage lane contact above).wf (fun (_ : List Host.Cell) (b : Block) => contactOvervoltage lane contact above b)

/-- The meaning of HEALTH_VISIT_END (R87). -/
def execHealthVisitEnd (n : Nat) (zp : Nat) (zn : Nat) (swingP : Nat) (swingN : Nat) (s : State) : Host.Outcome State Fault Refusal :=
  s.act (Instr.healthVisitEnd n zp zn swingP swingN).wf
    (fun (_ : List Host.Cell) (b : Block) => healthVisitEnd n zp zn swingP swingN b)

/-- The meaning of PROBE_TEST_START (R89). -/
def execProbeTestStart (p : Path) (v : Nat) (s : State) : Host.Outcome State Fault Refusal :=
  s.act true (fun (mem : List Host.Cell) (b : Block) => dictPut p mem 0x3010 2 v b)

/-- The meaning of PROBE_TEST_END (R90). -/
def execProbeTestEnd (rs : List ProbeResult) (s : State) : Host.Outcome State Fault Refusal :=
  s.act (Instr.probeTestEnd rs).wf (fun (_ : List Host.Cell) (b : Block) => probeTestEnd rs b)

/-- The meaning of RECAL_START (R91). -/
def execRecalStart (p : Path) (v : Nat) (s : State) : Host.Outcome State Fault Refusal :=
  s.act true (fun (mem : List Host.Cell) (b : Block) => dictPut p mem 0x3011 2 v b)

/-- The meaning of RECAL_END (R91). -/
def execRecalEnd (n : Nat) (s : State) : Host.Outcome State Fault Refusal :=
  s.act (Instr.recalEnd n).wf (fun (_ : List Host.Cell) (b : Block) => recalEnd n b)

/-- The meaning of MAINTENANCE_ACTIVITY_START (R400). -/
def execMaintenanceActivityStart (s : State) : Host.Outcome State Fault Refusal :=
  s.act true (fun (_ : List Host.Cell) (b : Block) => activityStart b)

/-- The meaning of DETECTOR_PERIOD_END (R110). -/
def execDetectorPeriodEnd (n : Nat) (s : State) : Host.Outcome State Fault Refusal :=
  s.act (Instr.detectorPeriodEnd n).wf (fun (_ : List Host.Cell) (b : Block) => detectorPeriodEnd n b)

end Sys2Proof.Machine
end

