-- ==== Sys2Proof/Machine/Registers.lean ====
section
/-! DEFINITION. The meanings of the commands of BAR0 registers, reads that latch, flags and counters (02_conventions.md). -/

namespace Sys2Proof.Machine

/-- The meaning of FRAME_NOW_LO_READ (R35). -/
def execFrameNowLoRead (s : State) : Host.Outcome State Fault Refusal :=
  s.act true (fun (_ : List Host.Cell) (b : Block) => loRead 0x100 b)

/-- The meaning of REGISTER_WRITE (R55). -/
def execRegisterWrite (off : Nat) (size : Nat) (v : Nat) (s : State) : Host.Outcome State Fault Refusal :=
  s.act (Instr.registerWrite off size v).wf (fun (mem : List Host.Cell) (b : Block) => barWrite mem off size v b)

/-- The meaning of FLAG_CLEAR (R49). -/
def execFlagClear (f : FlagRef) (v : Nat) (hwSet : Bool) (s : State) : Host.Outcome State Fault Refusal :=
  s.act (Instr.flagClear f v hwSet).wf (fun (mem : List Host.Cell) (b : Block) => flagCommand mem f v hwSet b)

/-- The meaning of COUNTER_CLEAR (R51). -/
def execCounterClear (f : FlagRef) (v : Nat) (event : Bool) (s : State) : Host.Outcome State Fault Refusal :=
  s.act (Instr.counterClear f v event).wf (fun (mem : List Host.Cell) (b : Block) => counterCommand mem f v event b)

/-- The meaning of HOST_ABI_WRITE (R63). -/
def execHostAbiWrite (v : Nat) (s : State) : Host.Outcome State Fault Refusal :=
  s.act true (fun (mem : List Host.Cell) (b : Block) => barPut mem 0x1800 v b)

/-- The meaning of STORE_LO_READ (R249). -/
def execStoreLoRead (t : Nat) (which : Nat) (s : State) : Host.Outcome State Fault Refusal :=
  s.act (Instr.storeLoRead t which).wf (fun (_ : List Host.Cell) (b : Block) => barRead (0x800 + 0x40 * t + [0x10, 0x18, 0x28, 0x30].getD (which % 4) 0x10) ([4, 8, 2].getD (which / 4) 4) b)

/-- The meaning of TRIG_TS_LO_READ (R181). -/
def execTrigTsLoRead (t : Nat) (s : State) : Host.Outcome State Fault Refusal :=
  s.act (Instr.trigTsLoRead t).wf (fun (_ : List Host.Cell) (b : Block) => loRead (0x40C + 0x40 * t) b)

/-- The meaning of INDIGO_SYNC_LO_READ (R142). -/
def execIndigoSyncLoRead (s : State) : Host.Outcome State Fault Refusal :=
  s.act true (fun (_ : List Host.Cell) (b : Block) => loRead 0x310 b)

/-- The meaning of MASK_TS_LO_READ (R302). -/
def execMaskTsLoRead (t : Nat) (s : State) : Host.Outcome State Fault Refusal :=
  s.act (Instr.maskTsLoRead t).wf (fun (_ : List Host.Cell) (b : Block) => loRead (0xC08 + 0x20 * t) b)

/-- The meaning of CLK_JUMP_LO_READ (R352). -/
def execClkJumpLoRead (s : State) : Host.Outcome State Fault Refusal :=
  s.act true (fun (_ : List Host.Cell) (b : Block) => loRead 0xE14 b)

/-- The meaning of PTM_DEV_LO_READ (R458). -/
def execPtmDevLoRead (s : State) : Host.Outcome State Fault Refusal :=
  s.act true (fun (_ : List Host.Cell) (b : Block) => loRead 0x1848 b)

end Sys2Proof.Machine
end

