-- ==== Sys2Proof/Machine/SampleClock.lean ====
section
/-! DEFINITION. The meanings of the commands of the sample clock (11_sample_clock.md). -/

namespace Sys2Proof.Machine

/-- The meaning of CLOCK_CONFIG_WRITE (R328). -/
def execClockConfigWrite (p : Path) (sub : Nat) (v : Nat) (s : State) : Host.Outcome State Fault Refusal :=
  s.act (Instr.clockConfigWrite p sub v).wf (fun (mem : List Host.Cell) (b : Block) => dictPut p mem 0x2100 sub v b)

/-- The meaning of LOCK (R334). -/
def execLock (outer : Bool) (s : State) : Host.Outcome State Fault Refusal :=
  s.act true (fun (_ : List Host.Cell) (b : Block) => clockLock outer b)

/-- The meaning of BAND_ENTRY_WRITE (R330). -/
def execBandEntryWrite (p : Path) (i : Nat) (v : Nat) (s : State) : Host.Outcome State Fault Refusal :=
  s.act (Instr.bandEntryWrite p i v).wf (fun (mem : List Host.Cell) (b : Block) => dictPut p mem 0x2110 (i + 1) v b)

/-- The meaning of BAND_FACTORY_RELOAD (R331). -/
def execBandFactoryReload (p : Path) (v : Nat) (s : State) : Host.Outcome State Fault Refusal :=
  s.act true (fun (mem : List Host.Cell) (b : Block) => dictPut p mem 0x2110 0x81 v b)

/-- The meaning of REFCLK_OUT_SOURCE_WRITE (R329). -/
def execRefclkOutSourceWrite (p : Path) (v : Nat) (s : State) : Host.Outcome State Fault Refusal :=
  s.act true (fun (mem : List Host.Cell) (b : Block) => dictPut p mem 0x2100 6 v b)

/-- The meaning of PHASE_TARGET_WRITE (R335). -/
def execPhaseTargetWrite (w : Via) (v : Nat) (s : State) : Host.Outcome State Fault Refusal :=
  s.act true (fun (mem : List Host.Cell) (b : Block) => viaPut w mem 0xE0C v 0x2102 1 v b)

/-- The meaning of PHASE_STEP (R335). -/
def execPhaseStep (s : State) : Host.Outcome State Fault Refusal :=
  s.act true (fun (_ : List Host.Cell) (b : Block) => phaseStep b)

/-- The meaning of LOCK_LOST (R337). -/
def execLockLost (cause : Nat) (s : State) : Host.Outcome State Fault Refusal :=
  s.act (Instr.lockLost cause).wf (fun (_ : List Host.Cell) (b : Block) => lockLost cause b)

/-- The meaning of REFERENCE_QUALIFIED (R340). -/
def execReferenceQualified (s : State) : Host.Outcome State Fault Refusal :=
  s.act true (fun (_ : List Host.Cell) (b : Block) => referenceQualified b)

/-- The meaning of JUMP_MEASURED (R341). -/
def execJumpMeasured (j : Int) (s : State) : Host.Outcome State Fault Refusal :=
  s.act true (fun (_ : List Host.Cell) (b : Block) => jumpMeasured j b)

/-- The meaning of SLEW_END (R342). -/
def execSlewEnd (s : State) : Host.Outcome State Fault Refusal :=
  s.act true (fun (_ : List Host.Cell) (b : Block) => slewEnd b)

/-- The meaning of FALLBACK (R345). -/
def execFallback (s : State) : Host.Outcome State Fault Refusal :=
  s.act true (fun (_ : List Host.Cell) (b : Block) => clockFallback b)

/-- The meaning of REFERENCE_CONDITION_CHANGE (R340). -/
def execReferenceConditionChange (present : Bool) (mHz : Nat) (s : State) : Host.Outcome State Fault Refusal :=
  s.act true (fun (_ : List Host.Cell) (b : Block) => referenceCondition present mHz b)

end Sys2Proof.Machine
end

