-- ==== Sys2Proof/Machine/SramBanks.lean ====
section
/-! DEFINITION. The meanings of the commands of SRAM banks and maintenance (13_sram_banks_and_maintenance.md). -/

namespace Sys2Proof.Machine

/-- The meaning of HANDOVER_REQUEST (R389). -/
def execHandoverRequest (w : Via) (k : Nat) (gen : Nat) (new : Nat) (s : State) : Host.Outcome State Fault Refusal :=
  s.act (Instr.handoverRequest w k gen new).wf (fun (mem : List Host.Cell) (b : Block) => viaPut w mem 0x1400 (k + new * 2 ^ 8 + gen * 2 ^ 16) 0x7001 1 (k + new * 2 ^ 8 + gen * 2 ^ 16) b)

/-- The meaning of BANK_POWER_REQUEST (R397). -/
def execBankPowerRequest (w : Via) (k : Nat) (v : Nat) (s : State) : Host.Outcome State Fault Refusal :=
  s.act (Instr.bankPowerRequest w k v).wf (fun (mem : List Host.Cell) (b : Block) => viaPut w mem 0x1404 (k + 2 ^ 11 + v * 2 ^ 12) 0x7001 2 (k + 2 ^ 11 + v * 2 ^ 12) b)

/-- The meaning of BANK_KEEP_REQUEST (R397). -/
def execBankKeepRequest (w : Via) (k : Nat) (keep : Bool) (s : State) : Host.Outcome State Fault Refusal :=
  s.act (Instr.bankKeepRequest w k keep).wf (fun (mem : List Host.Cell) (b : Block) => viaPut w mem 0x1404 (k + 2 ^ 9 + b2n keep * 2 ^ 10) 0x7001 2 (k + 2 ^ 9 + b2n keep * 2 ^ 10) b)

/-- The meaning of RECLAIM (R403). -/
def execReclaim (w : Via) (k : Nat) (s : State) : Host.Outcome State Fault Refusal :=
  s.act (Instr.reclaim w k).wf (fun (mem : List Host.Cell) (b : Block) => viaPut w mem 0x1404 (k + 2 ^ 8) 0x7001 2 (k + 2 ^ 8) b)

/-- The meaning of BANK_CLEARING_END (R391). -/
def execBankClearingEnd (k : Nat) (s : State) : Host.Outcome State Fault Refusal :=
  s.act (Instr.bankClearingEnd k).wf (fun (_ : List Host.Cell) (b : Block) => clearingEnd k b)

/-- The meaning of BANK_WINDOW_ACCESS (R394). -/
def execBankWindowAccess (write : Bool) (off : Nat) (len : Nat) (data : Nat) (s : State) : Host.Outcome State Fault Refusal :=
  s.act (Instr.bankWindowAccess write off len data).wf (fun (mem : List Host.Cell) (b : Block) => bankAccess mem write off len data b)

/-- The meaning of ADD64 (R395). -/
def execAdd64 (s : State) : Host.Outcome State Fault Refusal :=
  s.act true (fun (mem : List Host.Cell) (b : Block) => barPut mem 0x1414 1 b)

/-- The meaning of ADD32X2 (R395). -/
def execAdd32x2 (s : State) : Host.Outcome State Fault Refusal :=
  s.act true (fun (mem : List Host.Cell) (b : Block) => barPut mem 0x1414 2 b)

/-- The meaning of SWAP64 (R395). -/
def execSwap64 (s : State) : Host.Outcome State Fault Refusal :=
  s.act true (fun (mem : List Host.Cell) (b : Block) => barPut mem 0x1414 3 b)

/-- The meaning of BANK_ATOMIC_OLD_LO_READ (R411). -/
def execBankAtomicOldLoRead (s : State) : Host.Outcome State Fault Refusal :=
  s.act true (fun (_ : List Host.Cell) (b : Block) => oldLoRead b)

/-- The meaning of BANK_TEST_INTERVAL (R401). -/
def execBankTestInterval (idle : List Nat) (s : State) : Host.Outcome State Fault Refusal :=
  s.act true (fun (_ : List Host.Cell) (b : Block) => bankTestInterval idle b)

/-- The meaning of BANK_TEST_REQUEST (R401). -/
def execBankTestRequest (p : Path) (v : Nat) (idle : Bool) (s : State) : Host.Outcome State Fault Refusal :=
  s.act true (fun (_ : List Host.Cell) (b : Block) => bankTestCommand p v idle b)

/-- The meaning of BANK_TEST_END (R402). -/
def execBankTestEnd (outcome : Nat) (s : State) : Host.Outcome State Fault Refusal :=
  s.act (Instr.bankTestEnd outcome).wf (fun (_ : List Host.Cell) (b : Block) => bankTestEnd outcome b)

/-- The meaning of RETIREMENT_RESET (R410). -/
def execRetirementReset (p : Path) (v : Nat) (s : State) : Host.Outcome State Fault Refusal :=
  s.act true (fun (mem : List Host.Cell) (b : Block) => dictPut p mem 0x7012 9 v b)

/-- The meaning of PATROL_SCRUB_READ (R404). -/
def execPatrolScrubRead (addr : Nat) (kind : Nat) (passEnd : Bool) (late : Bool) (s : State) : Host.Outcome State Fault Refusal :=
  s.act (Instr.patrolScrubRead addr kind passEnd late).wf (fun (_ : List Host.Cell) (b : Block) => scrubRead addr kind passEnd late b)

/-- The meaning of BAND_TABLE_VERIFY (R406). -/
def execBandTableVerify (upsets : List (Nat × Nat)) (s : State) : Host.Outcome State Fault Refusal :=
  s.act true (fun (_ : List Host.Cell) (b : Block) => bandVerify upsets b)

/-- The meaning of RECLAIM_COMPLETE (R403). -/
def execReclaimComplete (s : State) : Host.Outcome State Fault Refusal :=
  s.act true (fun (_ : List Host.Cell) (b : Block) => reclaimComplete b)

/-- The meaning of BANK_WAKE_COMPLETE (R397). -/
def execBankWakeComplete (k : Nat) (s : State) : Host.Outcome State Fault Refusal :=
  s.act (Instr.bankWakeComplete k).wf (fun (_ : List Host.Cell) (b : Block) => ringsWoken k (bankWakeComplete k b))

end Sys2Proof.Machine
end

