-- ==== Sys2Proof/Machine/Stimulus.lean ====
section
/-! DEFINITION. The meanings of the commands of stimulus and lane drivers (10_stimulus_drive.md). -/

namespace Sys2Proof.Machine

/-- The meaning of DRIVE_ENABLE_WRITE (R304). -/
def execDriveEnableWrite (p : Path) (n : Nat) (v : Nat) (s : State) : Host.Outcome State Fault Refusal :=
  s.act (Instr.driveEnableWrite p n v).wf (fun (mem : List Host.Cell) (b : Block) => dictPut p mem (0x3800 + n) 2 v b)

/-- The meaning of IDLE_LEVEL_WRITE (R305). -/
def execIdleLevelWrite (p : Path) (n : Nat) (v : Nat) (s : State) : Host.Outcome State Fault Refusal :=
  s.act (Instr.idleLevelWrite p n v).wf (fun (mem : List Host.Cell) (b : Block) => dictPut p mem (0x3800 + n) 3 v b)

/-- The meaning of DRIVER_LEVELS_WRITE (R306). -/
def execDriverLevelsWrite (p : Path) (n : Nat) (v : Nat) (s : State) : Host.Outcome State Fault Refusal :=
  s.act (Instr.driverLevelsWrite p n v).wf (fun (mem : List Host.Cell) (b : Block) => dictPut p mem (0x3800 + n) 1 v b)

/-- The meaning of LAUNCH_AT_CONTACT (R312). -/
def execLaunchAtContact (t : Nat) (s : State) : Host.Outcome State Fault Refusal :=
  s.act (Instr.launchAtContact t).wf (fun (_ : List Host.Cell) (b : Block) => launchAtContact t b)

/-- The meaning of PASS_END (R312). -/
def execPassEnd (t : Nat) (s : State) : Host.Outcome State Fault Refusal :=
  s.act (Instr.passEnd t).wf (fun (_ : List Host.Cell) (b : Block) => passEnd t b)

/-- The meaning of DRIVER_SHORT (R318). -/
def execDriverShort (l : Nat) (s : State) : Host.Outcome State Fault Refusal :=
  s.act (Instr.driverShort l).wf (fun (_ : List Host.Cell) (b : Block) => driverShort l b)

/-- The meaning of DRIVER_REENABLE (R319). -/
def execDriverReenable (p : Path) (n : Nat) (v : Nat) (s : State) : Host.Outcome State Fault Refusal :=
  s.act (Instr.driverReenable p n v).wf (fun (mem : List Host.Cell) (b : Block) => dictPut p mem (0x3800 + n) 6 v b)

end Sys2Proof.Machine
end

