-- ==== Sys2Proof/Machine/Contacts.lean ====
section
/-! DEFINITION. The contacts of the module (18_electrical_and_package.md R542 to R544) and the levels of its logic outputs
(R517, R525, R540). -/

namespace Sys2Proof.Machine

/-- What lies at a contact (R543, R544). -/
inductive Contact where
  | lane (l : Nat) (n : Bool)
  | sloeTx (port lane : Nat) (n : Bool)
  | sloeRx (port lane : Nat) (n : Bool)
  | pet (lane : Nat) (n : Bool)
  | per (lane : Nat) (n : Bool)
  | refclkPcie (n : Bool)
  | clkreq
  | perst
  | refclkIn
  | refclkOut
  | syncIn
  | syncOut
  | trigIn (i : Nat)
  | trigOut (i : Nat)
  | canH
  | canL
  | ready
  | alertN
  | wakeN
  | nodeId (i : Nat)
  | reserved (k : Nat)
  | vin
  | gnd
  deriving DecidableEq, Repr

/-- The contacts of the lane field, in its 16 bands of three rows (R543). -/
def laneContact (r c : Nat) : Contact :=
  let n := 2 * ((r - 1) / 3)
  let side := (r - 1) % 3 == 1
  if (r - 1) % 3 = 2 then .gnd
  else if c ≤ 16 then .lane (16 * n + (c - 1)) side
  else if 18 ≤ c && c ≤ 33 then .lane (16 * (n + 1) + (c - 18)) side
  else .gnd

/-- The contacts of the high-speed links and of the PCIe sidebands, `c` counted from column 36 (R544). -/
def linkContact (r c : Nat) : Contact :=
  let k := (r - 1) / 4
  let lane := c / 2
  let side := c % 2 == 1
  if r ≤ 16 then
    (if r % 4 = 1 then .sloeTx k lane side else if r % 4 = 3 then .sloeRx k lane side else .gnd)
  else if r % 2 = 0 then .gnd
  else if r ≤ 24 then .pet (4 * ((r - 17) / 2) + lane) side
  else if r ≤ 32 then .per (4 * ((r - 25) / 2) + lane) side
  else if r = 33 then [Contact.refclkPcie false, .refclkPcie true, .clkreq, .perst].getD c .gnd
  else .gnd

/-- The contacts of column 47, rows 1 to 20 (R544). -/
def columnContact (r : Nat) : Contact :=
  if 14 ≤ r && r ≤ 20 then .nodeId (r - 14)
  else ([.gnd, .refclkIn, .refclkOut, .syncIn, .syncOut, .trigIn 0, .trigIn 1, .trigOut 0, .trigOut 1, .canH, .canL,
    .ready, .alertN, .wakeN] : List Contact).getD r .gnd

/-- The contact at a row and column from 1 to 49: every position that no group names is GND (R542 to R544). -/
def contactAt (r c : Nat) : Contact :=
  if 1 ≤ r && r ≤ 48 && 1 ≤ c && c ≤ 34 then laneContact r c
  else if 36 ≤ c && c ≤ 43 then linkContact r (c - 36)
  else if 37 ≤ r && r ≤ 48 && 46 ≤ c && c ≤ 49 then .vin
  else if c = 47 then columnContact r
  else if c = 49 && 1 ≤ r && r ≤ 9 then .reserved r
  else .gnd

/-- The level of READY: high while 0x2001.00 reads 1, but for PS5, and low while VIN is not valid (R503, R517). -/
def Block.readyOut (b : Block) : Bool := b.power.on && b.ready && b.ps != 5

/-- ALERT_N is pulled low while an enabled alert cause is active (R525); without valid VIN it is high-impedance (R503). -/
def Block.alertPulled (b : Block) : Bool := b.power.on && b.enabledCauses != 0

end Sys2Proof.Machine
end

