-- ==== Sys2Proof/Machine/Supply.lean ====
section
/-! DEFINITION. The meanings of the commands of supply, power states and start-up (17_power_start_up_and_survival.md). -/

namespace Sys2Proof.Machine

/-- The meaning of VIN_VALID (R516). -/
def execVinValid (straps : Nat) (s : State) : Host.Outcome State Fault Refusal :=
  s.supply (Instr.vinValid straps).wf (fun (_ : List Host.Cell) (b : Block) => vinValid straps b)

/-- The meaning of MODULE_READY (R516). -/
def execModuleReady (x : StartUp) (s : State) : Host.Outcome State Fault Refusal :=
  s.act true (fun (_ : List Host.Cell) (b : Block) => moduleReady x b)

/-- The meaning of VIN_LOSS (R503). -/
def execVinLoss (s : State) : Host.Outcome State Fault Refusal :=
  s.act true (fun (_ : List Host.Cell) (b : Block) => vinLoss b)

/-- The meaning of VIN_RANGE_CHANGE (R505). -/
def execVinRangeChange (mv : Nat) (s : State) : Host.Outcome State Fault Refusal :=
  s.act true (fun (_ : List Host.Cell) (b : Block) => vinRange mv b)

/-- The meaning of VIN_OVERVOLTAGE_OFF (R503). -/
def execVinOvervoltageOff (s : State) : Host.Outcome State Fault Refusal :=
  s.act true (fun (_ : List Host.Cell) (b : Block) => vinLoss b)

/-- The meaning of SUPPLY_REVERSAL (R506). -/
def execSupplyReversal (s : State) : Host.Outcome State Fault Refusal :=
  s.supply true (fun (_ : List Host.Cell) (b : Block) => supplyReversal b)

/-- The meaning of POWER_STATE_REQUEST (R510). -/
def execPowerStateRequest (w : Via) (v : Nat) (s : State) : Host.Outcome State Fault Refusal :=
  s.act true (fun (mem : List Host.Cell) (b : Block) => viaPut w mem 0x40 v 0x2002 1 v b)

/-- The meaning of POWER_ENTRY_COMPLETE (R511). -/
def execPowerEntryComplete (s : State) : Host.Outcome State Fault Refusal :=
  s.act true (fun (_ : List Host.Cell) (b : Block) => powerEntryComplete b)

/-- The meaning of WAKE_N (R513). -/
def execWakeN (s : State) : Host.Outcome State Fault Refusal :=
  s.act true (fun (_ : List Host.Cell) (b : Block) => wake 2 b)

/-- The meaning of WAKE_LANE (R514). -/
def execWakeLane (l : Nat) (rise : Bool) (s : State) : Host.Outcome State Fault Refusal :=
  s.act (Instr.wakeLane l rise).wf (fun (_ : List Host.Cell) (b : Block) => wakeLane l rise b)

/-- The meaning of TRIG_IN_WAKE (R513). -/
def execTrigInWake (i : Nat) (rise : Bool) (s : State) : Host.Outcome State Fault Refusal :=
  s.act (Instr.trigInWake i rise).wf (fun (_ : List Host.Cell) (b : Block) => trigInWake i rise b)

/-- The meaning of CAN_WAKEUP_PATTERN (R513). -/
def execCanWakeupPattern (s : State) : Host.Outcome State Fault Refusal :=
  s.act true (fun (_ : List Host.Cell) (b : Block) => wake 6 b)

/-- The meaning of WAKE_EXIT (R515). -/
def execWakeExit (c : Nat) (s : State) : Host.Outcome State Fault Refusal :=
  s.act true (fun (_ : List Host.Cell) (b : Block) => wakeExit c b)

/-- The meaning of PS5_RESUME_READY (R518). -/
def execPs5ResumeReady (s : State) : Host.Outcome State Fault Refusal :=
  s.act true (fun (_ : List Host.Cell) (b : Block) => resumeReady b)

/-- The meaning of TEMPERATURE_MEASURE (R519). -/
def execTemperatureMeasure (t : Int) (s : State) : Host.Outcome State Fault Refusal :=
  s.act (Instr.temperatureMeasure t).wf (fun (_ : List Host.Cell) (b : Block) => temperature t b)

/-- The meaning of LOG_CLEAR (R529). -/
def execLogClear (p : Path) (v : Nat) (s : State) : Host.Outcome State Fault Refusal :=
  s.act true (fun (mem : List Host.Cell) (b : Block) => dictPut p mem 0x8000 2 v b)

/-- The meaning of HOUR_COUNTER_SAVE (R526). -/
def execHourCounterSave (s : State) : Host.Outcome State Fault Refusal :=
  s.act true (fun (_ : List Host.Cell) (b : Block) => hourSave b)

end Sys2Proof.Machine
end

