-- ==== Sys2Proof/Machine/Timebase.lean ====
section
/-! DEFINITION. The meanings of the commands of the frame tick and what falls due by time (01_frame_and_flow.md, 05_trigger_sequencer.md). -/

namespace Sys2Proof.Machine

/-- The meaning of FRAME_TICK (R19). -/
def execFrameTick (inp : FrameIn) (s : State) : Host.Outcome State Fault Refusal :=
  s.act (Instr.frameTick inp).wf (fun (mem : List Host.Cell) (b : Block) => frameTick mem inp b)

/-- The meaning of PTU_TIMEOUT (R194). -/
def execPtuTimeout (u : Nat) (s : State) : Host.Outcome State Fault Refusal :=
  s.act (Instr.ptuTimeout u).wf (fun (_ : List Host.Cell) (b : Block) => ptuTimeout u b)

/-- The meaning of TIMEBASE_WRAP (R40). -/
def execTimebaseWrap (s : State) : Host.Outcome State Fault Refusal :=
  s.act true (fun (_ : List Host.Cell) (b : Block) => timebaseWrap b)

/-- The meaning of TIMER_EXPIRED (R156). -/
def execTimerExpired (t : Nat) (m : Nat) (s : State) : Host.Outcome State Fault Refusal :=
  s.act (Instr.timerExpired t m).wf (fun (_ : List Host.Cell) (b : Block) => timerExpired t m b)

/-- The meaning of TRIG_OUT_PULSE_END (R154). -/
def execTrigOutPulseEnd (o : Nat) (e : Nat) (s : State) : Host.Outcome State Fault Refusal :=
  s.act (Instr.trigOutPulseEnd o e).wf (fun (_ : List Host.Cell) (b : Block) => pulseEnd o (b.time.phys + e) b)

/-- The meaning of FORCED_TRIGGER_EFFECT (R166). -/
def execForcedTriggerEffect (t : Nat) (s : State) : Host.Outcome State Fault Refusal :=
  s.act (Instr.forcedTriggerEffect t).wf (fun (_ : List Host.Cell) (b : Block) => forcedEffect t b)

/-- The meaning of LEAVE_STOPPING (R29). -/
def execLeaveStopping (t : Nat) (s : State) : Host.Outcome State Fault Refusal :=
  s.act (Instr.leaveStopping t).wf (fun (mem : List Host.Cell) (b : Block) => leaveStopping mem t b)

end Sys2Proof.Machine
end

