-- ==== Sys2Proof/Machine/Dispatch.lean ====
section
/-! DEFINITION. One arm for each command of the table. -/

namespace Sys2Proof.Machine

def exec (i : Instr) (s : State) : Host.Outcome State Fault Refusal :=
  match i with
  | .frameTick inp => Sys2Proof.Machine.execFrameTick inp s
  | .ptuTimeout u => Sys2Proof.Machine.execPtuTimeout u s
  | .timebaseWrap => Sys2Proof.Machine.execTimebaseWrap s
  | .timerExpired t m => Sys2Proof.Machine.execTimerExpired t m s
  | .trigOutPulseEnd o e => Sys2Proof.Machine.execTrigOutPulseEnd o e s
  | .forcedTriggerEffect t => Sys2Proof.Machine.execForcedTriggerEffect t s
  | .leaveStopping t => Sys2Proof.Machine.execLeaveStopping t s
  | .podAssignWrite p n v => Sys2Proof.Machine.execPodAssignWrite p n v s
  | .modeWrite p t v => Sys2Proof.Machine.execModeWrite p t v s
  | .frameNowLoRead => Sys2Proof.Machine.execFrameNowLoRead s
  | .registerWrite off size v => Sys2Proof.Machine.execRegisterWrite off size v s
  | .flagClear f v hwSet => Sys2Proof.Machine.execFlagClear f v hwSet s
  | .counterClear f v event => Sys2Proof.Machine.execCounterClear f v event s
  | .hostAbiWrite v => Sys2Proof.Machine.execHostAbiWrite v s
  | .windowWrite p n sub v => Sys2Proof.Machine.execWindowWrite p n sub v s
  | .windowSettled n => Sys2Proof.Machine.execWindowSettled n s
  | .laneSettingWrite p l v => Sys2Proof.Machine.execLaneSettingWrite p l v s
  | .ditherWrite p n v => Sys2Proof.Machine.execDitherWrite p n v s
  | .healthModeWrite p n v => Sys2Proof.Machine.execHealthModeWrite p n v s
  | .contactOvervoltage lane contact above => Sys2Proof.Machine.execContactOvervoltage lane contact above s
  | .healthVisitEnd n zp zn swingP swingN => Sys2Proof.Machine.execHealthVisitEnd n zp zn swingP swingN s
  | .probeTestStart p v => Sys2Proof.Machine.execProbeTestStart p v s
  | .probeTestEnd rs => Sys2Proof.Machine.execProbeTestEnd rs s
  | .recalStart p v => Sys2Proof.Machine.execRecalStart p v s
  | .recalEnd n => Sys2Proof.Machine.execRecalEnd n s
  | .maintenanceActivityStart => Sys2Proof.Machine.execMaintenanceActivityStart s
  | .detectorPeriodEnd n => Sys2Proof.Machine.execDetectorPeriodEnd n s
  | .indigoSyncRequest w v => Sys2Proof.Machine.execIndigoSyncRequest w v s
  | .indigoSyncReset => Sys2Proof.Machine.execIndigoSyncReset s
  | .indigoEngineWrite p e sub v => Sys2Proof.Machine.execIndigoEngineWrite p e sub v s
  | .indigoOutput e => Sys2Proof.Machine.execIndigoOutput e s
  | .bankRequest w e v => Sys2Proof.Machine.execBankRequest w e v s
  | .fadeEnd e => Sys2Proof.Machine.execFadeEnd e s
  | .coefficientWrite p k e sub v => Sys2Proof.Machine.execCoefficientWrite p k e sub v s
  | .thresholdWrite p l sub v => Sys2Proof.Machine.execThresholdWrite p l sub v s
  | .arm w t => Sys2Proof.Machine.execArm w t s
  | .stop w t => Sys2Proof.Machine.execStop w t s
  | .forceTrigger w t => Sys2Proof.Machine.execForceTrigger w t s
  | .ptuAssignWrite p u v => Sys2Proof.Machine.execPtuAssignWrite p u v s
  | .ptuStandardWrite p u v => Sys2Proof.Machine.execPtuStandardWrite p u v s
  | .regionAllocationWrite p r v => Sys2Proof.Machine.execRegionAllocationWrite p r v s
  | .regionClear p v => Sys2Proof.Machine.execRegionClear p v s
  | .storeCommit t => Sys2Proof.Machine.execStoreCommit t s
  | .hwmWrite p t v => Sys2Proof.Machine.execHwmWrite p t v s
  | .peakReset w t v => Sys2Proof.Machine.execPeakReset w t v s
  | .postTriggerStop t => Sys2Proof.Machine.execPostTriggerStop t s
  | .segmentLengthClose t => Sys2Proof.Machine.execSegmentLengthClose t s
  | .deferredSegmentOpen t => Sys2Proof.Machine.execDeferredSegmentOpen t s
  | .bar4Read x len bad => Sys2Proof.Machine.execBar4Read x len bad s
  | .bar4Write x data bad => Sys2Proof.Machine.execBar4Write x data bad s
  | .storeLoRead t which => Sys2Proof.Machine.execStoreLoRead t which s
  | .trigTsLoRead t => Sys2Proof.Machine.execTrigTsLoRead t s
  | .indigoSyncLoRead => Sys2Proof.Machine.execIndigoSyncLoRead s
  | .windowEnd t => Sys2Proof.Machine.execWindowEnd t s
  | .resultsLatch n => Sys2Proof.Machine.execResultsLatch n s
  | .limitCompare t => Sys2Proof.Machine.execLimitCompare t s
  | .maskHoldoffEnd t => Sys2Proof.Machine.execMaskHoldoffEnd t s
  | .maskTsLoRead t => Sys2Proof.Machine.execMaskTsLoRead t s
  | .snapshotCommand p h v => Sys2Proof.Machine.execSnapshotCommand p h v s
  | .snapshotReadoutStart h => Sys2Proof.Machine.execSnapshotReadoutStart h s
  | .snapshotReadoutEnd h => Sys2Proof.Machine.execSnapshotReadoutEnd h s
  | .driveEnableWrite p n v => Sys2Proof.Machine.execDriveEnableWrite p n v s
  | .idleLevelWrite p n v => Sys2Proof.Machine.execIdleLevelWrite p n v s
  | .driverLevelsWrite p n v => Sys2Proof.Machine.execDriverLevelsWrite p n v s
  | .launchAtContact t => Sys2Proof.Machine.execLaunchAtContact t s
  | .passEnd t => Sys2Proof.Machine.execPassEnd t s
  | .driverShort l => Sys2Proof.Machine.execDriverShort l s
  | .driverReenable p n v => Sys2Proof.Machine.execDriverReenable p n v s
  | .clockConfigWrite p sub v => Sys2Proof.Machine.execClockConfigWrite p sub v s
  | .lock outer => Sys2Proof.Machine.execLock outer s
  | .bandEntryWrite p k v => Sys2Proof.Machine.execBandEntryWrite p k v s
  | .bandFactoryReload p v => Sys2Proof.Machine.execBandFactoryReload p v s
  | .refclkOutSourceWrite p v => Sys2Proof.Machine.execRefclkOutSourceWrite p v s
  | .phaseTargetWrite w v => Sys2Proof.Machine.execPhaseTargetWrite w v s
  | .phaseStep => Sys2Proof.Machine.execPhaseStep s
  | .lockLost cause => Sys2Proof.Machine.execLockLost cause s
  | .referenceQualified => Sys2Proof.Machine.execReferenceQualified s
  | .jumpMeasured j => Sys2Proof.Machine.execJumpMeasured j s
  | .slewEnd => Sys2Proof.Machine.execSlewEnd s
  | .fallback => Sys2Proof.Machine.execFallback s
  | .clkJumpLoRead => Sys2Proof.Machine.execClkJumpLoRead s
  | .syncInEvent e => Sys2Proof.Machine.execSyncInEvent e s
  | .syncSlip => Sys2Proof.Machine.execSyncSlip s
  | .frameLoad => Sys2Proof.Machine.execFrameLoad s
  | .chainLoadWrite p v => Sys2Proof.Machine.execChainLoadWrite p v s
  | .sloeTrainingComplete p x => Sys2Proof.Machine.execSloeTrainingComplete p x s
  | .sloeFrameMessage p off ws => Sys2Proof.Machine.execSloeFrameMessage p off ws s
  | .linkLoss l => Sys2Proof.Machine.execLinkLoss l s
  | .discovery p v found => Sys2Proof.Machine.execDiscovery p v found s
  | .discoveryComplete x => Sys2Proof.Machine.execDiscoveryComplete x s
  | .alignment x => Sys2Proof.Machine.execAlignment x s
  | .alignTrack => Sys2Proof.Machine.execAlignTrack s
  | .horizonWrite p v refused => Sys2Proof.Machine.execHorizonWrite p v refused s
  | .chainMaskWrite p v refused => Sys2Proof.Machine.execChainMaskWrite p v refused s
  | .handoverRequest w k gen new => Sys2Proof.Machine.execHandoverRequest w k gen new s
  | .bankPowerRequest w k v => Sys2Proof.Machine.execBankPowerRequest w k v s
  | .bankKeepRequest w k keep => Sys2Proof.Machine.execBankKeepRequest w k keep s
  | .reclaim w k => Sys2Proof.Machine.execReclaim w k s
  | .bankClearingEnd k => Sys2Proof.Machine.execBankClearingEnd k s
  | .bankWindowAccess write off len data => Sys2Proof.Machine.execBankWindowAccess write off len data s
  | .add64 => Sys2Proof.Machine.execAdd64 s
  | .add32x2 => Sys2Proof.Machine.execAdd32x2 s
  | .swap64 => Sys2Proof.Machine.execSwap64 s
  | .bankAtomicOldLoRead => Sys2Proof.Machine.execBankAtomicOldLoRead s
  | .bankTestInterval idle => Sys2Proof.Machine.execBankTestInterval idle s
  | .bankTestRequest p v idle => Sys2Proof.Machine.execBankTestRequest p v idle s
  | .bankTestEnd outcome => Sys2Proof.Machine.execBankTestEnd outcome s
  | .retirementReset p v => Sys2Proof.Machine.execRetirementReset p v s
  | .patrolScrubRead addr kind passEnd late => Sys2Proof.Machine.execPatrolScrubRead addr kind passEnd late s
  | .bandTableVerify upsets => Sys2Proof.Machine.execBandTableVerify upsets s
  | .queuePush a q prio data ended upset => Sys2Proof.Machine.execQueuePush a q prio data ended upset s
  | .queuePop a q upset => Sys2Proof.Machine.execQueuePop a q upset s
  | .popBurst q len upset => Sys2Proof.Machine.execPopBurst q len upset s
  | .hostPopTimeout q => Sys2Proof.Machine.execHostPopTimeout q s
  | .mark a q upset => Sys2Proof.Machine.execMark a q upset s
  | .rewind a q upset => Sys2Proof.Machine.execRewind a q upset s
  | .release a q upset => Sys2Proof.Machine.execRelease a q upset s
  | .qcfgWrite w q v => Sys2Proof.Machine.execQcfgWrite w q v s
  | .qendWrite w q v => Sys2Proof.Machine.execQendWrite w q v s
  | .perstDeassert => Sys2Proof.Machine.execPerstDeassert s
  | .configSpaceReady c => Sys2Proof.Machine.execConfigSpaceReady c s
  | .winStagedWrite w v => Sys2Proof.Machine.execWinStagedWrite w v s
  | .winCommit mask => Sys2Proof.Machine.execWinCommit mask s
  | .windowDrainEnd => Sys2Proof.Machine.execWindowDrainEnd s
  | .dmaEnable c v => Sys2Proof.Machine.execDmaEnable c v s
  | .dmaAbort c => Sys2Proof.Machine.execDmaAbort c s
  | .dmaTailWrite c v => Sys2Proof.Machine.execDmaTailWrite c v s
  | .descriptorComplete c bad => Sys2Proof.Machine.execDescriptorComplete c bad s
  | .dmaReadCompletion tag data bad => Sys2Proof.Machine.execDmaReadCompletion tag data bad s
  | .completionTimeout tag => Sys2Proof.Machine.execCompletionTimeout tag s
  | .bmeClear => Sys2Proof.Machine.execBmeClear s
  | .d3hotEntry => Sys2Proof.Machine.execD3hotEntry s
  | .flr => Sys2Proof.Machine.execFlr s
  | .flrComplete => Sys2Proof.Machine.execFlrComplete s
  | .conventionalReset perst => Sys2Proof.Machine.execConventionalReset perst s
  | .ptmRequest asked off => Sys2Proof.Machine.execPtmRequest asked off s
  | .ptmDialogComplete th => Sys2Proof.Machine.execPtmDialogComplete th s
  | .ptmDevLoRead => Sys2Proof.Machine.execPtmDevLoRead s
  | .linkIdleEntry st => Sys2Proof.Machine.execLinkIdleEntry st s
  | .mailboxRequest => Sys2Proof.Machine.execMailboxRequest s
  | .dictRead p idx sub off len => Sys2Proof.Machine.execDictRead p idx sub off len s
  | .dictWrite p idx sub data => Sys2Proof.Machine.execDictWrite p idx sub data s
  | .canSdoRequest x idx sub data => Sys2Proof.Machine.execCanSdoRequest x idx sub data s
  | .sdoSegmentTimeout => Sys2Proof.Machine.execSdoSegmentTimeout s
  | .sloeDictRequest master no ws => Sys2Proof.Machine.execSloeDictRequest master no ws s
  | .forwardRetransmit no => Sys2Proof.Machine.execForwardRetransmit no s
  | .nmtStart => Sys2Proof.Machine.execNmtStart s
  | .nmtStop => Sys2Proof.Machine.execNmtStop s
  | .nmtEnterPreOperational => Sys2Proof.Machine.execNmtEnterPreOperational s
  | .nmtResetCommunication => Sys2Proof.Machine.execNmtResetCommunication s
  | .nmtResetNode => Sys2Proof.Machine.execNmtResetNode s
  | .heartbeat => Sys2Proof.Machine.execHeartbeat s
  | .emcyTransmit => Sys2Proof.Machine.execEmcyTransmit s
  | .storeParameters p sub v => Sys2Proof.Machine.execStoreParameters p sub v s
  | .flashWriteEnd ok => Sys2Proof.Machine.execFlashWriteEnd ok s
  | .restoreDefaults p sub v => Sys2Proof.Machine.execRestoreDefaults p sub v s
  | .vinValid straps => Sys2Proof.Machine.execVinValid straps s
  | .moduleReady x => Sys2Proof.Machine.execModuleReady x s
  | .vinLoss => Sys2Proof.Machine.execVinLoss s
  | .vinRangeChange mv => Sys2Proof.Machine.execVinRangeChange mv s
  | .vinOvervoltageOff => Sys2Proof.Machine.execVinOvervoltageOff s
  | .supplyReversal => Sys2Proof.Machine.execSupplyReversal s
  | .powerStateRequest w v => Sys2Proof.Machine.execPowerStateRequest w v s
  | .powerEntryComplete => Sys2Proof.Machine.execPowerEntryComplete s
  | .wakeN => Sys2Proof.Machine.execWakeN s
  | .wakeLane l rise => Sys2Proof.Machine.execWakeLane l rise s
  | .trigInWake k rise => Sys2Proof.Machine.execTrigInWake k rise s
  | .canWakeupPattern => Sys2Proof.Machine.execCanWakeupPattern s
  | .wakeExit c => Sys2Proof.Machine.execWakeExit c s
  | .ps5ResumeReady => Sys2Proof.Machine.execPs5ResumeReady s
  | .temperatureMeasure t => Sys2Proof.Machine.execTemperatureMeasure t s
  | .canPolarityMeasure mv => Sys2Proof.Machine.execCanPolarityMeasure mv s
  | .canBusStateChange st tx rx => Sys2Proof.Machine.execCanBusStateChange st tx rx s
  | .logClear p v => Sys2Proof.Machine.execLogClear p v s
  | .referenceConditionChange present mHz => Sys2Proof.Machine.execReferenceConditionChange present mHz s
  | .sloeSignalPresent p => Sys2Proof.Machine.execSloeSignalPresent p s
  | .sloeTrainingLanesTimeout p => Sys2Proof.Machine.execSloeTrainingLanesTimeout p s
  | .returnToD0 => Sys2Proof.Machine.execReturnToD0 s
  | .linkPowerStateExit => Sys2Proof.Machine.execLinkPowerStateExit s
  | .forwardedResponse no ws => Sys2Proof.Machine.execForwardedResponse no ws s
  | .reclaimComplete => Sys2Proof.Machine.execReclaimComplete s
  | .bankWakeComplete k => Sys2Proof.Machine.execBankWakeComplete k s
  | .hourCounterSave => Sys2Proof.Machine.execHourCounterSave s

end Sys2Proof.Machine
end

