-- ==== Sys2Proof/Safety.lean ====
section
/-! DEFINITION. What a state has to satisfy between commands, and what counts as a safe outcome of a step. -/

namespace Sys2Proof.Machine

/-- The contents of the capture store are in canonical form and every change of them has been made (R208, R209). -/
abbrev Safety.storeSettled (s : State) : Prop := Memory.wf s.mem = true ∧ s.blk.mops = []

/-- The error register and the alert are those of the causes that the state shows (R522, R525). -/
abbrev Safety.reportsSettled (b : Block) : Prop := b.lastErr = b.errorRegister ∧ b.lastAlert = b.enabledCauses

/-- What holds between commands. -/
abbrev Safety.Settled (s : State) : Prop := Safety.storeSettled s ∧ Safety.reportsSettled s.blk

/-- Registers that the evaluation of error register and alert at the end of every command may write: the error log, the count of
dropped emergency messages, the count of alerts (R523 to R525). -/
def Safety.reporting (idx sub : Nat) : Bool :=
  (idx == 0x8000 && sub == 1) || idx == 0x8001 || idx == 0x8002 || (idx == 0x1E20 && sub == 11) || (idx == 0x2006 && sub == 3)

/-- The module is READY and in PS0, neither entering a sleep nor leaving one, and VIN is valid. -/
abbrev Safety.Serving (s : State) : Prop :=
  s.blk.power.on = true ∧ s.blk.rd 0x2001 0 = 1 ∧ s.blk.ps = 0 ∧ s.blk.power.entry = none ∧ s.blk.power.waking = false

/-- A write of a number to a subindex over a path passes the checks of R60 that stand before the owning chapter: the path reaches the
server, the subindex exists and is writable over it, the value fits its type and range, and its owning domain is not armed. -/
abbrev Safety.Accepts (s : State) (p : Path) (idx sub v : Nat) : Prop :=
  serverHears s.blk p = true ∧ accessCheck s.blk p idx sub true = none ∧
  (odRow? idx sub).any (fun r => decide (v < 256 ^ r.ty.size) && valueOk s.blk r idx sub v && !ownerArmed s.blk r idx sub) = true

/-- A write that reaches a field over BAR0 or over a dictionary path and passes the checks before the owning chapter. -/
abbrev Safety.Reaches (s : State) (w : Via) (idx sub v : Nat) : Prop :=
  (w = .bar → s.blk.barUp = true) ∧ ∀ p ∈ [Path.host, Path.can, Path.sloe], w = .dict p → Safety.Accepts s p idx sub v

/-- The answer of a write with a status: over a dictionary path it is the answer of the command; BAR0 has none. -/
def Safety.Answered (w : Via) (st : Nat) (t : State) : Prop :=
  match w with
  | .bar => True
  | .dict _ => t.blk.resp = Resp.plain st

/-- Every register is as before but those of `regs` and what every command may change beside its own effect: the error log, emergency
messages and the alert with its message (R523 to R525), and on the dictionary's paths the count of requests. The queue of commands
is as before. -/
def Safety.KeepsRegs (regs : Nat → Nat → Bool) (s t : State) : Prop :=
  (∀ i r, r < 256 → Safety.reporting i r = false → (i, r) ≠ (0x1E10, 1) → regs i r = false → t.blk.reg i r = s.blk.reg i r) ∧
  t.pending = s.pending

/-- Beside that, the store's contents are as before. -/
def Safety.Keeps (regs : Nat → Nat → Bool) (s t : State) : Prop :=
  Safety.KeepsRegs regs s t ∧ t.mem = memApply s.mem s.blk.mops

/-- An agent's use of the queues reaches them: the host's through the windows of a module that serves (R432, R439), an on-chip agent's
while VIN is valid; and no response waits for room in the response ring. -/
abbrev Safety.ReachesQueues (s : State) (a : Agent) : Prop :=
  s.blk.power.on = true ∧ s.blk.server.wait = [] ∧ (a.cls = .host → Safety.Serving s ∧ s.blk.barUp = true)

/-- A ring that is not split by priority, in a bank that is ON, whose pointer copies agree, with no reader, no packet of another
producer and no drop count waiting on it. -/
abbrev Safety.Calm (s : State) (key : Nat) : Prop :=
  (s.blk.queue key).priority = false ∧ s.blk.ringOn key = true ∧ qBroken s.blk key = false ∧ (s.blk.queue key).hostReads = [] ∧
  (s.blk.queue key).stalled = [] ∧ (s.blk.queue key).held = [] ∧ ((s.blk.queue key).ring 0).pend = 0

/-- Ring `k` of a queue key takes a push to queue `q` at once: its bank is ON, the pointer copies agree, and no reader, no packet of another
producer and no drop count waits on it. -/
abbrev Safety.Takes (s : State) (q key k : Nat) : Prop :=
  s.blk.ringOn key = true ∧ qBroken s.blk key = false ∧ (q = 0 → qBroken s.blk 0 = false ∧ qBroken s.blk q0Response = false) ∧
  (s.blk.queue (popKey q)).hostReads = [] ∧ (s.blk.queue key).hostReads = [] ∧ (s.blk.queue key).stalled = [] ∧
  (s.blk.queue key).held = [] ∧ ((s.blk.queue key).ring k).pend = 0

/-- A frame tick of a running clock in PS0 walks frame `a` of domain `d`: no slip or load is under way, and the domain is ARMED, has no
stop, and has been walked up to the frame. -/
abbrev Safety.Walks (s : State) (inp : FrameIn) (d a : Nat) : Prop :=
  (Instr.frameTick inp).wf = true ∧ s.blk.power.on = true ∧ s.blk.clk.run = true ∧ s.blk.clk.next = none ∧ s.blk.ps = 0 ∧
  s.blk.sync.wait = [] ∧ s.blk.sync.slipDue = none ∧ s.blk.sync.loadDue = none ∧ d < 8 ∧ 1 ≤ a ∧ s.blk.time.abs = a + 4 ∧
  s.blk.dstate d = 1 ∧ (s.blk.dom d).stop = none ∧ (s.blk.dom d).evaluated = a * 32 ∧ (∃ f ≤ a, (s.blk.dom d).first = some f)

/-- A bank is as it lies ready for the host: Host owns it, it is ON, and no test has borrowed it (R394). -/
abbrev Safety.HostBank (s : State) (k : Nat) : Prop :=
  (s.blk.bank k).owner = owHOST ∧ (s.blk.bank k).power = 0 ∧ (s.blk.bank k).borrowed = false

/-- The server may take a request of Q0 (R485): it serves no other (R477), one waits, the rings are whole and calm, and the response
ring has room. -/
abbrev Safety.MailboxReady (s : State) : Prop :=
  Safety.Serving s ∧ serverBusy s.blk = false ∧ s.blk.server.wait = [] ∧ 2051 ≤ responseRoom s.blk ∧ s.blk.qPackets 0 ≠ 0 ∧
  Safety.Calm s 0 ∧ Safety.Calm s q0Response ∧ (s.blk.queue q0Response).open_ = none ∧ (s.blk.queue q0Response).dropping = false

/-- The items of a request packet have left the request ring (R484): read and released. -/
def Safety.Popped (s t : State) (ws : List Nat) : Prop :=
  ((t.blk.queue 0).ring 0).r = (((s.blk.queue 0).ring 0).r + ws.length) % 2 ^ 17 ∧
  ((t.blk.queue 0).ring 0).f = ((t.blk.queue 0).ring 0).r ∧ ((t.blk.queue 0).ring 0).w = ((s.blk.queue 0).ring 0).w

/-- The words of the answer to a request packet have entered the response ring at W, with END on the last (R483). -/
def Safety.Responded (s t : State) (ws : List Nat) : Prop :=
  let q := requestOf ws
  let out := responseWords (s.blk.rd 0x2200 1) q.tag q.idx q.sub t.blk.resp
  let x := s.blk.queue q0Response
  ((t.blk.queue q0Response).ring 0).w = ((x.ring 0).w + out.length) % 2 ^ 17 ∧
  ∀ i < out.length, (t.blk.word x.bank (x.slot 0 ((x.ring 0).w + i))).toNat = out.getD i 0 % 2 ^ 64 ∧
    t.blk.tag x.bank (x.slot 0 ((x.ring 0).w + i)) = b2n (i + 1 == out.length)

/-- What a loss of supply leaves: flash as given, and every other field as a cold start has it, without VIN. -/
def Safety.Lost (b : Block) (fl : Flash) (t : Block) : Prop :=
  t = { Block.cold b.part 0 fl with out := b.out, free := b.free, power := { (Block.cold b.part 0 fl).power with on := false } }

/-- A step that neither faults nor is refused. -/
def Safety.Safe (o : Host.Outcome State Fault Refusal) : Prop := ∃ t, o = .next t

end Sys2Proof.Machine
end

