-- ==== Sys2Proof/Certificates/Slice0/Obligations.lean ====
section
/-! DEFINITION. The statements for the provers. -/

open Sys2Proof Sys2Proof.Machine

/-! ### The step, reset and the invariant -/

/-- A step carries out the command at the front of the queue on the state with the queue's rest (log entry 1; the queue is the
model's). -/
def Obligations.StepCarriesOutTheFrontCommand : Prop :=
  ∀ (c : Instr) (rest : List Instr) (s : State), step { s with pending := c :: rest } = exec c { s with pending := rest }

/-- With no command waiting the block idles (log entry 1, DESIGN CHOICE). -/
def Obligations.EmptyQueueIdles : Prop := ∀ s : State, s.pending = [] → step s = .next s

/-- Every step answers a next state, and takes exactly the front command from the queue: no command ends in a fault or a refusal,
and none puts a command into the queue. What is not the spec's in it: log entries 1, 41. -/
def Obligations.EveryStepCompletesAndTakesOneCommand : Prop :=
  ∀ s : State, ∃ t, step s = .next t ∧ t.pending = s.pending.tail

/-- What must hold between commands: the store's contents are in canonical form with no change outstanding, and the error register
and the alert are those of the causes that the state shows (R208, R522, R525). Every step keeps it. What is not the spec's in it:
log entry 42. -/
def Obligations.EveryStepKeepsTheStoreAndTheReportsSettled : Prop :=
  ∀ s t : State, Safety.Settled s → step s = .next t → Safety.Settled t

/-- The state after reset is settled. -/
def Obligations.ResetIsSettled : Prop :=
 Safety.Settled State.reset

/-- The state after reset: STARTING, PS0, the sample clock OFF and its frame number 0, no pod in a domain, every domain IDLE and
UNARMED, every lane at its default setting, every bank Unowned and ON at generation 0, of the queues Q0 and Q1 alone enabled, an empty
error log, no store octet set, PERST_N asserted and no command waiting. That VIN is valid, that the part is an H48 and that PERST_N is asserted
are the model's choice (log entry 2). -/
def Obligations.ResetLeavesEveryUnitAtItsDefault : Prop :=
  State.reset.blk.rd 0x2001 0 = 0 ∧ State.reset.blk.ps = 0 ∧ State.reset.blk.rd 0x2101 1 = 0 ∧ State.reset.blk.time.frame = 0 ∧
  (∀ n < 32, State.reset.blk.podDom n = 0xFF ∧ (State.reset.blk.pod n).win = 0x1C20FCE0) ∧
  (∀ t < 8, State.reset.blk.mode t = 0 ∧ State.reset.blk.dstate t = 0) ∧
  (∀ l < 512, (State.reset.blk.lane l).set = State.reset.blk.rd (0x3200 + l / 16) (l % 16 + 1)) ∧
  (∀ k, State.reset.blk.bank k = Bank.reset) ∧ State.reset.blk.queuesOn = 2 ∧ State.reset.blk.rd 0x8000 1 = 0 ∧
  (∀ a, memRead State.reset.mem a = 0) ∧ State.reset.blk.pcie.perst = true ∧ State.reset.pending = []

/-- While VIN is not valid a command other than VIN_VALID and SUPPLY_REVERSAL has no effect (DEDUCED, log entry 4). A command that
is not well formed has no effect (DESIGN CHOICE, log entry 4). -/
def Obligations.WithoutSupplyOrFormNothingHappens : Prop :=
  (∀ (c : Instr) (s : State), s.blk.power.on = false → (∀ x, c ≠ .vinValid x) → c ≠ .supplyReversal → exec c s = .next s) ∧
  (∀ (c : Instr) (s : State), c.wf = false → exec c s = .next s)

/-! ### The timebase and the sequencer's events -/

/-- The frame number (R39): FRAME_TICK adds one to it, modulo 2^53, where no load of it applies, whatever slip waits; where a load of it
applies, the frame receives the loaded number (R41, R359); 0x2010.01 and FRAME_NOW_LO with FRAME_NOW_HI read it in bits [52:0], and
bits [63:53] read 0; after the first lock of a cold start the next frame is frame 0. A tick while the sample clock is OFF takes no
frame: the model's, log entry 4 (R11, R333). In PS0 the tick that begins frame F + 1 takes frame F − 4 of a domain that is armed: every
sample of it up to the domain's stop has then been evaluated (R19, R171, R172), and the domain's records of the frame have been released:
of a ring capture of mode FULL or BIN, where the frame stores a sample and so has a sample record (with a stride above 32 it may store
none, R215), the record is staged at the frame's place, or the frame is dropped and counted (R221, R222). -/
def Obligations.FrameTickAdvancesTheFrameNumber : Prop :=
  (∀ (s : State) (inp : FrameIn), (Instr.frameTick inp).wf = true → s.blk.power.on = true → s.blk.clk.run = true →
    s.blk.clk.next = none → (∀ x ∈ s.blk.sync.wait, x.at_ = s.blk.time.abs + 1 → x.load = none) →
    (2 ≤ s.blk.applyAfter ∨ s.blk.on 0x2201 4 = false) →
    ∃ t, exec (.frameTick inp) s = .next t ∧ t.blk.time.frame = s.blk.time.frame + 1 ∧ t.blk.time.abs = s.blk.time.abs + 1) ∧
  (∀ (s : State) (inp : FrameIn) (x : SlipLoad) (n : Nat), (Instr.frameTick inp).wf = true → s.blk.power.on = true →
    s.blk.clk.run = true → s.blk.clk.next = none → s.blk.sync.wait = [x] → x.at_ = s.blk.time.abs + 1 → x.load = some n →
    x.counts = true →
    ∃ t, exec (.frameTick inp) s = .next t ∧ t.blk.time.frame = BitVec.ofNat 53 n ∧ t.blk.time.abs = s.blk.time.abs + 1) ∧
  (∀ (s : State) (inp : FrameIn), s.blk.clk.run = false →
    ∃ t, exec (.frameTick inp) s = .next t ∧ t.blk.time = s.blk.time ∧ t.blk.packets = s.blk.packets ∧ t.blk.doms = s.blk.doms ∧
      t.blk.stores = s.blk.stores) ∧
  (∀ (s : State) (outer : Bool), s.blk.power.on = true → s.blk.rd 0x2101 1 = 1 → (s.blk.rd 0x2101 2 = 1 → s.blk.qualified = true) →
    s.blk.clk.run = false → s.blk.clk.next = none →
    ∃ t, exec (.lock outer) s = .next t ∧ t.blk.clk.run = true ∧ t.blk.clk.next = some 0) ∧
  (∀ (s : State) (inp : FrameIn), (Instr.frameTick inp).wf = true → s.blk.power.on = true → s.blk.clk.run = true →
    s.blk.clk.next = some 0 → s.blk.sync.wait = [] →
    ∃ t, exec (.frameTick inp) s = .next t ∧ t.blk.time.frame = 0 ∧ t.blk.clk.next = none) ∧
  (∀ (s : State) (p : Path), Safety.Serving s → serverHears s.blk p = true →
    ∃ t, exec (.dictRead p 0x2010 1 0 0) s = .next t ∧
      t.blk.resp = { status := stOK, abort := 0, data := toLe 8 s.blk.time.frame.toNat } ∧ Safety.Keeps (fun _ _ => false) s t) ∧
  (∀ s : State, Safety.Serving s → s.blk.barUp = true →
    ∃ t, exec .frameNowLoRead s = .next t ∧ t.blk.resp.data = toLe 4 (lo32 s.blk.time.frame.toNat) ∧
      t.blk.bget 0x104 0 = hi32 s.blk.time.frame.toNat ∧ t.blk.bget 0x104 0 < 2 ^ 21) ∧
  (∀ (s : State) (inp : FrameIn) (d a : Nat), Safety.Walks s inp d a →
    ∃ t, exec (.frameTick inp) s = .next t ∧
      (match (t.blk.dom d).stop with | some x => min (x.pos + 1) (a * 32 + 32) | none => a * 32 + 32) ≤ (t.blk.dom d).evaluated) ∧
  (∀ (s : State) (inp : FrameIn) (d a : Nat), Safety.Walks s inp d a → (s.blk.store d).live = true →
    (s.blk.store d).released = a → regionClass (s.blk.mode d) = 0 → (s.blk.dataType d = 2 ∨ s.blk.dataType d = 3) →
    ∃ t, exec (.frameTick inp) s = .next t ∧
      ((t.blk.dom d).stop = none → (t.blk.store d).released = a + 1 ∧
        (sampleRecord t.blk d (s.blk.dataType d) a (a * 32) (a * 32 + 31) ≠ [] →
          (∃ f ∈ (t.blk.store d).staged, f.abs = a ∧
            ∀ r ∈ sampleRecord t.blk d (s.blk.dataType d) a (a * 32) (a * 32 + 31), ∃ w ∈ f.writes, w.2 = r.words) ∨
          t.blk.rd (0x6300 + d) 9 = satTo 32 (s.blk.rd (0x6300 + d) 9 + 1))))

/-- The ends that a frame brings: TIMEBASE_WRAP counts the epoch (R40); TIMER_EXPIRED makes a timer read EXPIRED (R156, R178);
TRIG_OUT_PULSE_END releases the output (R154). FORCED_TRIGGER_EFFECT: a forced trigger behind the domain's last evaluated sample is
cancelled; one that is not stands, and at sample 0 of its frame, where no branch is taken, acts as a TRIG of class FORCED: it places
the trigger with that sample's timestamp, sets TRIGGERED and counts once (R166). What is not the spec's in it: log entry 4. -/
def Obligations.TimebaseEventsTakeEffect : Prop :=
  (∀ s : State, s.blk.power.on = true → s.blk.time.wrapDue = true →
    ∃ t, exec .timebaseWrap s = .next t ∧ t.blk.rd 0x2011 1 = satTo 32 (s.blk.rd 0x2011 1 + 1) ∧ t.blk.time.wrapDue = false ∧
      t.blk.time.frame = s.blk.time.frame) ∧
  (∀ (s : State) (d m : Nat), s.blk.power.on = true → d < 8 → m < 8 → ((s.blk.dom d).timer m).due ≠ 0 →
    ((s.blk.dom d).timer m).due < (s.blk.dom d).evaluated →
    ∃ t, exec (.timerExpired d m) s = .next t ∧ t.blk.timerState d m = 2 ∧
      (∀ k, k ≠ m → (t.blk.dom d).timer k = (s.blk.dom d).timer k) ∧ (∀ e, e ≠ d → t.blk.dom e = s.blk.dom e) ∧
      Safety.Keeps (fun _ _ => false) s t) ∧
  (∀ (s : State) (o e : Nat), s.blk.power.on = true → o < 2 → e < 64 → (s.blk.trigOut o).on = true →
    (s.blk.trigOut o).stopAt ≤ s.blk.time.phys + e →
    ∃ t, exec (.trigOutPulseEnd o e) s = .next t ∧ (t.blk.trigOut o).on = false ∧
      (t.blk.trigOut o).coming = (s.blk.trigOut o).coming ∧ (∀ q, q ≠ o → t.blk.trigOut q = s.blk.trigOut q) ∧
      Safety.Keeps (fun _ _ => false) s t) ∧
  (∀ (s : State) (d : Nat) (r : StopReq), s.blk.power.on = true → d < 8 → (s.blk.dom d).stop = some r →
    (∀ f ∈ (s.blk.dom d).forced, r.pos < f * 32) →
    ∃ t, exec (.forcedTriggerEffect d) s = .next t ∧ t.blk.dom d = { s.blk.dom d with forced := [] } ∧
      (∀ e, e ≠ d → t.blk.dom e = s.blk.dom e) ∧ Safety.Keeps (fun _ _ => false) s t) ∧
  (∀ (s : State) (d f : Nat), s.blk.power.on = true → d < 8 → f ∈ (s.blk.dom d).forced → s.blk.evaluates d (f * 32) = true →
    segmented (s.blk.mode d) = false → (s.blk.dom d).placed = false → (s.blk.store d).seg = none → (s.blk.store d).deferred = none →
    ∃ t, exec (.forcedTriggerEffect d) s = .next t ∧ f ∈ (t.blk.dom d).forced ∧ (∀ e, e ≠ d → t.blk.dom e = s.blk.dom e) ∧
      Safety.Keeps (fun _ _ => false) s t ∧
      (∀ (ws : WidthTerms) (m : WalkMode),
        (∀ br < 2, branchMatch (t.blk.condWord d (t.blk.rd (0x5100 + d) 3) br)
          (levelTerms t.blk d ws (t.blk.rd (0x5100 + d) 3) (f * 32)) = false) →
        (let b := walkSample d ws m (f * 32) t.blk;
         b.rd (0x5100 + d) 6 = 1 ∧ b.rd (0x5100 + d) 7 = satTo 32 (s.blk.rd (0x5100 + d) 7 + 1) ∧ (b.dom d).placed = true ∧
         f ∉ (b.dom d).forced ∧ b.rd (0x5100 + d) 3 = s.blk.rd (0x5100 + d) 3 ∧
         b.rd (0x5520 + d) 1 = t.blk.tsPos (f * 32) % 2 ^ 64 ∧ bits (b.rd (0x5520 + d) 2) 0 4 = clsFORCED ∧
         bit (b.rd (0x5520 + d) 2) 11 = true ∧ b.rd (0x5520 + d) 7 = (s.blk.rd (0x5520 + d) 7 + 1) % 2 ^ 32)))

/-! ### Domains -/

/-- A write of a pod's domain is in force while both domains concerned are IDLE, no domain counting as one, and is otherwise
refused with ERR_STATE and leaves the assignment (R22). A write of a domain's mode (R28): of an IDLE domain any mode is accepted,
of another UNARMED one only IDLE; a code above 0xC is refused with ERR_RANGE, any other code for a domain that is not IDLE and
every code for an ARMED one with ERR_STATE, and a write while the domain is STOPPING with BUSY. -/
def Obligations.PodAndModeWritesTakeEffect : Prop :=
  (∀ (s : State) (p : Path) (n v : Nat), Safety.Serving s → n < 32 → Safety.Accepts s p 0x5000 (n + 1) v → (v < 8 ∨ v = 0xFF) →
    (s.blk.podDom n < 8 → s.blk.mode (s.blk.podDom n) = 0) → (v < 8 → s.blk.mode v = 0) →
    ∃ t, exec (.podAssignWrite p n v) s = .next t ∧ t.blk.podDom n = v ∧ t.blk.resp = Resp.plain stOK ∧
      (∀ k, k < 32 → k ≠ n → t.blk.podDom k = s.blk.podDom k)) ∧
  (∀ (s : State) (p : Path) (d v : Nat), Safety.Serving s → d < 8 → Safety.Accepts s p 0x5001 (d + 1) v → s.blk.dstate d = 0 →
    (s.blk.mode d = 0 ∨ v = 0) →
    ∃ t, exec (.modeWrite p d v) s = .next t ∧ t.blk.mode d = v ∧ t.blk.resp = Resp.plain stOK ∧
      (∀ e, e < 8 → e ≠ d → t.blk.mode e = s.blk.mode e)) ∧
  (∀ (s : State) (p : Path) (n v : Nat), Safety.Serving s → n < 32 → Safety.Accepts s p 0x5000 (n + 1) v → (v < 8 ∨ v = 0xFF) →
    (s.blk.podDom n < 8 ∧ s.blk.mode (s.blk.podDom n) ≠ 0) ∨ (v < 8 ∧ s.blk.mode v ≠ 0) →
    ∃ t, exec (.podAssignWrite p n v) s = .next t ∧ t.blk.resp = Resp.plain stSTATE ∧ t.blk.podDom n = s.blk.podDom n ∧
      Safety.Keeps (fun _ _ => false) s t) ∧
  (∀ (s : State) (p : Path) (d v : Nat), Safety.Serving s → d < 8 → Safety.Accepts s p 0x5001 (d + 1) v → s.blk.dstate d ≤ 2 →
    s.blk.dstate d ≠ 0 ∨ (s.blk.mode d ≠ 0 ∧ v ≠ 0) →
    ∃ t, exec (.modeWrite p d v) s = .next t ∧ t.blk.resp = Resp.plain (if s.blk.dstate d = 2 then stBUSY else stSTATE) ∧
      t.blk.mode d = s.blk.mode d ∧ Safety.Keeps (fun _ _ => false) s t) ∧
  (∀ (s : State) (p : Path) (d v : Nat), Safety.Serving s → d < 8 → serverHears s.blk p = true →
    accessCheck s.blk p 0x5001 (d + 1) true = none → 0xC < v → v < 256 →
    ∃ t, exec (.modeWrite p d v) s = .next t ∧ t.blk.resp.status = stRANGE ∧ t.blk.mode d = s.blk.mode d ∧
      Safety.Keeps (fun _ _ => false) s t)

/-- ARM: where every check passes, the domain is ARMED with stop reason NONE, and sample 0 of the second frame after the running
one is its first evaluated sample (R171). No maintenance activity holds a pod of the domain. An arm of a domain that is ARMED is
refused with ERR_STATE, one that is STOPPING with BUSY, and neither changes the domain (R170). What is not the spec's in it: log
entry 34. -/
def Obligations.ArmArmsTheDomain : Prop :=
  (∀ (s : State) (w : Via) (d : Nat), Safety.Serving s → d < 8 → Safety.Reaches s w (0x5100 + d) 1 1 →
    (∀ n ∈ s.blk.podsOf d, s.blk.maint.running.find? (fun a => a.pods.contains n) = none) → armStatus s.blk d = stOK →
    ∃ t, exec (.arm w d) s = .next t ∧ t.blk.dstate d = 1 ∧ t.blk.rd (0x5100 + d) 4 = srNONE ∧
      (t.blk.dom d).first = some (s.blk.time.abs + 2) ∧ (t.blk.dom d).stop = none ∧ Safety.Answered w stOK t) ∧
  (∀ (s : State) (p : Path) (d : Nat), Safety.Serving s → d < 8 → Safety.Accepts s p (0x5100 + d) 1 1 → s.blk.power.lockWait = false →
    s.blk.pcie.flr = false → s.blk.armed d = true →
    (∀ n ∈ s.blk.podsOf d, s.blk.maint.running.find? (fun a => a.pods.contains n) = none) →
    ∃ t, exec (.arm (.dict p) d) s = .next t ∧
      t.blk.resp = Resp.plain (if s.blk.dstate d = 1 then stSTATE else stBUSY) ∧ t.blk.dom d = s.blk.dom d ∧
      t.blk.dstate d = s.blk.dstate d)

/-- STOP of an ARMED domain for which no stop has been requested sets its last evaluated sample: sample 31 of the next frame (R172); FORCE_TRIGGER requests a trigger at
sample 0 of the second frame (R166). Nothing else of the domain changes. LEAVE_STOPPING: once every sample that a stopping domain
has taken has passed its last stage, the domain is UNARMED (R29). What is not the spec's in it: log entries 4, 34. -/
def Obligations.StopsAndForcedTriggersTakeEffect : Prop :=
  (∀ (s : State) (w : Via) (d : Nat), Safety.Serving s → d < 8 → Safety.Reaches s w (0x5100 + d) 1 2 → s.blk.dstate d = 1 →
    (s.blk.dom d).stop = none →
    ∃ t, exec (.stop w d) s = .next t ∧ Safety.Answered w stOK t ∧
      t.blk.dom d = { s.blk.dom d with stops := [{ pos := (s.blk.time.abs + 1) * 32 + 31, rank := stopRank srSOFTWARE,
                                                   reason := srSOFTWARE, known := s.blk.time.abs + 1 }] } ∧
      (t.blk.dom d).stop.map (·.pos) = some ((s.blk.time.abs + 1) * 32 + 31) ∧
      t.blk.dstate d = 1 ∧ (∀ e, e ≠ d → t.blk.dom e = s.blk.dom e)) ∧
  (∀ (s : State) (w : Via) (d : Nat), Safety.Serving s → d < 8 → Safety.Reaches s w (0x5100 + d) 1 3 → s.blk.dstate d = 1 →
    ∃ t, exec (.forceTrigger w d) s = .next t ∧ Safety.Answered w stOK t ∧
      t.blk.dom d = { s.blk.dom d with
        forced := (s.blk.dom d).forced.filter (fun f => f != s.blk.time.abs + 2) ++ [s.blk.time.abs + 2] } ∧ t.blk.dstate d = 1 ∧
      (∀ e, e ≠ d → t.blk.dom e = s.blk.dom e)) ∧
  (∀ (s : State) (d : Nat), s.blk.power.on = true → d < 8 → leaveReady s.blk d = true →
    ∃ t, exec (.leaveStopping d) s = .next t ∧ t.blk.dstate d = 0 ∧ t.blk.armed d = false)

/-- A protocol term unit is assigned while neither domain concerned is armed (R182); a write of its standard loads the standard's
default options and parameters (R198). PTU_TIMEOUT: where a timeout of a unit of an armed domain falls at or before the last
position taken, the unit is in the state that the end of its transaction leaves, and its position counter with it (R194). What is
not the spec's in it: log entries 4, 35, 47. -/
def Obligations.PtuWritesAndTimeoutsTakeEffect : Prop :=
  (∀ (s : State) (p : Path) (u v : Nat), Safety.Serving s → u < 16 → Safety.Accepts s p 0x5800 (u + 1) v →
    (s.blk.ptuDom u < 8 → s.blk.armed (s.blk.ptuDom u) = false) → (v < 8 → s.blk.armed v = false) →
    ∃ t, exec (.ptuAssignWrite p u v) s = .next t ∧ t.blk.ptuDom u = v ∧ t.blk.resp = Resp.plain stOK ∧
      Safety.Keeps (fun i r => i == 0x5800 && r == u + 1) s t) ∧
  (∀ (s : State) (p : Path) (u v : Nat), Safety.Serving s → u < 16 → Safety.Accepts s p (0x5810 + u) 1 v →
    ∃ t, exec (.ptuStandardWrite p u v) s = .next t ∧ t.blk.ptuStd u = v ∧ t.blk.rd (0x5810 + u) 6 = (ptuDefaults v).1 ∧
      t.blk.rd (0x5810 + u) 7 = (ptuDefaults v).2.1 ∧ t.blk.rd (0x5810 + u) 8 = (ptuDefaults v).2.2 ∧
      t.blk.resp = Resp.plain stOK ∧
      Safety.Keeps (fun i r => i == 0x5810 + u && (r == 1 || r == 6 || r == 7 || r == 8)) s t) ∧
  (∀ (s : State) (u q : Nat), s.blk.power.on = true → u < 16 → s.blk.ptuDom u < 8 → s.blk.armed (s.blk.ptuDom u) = true →
    ptuDue (s.blk.ptuCfg u) (s.blk.ptu u) = some q → q ≤ (s.blk.dom (s.blk.ptuDom u)).evaluated - 1 →
    ∃ t, exec (.ptuTimeout u) s = .next t ∧
      (t.blk.ptu u).hunting = (ptuExpire (s.blk.ptuCfg u) q (s.blk.ptu u)).2.hunting ∧
      (t.blk.ptu u).phase = (ptuExpire (s.blk.ptuCfg u) q (s.blk.ptu u)).2.phase ∧
      (t.blk.ptu u).pos = (ptuExpire (s.blk.ptuCfg u) q (s.blk.ptu u)).2.pos ∧
      t.blk.rd (0x5850 + u) 2 = satTo 32 (s.blk.rd (0x5850 + u) 2 + (ptuExpire (s.blk.ptuCfg u) q (s.blk.ptu u)).1.length) ∧
      (∀ w, w ≠ u → t.blk.ptu w = s.blk.ptu w))

/-! ### Lanes and pods -/

/-- Accepted writes of a pod's window or input configuration are in force at once and start settling (R69, R70); a lane setting
word and a dither setting wait for sample 0 of the second frame (R551, R72); a health mode is kept (R88). Each is answered OK and
leaves the registers of other units alone. WINDOW_SETTLED clears WINDOW_SETTLING of its pod and no other bit (R70). What is not the
spec's in it: log entry 15, and log entry 37 (DESIGN CHOICE) for CONNECTION, which after a write of the input configuration follows at
once from the classes of the contacts as each was last found. -/
def Obligations.LaneAndPodSettingsTakeEffect : Prop :=
  (∀ (s : State) (p : Path) (n sub v : Nat), Safety.Serving s → n < 32 → sub = 1 ∨ sub = 2 → Safety.Accepts s p (0x3100 + n) sub v →
    ∃ t, exec (.windowWrite p n sub v) s = .next t ∧ t.blk.resp = Resp.plain stOK ∧ t.blk.rd (0x3100 + n) sub = v ∧
      bit (t.blk.rd (0x3100 + n) 10) 1 = true ∧ (sub = 1 → (t.blk.pod n).win = v) ∧ (sub = 2 → (t.blk.pod n).se = (v == 1)) ∧
      (∀ k, k ≠ n → t.blk.pod k = s.blk.pod k) ∧ t.blk.lanes = s.blk.lanes ∧
      (sub = 2 → ∀ m < 16, bits (t.blk.laneStatus (16 * n + m)) 0 4 = connectionOf (v == 1) (s.blk.lane (16 * n + m)) % 16) ∧
      Safety.Keeps (fun i r => (i == 0x3100 + n && (r == sub || r == 5 || r == 10)) || (sub == 2 && i == 0x3300 + n)) s t) ∧
  (∀ (s : State) (p : Path) (l v : Nat), Safety.Serving s → l < 512 → Safety.Accepts s p (0x3200 + l / 16) (l % 16 + 1) v →
    ∃ t, exec (.laneSettingWrite p l v) s = .next t ∧ t.blk.resp = Resp.plain stOK ∧
      t.blk.rd (0x3200 + l / 16) (l % 16 + 1) = v ∧
      t.blk.lane l = { s.blk.lane l with pend := (s.blk.lane l).pend ++ [(s.blk.time.abs + 2, v)] } ∧
      (∀ k, k ≠ l → t.blk.lane k = s.blk.lane k) ∧ t.blk.pods = s.blk.pods ∧
      Safety.Keeps (fun i r => i == 0x3200 + l / 16 && r == l % 16 + 1) s t) ∧
  (∀ (s : State) (p : Path) (n v : Nat), Safety.Serving s → n < 32 → Safety.Accepts s p (0x3100 + n) 3 v →
    ∃ t, exec (.ditherWrite p n v) s = .next t ∧ t.blk.resp = Resp.plain stOK ∧ t.blk.rd (0x3100 + n) 3 = v ∧
      t.blk.pod n = { s.blk.pod n with dithPend := (s.blk.pod n).dithPend ++ [(s.blk.time.abs + 2, v)] } ∧
      (∀ k, k ≠ n → t.blk.pod k = s.blk.pod k) ∧ t.blk.lanes = s.blk.lanes ∧
      Safety.Keeps (fun i r => i == 0x3100 + n && r == 3) s t) ∧
  (∀ (s : State) (p : Path) (n v : Nat), Safety.Serving s → n < 32 → Safety.Accepts s p (0x3100 + n) 4 v →
    ∃ t, exec (.healthModeWrite p n v) s = .next t ∧ t.blk.resp = Resp.plain stOK ∧ t.blk.rd (0x3100 + n) 4 = v ∧
      t.blk.pods = s.blk.pods ∧ t.blk.lanes = s.blk.lanes ∧ Safety.Keeps (fun i r => i == 0x3100 + n && r == 4) s t) ∧
  (∀ (s : State) (n : Nat), s.blk.power.on = true → n < 32 →
    ∃ t, exec (.windowSettled n) s = .next t ∧ t.blk.rd (0x3100 + n) 10 = putBit (s.blk.rd (0x3100 + n) 10) 1 false ∧
      t.blk.pods = s.blk.pods ∧ t.blk.lanes = s.blk.lanes ∧ Safety.Keeps (fun i r => i == 0x3100 + n && r == 10) s t)

/-- CONTACT_OVERVOLTAGE: OVERVOLT of the lane is set while either of its contacts is above the trip (R85). HEALTH_VISIT_END: ORIENT
of the visited lane follows the swings; where the visit's test current flowed to its end, the contact takes the class of its source
impedance and CONNECTION is the worse class of the lane's contacts; the next contact's visit begins with the health mode in force
(R86 to R88). No other lane's status changes. What is not the spec's in it: log entries 6, 37. -/
def Obligations.ContactEventsSetTheLaneStatus : Prop :=
  (∀ (s : State) (l c : Nat) (above : Bool), s.blk.power.on = true → l < 512 → c < 2 →
    ∃ t, exec (.contactOvervoltage l c above) s = .next t ∧ (t.blk.lane l).ov = putBit (s.blk.lane l).ov c above ∧
      bit (t.blk.laneStatus l) 11 = ((t.blk.lane l).ov != 0) ∧ (∀ k, k ≠ l → t.blk.lane k = s.blk.lane k) ∧
      (∀ k, k < 512 → k ≠ l → t.blk.laneStatus k = s.blk.laneStatus k)) ∧
  (∀ (s : State) (n l zp zn sp sn : Nat) (x : Pod), s.blk.power.on = true → n < 32 → s.blk.pod n = x → x.visit < 32 →
    l = 16 * n + x.visit / 2 → x.visitMode ≠ 0 → x.visitCut = false → (x.se = true → x.visit % 2 = 0) →
    ∃ t, exec (.healthVisitEnd n zp zn sp sn) s = .next t ∧
      (if x.visit % 2 = 0 then (t.blk.lane l).conP = zsClass zp ∧ (t.blk.lane l).conN = (s.blk.lane l).conN
       else (t.blk.lane l).conP = (s.blk.lane l).conP ∧ (t.blk.lane l).conN = zsClass zn) ∧
      bits (t.blk.laneStatus l) 0 4 = (if x.se then zsClass zp else max (t.blk.lane l).conP (t.blk.lane l).conN) % 16 ∧
      bits (t.blk.laneStatus l) 9 2 = (if x.se then 0 else orientOf sp sn) ∧
      (t.blk.pod n).visit = nextVisit x.se x.visit ∧ (t.blk.pod n).visitMode = s.blk.rd (0x3100 + n) 4 ∧
      (∀ k, k < 512 → k ≠ l → t.blk.laneStatus k = s.blk.laneStatus k) ∧ (∀ k, k ≠ n → t.blk.pod k = s.blk.pod k)) ∧
  (∀ (s : State) (n l zp zn sp sn : Nat) (x : Pod), s.blk.power.on = true → n < 32 → s.blk.pod n = x → x.visit < 32 →
    l = 16 * n + x.visit / 2 → (x.visitMode = 0 ∨ x.visitCut = true) →
    ∃ t, exec (.healthVisitEnd n zp zn sp sn) s = .next t ∧ bits (t.blk.laneStatus l) 0 4 = bits (s.blk.laneStatus l) 0 4 ∧
      bits (t.blk.laneStatus l) 9 2 = (if x.se then 0 else orientOf sp sn) ∧ t.blk.lanes = s.blk.lanes ∧
      (t.blk.pod n).visit = nextVisit x.se x.visit ∧ (t.blk.pod n).visitMode = s.blk.rd (0x3100 + n) 4 ∧
      (∀ k, k < 512 → k ≠ l → t.blk.laneStatus k = s.blk.laneStatus k))

/-- A request for a probe test, or for recalibration, of the selected pods waits and shows state 1 (R89, R91, R97).
MAINTENANCE_ACTIVITY_START: the first waiting activity whose pods are free runs and takes its pods out of service (R400, R93).
PROBE_TEST_END ends it and gives its pods back, RECAL_END gives the pod back and leaves the others of the request; a
recalibrated pod keeps the temperature of its calibration (R90 to
R92). What is not the spec's in it: log entries 4, 34, 37. -/
def Obligations.ActivitiesWaitRunAndEnd : Prop :=
  (∀ (s : State) (p : Path), Safety.Serving s → Safety.Accepts s p 0x3010 2 1 → activityStatus s.blk true = stOK →
    ∃ t, exec (.probeTestStart p 1) s = .next t ∧ t.blk.resp = Resp.plain stOK ∧ t.blk.rd 0x3010 3 = 1 ∧ t.blk.rd 0x3010 4 = 0 ∧
      { probe := true, auto := false, pods := setBits 32 (s.blk.rd 0x3010 1) } ∈ t.blk.maint.waiting ∧
      t.blk.maint.running = s.blk.maint.running) ∧
  (∀ (s : State) (p : Path), Safety.Serving s → Safety.Accepts s p 0x3011 2 1 → activityStatus s.blk false = stOK →
    ∃ t, exec (.recalStart p 1) s = .next t ∧ t.blk.resp = Resp.plain stOK ∧ t.blk.rd 0x3011 3 = 1 ∧ t.blk.rd 0x3011 4 = 0 ∧
      { probe := false, auto := false, pods := setBits 32 (s.blk.rd 0x3011 1) } ∈ t.blk.maint.waiting ∧
      t.blk.maint.running = s.blk.maint.running) ∧
  (∀ (s : State) (a : Activity) (rest : List Activity), s.blk.power.on = true →
    startable s.blk.heldPods s.blk.maint.waiting = some (a, rest) →
    ∃ t, exec .maintenanceActivityStart s = .next t ∧ t.blk.maint.waiting = rest ∧
      t.blk.maint.running = s.blk.maint.running ++ [a] ∧ (∀ n ∈ a.pods, (t.blk.pod n).act = if a.probe then 1 else 2)) ∧
  (∀ (s : State) (a : Activity) (rs : List ProbeResult), s.blk.power.on = true → (Instr.probeTestEnd rs).wf = true →
    s.blk.maint.running.find? (·.probe) = some a →
    ∃ t, exec (.probeTestEnd rs) s = .next t ∧ t.blk.maint.running = s.blk.maint.running.filter (fun x => !x.probe) ∧
      (∀ n ∈ a.pods, (t.blk.pod n).act = 0)) ∧
  (∀ (s : State) (n : Nat) (a : Activity), s.blk.power.on = true → n < 32 →
    s.blk.maint.running.find? (fun x => !x.probe && x.pods.contains n) = some a →
    ∃ t, exec (.recalEnd n) s = .next t ∧
      t.blk.maint.running = (if a.pods.all (fun y => y == n) = true then s.blk.maint.running.filter (fun x => x != a)
        else s.blk.maint.running.map (fun x => if x = a then { a with pods := a.pods.filter (fun y => y != n) } else x)) ∧
      (t.blk.pod n).act = 0 ∧ (t.blk.pod n).calTemp = s.blk.rdI 0x2000 1 ∧ (∀ k, k ≠ n → t.blk.pod k = s.blk.pod k))

/-! ### Detectors and Indigo engines -/

/-- A request for a synchronising reset takes effect at the second frame after it; the reset sets S to the running frame and counts
(R123, R136). What is not the spec's in it: log entry 4. -/
def Obligations.SynchronisingResetIsRequestedAndMade : Prop :=
  (∀ (s : State) (w : Via), Safety.Serving s → Safety.Reaches s w 0x4010 1 1 →
    ∃ t, exec (.indigoSyncRequest w 1) s = .next t ∧ Safety.Answered w stOK t ∧
      t.blk.due.any (fun d => d.task == .indigoSync && d.at_ == s.blk.time.abs + 2) = true ∧ t.blk.engines = s.blk.engines) ∧
  (∀ (s : State) (d : Due) (rest : List Due), s.blk.power.on = true →
    takeDue (fun x => x.task == .indigoSync && decide (x.at_ ≤ s.blk.time.abs)) s.blk.due = some (d, rest) →
    s.blk.syncAbs ≠ s.blk.time.abs →
    ∃ t, exec .indigoSyncReset s = .next t ∧ t.blk.syncAbs = s.blk.time.abs ∧ t.blk.rd 0x4010 2 = s.blk.time.frame.toNat ∧
      t.blk.rd 0x4010 3 = satTo 32 (s.blk.rd 0x4010 3 + 1) ∧ t.blk.time = s.blk.time)

/-- Accepted writes of an engine, of a coefficient or tap count of a bank that is neither active nor in a fade, and of a threshold
are in force and answered OK (R125, R129, R132). -/
def Obligations.IndigoWritesTakeEffect : Prop :=
  (∀ (s : State) (p : Path) (e sub v : Nat), Safety.Serving s → e < 64 → (sub = 1 ∨ sub = 2 ∨ sub = 4) →
    Safety.Accepts s p (0x4600 + e) sub v →
    ∃ t, exec (.indigoEngineWrite p e sub v) s = .next t ∧ t.blk.resp = Resp.plain stOK ∧ t.blk.rd (0x4600 + e) sub = v) ∧
  (∀ (s : State) (p : Path) (k e v : Nat), Safety.Serving s → k < 2 → e < 64 → Safety.Accepts s p (0x4600 + e) (9 + k) v →
    bankLocked s.blk k e = false →
    ∃ t, exec (.coefficientWrite p k e 0 v) s = .next t ∧ t.blk.resp = Resp.plain stOK ∧ t.blk.rd (0x4600 + e) (9 + k) = v) ∧
  (∀ (s : State) (p : Path) (k e sub v : Nat), Safety.Serving s → k < 2 → e < 64 → 1 ≤ sub → sub ≤ 64 →
    Safety.Accepts s p (coefObj k e) sub v → bankLocked s.blk k e = false →
    ∃ t, exec (.coefficientWrite p k e sub v) s = .next t ∧ t.blk.resp = Resp.plain stOK ∧
      t.blk.rdI (coefObj k e) sub = signed v 16) ∧
  (∀ (s : State) (p : Path) (l v : Nat) (sub : Nat), Safety.Serving s → l < 512 → (sub = 1 ∨ sub = 2) →
    Safety.Accepts s p (0x4800 + l) sub v →
    ∃ t, exec (.thresholdWrite p l sub v) s = .next t ∧ t.blk.resp = Resp.plain stOK ∧ t.blk.rdI (0x4800 + l) sub = signed v 16 ∧
      t.blk.engines = s.blk.engines ∧ Safety.Keeps (fun i r => i == 0x4800 + l && r == sub) s t) ∧
  (∀ (s : State) (p : Path) (l v : Nat), Safety.Serving s → l < 512 → Safety.Accepts s p (0x4800 + l) 3 v →
    ∃ t, exec (.thresholdWrite p l 3 v) s = .next t ∧ t.blk.resp = Resp.plain stOK ∧ t.blk.rd (0x4800 + l) 3 = v ∧
      t.blk.engines = s.blk.engines ∧ Safety.Keeps (fun i r => i == 0x4800 + l && r == 3) s t)

/-- Locked coefficients (R129): a write of a coefficient or tap count of a bank that is active, or that takes part in a running
fade, is refused with ERR_STATE, and no register changes by it; during a fade both banks of the engine are locked. -/
def Obligations.CoefficientsOfABankInUseAreLocked : Prop :=
  (∀ (s : State) (p : Path) (k e sub v : Nat), Safety.Serving s → k < 2 → e < 64 → 1 ≤ sub → sub ≤ 64 →
    Safety.Accepts s p (coefObj k e) sub v →
    (s.blk.engBank e = k ∨ (s.blk.engOn e = true ∧ ∃ f, (s.blk.engine e).fade = some f ∧ f.running = true)) →
    ∃ t, exec (.coefficientWrite p k e sub v) s = .next t ∧ t.blk.resp = Resp.plain stSTATE ∧ Safety.Keeps (fun _ _ => false) s t) ∧
  (∀ (s : State) (p : Path) (k e v : Nat), Safety.Serving s → k < 2 → e < 64 → Safety.Accepts s p (0x4600 + e) (9 + k) v →
    (s.blk.engBank e = k ∨ (s.blk.engOn e = true ∧ ∃ f, (s.blk.engine e).fade = some f ∧ f.running = true)) →
    ∃ t, exec (.coefficientWrite p k e 0 v) s = .next t ∧ t.blk.resp = Resp.plain stSTATE ∧ Safety.Keeps (fun _ _ => false) s t)

/-- BANK_REQUEST: on an engine that is off the bank is active at once; on one that is on, and not in a fade, a fade to a bank that
is not active begins; during a fade the request is pending (R127). FADE_END: the fade ends, and a pending request for the other
bank begins the next (R128). -/
def Obligations.BankRequestsFade : Prop :=
  (∀ (s : State) (w : Via) (e v : Nat), Safety.Serving s → e < 64 → v < 2 → Safety.Reaches s w (0x4600 + e) 6 v →
    s.blk.engOn e = false → (s.blk.engine e).fade = none →
    ∃ t, exec (.bankRequest w e v) s = .next t ∧ Safety.Answered w stOK t ∧ t.blk.engBank e = v ∧
      (t.blk.engine e).fade = none ∧ (t.blk.engine e).pendBank = none) ∧
  (∀ (s : State) (w : Via) (e v : Nat), Safety.Serving s → e < 64 → v < 2 → Safety.Reaches s w (0x4600 + e) 6 v →
    s.blk.engOn e = true → (s.blk.engine e).fade = none → s.blk.engBank e ≠ v →
    ∃ t, exec (.bankRequest w e v) s = .next t ∧ Safety.Answered w stOK t ∧
      (t.blk.engine e).fade = some { target := v, done := 0, len := 0 } ∧ t.blk.engBank e = s.blk.engBank e) ∧
  (∀ (s : State) (w : Via) (e v : Nat) (f : Fade), Safety.Serving s → e < 64 → v < 2 → Safety.Reaches s w (0x4600 + e) 6 v →
    s.blk.engOn e = true → (s.blk.engine e).fade = some f → f.running = true →
    ∃ t, exec (.bankRequest w e v) s = .next t ∧ Safety.Answered w stOK t ∧ (t.blk.engine e).fade = some f ∧
      (t.blk.engine e).pendBank = some v ∧ t.blk.engBank e = s.blk.engBank e) ∧
  (∀ (s : State) (e : Nat) (f : Fade), s.blk.power.on = true → e < 64 → (s.blk.engine e).fade = some f → f.running = false →
    ∃ t, exec (.fadeEnd e) s = .next t ∧ (t.blk.engine e).pendBank = none ∧ t.blk.engBank e = s.blk.engBank e ∧
      (t.blk.engine e).fade = (match (s.blk.engine e).pendBank with
        | some p => if p = s.blk.engBank e then none else some { target := p, done := 0, len := 0 }
        | none => none) ∧
      (∀ k, k ≠ e → t.blk.engine k = s.blk.engine k))

/-- INDIGO_OUTPUT, stage by stage (R121): the rank filter takes X of a group of slots into their histories, with the rank setting in force,
and their FIR follows in the frame after (R116); the FIR of slot 0 at an output round, outside a fade and past the coarse outputs, makes
the output of its inputs with the flag of its limit and the timestamp g before its window's end (R117, R118, R120), and the other slots
follow what was decided there; outputs are compared one frame later: an output that is compared moves its lane's zone by R132 and shows in
the lane's registers (R132 to R134). DETECTOR_PERIOD_END latches MAX, MIN, MEAN
and RMS of every lane of the pod, converted by the window in force; the pod's latch count grows by one and its end frame is that of
the period (R110, R137). What is not the spec's in it: log entries 4, 8, 25, 46. -/
def Obligations.DetectorsAndIndigoShowTheirValues : Prop :=
  (∀ (s : State) (e r k : Nat) (xs : List Int) (ms : List Nat) (d : Due) (rest : List Due), s.blk.power.on = true → e < 64 →
    takeDue (fun x => isOutputOf e x && decide (x.at_ ≤ s.blk.time.abs)) s.blk.due = some (d, rest) → d.task = .indigoRank e r k xs ms →
    ∃ t, exec (.indigoOutput e) s = .next t ∧ (t.blk.engine e).zs = (s.blk.engine e).zs ∧ Safety.Keeps (fun _ _ => false) s t ∧
      ∃ a, t.blk.due = rest ++ [a] ∧ a.at_ = d.at_ + 1 ∧ a.by_ = d.at_ + 1 ∧
        ∃ zs, a.task = .indigoFir e r k zs ms ∧ zs.length = xs.length ∧
          (∀ i < xs.length, (let x := xs.getD i 0 :: (look (fun _ => []) (s.blk.engine e).xs (k + i)).take 8;
            zs.getD i 0 = rankOut (s.blk.rd (0x4600 + e) 2) x ∧ look (fun _ => []) (t.blk.engine e).xs (k + i) = x))) ∧
  (∀ (s : State) (e r m : Nat) (z : Int) (d : Due) (rest : List Due) (zs : List Int), s.blk.power.on = true → e < 64 →
    takeDue (fun x => isOutputOf e x && decide (x.at_ ≤ s.blk.time.abs)) s.blk.due = some (d, rest) →
    d.task = .indigoFir e r 0 [z] [m] → (r + 1) % s.blk.engD e = 0 → (s.blk.engine e).fade = none →
    s.blk.rd (0x4600 + e) 0xC = 0 → zs = z :: (look (fun _ => []) (s.blk.engine e).zs 0).take 63 →
    ∃ t, exec (.indigoOutput e) s = .next t ∧ look (fun _ => []) (t.blk.engine e).zs 0 = zs ∧
      (let y := bankOut s.blk (s.blk.engBank e) e zs;
       let n := 32 * s.blk.syncAbs + 64 * r + 63;
       ∃ a, t.blk.due = rest ++ [a] ∧ a.at_ = d.at_ + 1 ∧
         ∃ abs o, a.task = .indigoSlots e abs 0 [o] ∧ o.y = y.1 ∧ o.pos = n + 64 ∧ o.flags = 4 * b2n y.2 ∧
           o.t = stampAdd (s.blk.tsPos n) (-(s.blk.engG e : Int)))) ∧
  (∀ (s : State) (e r k : Nat) (zs : List Int) (ms : List Nat) (d : Due) (rest : List Due) (x : OutDec), s.blk.power.on = true → e < 64 →
    takeDue (fun y => isOutputOf e y && decide (y.at_ ≤ s.blk.time.abs)) s.blk.due = some (d, rest) →
    d.task = .indigoFir e r k zs ms → 0 < k → (s.blk.engine e).decs.find? (fun y => y.r == r) = some x →
    ∃ t, exec (.indigoOutput e) s = .next t ∧ Safety.Keeps (fun _ _ => false) s t ∧
      ∃ a, t.blk.due = rest ++ [a] ∧ a.at_ = d.at_ + 1 ∧ a.by_ = d.at_ + 1 ∧
        ∃ outs, a.task = .indigoSlots e x.abs k outs ∧ outs.length = zs.length ∧
          (∀ i < zs.length, ∀ o, outs[i]? = some o → o.pos = x.n0 + 8 * (k + i) + 64 ∧
            (x.coarse = false → x.old = x.new →
              o.y = (bankOut s.blk x.new e (zs.getD i 0 :: (look (fun _ => []) (s.blk.engine e).zs (k + i)).take 63)).1))) ∧
  (∀ (s : State) (e abs k i : Nat) (outs : List IndPoint) (o : IndPoint) (d : Due) (rest : List Due), s.blk.power.on = true → e < 64 →
    takeDue (fun x => isOutputOf e x && decide (x.at_ ≤ s.blk.time.abs)) s.blk.due = some (d, rest) →
    d.task = .indigoSlots e abs k outs → s.blk.engOn e = true → outs[i]? = some o → k + i < 8 → -32768 ≤ o.y → o.y ≤ 32767 →
    ∃ t, exec (.indigoOutput e) s = .next t ∧ t.blk.due = rest ∧
      (let l := 8 * e + (k + i);
       let z := zoneAfter (s.blk.rd (0x4800 + l) 4) (s.blk.rdI (0x4800 + l) 1) (s.blk.rdI (0x4800 + l) 2) (s.blk.rd (0x4800 + l) 3) o.y;
       t.blk.rdI (0x4800 + l) 5 = o.y ∧ t.blk.rd (0x4800 + l) 4 = z ∧ t.blk.rd (0x4800 + l) 6 = o.flags % 2 ^ 64 ∧
       (t.blk.lane l).ind =
         ({ o with zone := z, events := zoneEvents (s.blk.rd (0x4800 + l) 4) z } :: (s.blk.lane l).ind).take 32)) ∧
  (∀ (s : State) (n : Nat) (d : Due) (rest : List Due), s.blk.power.on = true → n < 32 →
    takeDue (fun x => x.task == .detectorLatch n) s.blk.due = some (d, rest) →
    ∃ t, exec (.detectorPeriodEnd n) s = .next t ∧ t.blk.due = rest ∧
      t.blk.rd (0x4100 + n) 3 = satTo 32 (s.blk.rd (0x4100 + n) 3 + 1) ∧
      t.blk.rd (0x4100 + n) 4 = (s.blk.pod n).detEnd % 2 ^ 64 ∧ t.blk.pods = s.blk.pods ∧
      (∀ m < 16, ∀ x, (s.blk.lane (16 * n + m)).latch = some x →
        (let l := 16 * n + m;
         let v := fun (a : Rat) => voltsOf (s.blk.pod n).win (setPol (s.blk.lane l).set) a;
         let k := v 1 - v 0;
         let mean : Rat := (x.sum : Rat) / (x.n : Rat);
         t.blk.rd (0x4400 + l) 1 = real32 (v x.max) ∧ t.blk.rd (0x4400 + l) 2 = real32 (v x.min) ∧
         t.blk.rd (0x4400 + l) 3 = real32 (v mean) ∧
         t.blk.rd (0x4400 + l) 4 = real32Sqrt (v 0 * v 0 + 2 * v 0 * k * mean + k * k * ((x.sq : Rat) / (x.n : Rat))) ∧
         (t.blk.lane l).latch = none)))

/-! ### The capture store -/

/-- A region's allocation: the region is where the write says, and every octet of the old region and of the new one reads 0; every
other octet of the store is as before (R204, R208, R242). A clear of regions: every octet of a named region reads 0, every other
octet is as before (R208). While a domain in PATTERN, RESPOND or WATCH is ARMED or STOPPING, a write of the stimulus region's
allocation and a clear that names it are refused with ERR_STATE; so is a clear that names the region of a domain that is not
UNARMED, and it clears nothing (R243). -/
def Obligations.RegionsAreAllocatedAndCleared : Prop :=
  (∀ (s : State) (p : Path) (r v : Nat), Safety.Serving s → r < 9 → Safety.Accepts s p 0x6000 (r + 1) v → s.blk.mops = [] →
    regionStatus s.blk r v = stOK → (r = 8 → stimulusBusy s.blk = false) →
    ∃ t, exec (.regionAllocationWrite p r v) s = .next t ∧ t.blk.resp = Resp.plain stOK ∧ t.blk.regionFirst r = bits v 0 16 ∧
      t.blk.regionSize r = bits v 16 16 ∧
      ∀ a, memRead t.mem a =
        if (s.blk.regionFirst r ≤ a / unitBytes ∧ a / unitBytes < s.blk.regionFirst r + s.blk.regionSize r) ∨
           (bits v 0 16 ≤ a / unitBytes ∧ a / unitBytes < bits v 0 16 + bits v 16 16) then 0 else memRead s.mem a) ∧
  (∀ (s : State) (p : Path) (v : Nat), Safety.Serving s → Safety.Accepts s p 0x6001 6 v → s.blk.mops = [] →
    (∀ r ∈ setBits 9 v, r = 8 ∨ s.blk.armed r = false) → (8 ∈ setBits 9 v → stimulusBusy s.blk = false) →
    ∃ t, exec (.regionClear p v) s = .next t ∧ t.blk.resp = Resp.plain stOK ∧
      (∀ a, memRead t.mem a =
        if (setBits 9 v).any (fun r => decide (s.blk.regionFirst r ≤ a / unitBytes) &&
          decide (a / unitBytes < s.blk.regionFirst r + s.blk.regionSize r)) then 0 else memRead s.mem a) ∧
      Safety.KeepsRegs (fun _ _ => false) s t) ∧
  (∀ (s : State) (p : Path) (v r : Nat), Safety.Serving s → Safety.Accepts s p 0x6001 6 v → r ∈ setBits 9 v → r < 8 →
    s.blk.armed r = true →
    ∃ t, exec (.regionClear p v) s = .next t ∧ t.blk.resp = Resp.plain stSTATE ∧ Safety.Keeps (fun _ _ => false) s t) ∧
  (∀ (s : State) (p : Path) (v d : Nat), Safety.Serving s → Safety.Accepts s p 0x6000 9 v → d < 8 → s.blk.armed d = true →
    (s.blk.mode d = 0xA ∨ s.blk.mode d = 0xB ∨ s.blk.mode d = 8) →
    ∃ t, exec (.regionAllocationWrite p 8 v) s = .next t ∧ t.blk.resp = Resp.plain stSTATE ∧ Safety.Keeps (fun _ _ => false) s t) ∧
  (∀ (s : State) (p : Path) (v d : Nat), Safety.Serving s → Safety.Accepts s p 0x6001 6 v → 8 ∈ setBits 9 v → d < 8 →
    s.blk.armed d = true → (s.blk.mode d = 0xA ∨ s.blk.mode d = 0xB ∨ s.blk.mode d = 8) →
    ∃ t, exec (.regionClear p v) s = .next t ∧ t.blk.resp = Resp.plain stSTATE ∧ Safety.Keeps (fun _ _ => false) s t)

/-- STORE_COMMIT of a frame that has been written from staging: its records become readable at their addresses, the later of two writes
where they meet, and no other octet of the store changes (R18, R220). The high watermark: a write is in force at once, and sets HWM and counts where it lies at or
below a fill that the mark before it did not reach; otherwise flag and count are as before. A peak reset makes the peak the fill in
force (R235). What is not the spec's in it: log entries 4, 26. -/
def Obligations.FramesAreCommittedAndTheFillIsWatched : Prop :=
  (∀ (s : State) (d : Nat) (f : StagedFrame) (rest : List StagedFrame), s.blk.power.on = true → d < 8 →
    s.blk.mops = [] → (s.blk.store d).staged = f :: rest → f.left = 0 →
    ∃ t, exec (.storeCommit d) s = .next t ∧ (t.blk.store d).staged = rest ∧
      (∀ j < f.writes.length, let w := f.writes.getD j (0, []);
        ∀ i < (wordsToLe w.2).length,
          (∀ v ∈ f.writes.drop (j + 1), w.1 + i < v.1 ∨ v.1 + (wordsToLe v.2).length ≤ w.1 + i) →
          memRead t.mem (w.1 + i) = (wordsToLe w.2).getD i 0) ∧
      (∀ k, (∀ w ∈ f.writes, k < w.1 ∨ w.1 + (wordsToLe w.2).length ≤ k) → memRead t.mem k = memRead s.mem k)) ∧
  (∀ (s : State) (p : Path) (d v : Nat), Safety.Serving s → d < 8 → Safety.Accepts s p (0x6100 + d) 8 v →
    ∃ t, exec (.hwmWrite p d v) s = .next t ∧ t.blk.resp = Resp.plain stOK ∧ t.blk.rd (0x6100 + d) 8 = v ∧
      t.blk.rd (0x6400 + d) 1 = s.blk.rd (0x6400 + d) 1 ∧
      (if s.blk.rd (0x6400 + d) 1 < s.blk.rd (0x6100 + d) 8 ∧ v ≤ s.blk.rd (0x6400 + d) 1 then
        t.blk.rd (0x6400 + d) 2 = 1 ∧ t.blk.rd (0x6400 + d) 3 = satTo 32 (s.blk.rd (0x6400 + d) 3 + 1)
       else t.blk.rd (0x6400 + d) 2 = s.blk.rd (0x6400 + d) 2 ∧ t.blk.rd (0x6400 + d) 3 = s.blk.rd (0x6400 + d) 3)) ∧
  (∀ (s : State) (w : Via) (d : Nat), Safety.Serving s → d < 8 → Safety.Reaches s w (0x6400 + d) 6 1 →
    ∃ t, exec (.peakReset w d 1) s = .next t ∧ Safety.Answered w stOK t ∧
      t.blk.rd (0x6400 + d) 5 = s.blk.rd (0x6400 + d) 1 ∧ Safety.Keeps (fun i r => i == 0x6400 + d && r == 5) s t)

/-- The store's own ends: the post-trigger count stops the domain with reason STORE after its position (R226, R172): the stop that
the trigger has requested there, where no other request comes before it, takes effect once it is known, and changes nothing before; a
segment, beside which no deferred opening stands, closes with its last sample L − 1 after its open sample (R229); a deferred segment
opens with LATE_OPEN (R230). What is not the spec's in it: log entry 4. -/
def Obligations.TheStoreEndsItsUnits : Prop :=
  (∀ (s : State) (d p : Nat) (x : StopReq), s.blk.power.on = true → d < 8 →
    (s.blk.store d).postStop = some p → p < (s.blk.dom d).evaluated → s.blk.armed d = true →
    x = { pos := p, rank := stopRank srSTORE, reason := srSTORE, known := p / 32 + 5 } → x ∈ (s.blk.dom d).stops →
    (∀ y ∈ (s.blk.dom d).stops, y ≠ x → x.beats y = true) →
    ∃ t, exec (.postTriggerStop d) s = .next t ∧ t.blk.doms = s.blk.doms ∧ t.blk.stores = s.blk.stores ∧
      (t.blk.dom d).stop = some x ∧
      (x.known ≤ s.blk.time.abs → t.blk.dstate d = 2 ∧ t.blk.rd (0x5100 + d) 4 = srSTORE) ∧
      (s.blk.time.abs < x.known → (∀ y ∈ (s.blk.dom d).stops, x.known ≤ y.known) → t.blk.dstate d = s.blk.dstate d) ∧
      Safety.Keeps (fun i r => i == 0x5100 + d && (r == 2 || r == 4)) s t) ∧
  (∀ (s : State) (d c : Nat) (g : Segment), s.blk.power.on = true → d < 8 → (s.blk.store d).seg = some g →
    (s.blk.store d).deferred = none → lengthClose s.blk d g = some c → c < (s.blk.dom d).evaluated → s.blk.evaluates d c = true →
    ∃ t, exec (.segmentLengthClose d) s = .next t ∧ (t.blk.store d).seg = none ∧ (t.blk.store d).closing = some (c, 1, g) ∧
      (t.blk.store d).hdrDue = true ∧ (∀ e, e ≠ d → t.blk.store e = s.blk.store e)) ∧
  (∀ (s : State) (d : Nat) (x : Deferred), s.blk.power.on = true → d < 8 → (s.blk.store d).seg = none →
    (s.blk.store d).deferred = some x → x.at_ ≤ (s.blk.dom d).evaluated → s.blk.evaluates d x.at_ = true →
    slotProtected s.blk d = false →
    ∃ t, exec (.deferredSegmentOpen d) s = .next t ∧ (t.blk.store d).deferred = none ∧
      (∃ g, (t.blk.store d).seg = some g ∧ g.o = x.at_ ∧ g.reqTs = x.reqTs ∧ g.late = true ∧ g.seq = (s.blk.store d).nextSeq) ∧
      (∀ e, e ≠ d → t.blk.store e = s.blk.store e))

/-- BAR4: a read without an uncorrectable error gives the octets at the store addresses of its window, unpoisoned (R443, R444); a
write into the stimulus region lands there and changes no other octet, one elsewhere is discarded and counted and changes no octet
(R211). What is not the spec's in it: log entries 6, 11, 15, 42. -/
def Obligations.Bar4ReachesTheStore : Prop :=
  (∀ (s : State) (x len : Nat), Safety.Serving s → s.blk.barUp = true → s.blk.mops = [] → 1 ≤ len → (Instr.bar4Read x len []).wf = true →
    ∃ t, exec (.bar4Read x len []) s = .next t ∧
      .bar4Data x ((List.range len).map (fun i => memRead s.mem (s.blk.apertureAddr x + i))) false ∈ t.blk.out ∧ t.mem = s.mem ∧
      Safety.Keeps (fun _ _ => false) s t) ∧
  (∀ (s : State) (x : Nat) (data : List Byte), Safety.Serving s → s.blk.barUp = true → s.blk.mops = [] →
    (Instr.bar4Write x data .good).wf = true → s.blk.regionOfUnit (s.blk.apertureAddr x / unitBytes) = some 8 →
    ∃ t, exec (.bar4Write x data .good) s = .next t ∧
      (∀ i y, data[i]? = some y → memRead t.mem (s.blk.apertureAddr x + i) = y) ∧
      (∀ k, k < s.blk.apertureAddr x ∨ s.blk.apertureAddr x + data.length ≤ k → memRead t.mem k = memRead s.mem k) ∧
      t.blk.unit (s.blk.apertureAddr x / unitBytes) ≠ 0 ∧ Safety.KeepsRegs (fun _ _ => false) s t) ∧
  (∀ (s : State) (x : Nat) (data : List Byte), Safety.Serving s → s.blk.barUp = true → s.blk.mops = [] →
    (Instr.bar4Write x data .good).wf = true → s.blk.regionOfUnit (s.blk.apertureAddr x / unitBytes) ≠ some 8 →
    ∃ t, exec (.bar4Write x data .good) s = .next t ∧ t.mem = s.mem ∧ t.blk.bget 0xA04 0 = 1 ∧
      t.blk.bget 0xA04 1 = satTo 16 (s.blk.bget 0xA04 1 + 1) ∧ t.blk.units = s.blk.units ∧
      Safety.Keeps (fun _ _ => false) s t)

/-! ### Registers, reads that latch, flags and counters -/

/-- A read of a LO register gives the low half of its value and latches the rest of it (R35, R142, R181, R249, R302, R352, R458).
What is not the spec's in it: log entry 11. -/
def Obligations.LoReadsLatchTheirHighHalf : Prop :=
  ∀ s : State, Safety.Serving s → s.blk.barUp = true →
    (∃ t, exec .frameNowLoRead s = .next t ∧ t.blk.resp.data = toLe 4 (lo32 s.blk.time.frame.toNat) ∧
      t.blk.bget 0x104 0 = hi32 s.blk.time.frame.toNat ∧ Safety.Keeps (fun _ _ => false) s t) ∧
    (∀ d < 8, ∀ w < 4, ∃ t, exec (.storeLoRead d w) s = .next t ∧ Safety.Keeps (fun _ _ => false) s t ∧
      (let x := [s.blk.rd (0x6400 + d) 1, s.blk.rd (0x6400 + d) 5, s.blk.rd (0x6300 + d) 3, s.blk.rd (0x6300 + d) 6].getD w 0;
       t.blk.resp.data = toLe 4 (lo32 x) ∧ t.blk.bget (0x800 + 0x40 * d + [0x14, 0x1C, 0x2C, 0x34].getD w 0) 0 = hi32 x)) ∧
    (∀ d < 8, ∃ t, exec (.trigTsLoRead d) s = .next t ∧ t.blk.resp.data = toLe 4 (lo32 (s.blk.rd (0x5520 + d) 1)) ∧
      t.blk.bget (0x410 + 0x40 * d) 0 = hi32 (s.blk.rd (0x5520 + d) 1) ∧ t.blk.bget (0x414 + 0x40 * d) 0 = s.blk.rd (0x5520 + d) 2 ∧
      t.blk.bget (0x418 + 0x40 * d) 0 = lo32 (s.blk.rd (0x5520 + d) 3) ∧
      t.blk.bget (0x41C + 0x40 * d) 0 = hi32 (s.blk.rd (0x5520 + d) 3) ∧ Safety.Keeps (fun _ _ => false) s t) ∧
    (∃ t, exec .indigoSyncLoRead s = .next t ∧ t.blk.resp.data = toLe 4 (lo32 (s.blk.rd 0x4010 2)) ∧
      t.blk.bget 0x314 0 = hi32 (s.blk.rd 0x4010 2) ∧ Safety.Keeps (fun _ _ => false) s t) ∧
    (∀ d < 8, ∃ t, exec (.maskTsLoRead d) s = .next t ∧ t.blk.resp.data = toLe 4 (lo32 (s.blk.rd (0x6840 + d) 7)) ∧
      t.blk.bget (0xC0C + 0x20 * d) 0 = hi32 (s.blk.rd (0x6840 + d) 7) ∧ Safety.Keeps (fun _ _ => false) s t) ∧
    (∃ t, exec .clkJumpLoRead s = .next t ∧ t.blk.resp.data = toLe 4 (lo32 (s.blk.rd 0x2103 6)) ∧
      t.blk.bget 0xE18 0 = hi32 (s.blk.rd 0x2103 6) ∧ Safety.Keeps (fun _ _ => false) s t) ∧
    (∃ t, exec .ptmDevLoRead s = .next t ∧ t.blk.resp.data = toLe 4 (lo32 (s.blk.bget 0x1848 0)) ∧
      t.blk.bget 0x1848 3 = s.blk.bget 0x1848 0 ∧ t.blk.bget 0x1848 4 = s.blk.bget 0x1848 1 ∧
      t.blk.bget 0x1848 5 = s.blk.bget 0x1848 2 ∧ Safety.Keeps (fun _ _ => false) s t)

/-- A write over BAR0: ALERT_ENABLE takes its ten bits (R530); a write that the register refuses, one of a size that no register
or alignment has, and every write while the module is STARTING (BUSY) or FAILED (ERR_HW, log entry 21) is recorded with its offset and status and has no other effect beside, with ERR_HW,
the ERROR record (R55, R59, R439, R441). A naturally aligned write of 8 octets is two of 4, the lower offset first (R441). HOST_ABI: the first proposal that the module can meet puts the smaller of both versions in force, a proposal below the least
is answered ERR_VERSION, and a version in force never changes (R63). What is not the spec's in it: log entry 21. -/
def Obligations.Bar0WritesAreServedOrRecorded : Prop :=
  (∀ (s : State) (v : Nat), Safety.Serving s → s.blk.barUp = true →
    ∃ t, exec (.registerWrite 0x4C 4 v) s = .next t ∧ t.blk.rd 0x2006 1 = bits (v % 2 ^ 32) 0 10 ∧
      Safety.Keeps (fun i r => i == 0x2006 && r == 1) s t) ∧
  (∀ (s : State) (off v : Nat), Safety.Serving s → s.blk.barUp = true → off < 0x2000000 → off % 4 = 0 →
    (regWrite s.mem off (v % 2 ^ 32) s.blk).1 ≠ stOK →
    ∃ t, exec (.registerWrite off 4 v) s = .next t ∧ t.blk.bget 0x120 0 = 1 ∧ t.blk.bget 0x124 0 = off ∧
      t.blk.bget 0x120 2 = (regWrite s.mem off (v % 2 ^ 32) s.blk).1 ∧
      t.blk.bget 0x120 1 = satTo 16 (s.blk.bget 0x120 1 + 1) ∧ Safety.Keeps (fun _ _ => false) s t) ∧
  (∀ (s : State) (off size v : Nat), Safety.Serving s → s.blk.barUp = true → off < 0x2000000 → (size = 4 → off % 4 ≠ 0) →
    (size = 8 → off % 8 ≠ 0) →
    ∃ t, exec (.registerWrite off size v) s = .next t ∧ t.blk.bget 0x120 0 = 1 ∧ t.blk.bget 0x124 0 = off ∧
      t.blk.bget 0x120 2 = stACCESS ∧ Safety.Keeps (fun _ _ => false) s t) ∧
  (∀ (s : State) (off size v : Nat), s.blk.power.on = true → s.blk.barUp = true → s.blk.rd 0x2001 0 = 0 → off < 0x4000000 →
    ∃ t, exec (.registerWrite off size v) s = .next t ∧ t.blk.bget 0x120 0 = 1 ∧ t.blk.bget 0x124 0 = off ∧
      t.blk.bget 0x120 2 = stBUSY ∧ Safety.Keeps (fun _ _ => false) s t) ∧
  (∀ (s : State) (off size v : Nat), s.blk.power.on = true → s.blk.barUp = true → s.blk.rd 0x2001 0 = 2 → off < 0x4000000 →
    ∃ t, exec (.registerWrite off size v) s = .next t ∧ t.blk.bget 0x120 0 = 1 ∧ t.blk.bget 0x124 0 = off ∧
      t.blk.bget 0x120 2 = stHW ∧ Safety.Keeps (fun _ _ => false) s t) ∧
  (∀ (s : State) (v : Nat), Safety.Serving s → s.blk.barUp = true → v < 65536 → s.blk.rd 0x1E00 5 = 0 → s.blk.rd 0x1E00 3 ≤ v →
    ∃ t, exec (.hostAbiWrite v) s = .next t ∧ t.blk.rd 0x1E00 5 = min v (s.blk.rd 0x1E00 4) ∧ t.blk.bget 0x1800 0 = stOK) ∧
  (∀ (s : State) (v : Nat), Safety.Serving s → s.blk.barUp = true → v < 65536 → s.blk.rd 0x1E00 5 = 0 → v < s.blk.rd 0x1E00 3 →
    ∃ t, exec (.hostAbiWrite v) s = .next t ∧ t.blk.bget 0x1800 0 = stVERSION ∧ Safety.Keeps (fun _ _ => false) s t) ∧
  (∀ (s : State) (v : Nat), Safety.Serving s → s.blk.barUp = true → v < 65536 → s.blk.rd 0x1E00 5 ≠ 0 →
    ∃ t, exec (.hostAbiWrite v) s = .next t ∧ t.blk.bget 0x1800 0 = stOK ∧ Safety.Keeps (fun _ _ => false) s t) ∧
  (∀ (s : State) (v : Nat), Safety.Serving s → s.blk.barUp = true →
    ∃ t, exec (.registerWrite 0x48 8 v) s = .next t ∧ t.blk.rd 0x2006 1 = bits (v / 2 ^ 32) 0 10 ∧ t.blk.bget 0x120 0 = 1 ∧
      t.blk.bget 0x124 0 = 0x48 ∧ t.blk.bget 0x120 2 = stACCESS ∧ t.blk.bget 0x120 1 = satTo 16 (s.blk.bget 0x120 1 + 1) ∧
      Safety.Keeps (fun i r => i == 0x2006 && r == 1) s t) ∧
  (∀ (s : State) (off v st st' : Nat), Safety.Serving s → s.blk.barUp = true → off < 0x2000000 → off % 8 = 0 →
    (regWrite s.mem off (v % 2 ^ 32) s.blk).1 = st → st ≠ stOK →
    (regWrite s.mem (off + 4) (v / 2 ^ 32 % 2 ^ 32) (rejectWrite off st s.blk)).1 = st' → st' ≠ stOK →
    ∃ t, exec (.registerWrite off 8 v) s = .next t ∧ t.blk.bget 0x120 0 = 1 ∧ t.blk.bget 0x124 0 = off + 4 ∧
      t.blk.bget 0x120 2 = st' ∧ t.blk.bget 0x120 1 = satTo 16 (s.blk.bget 0x120 1 + 2) ∧ Safety.Keeps (fun _ _ => false) s t)

/-- A write of 1 to a sticky flag clears it, and a write of 0 has no effect (R49). When hardware sets the flag in the same fabric
cycle, the set wins: the flag stays set, and its event counter counts the new event (R50). This holds over the dictionary, over the
BAR0 registers that show flags of the dictionary, and of the flags that BAR0 alone holds. A write of 1 to a clear field clears its
event counter, and an event in the same fabric cycle counts after it (R51). The error register and the alert of the state are those
of its causes. -/
def Obligations.FlagsAndCountersClear : Prop :=
  (∀ (s : State) (p : Path) (idx sub : Nat) (hw : Bool), Safety.Serving s → idx < 65536 → sub < 256 → isFlag idx sub = true →
    Safety.Accepts s p idx sub 1 →
    ∃ t, exec (.flagClear (.dict p idx sub) 1 hw) s = .next t ∧ t.blk.rd idx sub = b2n hw ∧
      (hw = true → ∀ c, flagCounter idx sub = some c → t.blk.rd idx c = satTo 32 (s.blk.rd idx c + 1)) ∧
      Safety.Keeps (fun i r => i == idx && (r == sub || flagCounter idx sub == some r)) s t) ∧
  (∀ (s : State) (p : Path) (idx sub : Nat), Safety.Serving s → idx < 65536 → sub < 256 → isFlag idx sub = true →
    Safety.Accepts s p idx sub 0 →
    ∃ t, exec (.flagClear (.dict p idx sub) 0 false) s = .next t ∧ Safety.Keeps (fun _ _ => false) s t) ∧
  (∀ (s : State) (off i idx sub : Nat) (hw : Bool), Safety.Serving s → s.blk.barUp = true → off < 0x1800 →
    (barFlags off).find? (fun x => x.1 == i) = some (i, idx, sub) →
    ∃ t, exec (.flagClear (.bar off i) 1 hw) s = .next t ∧ t.blk.rd idx sub = b2n hw ∧
      (hw = true → ∀ c, flagCounter idx sub = some c → t.blk.rd idx c = satTo 32 (s.blk.rd idx c + 1))) ∧
  (∀ (s : State) (p : Path) (idx sub c : Nat) (event : Bool), Safety.Serving s → Safety.reportsSettled s.blk → idx < 65536 → sub < 256 →
    clearedBy idx sub = some c → Safety.Accepts s p idx sub 1 →
    ∃ t, exec (.counterClear (.dict p idx sub) 1 event) s = .next t ∧ t.blk.rd idx c = b2n event) ∧
  (∀ (s : State) (off i f co cf w : Nat) (hw : Bool), Safety.Serving s → s.blk.barUp = true →
    ownFlag off i = some (f, co, cf, w) →
    ∃ t, exec (.flagClear (.bar off i) 1 hw) s = .next t ∧ t.blk.bget off f = b2n hw ∧
      (hw = true → t.blk.bget co cf = satTo w (s.blk.bget co cf + 1))) ∧
  (∀ (s : State) (hw : Bool), Safety.Serving s → s.blk.barUp = true →
    ∃ t, exec (.flagClear (.bar 0x140C 0) 1 hw) s = .next t ∧ bit (t.blk.bget 0x140C 0) 0 = hw ∧
      (hw = true → bits (t.blk.bget 0x140C 0) 16 16 = satTo 16 (bits (s.blk.bget 0x140C 0) 16 16 + 1))) ∧
  (∀ (s : State) (q : Nat) (hw : Bool), Safety.Serving s → s.blk.barUp = true → q < 4096 →
    (∃ t, exec (.flagClear (.bar (0x20014 + 0x20 * q) 0) 1 hw) s = .next t ∧ (t.blk.queue q).gap = hw ∧
      (hw = true → (t.blk.queue q).drops = satTo 32 ((s.blk.queue q).drops + 1))) ∧
    (∃ t, exec (.flagClear (.bar (0x20014 + 0x20 * q) 1) 1 hw) s = .next t ∧ (t.blk.queue q).reset = hw ∧
      (hw = true → (t.blk.queue q).resets = satTo 8 ((s.blk.queue q).resets + 1)))) ∧
  (∀ (s : State) (off i : Nat), Safety.Serving s → Safety.reportsSettled s.blk → s.blk.barUp = true → off < 0x4000000 →
    ∃ t, exec (.flagClear (.bar off i) 0 false) s = .next t ∧ t.blk.bar = s.blk.bar ∧ t.blk.queues = s.blk.queues ∧
      Safety.Keeps (fun _ _ => false) s t) ∧
  (∀ (s : State) (off i co cf : Nat) (event : Bool), Safety.Serving s → s.blk.barUp = true →
    (off, i, co, cf) ∈ [(0x120, 1, 0x120, 1), (0xA04, 1, 0xA04, 1), (0x1704, 1, 0x1704, 1), (0x1808, 2, 0x180C, 0), (0x1808, 3, 0x180C, 1)] →
    ∃ t, exec (.counterClear (.bar off i) 1 event) s = .next t ∧ t.blk.bget co cf = b2n event) ∧
  (∀ (s : State) (d i idx c : Nat) (event : Bool), Safety.Serving s → s.blk.barUp = true → d < 8 →
    (i, idx, c) ∈ [(0, 0x6300 + d, 9), (1, 0x6300 + d, 0xC), (2, 0x6400 + d, 3), (3, 0x6300 + d, 0xF)] →
    ∃ t, exec (.counterClear (.bar (0x804 + 0x40 * d) i) 1 event) s = .next t ∧ t.blk.rd idx c = b2n event) ∧
  (∀ (s : State) (q : Nat) (event : Bool), Safety.Serving s → s.blk.barUp = true → q < 4096 →
    (∃ t, exec (.counterClear (.bar (0x20014 + 0x20 * q) 2) 1 event) s = .next t ∧ (t.blk.queue q).drops = b2n event) ∧
    (∃ t, exec (.counterClear (.bar (0x20014 + 0x20 * q) 3) 1 event) s = .next t ∧ (t.blk.queue q).resets = b2n event)) ∧
  (∀ (s : State) (event : Bool), Safety.Serving s → s.blk.barUp = true →
    (∃ t, exec (.counterClear (.bar 0x140C 1) 1 event) s = .next t ∧ bits (t.blk.bget 0x140C 0) 16 16 = b2n event) ∧
    (∃ t, exec (.counterClear (.bar 0x170C 1) 1 event) s = .next t ∧ t.blk.rd 0x7080 4 = b2n event))

/-! ### The sample clock -/

/-- Clock settings: an accepted write is in force, and a loop that is not OFF acquires anew (R347); band entries are written and
reloaded (R331, R351); the output source and the phase target are kept (R329, R335). No clock setting changes, and no band entry,
while a domain is armed: the write is refused with ERR_STATE (R331, R347). During the comparison of a band-table verify an accepted entry
write, or a reload, waits for its end (R406). That a BAND_FACTORY_RELOAD is accepted where it would not change the entry in use, although
R331 names a write to that entry among its refusals, is the model's reading (log entry 27, DEDUCED); that a write that waits is answered
at once is the model's too (log entry 15). -/
def Obligations.ClockWritesTakeEffect : Prop :=
  (∀ (s : State) (p : Path) (sub v : Nat), Safety.Serving s → 1 ≤ sub → sub ≤ 5 → Safety.Accepts s p 0x2100 sub v →
    clockStatus s.blk sub v = stOK →
    ∃ t, exec (.clockConfigWrite p sub v) s = .next t ∧ t.blk.resp = Resp.plain stOK ∧ t.blk.rd 0x2100 sub = v ∧
      (s.blk.rd 0x2101 1 ≠ 0 → t.blk.rd 0x2101 1 = 1 ∧ t.blk.clk.coast = none ∧ t.blk.clk.jump = none) ∧
      (s.blk.rd 0x2101 1 = 0 → t.blk.rd 0x2101 1 = 0) ∧ t.blk.clk.bands = s.blk.clk.bands) ∧
  (∀ (s : State) (p : Path) (k v : Nat), Safety.Serving s → k < 128 → Safety.Accepts s p 0x2110 (k + 1) v →
    bandWriteStatus s.blk (some k) v = stOK → s.blk.maint.verifyEnd ≤ s.blk.time.abs →
    ∃ t, exec (.bandEntryWrite p k v) s = .next t ∧ t.blk.resp = Resp.plain stOK ∧ t.blk.band k = bandOf v ∧
      (∀ j, j ≠ k → t.blk.band j = s.blk.band j) ∧ Safety.Keeps (fun _ _ => false) s t) ∧
  (∀ (s : State) (p : Path), Safety.Serving s → Safety.Accepts s p 0x2110 0x81 1 → bandWriteStatus s.blk none 0 = stOK →
    s.blk.maint.verifyEnd ≤ s.blk.time.abs →
    ∃ t, exec (.bandFactoryReload p 1) s = .next t ∧ t.blk.resp = Resp.plain stOK ∧ (∀ j, t.blk.band j = fusedBand j) ∧
      Safety.Keeps (fun _ _ => false) s t) ∧
  (∀ (s : State) (p : Path) (v : Nat), Safety.Serving s → Safety.Accepts s p 0x2100 6 v →
    ∃ t, exec (.refclkOutSourceWrite p v) s = .next t ∧ t.blk.resp = Resp.plain stOK ∧ t.blk.rd 0x2100 6 = v ∧
      t.blk.clk = s.blk.clk ∧ Safety.Keeps (fun i r => i == 0x2100 && r == 6) s t) ∧
  (∀ (s : State) (w : Via) (v : Nat), Safety.Serving s → v < 2 ^ 32 → Safety.Reaches s w 0x2102 1 v →
    ∃ t, exec (.phaseTargetWrite w v) s = .next t ∧ Safety.Answered w stOK t ∧ t.blk.rdI 0x2102 1 = signed v 32 ∧
      t.blk.clk = s.blk.clk ∧ Safety.Keeps (fun i r => i == 0x2102 && r == 1) s t) ∧
  (∀ (s : State) (p : Path) (sub v : Nat), Safety.Serving s → 1 ≤ sub → sub ≤ 5 → Safety.Accepts s p 0x2100 sub v →
    s.blk.armedDoms ≠ [] →
    ∃ t, exec (.clockConfigWrite p sub v) s = .next t ∧ t.blk.resp = Resp.plain stSTATE ∧ t.blk.clk = s.blk.clk ∧
      Safety.Keeps (fun _ _ => false) s t) ∧
  (∀ (s : State) (p : Path) (k v : Nat), Safety.Serving s → k < 128 → Safety.Accepts s p 0x2110 (k + 1) v → bandOk v = true →
    s.blk.armedDoms ≠ [] →
    ∃ t, exec (.bandEntryWrite p k v) s = .next t ∧ t.blk.resp = Resp.plain stSTATE ∧ t.blk.clk = s.blk.clk ∧
      Safety.Keeps (fun _ _ => false) s t) ∧
  (∀ (s : State) (p : Path) (k v : Nat), Safety.Serving s → k < 128 → Safety.Accepts s p 0x2110 (k + 1) v →
    bandWriteStatus s.blk (some k) v = stOK → s.blk.time.abs < s.blk.maint.verifyEnd →
    ∃ t, exec (.bandEntryWrite p k v) s = .next t ∧ t.blk.resp = Resp.plain stOK ∧
      t.blk.clk = { s.blk.clk with waits := s.blk.clk.waits ++ [some (k, bandOf v)] } ∧ Safety.Keeps (fun _ _ => false) s t) ∧
  (∀ (s : State) (p : Path), Safety.Serving s → Safety.Accepts s p 0x2110 0x81 1 → bandWriteStatus s.blk none 0 = stOK →
    s.blk.time.abs < s.blk.maint.verifyEnd →
    ∃ t, exec (.bandFactoryReload p 1) s = .next t ∧ t.blk.resp = Resp.plain stOK ∧
      t.blk.clk = { s.blk.clk with waits := s.blk.clk.waits ++ [none] } ∧ Safety.Keeps (fun _ _ => false) s t)

/-- LOCK ends an acquisition: LOCKED_REF on the reference, LOCKED_TCXO otherwise, and the frame grid runs (R333, R113); an outer
part of the band sets BAND_MARGIN (R332). LOCK_LOST names its cause and coasting begins at the next frame (R337, R338); a reference
that is gone or out of tolerance is no longer QUALIFIED, one that is lost for another cause still is (R340; log entry 27). What is not
the spec's in it: log entries 4, 6, 27. -/
def Obligations.LockAndItsLoss : Prop :=
  (∀ (s : State) (outer : Bool), s.blk.power.on = true → s.blk.rd 0x2101 1 = 1 → (s.blk.rd 0x2101 2 = 1 → s.blk.qualified = true) →
    ∃ t, exec (.lock outer) s = .next t ∧ t.blk.rd 0x2101 1 = (if s.blk.rd 0x2101 2 = 1 then 2 else 4) ∧ t.blk.clk.run = true ∧
      t.blk.power.lockWait = false ∧ (outer = true → s.blk.clk.margin = false → t.blk.rd 0x2110 0x82 = 1) ∧
      (s.blk.clk.run = false → s.blk.clk.next = none → t.blk.clk.next = some 0)) ∧
  (∀ (s : State) (c : Nat), s.blk.power.on = true → 1 ≤ c → c ≤ 4 → s.blk.lockedRef = true → s.blk.clk.coast = none →
    ∃ t, exec (.lockLost c) s = .next t ∧ t.blk.rd 0x2101 7 = c ∧ t.blk.clk.coast = some (s.blk.time.abs + 1, s.blk.rd 0x2103 1) ∧
      t.blk.clk.jump = none ∧ (c ≤ 2 → t.blk.qualified = false) ∧
      (bits (s.blk.rd 0x2101 3) 0 2 = 3 → 3 ≤ c → t.blk.qualified = s.blk.qualified) ∧ t.blk.rd 0x2101 1 = s.blk.rd 0x2101 1)

/-- Off the reference, its edges and frequency set the reference condition (R340); a reference that has been in tolerance for the
qualification time is QUALIFIED (R340); a jump measured while COASTING waits for the next frame with its method (R341, R342); a
slew that has run out ends LOCKED_REF (R342); the boundary after the frame in which a coast reaches its limit without a qualified reference
makes the fall-back due, and FALLBACK carries it out, to LOCKED_TCXO (R345). PHASE_STEP moves the phase in force one step toward its target, no more often than the interval, and counts (R335). What is
not the spec's in it: log entries 4, 6, 27. -/
def Obligations.ReferenceAndPhaseEventsTakeEffect : Prop :=
  (∀ (s : State) (present : Bool) (m : Nat), s.blk.power.on = true → s.blk.lockedRef = false →
    ∃ t, exec (.referenceConditionChange present m) s = .next t ∧ bit (t.blk.rd 0x2101 3) 0 = present ∧
      bit (t.blk.rd 0x2101 3) 1 = freqOk (s.blk.rd 0x2100 1) m ∧ t.blk.clk.refMHz = m ∧ t.blk.rd 0x2101 1 = s.blk.rd 0x2101 1) ∧
  (∀ (s : State) (a n : Nat), s.blk.power.on = true → s.blk.clk.qualFrom = some (a, n) → a + n ≤ s.blk.time.abs →
    s.blk.lockedRef = false →
    ∃ t, exec .referenceQualified s = .next t ∧ t.blk.qualified = true ∧ t.blk.clk = s.blk.clk ∧
      Safety.Keeps (fun i r => i == 0x2101 && r == 3) s t) ∧
  (∀ (s : State) (j : Int), s.blk.power.on = true → s.blk.qualified = true → s.blk.rd 0x2101 1 = 5 → s.blk.clk.jump = none →
    ∃ t, exec (.jumpMeasured j) s = .next t ∧
      t.blk.clk.jump = some (s.blk.time.abs + 1, foldJump (s.blk.rd 0x2100 8) (refFp2 s.blk.clockCfg.decl s.blk.clockCfg.mult) j,
        match s.blk.rd 0x2103 4 with | 1 => true | 2 => false | _ => !s.blk.armedDoms.isEmpty) ∧
      Safety.Keeps (fun i r => i == 0x2103 && r == 6) s t) ∧
  (∀ (s : State) (x : Nat × Nat), s.blk.power.on = true → s.blk.clk.slew = some x → s.blk.rd 0x2101 1 = 3 → slewLeft s.blk = 0 →
    ∃ t, exec .slewEnd s = .next t ∧ t.blk.rd 0x2101 1 = 2 ∧ t.blk.rd 0x2103 7 = 0 ∧ t.blk.clk.slew = none) ∧
  (∀ (b : Block) (a limit : Nat), b.clk.coast = some (a, limit) → b.rd 0x2101 1 = 5 → limit ≠ 2 ^ 32 - 1 →
    ((coastLimit b).clk.fall = true ↔ b.clk.fall = true ∨ (a + limit < b.time.abs ∧ b.qualified = false))) ∧
  (∀ s : State, s.blk.power.on = true → s.blk.clk.fall = true → s.blk.rd 0x2101 1 = 5 →
    ∃ t, exec .fallback s = .next t ∧ t.blk.rd 0x2101 1 = 4 ∧ t.blk.rd 0x2101 2 = 2 ∧ t.blk.rd 0x2101 0xB = 1 ∧
      t.blk.rd 0x2101 0xC = satTo 32 (s.blk.rd 0x2101 0xC + 1) ∧ t.blk.clk.coast = none) ∧
  (∀ s : State, s.blk.power.on = true → 2 ≤ s.blk.rd 0x2101 1 → s.blk.rdI 0x2102 2 ≠ s.blk.rdI 0x2102 1 →
    (∀ a, s.blk.clk.stepAt = some a → a + s.blk.rd 0x2102 3 ≤ s.blk.time.abs) →
    ∃ t, exec .phaseStep s = .next t ∧
      t.blk.rdI 0x2102 2 = (if s.blk.rdI 0x2102 2 < s.blk.rdI 0x2102 1 then s.blk.rdI 0x2102 2 + 1 else s.blk.rdI 0x2102 2 - 1) ∧
      t.blk.rd 0x2102 4 = satTo 32 (s.blk.rd 0x2102 4 + 1) ∧ t.blk.clk.stepAt = some s.blk.time.abs ∧ t.blk.time = s.blk.time ∧
      Safety.Keeps (fun i r => i == 0x2102 && (r == 2 || r == 4)) s t)

/-! ### Frame sync and Sloe chains -/

/-- A SYNC_IN event whose slip has no cause of refusal waits for its frame; one that has, at a position that no slip voids, is refused
with its cause and flag (R358).
A slip that has taken effect makes a synchronising reset and is counted with its frame (R356); so does a frame number load, which
sets S to the number in force (R359, R123). An event that is accepted while a load is armed also loads: the frame whose sample 0 lies at
the desired boundary counts as the load value, and 0x2201.04 is cleared (R359). A chain load that passes its checks waits for its frame (R375). What is not the spec's
in it: log entries 4, 6. -/
def Obligations.FrameSyncSlipsAndLoads : Prop :=
  (∀ (s : State) (e : Nat) (x : Int), s.blk.power.on = true → e < 32 → s.blk.rd 0x2201 1 ≠ 0 → s.blk.sync.slipDue = none →
    s.blk.sync.loadDue = none → s.blk.clk.run = true → s.blk.sync.from_ ≤ e → s.blk.syncRise e = true → s.blk.on 0x2201 4 = false →
    x = requestedSlip (s.blk.rd 0x2201 1) (s.blk.rd 0x2201 3) (32 * s.blk.time.frame.toNat + e + s.blk.rd 0x2201 2) →
    slipCause s.blk x = 0 → x ≠ 0 →
    ∃ t, exec (.syncInEvent e) s = .next t ∧
      t.blk.sync.wait = [{ at_ := s.blk.time.abs + s.blk.applyAfter, s := x, load := none, counts := true }] ∧
      t.blk.rdI 0x2201 6 = clampI (-32767) 32767 x ∧ Safety.Keeps (fun i r => i == 0x2201 && r == 6) s t) ∧
  (∀ (s : State) (e : Nat) (x : Int), s.blk.power.on = true → e < 32 → s.blk.rd 0x2201 1 ≠ 0 → s.blk.sync.slipDue = none →
    s.blk.sync.loadDue = none → s.blk.clk.run = true → s.blk.sync.from_ ≤ e → s.blk.syncRise e = true →
    x = requestedSlip (s.blk.rd 0x2201 1) (s.blk.rd 0x2201 3) (32 * s.blk.time.frame.toNat + e + s.blk.rd 0x2201 2) →
    e < s.blk.voidSoon → slipCause s.blk x ≠ 0 → (x ≠ 0 ∨ s.blk.on 0x2201 4 = true) →
    ∃ t, exec (.syncInEvent e) s = .next t ∧ t.blk.sync = { s.blk.sync with from_ := e + 1 } ∧ t.blk.rd 0x2201 7 = slipCause s.blk x ∧
      t.blk.rd 0x2201 8 = 1 ∧ t.blk.rd 0x2201 9 = satTo 32 (s.blk.rd 0x2201 9 + 1)) ∧
  (∀ (s : State) (x : Int), s.blk.power.on = true → s.blk.sync.slipDue = some x →
    ∃ t, exec .syncSlip s = .next t ∧ t.blk.sync.slipDue = none ∧ t.blk.syncAbs = s.blk.time.abs ∧
      t.blk.rd 0x2201 0xB = satTo 32 (s.blk.rd 0x2201 0xB + 1) ∧ t.blk.rd 0x2201 0xC = s.blk.time.frame.toNat ∧
      t.blk.time = s.blk.time) ∧
  (∀ (s : State) (old : Nat), s.blk.power.on = true → s.blk.sync.slipDue = none → s.blk.sync.loadDue = some old →
    ∃ t, exec .frameLoad s = .next t ∧ t.blk.sync.loadDue = none ∧ t.blk.syncAbs = s.blk.time.abs ∧
      t.blk.rd 0x4010 2 = s.blk.time.frame.toNat ∧ t.blk.time = s.blk.time) ∧
  (∀ (s : State) (p : Path) (v : Nat), Safety.Serving s → Safety.Accepts s p 0x2220 7 v → chainLoadStatus s.blk v = stOK →
    ∃ t, exec (.chainLoadWrite p v) s = .next t ∧ t.blk.resp = Resp.plain stOK ∧
      t.blk.sync.wait = s.blk.sync.wait ++ [{ at_ := s.blk.time.abs + s.blk.applyAfter, s := 0, load := some v, counts := true }] ∧
      Safety.Keeps (fun _ _ => false) s t) ∧
  (∀ (s : State) (e at_ n : Nat) (x : Int), s.blk.power.on = true → e < 32 → s.blk.rd 0x2201 1 ≠ 0 → s.blk.sync.slipDue = none →
    s.blk.sync.loadDue = none → s.blk.clk.run = true → s.blk.sync.from_ ≤ e → s.blk.syncRise e = true → s.blk.on 0x2201 4 = true →
    at_ = 32 * s.blk.time.frame.toNat + e + s.blk.rd 0x2201 2 → x = requestedSlip (s.blk.rd 0x2201 1) (s.blk.rd 0x2201 3) at_ →
    (n : Int) = (((s.blk.rd 0x2201 5 : Nat) : Int) +
      (32 * ((s.blk.time.frame.toNat + s.blk.applyAfter : Nat) : Int) + x - at_) / 32) % ((2 ^ 53 : Nat) : Int) →
    slipCause s.blk x = 0 →
    ∃ t, exec (.syncInEvent e) s = .next t ∧
      t.blk.sync.wait = [{ at_ := s.blk.time.abs + s.blk.applyAfter, s := x, load := some n, counts := true }] ∧
      t.blk.rd 0x2201 4 = 0 ∧ t.blk.rdI 0x2201 6 = x ∧ Safety.Keeps (fun i r => i == 0x2201 && (r == 4 || r == 6)) s t)

/-- The states of a Sloe port: signal on an enabled port that is neither linked nor held Off (R509) begins TRAINING; lanes that do not train show cause
LANES; training that finds a common version links the port with the far device's ID; one that finds none fails with cause VERSION;
a linked port whose link is lost fails with cause LOSS and counts, and a link lost beyond the parent makes the module ORPHAN (R361 to
R363, R365, R368). A frame message: one that passes its checks
on the link to a child adds the child's chain bits of the mask, and a damaged one is discarded, counted and marks them damaged
(R364, R365, R372). What is not the spec's in it: log entries 6, 13. -/
def Obligations.SloePortsLinkAndCarryMessages : Prop :=
  (∀ (s : State) (p : Nat), s.blk.power.on = true → p < 4 → s.blk.on (0x2210 + p) 1 = true → s.blk.linkUp p = false →
    s.blk.rd (0x2210 + p) 2 ≠ 0 →
    ∃ t, exec (.sloeSignalPresent p) s = .next t ∧ t.blk.rd (0x2210 + p) 2 = 1 ∧ t.blk.rd (0x2210 + p) 3 = 0 ∧
      t.blk.rd (0x2210 + p) 4 = 0 ∧ Safety.Keeps (fun i r => i == 0x2210 + p && (r == 2 || r == 3 || r == 4)) s t) ∧
  (∀ (s : State) (p : Nat), s.blk.power.on = true → p < 4 → s.blk.rd (0x2210 + p) 2 = 1 →
    ∃ t, exec (.sloeTrainingLanesTimeout p) s = .next t ∧ t.blk.rd (0x2210 + p) 2 = 1 ∧ t.blk.rd (0x2210 + p) 3 = 2 ∧
      Safety.Keeps (fun i r => i == 0x2210 + p && r == 3) s t) ∧
  (∀ (s : State) (p v : Nat) (x : Training), s.blk.power.on = true → p < 4 → s.blk.rd (0x2210 + p) 2 = 1 →
    s.blk.txTaken p = false → sloeVersion x.farLow x.farHigh = some v →
    ∃ t, exec (.sloeTrainingComplete p x) s = .next t ∧ t.blk.linkUp p = true ∧ t.blk.rd (0x2210 + p) 2 = 2 ∧
      t.blk.rd (0x2210 + p) 4 = v ∧ t.blk.rd (0x2210 + p) 5 = bits x.farId 0 16 ∧ t.blk.port p = SloePort.reset) ∧
  (∀ (s : State) (p : Nat) (x : Training), s.blk.power.on = true → p < 4 → s.blk.rd (0x2210 + p) 2 = 1 →
    s.blk.txTaken p = false → sloeVersion x.farLow x.farHigh = none →
    ∃ t, exec (.sloeTrainingComplete p x) s = .next t ∧ t.blk.rd (0x2210 + p) 2 = 4 ∧ t.blk.rd (0x2210 + p) 3 = 4) ∧
  (∀ (s : State) (p : Nat), s.blk.power.on = true → p < 4 → s.blk.linkUp p = true →
    ∃ t, exec (.linkLoss (.own p)) s = .next t ∧ t.blk.linkUp p = false ∧ t.blk.rd (0x2210 + p) 2 = 4 ∧ t.blk.rd (0x2210 + p) 3 = 5 ∧
      t.blk.rd (0x2210 + p) 0xD = satTo 32 (s.blk.rd (0x2210 + p) 0xD + 1)) ∧
  (∀ (s : State) (p off : Nat) (ws : List Nat), s.blk.power.on = true → p < 4 → off < 2048 → s.blk.linkUp p = true →
    messageGood ws = true → s.blk.linkRole p = 2 → s.blk.linkVersion p = 2 →
    ∃ t, exec (.sloeFrameMessage p off ws) s = .next t ∧
      (∃ x, t.blk.chain.ups = x :: s.blk.chain.ups ∧ x.bits = ws.getD 1 0 &&& s.blk.chainMask ∧
        x.at_ = s.blk.received (bits (ws.getD 2 0) 0 53)) ∧ (t.blk.port p).bad = 0) ∧
  (∀ (s : State) (p off : Nat) (ws : List Nat), s.blk.power.on = true → p < 4 → off < 2048 → s.blk.linkUp p = true →
    messageGood ws = false → s.blk.linkRole p = 2 → s.blk.linkVersion p = 2 → (s.blk.port p).bad < 15 →
    ∃ t, exec (.sloeFrameMessage p off ws) s = .next t ∧ t.blk.rd (0x2210 + p) 0xA = 1 ∧
      t.blk.rd (0x2210 + p) 0xB = satTo 32 (s.blk.rd (0x2210 + p) 0xB + 1) ∧ (∃ x, t.blk.chain.ups = x :: s.blk.chain.ups ∧ x.bits = 0 ∧ x.bad = true) ∧
      (t.blk.port p).bad = (s.blk.port p).bad + 1) ∧
  (∀ (s : State) (p : Nat), s.blk.power.on = true → p < 4 → s.blk.linkRole p = 1 → s.blk.armedDoms = [] →
    ∃ t, exec (.linkLoss (.beyond p)) s = .next t ∧ t.blk.rd 0x2200 4 = 4 ∧ t.blk.rd 0x2200 0xA = 0 ∧
      t.blk.linkUp p = s.blk.linkUp p ∧ Safety.Keeps (fun i r => i == 0x2200 && (r == 4 || r == 0xA)) s t)

/-- DISCOVERY by the master that its checks let pass runs with what it finds, and its completion leaves the chain FORMED and the
master aligned (R367); one asked for by a write of 0x2200.03 is answered then (log entry 13), and these clauses have no request waiting
behind it; a member takes its place in the chain from the completion that reaches it over its parent's link (R367,
R368). The horizon and the chain mask are written when their checks pass, and refused with ERR_STATE while a domain of the chain is
armed, in the module itself, in what its ports report, or in a member that refuses (R373). What is not the spec's in it: log entries
13, 38. -/
def Obligations.ChainsAreDiscoveredAndConfigured : Prop :=
  (∀ (s : State) (p : Path) (found : List ChainMember), Safety.Serving s → Safety.Accepts s p 0x2200 3 1 →
    discoveryStatus s.blk found = stOK →
    ∃ t, exec (.discovery p 1 found) s = .next t ∧ t.blk.resp = Resp.plain stOK ∧ t.blk.rd 0x2200 4 = 1 ∧
      t.blk.chain.found = discoveryTree s.blk found ∧ Safety.Keeps (fun i r => i == 0x2200 && r == 4) s t) ∧
  (∀ (s : State) (x : ChainInfo) (q : Asked), s.blk.power.on = true → s.blk.isMaster = true → s.blk.rd 0x2200 4 = 1 →
    s.blk.chain.asked = some q → s.blk.server.later = [] → discoveryStatus s.blk x.found = stOK →
    ∃ t, exec (.discoveryComplete x) s = .next t ∧ t.blk.rd 0x2200 4 = 2 ∧ t.blk.rd 0x2200 0xA = 3 ∧ t.blk.resp = Resp.plain stOK ∧
      t.blk.chain.found = discoveryTree s.blk x.found ∧ t.blk.chain.asked = none) ∧
  (∀ (s : State) (x : ChainInfo), s.blk.power.on = true → s.blk.isMaster = true → s.blk.rd 0x2200 4 = 1 → s.blk.chain.asked = none →
    s.blk.server.later = [] →
    ∃ t, exec (.discoveryComplete x) s = .next t ∧ t.blk.rd 0x2200 4 = 2 ∧ t.blk.rd 0x2200 0xA = 3 ∧ t.blk.rd 0x2200 9 = 0xFF ∧
      t.blk.rd 0x2200 5 = 0 ∧ t.blk.rd 0x2200 7 = s.blk.rd 0x2200 1) ∧
  (∀ (s : State) (x : ChainInfo), s.blk.power.on = true → s.blk.isMaster = false → x.parent < 4 → s.blk.linkUp x.parent = true →
    s.blk.armedDoms = [] → s.blk.chain.asked = none → s.blk.server.later = [] →
    ∃ t, exec (.discoveryComplete x) s = .next t ∧ t.blk.rd 0x2200 4 = 2 ∧ t.blk.rd 0x2200 0xA = 1 ∧
      t.blk.rd 0x2200 9 = x.parent ∧ t.blk.rd 0x2200 5 = x.depth % 65536 ∧ t.blk.rd 0x2200 6 = x.dmax % 65536 ∧
      t.blk.rd 0x2200 7 = x.masterId % 65536 ∧ t.blk.rd (0x2210 + x.parent) 8 = 1) ∧
  (∀ (s : State) (p : Path) (v : Nat) (refused : Bool), Safety.Serving s → Safety.Accepts s p 0x2220 1 v →
    horizonStatus s.blk false (p == .sloe) refused v = stOK →
    ∃ t, exec (.horizonWrite p v refused) s = .next t ∧ t.blk.resp = Resp.plain stOK ∧ t.blk.horizon = v ∧
      Safety.Keeps (fun i r => i == 0x2220 && r == 1) s t) ∧
  (∀ (s : State) (p : Path) (v : Nat) (refused : Bool), Safety.Serving s → Safety.Accepts s p 0x2220 2 v →
    horizonStatus s.blk true (p == .sloe) refused v = stOK →
    ∃ t, exec (.chainMaskWrite p v refused) s = .next t ∧ t.blk.resp = Resp.plain stOK ∧ t.blk.chainMask = v ∧
      Safety.Keeps (fun i r => i == 0x2220 && r == 2) s t) ∧
  (∀ (s : State) (p : Path) (v : Nat) (refused : Bool), Safety.Serving s → Safety.Accepts s p 0x2220 1 v →
    (s.blk.isMember = false ∨ p = .sloe) → hMin s.blk.dmax ≤ v → v ≤ 4096 →
    (s.blk.armedDoms ≠ [] ∨ s.blk.anyArmed = true ∨ refused = true) →
    ∃ t, exec (.horizonWrite p v refused) s = .next t ∧ t.blk.resp = Resp.plain stSTATE ∧ Safety.Keeps (fun _ _ => false) s t) ∧
  (∀ (s : State) (p : Path) (v : Nat) (refused : Bool), Safety.Serving s → Safety.Accepts s p 0x2220 2 v →
    (s.blk.isMember = false ∨ p = .sloe) → (s.blk.armedDoms ≠ [] ∨ s.blk.anyArmed = true ∨ refused = true) →
    ∃ t, exec (.chainMaskWrite p v refused) s = .next t ∧ t.blk.resp = Resp.plain stSTATE ∧ Safety.Keeps (fun _ _ => false) s t)

/-- ALIGNMENT: after 256 measures a port whose two sides agree within two steps is aligned, and on a member's parent link so is the
module (R369); ALIGN_TRACK corrects the phase offset in force by the measured offset while it is small (R370). What is not the spec's in
it: log entries 9, 13, 38. -/
def Obligations.AlignmentFollowsTheMeasures : Prop :=
  (∀ (s : State) (p : Nat), s.blk.power.on = true → p < 4 → s.blk.linkUp p = true → measured256 (s.blk.port p) = true →
    s.blk.sync.wait = [] → (s.blk.linkRole p ≠ 1 ∨ s.blk.isMember = false) → (s.blk.port p).delta ≤ 8192 →
    -2 ≤ (s.blk.port p).theta → (s.blk.port p).theta ≤ 2 →
    ∃ t, exec (.alignment ⟨p, true⟩) s = .next t ∧ t.blk.rd (0x2210 + p) 2 = 3 ∧ (t.blk.port p).n = 0) ∧
  (∀ (s : State) (p : Nat), s.blk.power.on = true → p < 4 → s.blk.linkUp p = true → measured256 (s.blk.port p) = true →
    s.blk.sync.wait = [] → s.blk.linkRole p = 1 → s.blk.isMember = true → s.blk.rd 0x2200 0xA = 1 → (s.blk.port p).delta ≤ 8192 →
    -2 ≤ (s.blk.port p).theta → (s.blk.port p).theta ≤ 2 →
    ∃ t, exec (.alignment ⟨p, true⟩) s = .next t ∧ t.blk.rd (0x2210 + p) 2 = 3 ∧ t.blk.rd 0x2200 0xA = 3 ∧ (t.blk.port p).n = 0) ∧
  (∀ (s : State), s.blk.power.on = true → s.blk.rd 0x2200 9 < 4 → s.blk.linkUp (s.blk.rd 0x2200 9) = true →
    s.blk.isMember = true → s.blk.rd 0x2200 0xA = 3 → measured256 (s.blk.port (s.blk.rd 0x2200 9)) = true →
    -32 ≤ (s.blk.port (s.blk.rd 0x2200 9)).theta → (s.blk.port (s.blk.rd 0x2200 9)).theta ≤ 32 →
    ∃ t, exec .alignTrack s = .next t ∧ (t.blk.port (s.blk.rd 0x2200 9)).n = 0 ∧ t.blk.rd 0x2200 0xA = 3 ∧
      t.blk.rdI 0x2102 1 = clampI (-(2 ^ 31)) (2 ^ 31 - 1)
        (s.blk.rdI 0x2102 2 + roundRat (-16 * (s.blk.port (s.blk.rd 0x2200 9)).theta)))

/-! ### Measurements, masks and histograms -/

/-- Measurement units: WINDOW_END ends the windows of the domain's units whose last sample is known, and touches no other unit
(R272); RESULTS_LATCH latches the oldest ended window once its frame has come, for comparison one frame later and into a free place
for MEAS records, or sets MEAS_DROP and counts where both places are full (R276, R277). Mask units: LIMIT_COMPARE takes the latched
windows that are due; without a violation nothing else changes, and one violation is counted, sets VIOLATION and gives a record
(R285, R287, R291); violation N of an ARMED domain requests the stop with reason MASK and begins the holdoff (R284, R288).
MASK_HOLDOFF_END: once the stop has taken effect, the domain no longer being ARMED, the state is STOPPED (R284); while the domain is
STOPPING its reason is that of the stop that applies among those known (R173), which the clause has as a premise. What is not the
spec's in it: log entries 4, 36. -/
def Obligations.MeasurementsAndMasks : Prop :=
  (∀ (s : State) (d n p first : Nat), s.blk.power.on = true → d < 8 → n < 32 → s.blk.podDom n = d →
    (s.blk.measUnit n).endDue = some p → (s.blk.measUnit n).start = some first →
    ∃ t, exec (.windowEnd d) s = .next t ∧ (t.blk.measUnit n).start = none ∧ (t.blk.measUnit n).endDue = none ∧
      (s.blk.measured n = [] → (t.blk.measUnit n).ended = (s.blk.measUnit n).ended) ∧
      (s.blk.measured n ≠ [] → ∃ w, (t.blk.measUnit n).ended = (s.blk.measUnit n).ended ++ [w] ∧ w.start = first ∧
        w.stop = s.blk.lastReal p ∧ w.accs = (s.blk.measUnit n).accs) ∧
      (∀ k, s.blk.podDom k ≠ d → t.blk.measUnit k = s.blk.measUnit k) ∧ Safety.Keeps (fun _ _ => false) s t) ∧
  (∀ (s : State) (n : Nat) (w : EndedWin) (rest : List EndedWin), s.blk.power.on = true → n < 32 →
    (s.blk.measUnit n).ended = w :: rest → w.latchAt ≤ s.blk.time.abs →
    ∃ t, exec (.resultsLatch n) s = .next t ∧ (t.blk.measUnit n).ended = rest ∧
      (∃ x, (t.blk.measUnit n).latched = (s.blk.measUnit n).latched ++ [x] ∧ x.compareAt = w.latchAt + 1 ∧ x.lastPos = w.stop ∧
        if 2 ≤ (s.blk.measUnit n).places.length then
          (t.blk.measUnit n).places = (s.blk.measUnit n).places ∧ t.blk.rd (0x6810 + n) 4 = 1 ∧
            t.blk.rd (0x6810 + n) 5 = satTo 32 (s.blk.rd (0x6810 + n) 5 + 1)
        else (t.blk.measUnit n).places = (s.blk.measUnit n).places ++ [(w.latchAt + 2, x.recs)]) ∧
      (∀ k, k ≠ n → t.blk.measUnit k = s.blk.measUnit k) ∧
      Safety.Keeps (fun i r => i == 0x6810 + n && (r == 4 || r == 5)) s t) ∧
  (∀ (s : State) (d n : Nat), s.blk.power.on = true → d < 8 → n < 32 → s.blk.podDom n = d → (s.blk.mask d).found = [] →
    (s.blk.maskWorks d = true → (dueLatched s.blk d).flatMap (latchedViolations s.blk d) = []) →
    ∃ t, exec (.limitCompare d) s = .next t ∧
      (t.blk.measUnit n).latched = (s.blk.measUnit n).latched.filter (fun l => s.blk.time.abs < l.compareAt) ∧
      t.blk.mask d = s.blk.mask d ∧ Safety.Keeps (fun _ _ => false) s t) ∧
  (∀ (s : State) (d : Nat) (v : Violation), s.blk.power.on = true → d < 8 → (s.blk.mask d).found = [] → s.blk.maskWorks d = true →
    (dueLatched s.blk d).flatMap (latchedViolations s.blk d) = [v] → s.blk.rd (0x6840 + d) 1 = 0 →
    (s.blk.mask d).recs.length < 63 →
    ∃ t, exec (.limitCompare d) s = .next t ∧ t.blk.rd (0x6840 + d) 6 = satTo 32 (s.blk.rd (0x6840 + d) 6 + 1) ∧
      t.blk.rd (0x6840 + d) 8 = 1 ∧ t.blk.rd (0x6840 + d) 9 = satTo 32 (s.blk.rd (0x6840 + d) 9 + 1) ∧
      (∃ r, (t.blk.mask d).recs = (s.blk.mask d).recs ++ [r]) ∧ t.blk.doms = s.blk.doms ∧
      Safety.Keeps (fun i r => i == 0x6840 + d && (r == 6 || r == 8 || r == 9)) s t) ∧
  (∀ (s : State) (d : Nat) (v : Violation), s.blk.power.on = true → d < 8 → (s.blk.mask d).found = [] → s.blk.maskWorks d = true →
    (dueLatched s.blk d).flatMap (latchedViolations s.blk d) = [v] → s.blk.rd (0x6840 + d) 1 ≠ 0 →
    s.blk.rd (0x6840 + d) 1 = s.blk.rd (0x6840 + d) 6 + 1 → s.blk.rd (0x6840 + d) 3 = 0 → s.blk.dstate d = 1 →
    segmented (s.blk.mode d) = false → (s.blk.dom d).stop = none →
    ∃ t, exec (.limitCompare d) s = .next t ∧ t.blk.rd (0x6840 + d) 5 = 2 ∧ (t.blk.mask d).requested = true ∧
      (t.blk.dom d).stop =
        (let p := max ((s.blk.time.abs + 1) * 32 + 31) (v.pos + s.blk.rd (0x6840 + d) 2);
         some { pos := p, rank := stopRank srMASK, reason := srMASK, known := p / 32 })) ∧
  (∀ (s : State) (d : Nat), s.blk.power.on = true → d < 8 → s.blk.rd (0x6840 + d) 5 = 2 → s.blk.dstate d ≠ 1 →
    (∀ x, (s.blk.dom d).stop = some x → x.pos < s.blk.time.abs * 32 + 31) →
    (s.blk.dstate d = 2 → ∀ y, firstStop ((s.blk.dom d).stops.filter (fun y => decide (y.known ≤ s.blk.time.abs))) = some y →
      s.blk.rd (0x5100 + d) 4 = y.reason) →
    ∃ t, exec (.maskHoldoffEnd d) s = .next t ∧ t.blk.rd (0x6840 + d) 5 = 3 ∧ (∀ e, t.blk.mask e = s.blk.mask e) ∧ Safety.Keeps (fun i r => i == 0x6840 + d && r == 5) s t)

/-- Histogram engines: a SNAPSHOT command of an engine that accumulates for an ARMED domain makes a boundary at the second frame where
software boundaries are enabled, and is refused with ERR_STATE otherwise (R282); a readout that is due begins with the number of its
snapshot, and ends when every bin has been read; after the final one the bank becomes Unowned and is cleared (R282, R283). What is
not the spec's in it: log entries 4, 36. -/
def Obligations.HistogramSnapshots : Prop :=
  (∀ (s : State) (p : Path) (h : Nat), Safety.Serving s → h < 16 → Safety.Accepts s p (0x6A00 + h) 0xA 1 →
    s.blk.rd (0x6A00 + h) 1 < 8 → s.blk.dstate (s.blk.rd (0x6A00 + h) 1) = 1 →
    ∃ t, exec (.snapshotCommand p h 1) s = .next t ∧ t.blk.resp = Resp.plain stOK ∧
      (s.blk.accumulates h = true → bit (s.blk.rd (0x6A00 + h) 9) 0 = true →
        (t.blk.hist h).bounds = insertBound ((s.blk.time.abs + 2) * 32) false (s.blk.hist h).bounds) ∧
      (s.blk.accumulates h = false ∨ bit (s.blk.rd (0x6A00 + h) 9) 0 = false → t.blk.hist h = s.blk.hist h) ∧
      (∀ k, k ≠ h → t.blk.hist k = s.blk.hist k) ∧ Safety.Keeps (fun _ _ => false) s t) ∧
  (∀ (s : State) (p : Path) (h : Nat), Safety.Serving s → h < 16 → Safety.Accepts s p (0x6A00 + h) 0xA 1 →
    s.blk.dstate (s.blk.rd (0x6A00 + h) 1) ≠ 1 →
    ∃ t, exec (.snapshotCommand p h 1) s = .next t ∧ t.blk.resp = Resp.plain stSTATE ∧ t.blk.hists = s.blk.hists ∧
      Safety.Keeps (fun _ _ => false) s t) ∧
  (∀ (s : State) (h pos at_ : Nat) (final : Bool), s.blk.power.on = true → h < 16 →
    (s.blk.hist h).dueStart = some (pos, at_, final) → at_ ≤ s.blk.time.abs → (s.blk.hist h).nextNo < 2 ^ 32 → 8 < s.blk.bins h →
    ∃ t, exec (.snapshotReadoutStart h) s = .next t ∧ (t.blk.hist h).dueStart = none ∧
      (∃ ro, (t.blk.hist h).readout = some ro ∧ ro.no = (s.blk.hist h).nextNo ∧ ro.final = final ∧ ro.next = (if s.blk.w32 h then 8 else 4) ∧
        ro.ts = s.blk.tsPos pos) ∧
      bit (t.blk.rd (0x6A00 + h) 0xB) 1 = true ∧ t.blk.rd (0x6A00 + h) 0xD = (s.blk.hist h).nextNo ∧
      Safety.Keeps (fun i r => i == 0x6A00 + h && (r == 0xB || r == 0xD)) s t) ∧
  (∀ (s : State) (h : Nat) (ro : Readout), s.blk.power.on = true → h < 16 → (s.blk.hist h).readout = some ro →
    s.blk.bins h ≤ ro.next → ro.final = false →
    ∃ t, exec (.snapshotReadoutEnd h) s = .next t ∧ (t.blk.hist h).readout = none ∧ bit (t.blk.rd (0x6A00 + h) 0xB) 1 = false ∧
      t.blk.banks = s.blk.banks ∧ Safety.Keeps (fun i r => i == 0x6A00 + h && r == 0xB) s t) ∧
  (∀ (s : State) (h : Nat) (ro : Readout), s.blk.power.on = true → h < 16 → (s.blk.hist h).readout = some ro →
    s.blk.bins h ≤ ro.next → ro.final = true → s.blk.rd (0x6A00 + h) 0xC < 64 →
    ∃ t, exec (.snapshotReadoutEnd h) s = .next t ∧ (t.blk.hist h).readout = none ∧ t.blk.rd (0x6A00 + h) 0xC = 0xFF ∧
      (t.blk.bank (s.blk.rd (0x6A00 + h) 0xC)).owner = owUNOWNED ∧ (t.blk.bank (s.blk.rd (0x6A00 + h) 0xC)).clearing = true ∧
      (∀ k, k ≠ s.blk.rd (0x6A00 + h) 0xC → t.blk.bank k = s.blk.bank k))

/-! ### Stimulus -/

/-- Lane drivers: a driver is enabled where its domain's mode drives, the module is in PS0 without thermal hold, its enable bit is
set and it is not latched off (R304); idle levels take their place as the rest state of enabled lanes on which no pattern bit is
due (R305); a driver that is short is latched off and counted (R318) and stays so until it is re-enabled (R319). Pattern engines:
LAUNCH_AT_CONTACT records the oldest launch that has reached the contact, with its timestamp, its pattern and pass 1 (R312, R323);
PASS_END records the next pass, or the end of the pattern: HOLD after the safe pattern, else IDLE (R312, R314). What is not the
spec's in it: log entries 4, 15. -/
def Obligations.DriversAndPatternsTakeEffect : Prop :=
  (∀ (s : State) (p : Path) (n v m : Nat), Safety.Serving s → n < 32 → m < 16 → Safety.Accepts s p (0x3800 + n) 2 v →
    ∃ t, exec (.driveEnableWrite p n v) s = .next t ∧ t.blk.resp = Resp.plain stOK ∧ t.blk.rd (0x3800 + n) 2 = v ∧
      t.blk.driverOn (16 * n + m) = (s.blk.driveMode (s.blk.podDom n) && !bit (s.blk.rd 0x2005 1) 2 && bit v m &&
        !bit (s.blk.rd (0x3800 + n) 5) m) ∧
      (∀ l, l / 16 ≠ n → t.blk.driver l = s.blk.driver l) ∧ Safety.Keeps (fun i r => i == 0x3800 + n && (r == 2 || r == 4)) s t) ∧
  (∀ (s : State) (p : Path) (n v m : Nat), Safety.Serving s → n < 32 → m < 16 → Safety.Accepts s p (0x3800 + n) 3 v →
    ∃ t, exec (.idleLevelWrite p n v) s = .next t ∧ t.blk.resp = Resp.plain stOK ∧ t.blk.rd (0x3800 + n) 3 = v ∧
      (s.blk.driverOn (16 * n + m) = true → bits v (2 * m) 2 ≠ bits (s.blk.rd (0x3800 + n) 3) (2 * m) 2 →
        patternOn s.blk n = false → (t.blk.driver (16 * n + m)).rest = bits v (2 * m) 2) ∧
      (s.blk.driverOn (16 * n + m) = false → t.blk.driver (16 * n + m) = s.blk.driver (16 * n + m)) ∧
      (∀ l, l / 16 ≠ n → t.blk.driver l = s.blk.driver l) ∧ Safety.Keeps (fun i r => i == 0x3800 + n && r == 3) s t) ∧
  (∀ (s : State) (l : Nat), s.blk.power.on = true → l < 512 → s.blk.driverOn l = true →
    ∃ t, exec (.driverShort l) s = .next t ∧ bit (t.blk.rd (0x3800 + l / 16) 5) (l % 16) = true ∧ t.blk.driverOn l = false ∧
      t.blk.rd (0x3800 + l / 16) 7 = 1 ∧ t.blk.rd (0x3800 + l / 16) 8 = satTo 32 (s.blk.rd (0x3800 + l / 16) 8 + 1)) ∧
  (∀ (s : State) (p : Path) (n v m : Nat), Safety.Serving s → n < 32 → m < 16 → Safety.Accepts s p (0x3800 + n) 6 v →
    ∃ t, exec (.driverReenable p n v) s = .next t ∧ t.blk.resp = Resp.plain stOK ∧
      bit (t.blk.rd (0x3800 + n) 5) m = (bit (s.blk.rd (0x3800 + n) 5) m && !bit v m) ∧
      Safety.Keeps (fun i r => i == 0x3800 + n && (r == 4 || r == 5)) s t) ∧
  (∀ (s : State) (d pos p : Nat) (safe : Bool) (rest : List (Nat × Nat × Bool × Bool)), s.blk.power.on = true → d < 8 → p < 16 →
    (s.blk.stim d).reached = (pos, p, safe, true) :: rest →
    ∃ t, exec (.launchAtContact d) s = .next t ∧ (t.blk.stim d).reached = rest ∧
      t.blk.rd (0x3A00 + d) 1 = (if safe then 2 else 1) ∧ t.blk.rd (0x3A00 + d) 2 = p ∧ t.blk.rd (0x3A00 + d) 3 = 1 ∧
      t.blk.rd (0x3A00 + d) 4 = s.blk.tsPos pos % 2 ^ 64 ∧ t.blk.rd (0x3A00 + d) 5 = satTo 32 (s.blk.rd (0x3A00 + d) 5 + 1) ∧
      Safety.Keeps (fun i r => i == 0x3A00 + d && (r == 1 || r == 2 || r == 3 || r == 4 || r == 5)) s t) ∧
  (∀ (s : State) (d pos k : Nat) (safe : Bool) (rest : List (Nat × Nat × Bool)), s.blk.power.on = true → d < 8 →
    (s.blk.stim d).ends = (pos, k, safe) :: rest →
    ∃ t, exec (.passEnd d) s = .next t ∧ (t.blk.stim d).ends = rest ∧
      (if k ≠ 0 then t.blk.rd (0x3A00 + d) 3 = satTo 32 k
       else if safe then t.blk.rd (0x3A00 + d) 1 = 3
       else t.blk.rd (0x3A00 + d) 1 = 0 ∧ t.blk.rd (0x3A00 + d) 2 = 0xFF) ∧
      Safety.Keeps (fun i r => i == 0x3A00 + d && (r == 1 || r == 2 || r == 3 || r == 4 || r == 5)) s t)

/-- Driver levels (R306): VOH and VOL are written together as one 32-bit value and are in force at once when the write is accepted;
the write is refused with ERR_RANGE, and the levels in force are unchanged, when VOL < −2,000, when VOH > 10,000, or when VOH − VOL
< 200. A value of which none of this holds is accepted while the domain of the pod is not armed, and refused with ERR_STATE while
it is (R96). No driver changes its state. -/
def Obligations.DriverLevelsAreWrittenTogether : Prop :=
  (∀ (s : State) (p : Path) (n v : Nat), Safety.Serving s → n < 32 → serverHears s.blk p = true →
    accessCheck s.blk p (0x3800 + n) 1 true = none → v < 2 ^ 32 →
    -2000 ≤ signed (bits v 0 16) 16 → signed (bits v 16 16) 16 ≤ 10000 →
    200 ≤ signed (bits v 16 16) 16 - signed (bits v 0 16) 16 → (s.blk.podDom n < 8 → s.blk.armed (s.blk.podDom n) = false) →
    ∃ t, exec (.driverLevelsWrite p n v) s = .next t ∧ t.blk.resp = Resp.plain stOK ∧ t.blk.rd (0x3800 + n) 1 = v ∧
      t.blk.drivers = s.blk.drivers ∧ Safety.Keeps (fun i r => i == 0x3800 + n && r == 1) s t) ∧
  (∀ (s : State) (p : Path) (n v : Nat), Safety.Serving s → n < 32 → serverHears s.blk p = true →
    accessCheck s.blk p (0x3800 + n) 1 true = none → v < 2 ^ 32 →
    -2000 ≤ signed (bits v 0 16) 16 → signed (bits v 16 16) 16 ≤ 10000 →
    200 ≤ signed (bits v 16 16) 16 - signed (bits v 0 16) 16 → s.blk.podDom n < 8 → s.blk.armed (s.blk.podDom n) = true →
    ∃ t, exec (.driverLevelsWrite p n v) s = .next t ∧ t.blk.resp = Resp.plain stSTATE ∧ Safety.Keeps (fun _ _ => false) s t) ∧
  (∀ (s : State) (p : Path) (n v : Nat), Safety.Serving s → n < 32 → serverHears s.blk p = true →
    accessCheck s.blk p (0x3800 + n) 1 true = none → v < 2 ^ 32 →
    (signed (bits v 0 16) 16 < -2000 ∨ 10000 < signed (bits v 16 16) 16 ∨
      signed (bits v 16 16) 16 - signed (bits v 0 16) 16 < 200) →
    ∃ t, exec (.driverLevelsWrite p n v) s = .next t ∧ t.blk.resp.status = stRANGE ∧
      t.blk.rd (0x3800 + n) 1 = s.blk.rd (0x3800 + n) 1 ∧ Safety.Keeps (fun _ _ => false) s t)

/-! ### SRAM banks and maintenance -/

/-- HANDOVER: a request whose checks pass changes the owner, adds one to the generation and leaves the words alone; a bank handed
to Unowned begins CLEARING and every word of it reads 0; a request with another generation than the bank's is answered ERR_OWNER
and changes no bank (R388, R389, R391). -/
def Obligations.HandoverChangesTheOwner : Prop :=
  (∀ (s : State) (w : Via) (k new : Nat), Safety.Serving s → k < 64 → new < 16 → new ≠ owUNOWNED → (s.blk.bank k).gen < 65536 →
    Safety.Reaches s w 0x7001 1 (k + new * 2 ^ 8 + (s.blk.bank k).gen * 2 ^ 16) →
    handoverStatus s.blk k (s.blk.bank k).gen new = stOK → (s.blk.bank k).owner ≠ new →
    ∃ t, exec (.handoverRequest w k (s.blk.bank k).gen new) s = .next t ∧ Safety.Answered w stOK t ∧
      t.blk.bank k = { s.blk.bank k with owner := new, gen := ((s.blk.bank k).gen + 1) % 65536 } ∧ t.blk.words = s.blk.words ∧
      (∀ j, j ≠ k → t.blk.bank j = s.blk.bank j) ∧ Safety.Keeps (fun _ _ => false) s t) ∧
  (∀ (s : State) (w : Via) (k : Nat), Safety.Serving s → k < 64 → (s.blk.bank k).gen < 65536 →
    Safety.Reaches s w 0x7001 1 (k + (s.blk.bank k).gen * 2 ^ 16) →
    handoverStatus s.blk k (s.blk.bank k).gen owUNOWNED = stOK → (s.blk.bank k).owner ≠ owUNOWNED →
    ∃ t, exec (.handoverRequest w k (s.blk.bank k).gen owUNOWNED) s = .next t ∧ Safety.Answered w stOK t ∧
      (t.blk.bank k).owner = owUNOWNED ∧ (t.blk.bank k).clearing = true ∧
      (t.blk.bank k).gen = ((s.blk.bank k).gen + 1) % 65536 ∧ (∀ i < 65536, t.blk.word k i = 0) ∧
      (∀ j, j ≠ k → t.blk.bank j = s.blk.bank j) ∧ Safety.Keeps (fun _ _ => false) s t) ∧
  (∀ (s : State) (w : Via) (k gen new : Nat), Safety.Serving s → k < 64 → gen < 65536 → new < 10 ∨ new = 15 →
    gen ≠ (s.blk.bank k).gen → Safety.Reaches s w 0x7001 1 (k + new * 2 ^ 8 + gen * 2 ^ 16) →
    ∃ t, exec (.handoverRequest w k gen new) s = .next t ∧ Safety.Answered w stOWNER t ∧
      (w = .bar → t.blk.bget 0x1408 0 % 16 = stOWNER) ∧ t.blk.banks = s.blk.banks ∧ t.blk.words = s.blk.words ∧
      Safety.Keeps (fun _ _ => false) s t)

/-- Requests of a bank's power state and KEEP bit that their checks let pass (R397): RETENTION and OFF are reached at once, OFF
losing the contents, and ON is reached by a wake; BANK_WAKE_COMPLETE then leaves the bank ON (R396). BANK_CLEARING_END ends
CLEARING (R391). No other bank changes. What is not the spec's in it: log entry 15. -/
def Obligations.BankPowerAndClearing : Prop :=
  (∀ (s : State) (w : Via) (k v : Nat), Safety.Serving s → k < 64 → v < 3 → Safety.Reaches s w 0x7001 2 (k + 2 ^ 11 + v * 2 ^ 12) →
    bankCtrlStatus s.blk k (k + 2 ^ 11 + v * 2 ^ 12) = stOK → (∀ o ∈ s.blk.maint.ops, o.bank ≠ k) →
    ∃ t, exec (.bankPowerRequest w k v) s = .next t ∧ Safety.Answered w stOK t ∧ (t.blk.bank k).want = v ∧
      (v ≠ 0 → (t.blk.bank k).power = v) ∧ (v = 0 → (s.blk.bank k).power ≠ 0 → (t.blk.bank k).waking = true) ∧
      (v = 2 → ∀ i < 65536, t.blk.word k i = 0) ∧ (∀ j, j ≠ k → t.blk.bank j = s.blk.bank j) ∧
      Safety.Keeps (fun _ _ => false) s t) ∧
  (∀ (s : State) (w : Via) (k : Nat) (keep : Bool), Safety.Serving s → k < 64 →
    Safety.Reaches s w 0x7001 2 (k + 2 ^ 9 + b2n keep * 2 ^ 10) → bankCtrlStatus s.blk k (k + 2 ^ 9 + b2n keep * 2 ^ 10) = stOK →
    ∃ t, exec (.bankKeepRequest w k keep) s = .next t ∧ Safety.Answered w stOK t ∧
      t.blk.bank k = { s.blk.bank k with keep := keep } ∧ (∀ j, j ≠ k → t.blk.bank j = s.blk.bank j) ∧ t.blk.words = s.blk.words ∧
      Safety.Keeps (fun _ _ => false) s t) ∧
  (∀ (s : State) (k : Nat), s.blk.power.on = true → k < 64 → (s.blk.bank k).waking = true → (s.blk.bank k).want = 0 →
    (∀ key ∈ [0, q0Response, 1] ++ s.blk.queues.map Prod.fst, (s.blk.queue key).bank ≠ k) →
    ∃ t, exec (.bankWakeComplete k) s = .next t ∧ t.blk.bank k = { s.blk.bank k with power := 0, waking := false } ∧
      (∀ j, j ≠ k → t.blk.bank j = s.blk.bank j)) ∧
  (∀ (s : State) (k : Nat), s.blk.power.on = true → k < 64 → (s.blk.bank k).clearing = true →
    ∃ t, exec (.bankClearingEnd k) s = .next t ∧ t.blk.bank k = { s.blk.bank k with clearing := false } ∧
      (∀ j, j ≠ k → t.blk.bank j = s.blk.bank j) ∧ t.blk.words = s.blk.words ∧ Safety.Keeps (fun _ _ => false) s t)

/-- The bank window: a naturally aligned access of 8 octets to a bank of Host reads or replaces its word; any access to a bank that
Host does not own is denied, recorded and changes no word (R394). ADD64, ADD32X2 and SWAP64 on a bank of Host: the addressed word
takes the sum modulo 2^64, the two sums modulo 2^32 of its halves, or the operand; no other word changes, and the old word is shown
(R385, R395). A read of its low half latches the high one (R411). -/
def Obligations.HostBanksAreReadWrittenAndOperatedOn : Prop :=
  (∀ (s : State) (k i : Nat), Safety.Serving s → s.blk.barUp = true → k < 64 → i < 65536 → Safety.HostBank s k →
    ∃ t, exec (.bankWindowAccess false (k * 0x80000 + i * 8) 8 0) s = .next t ∧
      .bankData k i (s.blk.word k i).toNat ∈ t.blk.out ∧ t.blk.words = s.blk.words ∧ Safety.Keeps (fun _ _ => false) s t) ∧
  (∀ (s : State) (k i v : Nat), Safety.Serving s → s.blk.barUp = true → k < 64 → i < 65536 → v < 2 ^ 64 → Safety.HostBank s k →
    ∃ t, exec (.bankWindowAccess true (k * 0x80000 + i * 8) 8 v) s = .next t ∧ (t.blk.word k i).toNat = v ∧
      (∀ j m, m < 65536 → (j, m) ≠ (k, i) → t.blk.word j m = s.blk.word j m) ∧ Safety.Keeps (fun _ _ => false) s t) ∧
  (∀ (s : State) (write : Bool) (off len v : Nat), Safety.Serving s → s.blk.barUp = true → off < 0x2000000 →
    hostOwns s.blk (off / 0x80000) = false →
    ∃ t, exec (.bankWindowAccess write off len v) s = .next t ∧ t.blk.words = s.blk.words ∧ bit (t.blk.bget 0x140C 0) 0 = true ∧
      bits (t.blk.bget 0x140C 0) 2 6 = off / 0x80000 ∧
      bits (t.blk.bget 0x140C 0) 16 16 = satTo 16 (bits (s.blk.bget 0x140C 0) 16 16 + 1) ∧ Safety.Keeps (fun _ _ => false) s t) ∧
  (∀ (s : State) (k i : Nat), Safety.Serving s → s.blk.barUp = true → k < 64 → i < 65536 → s.blk.bget 0x1410 0 = k * 65536 + i →
    s.blk.bget 0x1418 0 < 2 ^ 32 → s.blk.bget 0x141C 0 < 2 ^ 32 → Safety.HostBank s k →
    (let old := s.blk.word k i;
     let op := BitVec.ofNat 64 (s.blk.bget 0x1418 0 + s.blk.bget 0x141C 0 * 2 ^ 32);
     let effect := fun (new : Word) (t : State) => t.blk.word k i = new ∧ t.blk.bget 0x1420 0 = bits old.toNat 0 32 ∧
       t.blk.bget 0x1420 1 = bits old.toNat 32 32 ∧ t.blk.bget 0x1408 0 % 16 = stOK ∧
       (∀ j m, m < 65536 → (j, m) ≠ (k, i) → t.blk.word j m = s.blk.word j m) ∧ Safety.Keeps (fun _ _ => false) s t;
     (∃ t, exec .add64 s = .next t ∧ effect (old + op) t) ∧
     (∃ t, exec .add32x2 s = .next t ∧
       effect ((old.extractLsb' 32 32 + op.extractLsb' 32 32) ++ (old.extractLsb' 0 32 + op.extractLsb' 0 32)) t) ∧
     (∃ t, exec .swap64 s = .next t ∧ effect op t))) ∧
  (∀ (s : State), Safety.Serving s → s.blk.barUp = true → (∀ o ∈ s.blk.maint.ops, o.kind < 2) →
    ∃ t, exec .bankAtomicOldLoRead s = .next t ∧ t.blk.bget 0x1424 0 = s.blk.bget 0x1420 1 ∧
      .bankData (bits (s.blk.bget 0x1410 0) 16 6) (bits (s.blk.bget 0x1410 0) 0 16) (s.blk.bget 0x1420 0) ∈ t.blk.out ∧
      t.blk.words = s.blk.words ∧ Safety.Keeps (fun _ _ => false) s t)

/-- The bank test: a request waits (R401, R410); at the interval the requested bank is borrowed by Maintenance with a generation of
its own (R388, R401), a lender's with a spare taken from the Unowned banks; a test that passes gives the bank back and counts; one
that fails retires the bank, and its lender receives the spare; a spare that fails its read-back is retired (R402). RECLAIM by the
lender aborts the running test and counts (R403); RECLAIM_COMPLETE then gives the bank back. RETIREMENT_RESET clears the map in
flash and changes no bank (R410). What is not the spec's in it: log entry 24. -/
def Obligations.BankTestsBorrowAndReturn : Prop :=
  (∀ (s : State) (p : Path) (k : Nat) (idle : Bool), Safety.Serving s → k < 64 → Safety.Accepts s p 0x7012 0xA k →
    borrowable s.blk k idle = true →
    ∃ t, exec (.bankTestRequest p k idle) s = .next t ∧ t.blk.resp = Resp.plain stOK ∧ t.blk.maint.testReqs = s.blk.maint.testReqs ++ [k] ∧
      t.blk.banks = s.blk.banks) ∧
  (∀ (s : State) (idle : List Nat) (k : Nat) (rest : List Nat), s.blk.power.on = true → k < 64 → s.blk.maint.test = none →
    bit (s.blk.rd 0x7010 1) 1 = true → s.blk.maint.testReqs = k :: rest → borrowable s.blk k (idle.contains k) = true →
    (s.blk.bank k).owner = owUNOWNED →
    ∃ t, exec (.bankTestInterval idle) s = .next t ∧ t.blk.maint.testReqs = rest ∧
      t.blk.maint.test = some { target := k, lender := owUNOWNED, spare := none, aborted := false } ∧
      t.blk.bank k = { s.blk.bank k with owner := owMAINT, gen := ((s.blk.bank k).gen + 1) % 65536, lender := owUNOWNED, borrowed := true,
                                             want := 0, waking := (s.blk.bank k).waking || (s.blk.bank k).power != 0 } ∧
      (∀ j, j ≠ k → t.blk.bank j = s.blk.bank j)) ∧
  (∀ (s : State) (idle : List Nat) (k sp : Nat) (rest : List Nat), s.blk.power.on = true → k < 64 → s.blk.maint.test = none →
    bit (s.blk.rd 0x7010 1) 1 = true → s.blk.maint.testReqs = k :: rest → borrowable s.blk k (idle.contains k) = true →
    (s.blk.bank k).owner = owHOST → pickBank s.blk = some sp →
    ∃ t, exec (.bankTestInterval idle) s = .next t ∧ t.blk.maint.testReqs = rest ∧
      t.blk.maint.test = some { target := k, lender := owHOST, spare := some sp, aborted := false } ∧
      (t.blk.bank k).owner = owMAINT ∧ (t.blk.bank k).lender = owHOST ∧ (t.blk.bank k).borrowed = true ∧
      (t.blk.bank sp).owner = owMAINT ∧ (∀ j, j ≠ k → j ≠ sp → t.blk.bank j = s.blk.bank j)) ∧
  (∀ (s : State) (x : BankTest), s.blk.power.on = true → s.blk.maint.test = some x → x.aborted = false → x.target < 64 →
    x.spare ≠ some x.target →
    ∃ t, exec (.bankTestEnd 0) s = .next t ∧ t.blk.maint.test = none ∧ (t.blk.bank x.target).owner = x.lender ∧
      (t.blk.bank x.target).borrowed = false ∧ (t.blk.bank x.target).gen = ((s.blk.bank x.target).gen + 1) % 65536 ∧
      t.blk.rd 0x7012 1 = satTo 32 (s.blk.rd 0x7012 1 + 1) ∧ t.blk.rd 0x7012 3 = x.target) ∧
  (∀ (s : State) (x : BankTest), s.blk.power.on = true → s.blk.maint.test = some x → x.aborted = false → x.target < 64 →
    x.spare ≠ some x.target →
    ∃ t, exec (.bankTestEnd 2) s = .next t ∧ t.blk.maint.test = none ∧ (t.blk.bank x.target).owner = owRETIRED ∧
      bit t.blk.flash.retired x.target = true ∧ t.blk.rd 0x7012 4 = 1 ∧ t.blk.rd 0x7012 7 = x.target ∧
      (∀ sp, x.spare = some sp → (t.blk.bank sp).owner = x.lender)) ∧
  (∀ (s : State) (x : BankTest) (sp : Nat), s.blk.power.on = true → s.blk.maint.test = some x → x.aborted = false →
    x.spare = some sp → sp < 64 → x.target ≠ sp →
    ∃ t, exec (.bankTestEnd 1) s = .next t ∧ (t.blk.bank sp).owner = owRETIRED ∧ bit t.blk.flash.retired sp = true ∧
      t.blk.rd 0x7012 4 = 1 ∧ t.blk.rd 0x7012 7 = sp) ∧
  (∀ (s : State) (w : Via) (k : Nat) (x : BankTest), Safety.Serving s → k < 64 → Safety.Reaches s w 0x7001 2 (k + 2 ^ 8) →
    (s.blk.bank k).borrowed = true → (s.blk.bank k).lender = owHOST → s.blk.maint.test = some x → x.target = k → x.aborted = false →
    ∃ t, exec (.reclaim w k) s = .next t ∧ Safety.Answered w stOK t ∧ t.blk.maint.test = some { x with aborted := true } ∧
      t.blk.rd 0x7012 2 = satTo 32 (s.blk.rd 0x7012 2 + 1) ∧ t.blk.banks = s.blk.banks ∧
      Safety.Keeps (fun i r => i == 0x7012 && r == 2) s t) ∧
  (∀ (s : State) (x : BankTest), s.blk.power.on = true → s.blk.maint.test = some x → x.aborted = true → x.spare ≠ some x.target →
    ∃ t, exec .reclaimComplete s = .next t ∧ t.blk.maint.test = none ∧ (t.blk.bank x.target).owner = x.lender ∧
      (t.blk.bank x.target).borrowed = false ∧ (∀ sp, x.spare = some sp → (t.blk.bank sp).owner = owUNOWNED)) ∧
  (∀ (s : State) (p : Path), Safety.Serving s → Safety.Accepts s p 0x7012 9 1 →
    ∃ t, exec (.retirementReset p 1) s = .next t ∧ t.blk.resp = Resp.plain stOK ∧
      t.blk.flash = { s.blk.flash with retired := 0 } ∧ t.blk.banks = s.blk.banks ∧ Safety.Keeps (fun _ _ => false) s t)

/-- PATROL_SCRUB_READ, in the order of R404, shows the unit read and counts a corrected error; an uncorrectable error sets STORE_UNCORRECTABLE,
counts and shows its address (R404). BAND_TABLE_VERIFY: one entry that differs from the shadow sets BAND_MARGIN,
counts and is named, and the table is not rewritten (R406). What is not the spec's in it: log entry 43 (DESIGN CHOICE) for the moments of
the events, for a read out of order and for the verify's length, and log entry 15 (DESIGN CHOICE) for the difference, which is
reported, and BAND_MARGIN, which is set, at once at the event. -/
def Obligations.ScrubAndVerifyReportWhatTheyFind : Prop :=
  (∀ (s : State) (a : Nat) (late : Bool), s.blk.power.on = true → bit (s.blk.rd 0x7010 1) 0 = true → a / unitBytes < 65536 →
    s.blk.scrubNext (a / unitBytes) = true →
    ∃ t, exec (.patrolScrubRead a 1 false late) s = .next t ∧ t.blk.rd 0x7011 8 = a / unitBytes ∧
      t.blk.rd 0x7011 3 = satTo 32 (s.blk.rd 0x7011 3 + 1) ∧ t.blk.units = s.blk.units ∧
      Safety.Keeps (fun i r => i == 0x7011 && (r == 8 || r == 3)) s t) ∧
  (∀ (s : State) (a : Nat) (late : Bool), s.blk.power.on = true → bit (s.blk.rd 0x7010 1) 0 = true → a / unitBytes < 65536 →
    s.blk.scrubNext (a / unitBytes) = true →
    ∃ t, exec (.patrolScrubRead a 2 false late) s = .next t ∧ t.blk.rd 0x7011 4 = 1 ∧
      t.blk.rd 0x7011 5 = satTo 32 (s.blk.rd 0x7011 5 + 1) ∧ t.blk.rd 0x7011 7 = a ∧ a ∈ t.blk.maint.scrubSeen) ∧
  (∀ (s : State) (a : Nat), s.blk.power.on = true → bit (s.blk.rd 0x7010 1) 0 = true → s.blk.scrubNext (a / unitBytes) = true →
    s.blk.unitIn (a / unitBytes + 1) 65536 = false →
    ∃ t, exec (.patrolScrubRead a 0 true true) s = .next t ∧ t.blk.rd 0x7011 1 = satTo 32 (s.blk.rd 0x7011 1 + 1) ∧
      t.blk.rd 0x7011 2 = satTo 32 (s.blk.rd 0x7011 2 + 1) ∧ t.blk.maint.scrubSeen = []) ∧
  (∀ (s : State) (i : Nat) (v : Nat), s.blk.power.on = true → i < 128 → bit (s.blk.rd 0x7010 1) 3 = true →
    (∀ j < 128, s.blk.band j = s.blk.bandShadow j) → bandOf v ≠ s.blk.bandShadow i →
    ∃ t, exec (.bandTableVerify [(i, v)]) s = .next t ∧ t.blk.rd 0x2110 0x82 = 1 ∧ t.blk.rd 0x7010 10 = i ∧
      t.blk.rd 0x7010 9 = satTo 32 (s.blk.rd 0x7010 9 + 1) ∧ t.blk.band i = bandOf v ∧ t.blk.bandShadow i = s.blk.bandShadow i ∧
      bit (t.blk.rd 0x7010 2) 3 = true ∧
      Safety.Keeps (fun i r => (i == 0x2110 && (r == 0x82 || r == 0x83)) || (i == 0x7010 && (r == 2 || r == 9 || r == 10))) s t)

/-! ### Hardware queues -/

/-- A push by the producer's class into a ring with two free slots enters at W, with END where it ends its packet, in the sub-ring of the
packet's first item where the queue has priorities (R419, R421, R425); one that finds no room is dropped and counted (R425, R426); one by
the host that is not the producer, or at another offset of the window, is denied, recorded and changes no queue (R432); one by an on-chip
agent that is not of the producer class, or to a disabled queue, is refused, sets PUSH_REFUSED, counts, records the queue and changes no
queue (R415). On a chain member an item that comes for the master's queue enters no queue of the member and goes on along the tree, behind
a packet that is under way (R378). A push to a ring whose bank is not ON, or behind another producer's open packet, waits and wakes the
bank (R396, R416). What is not the spec's in it: log entries 13, 22, 23. -/
def Obligations.PushesEnterOrAreDropped : Prop :=
  (∀ (s : State) (a : Agent) (q prio data : Nat) (ended : Bool) (key k : Nat) (x : Queue), Safety.ReachesQueues s a → q < 4096 →
    prio < 8 → data < 2 ^ 64 → (a.cls = .sloeRx → s.blk.isMember = false) → key = pushKey a q → x = s.blk.queue key →
    k = x.target (if a.cls = .host then prio else x.hwPrio) →
    Safety.Takes s q key k → x.mayPush a = true → (x.open_ = none ∨ x.open_ = some a) → x.dropping = false →
    (x.ring k).occ + 2 ≤ x.slots →
    ∃ t, exec (.queuePush a q prio data ended false) s = .next t ∧
      ((t.blk.queue key).ring k).w = ((x.ring k).w + 1) % 2 ^ 17 ∧
      (t.blk.word x.bank (x.slot k (x.ring k).w)).toNat = data ∧ t.blk.tag x.bank (x.slot k (x.ring k).w) = b2n ended ∧
      (t.blk.queue key).open_ = (if ended then none else some a) ∧ (t.blk.queue key).drops = x.drops ∧
      (∀ j, j ≠ key → t.blk.queue j = s.blk.queue j)) ∧
  (∀ (s : State) (a : Agent) (q prio data : Nat) (ended : Bool) (key k : Nat) (x : Queue), Safety.ReachesQueues s a → q < 4096 →
    prio < 8 → data < 2 ^ 64 → (a.cls = .sloeRx → s.blk.isMember = false) → key = pushKey a q → x = s.blk.queue key →
    k = x.target (if a.cls = .host then prio else x.hwPrio) →
    Safety.Takes s q key k → x.mayPush a = true → (x.open_ = none ∨ x.open_ = some a) → x.slots < (x.ring k).occ + 2 →
    ∃ t, exec (.queuePush a q prio data ended false) s = .next t ∧
      (t.blk.queue q).drops = satTo 32 ((s.blk.queue q).drops + 1) ∧ (t.blk.queue q).gap = true ∧
      (t.blk.queue key).dropping = !ended) ∧
  (∀ (s : State) (a : Agent) (q prio data : Nat) (ended : Bool), Safety.ReachesQueues s a → a.cls = .host → q < 4096 →
    data < 2 ^ 64 → (8 ≤ prio ∨ (s.blk.queue q).mayPush a = false) →
    ∃ t, exec (.queuePush a q prio data ended false) s = .next t ∧ t.blk.bget 0x1704 0 = 1 ∧ t.blk.bget 0x1704 2 = q ∧
      t.blk.bget 0x1704 1 = satTo 16 (s.blk.bget 0x1704 1 + 1) ∧ t.blk.queues = s.blk.queues ∧ t.blk.words = s.blk.words ∧
      Safety.Keeps (fun _ _ => false) s t) ∧
  (∀ (s : State) (a : Agent) (q prio data : Nat) (ended : Bool), Safety.ReachesQueues s a → a.cls = .sloeRx →
    s.blk.isMember = true → q < 4096 → data < 2 ^ 64 →
    ∃ t, exec (.queuePush a q prio data ended false) s = .next t ∧ t.blk.queues = s.blk.queues ∧ t.blk.words = s.blk.words ∧
      (s.blk.forwards = false → t.blk.chain = s.blk.chain) ∧
      (s.blk.forwards = true → (s.blk.chain.relay = none ∨ s.blk.chain.relay = some a) →
        .forwarded (s.blk.rd 0x2200 9) q data ended ∈ t.blk.out) ∧
      (s.blk.forwards = true → s.blk.chain.relay ≠ none → s.blk.chain.relay ≠ some a →
        t.blk.chain = { s.blk.chain with relayHeld := holdPush a q [data] ended s.blk.chain.relayHeld }) ∧
      Safety.Keeps (fun _ _ => false) s t) ∧
  (∀ (s : State) (a : Agent) (q prio data : Nat) (ended : Bool), Safety.ReachesQueues s a → a.cls ≠ .host → q < 4096 →
    data < 2 ^ 64 → (a.cls = .sloeRx → s.blk.isMember = false) → (s.blk.queue (pushKey a q)).mayPush a = false →
    ∃ t, exec (.queuePush a q prio data ended false) s = .next t ∧ t.blk.rd 0x7080 3 = 1 ∧ t.blk.rd 0x7080 6 = q ∧
      t.blk.rd 0x7080 4 = satTo 32 (s.blk.rd 0x7080 4 + 1) ∧ t.blk.queues = s.blk.queues ∧ t.blk.words = s.blk.words ∧
      Safety.Keeps (fun i r => i == 0x7080 && (r == 3 || r == 4 || r == 6)) s t) ∧
  (∀ (s : State) (a : Agent) (q prio data : Nat) (ended : Bool) (key : Nat) (x : Queue), Safety.ReachesQueues s a → q < 4096 →
    prio < 8 → data < 2 ^ 64 → (a.cls = .sloeRx → s.blk.isMember = false) → key = pushKey a q → x = s.blk.queue key →
    qBroken s.blk key = false → (q = 0 → qBroken s.blk 0 = false ∧ qBroken s.blk q0Response = false) →
    (s.blk.queue (popKey q)).hostReads = [] → x.held = [] → x.mayPush a = true →
    (s.blk.ringOn key = false ∨ x.open_ ≠ none ∧ x.open_ ≠ some a) →
    ∃ t, exec (.queuePush a q prio data ended false) s = .next t ∧
      t.blk.queue key = { x with held := [{ by_ := a, prio := if a.cls = .host then prio else x.hwPrio, words := [data], ended := ended }] } ∧
      (∀ j, j ≠ key → t.blk.queue j = s.blk.queue j) ∧ t.blk.words = s.blk.words ∧
      (s.blk.ringOn key = false → (t.blk.bank x.bank).waking = true) ∧ Safety.Keeps (fun _ _ => false) s t)

/-- A pop by the consumer gives the item at R and moves R on: to the host with its status, to an on-chip consumer as it stands
(R420, R424). A pop of an empty queue gives the host the empty token where the wait is 0, and otherwise waits (R423); a burst
counts as its items (R423); a wait that ends gives empty tokens (R423). What is not the spec's in it: log entries 11, 22, 23. -/
def Obligations.PopsTakeTheOldestItem : Prop :=
  (∀ (s : State) (q : Nat), Safety.ReachesQueues s hostAgent → 1 ≤ q → q < 4096 → Safety.Calm s q →
    (s.blk.queue q).mayPop hostAgent = true → 0 < ((s.blk.queue q).ring 0).unread →
    ∃ t, exec (.queuePop hostAgent q false) s = .next t ∧
      (∃ st, .popped q [(s.blk.word (s.blk.queue q).bank ((s.blk.queue q).slot 0 ((s.blk.queue q).ring 0).r)).toNat, st] ∈ t.blk.out ∧
        bit st 0 = true) ∧
      ((t.blk.queue q).ring 0).r = (((s.blk.queue q).ring 0).r + 1) % 2 ^ 17 ∧
      ((t.blk.queue q).ring 0).f = ((s.blk.queue q).ring 0).f ∧ t.blk.words = s.blk.words) ∧
  (∀ (s : State) (a : Agent) (q : Nat), Safety.ReachesQueues s a → 1 ≤ q → q < 4096 → Safety.Calm s q →
    (a.cls = .dma ∨ a.cls = .controlCore) → (s.blk.queue q).enabled = true → (s.blk.queue q).mayPop a = true →
    0 < ((s.blk.queue q).ring 0).unread →
    ∃ t, exec (.queuePop a q false) s = .next t ∧
      (∃ tg, .delivered q a (s.blk.word (s.blk.queue q).bank ((s.blk.queue q).slot 0 ((s.blk.queue q).ring 0).r)).toNat tg ∈ t.blk.out) ∧
      ((t.blk.queue q).ring 0).r = (((s.blk.queue q).ring 0).r + 1) % 2 ^ 17) ∧
  (∀ (s : State) (q : Nat), Safety.ReachesQueues s hostAgent → 1 ≤ q → q < 4096 → Safety.Calm s q →
    (s.blk.queue q).mayPop hostAgent = true → ((s.blk.queue q).ring 0).unread = 0 →
    ∃ t, exec (.queuePop hostAgent q false) s = .next t ∧
      (if s.blk.rd 0x7080 1 = 0 then .popped q [0, 2 ^ 63] ∈ t.blk.out ∧ (t.blk.queue q).hostReads = []
       else (t.blk.queue q).hostReads = [.read 1])) ∧
  (∀ (s : State) (q n : Nat), Safety.ReachesQueues s hostAgent → 1 ≤ q → q < 4096 → 1 ≤ n → n ≤ 256 → Safety.Calm s q →
    (s.blk.queue q).mayPop hostAgent = true →
    ∃ t, exec (.popBurst q (16 * n) false) s = .next t ∧
      (0 < ((s.blk.queue q).ring 0).unread → ∃ ws, .popped q ws ∈ t.blk.out ∧ ws.length = 2 * n ∧
        ws.head? = some (s.blk.word (s.blk.queue q).bank ((s.blk.queue q).slot 0 ((s.blk.queue q).ring 0).r)).toNat) ∧
      (((s.blk.queue q).ring 0).unread = 0 → s.blk.rd 0x7080 1 ≠ 0 → (t.blk.queue q).hostReads = [.read n])) ∧
  (∀ (s : State) (q n : Nat) (rest : List HostWait), s.blk.power.on = true → q < 4096 →
    (s.blk.queue (popKey q)).hostReads = .read n :: rest → qReadable s.blk (popKey q) = none → rest.all HostWait.isRead = true →
    ∃ t, exec (.hostPopTimeout q) s = .next t ∧ (t.blk.queue (popKey q)).hostReads = rest ∧
      .popped q ((List.range n).flatMap (fun _ => [0, 2 ^ 63])) ∈ t.blk.out ∧ Safety.Keeps (fun _ _ => false) s t)

/-- MARK notes R; REWIND returns R to the mark, or to F where none is valid; RELEASE moves F to R and makes the mark invalid
(R422). No other pointer and no item changes. One by the host behind a read that waits, waits too (R432). What is not the spec's in
it: log entries 22, 23. -/
def Obligations.MarkRewindAndRelease : Prop :=
  (∀ (s : State) (a : Agent) (q : Nat), Safety.ReachesQueues s a → 1 ≤ q → q < 4096 → Safety.Calm s q →
    (s.blk.queue q).mayPop a = true →
    (let x := (s.blk.queue q).ring 0;
     (∃ t, exec (.mark a q false) s = .next t ∧ (t.blk.queue q).ring 0 = x.setM x.r ∧ t.blk.words = s.blk.words ∧
       (∀ k, k ≠ q → t.blk.queue k = s.blk.queue k)) ∧
     (∃ t, exec (.rewind a q false) s = .next t ∧ (t.blk.queue q).ring 0 = x.setR (if x.mOk then x.m else x.f) ∧
       t.blk.words = s.blk.words ∧ (∀ k, k ≠ q → t.blk.queue k = s.blk.queue k)) ∧
     (∃ t, exec (.release a q false) s = .next t ∧ (t.blk.queue q).ring 0 = { x.setF x.r with mOk := false } ∧
       t.blk.words = s.blk.words ∧ (∀ k, k ≠ q → t.blk.queue k = s.blk.queue k)))) ∧
  (∀ (s : State) (q : Nat) (ws : List HostWait), Safety.ReachesQueues s hostAgent → 1 ≤ q → q < 4096 →
    qBroken s.blk q = false → (s.blk.queue q).mayPop hostAgent = true → (s.blk.queue q).hostReads = ws → ws ≠ [] →
    (∃ t, exec (.mark hostAgent q false) s = .next t ∧ t.blk.queue q = { s.blk.queue q with hostReads := ws ++ [.command 1] }) ∧
    (∃ t, exec (.rewind hostAgent q false) s = .next t ∧ t.blk.queue q = { s.blk.queue q with hostReads := ws ++ [.command 2] }) ∧
    (∃ t, exec (.release hostAgent q false) s = .next t ∧ t.blk.queue q = { s.blk.queue q with hostReads := ws ++ [.command 3] }))

/-- A configuration word whose checks pass enables a disabled queue with an empty ring, or disables an enabled one and discards its
items (R417, R418); an endpoint word whose checks pass is in force (R434). -/
def Obligations.QueueConfigurationTakesEffect : Prop :=
  (∀ (s : State) (w : Via) (q v : Nat), Safety.Serving s → 2 ≤ q → q < 4096 → v < 2 ^ 32 → qcfgFields v = v →
    Safety.Reaches s w 0x7081 2 v → (∀ p, w = .dict p → s.blk.selected p = q) → qcfgStatus s.blk q v = stOK →
    ∃ t, exec (.qcfgWrite w q v) s = .next t ∧ Safety.Answered w stOK t ∧
      ((s.blk.queue q).enabled = false → (t.blk.queue q).cfg = v ∧ (t.blk.queue q).rings = []) ∧
      ((s.blk.queue q).enabled = true → bit v 31 = false → (t.blk.queue q).enabled = false ∧ (t.blk.queue q).rings = []) ∧
      (t.blk.queue q).ends = (s.blk.queue q).ends ∧ t.blk.words = s.blk.words ∧ (∀ k, k ≠ q → t.blk.queue k = s.blk.queue k)) ∧
  (∀ (s : State) (w : Via) (q v : Nat), Safety.Serving s → 2 ≤ q → q < 4096 → v < 2 ^ 32 → qendFields v = v →
    Safety.Reaches s w 0x7081 3 v → (∀ p, w = .dict p → s.blk.selected p = q) → qendStatus s.blk q v = stOK →
    ∃ t, exec (.qendWrite w q v) s = .next t ∧ Safety.Answered w stOK t ∧ t.blk.queue q = { s.blk.queue q with ends := v } ∧
      t.blk.words = s.blk.words ∧ (∀ k, k ≠ q → t.blk.queue k = s.blk.queue k) ∧ Safety.Keeps (fun _ _ => false) s t)

/-! ### PCI Express endpoint -/

/-- Start and resets of the function: PERST_N deasserted, after which configuration requests get RRS, then configuration space loaded with
its header, its three BARs and the host's values (R438 to R440); a function-level reset stops every channel at once and every ARMED
domain (R462), and where no domain is armed it returns windows, queues and banks of the host's side to their defaults: a queue with a
HOST or DMA class is disabled, another kept, Q0 is emptied, Q1 keeps its items for the host (R462, R463); it ends with the session
ended and the sticky AER bits kept (R462); a conventional reset also retrains the link (R464). Bus Master Enable cleared, or D3hot
entered, halts every RUNNING channel with its cause and counts what it had fetched (R459, R461); the function returns to D0 (R461).
The idle link enters a state that its configuration allows, and leaves it (R465). What is not the spec's in it: log entries 12, 30. -/
def Obligations.TheFunctionStartsStopsAndSleeps : Prop :=
  (∀ s : State, s.blk.power.on = true →
    ∃ t, exec .perstDeassert s = .next t ∧ t.blk.pcie.perst = false ∧ t.blk.pcie.loaded = s.blk.pcie.loaded ∧
      (s.blk.pcie.loaded = false → t.blk.configAnswer = .retry) ∧
      t.blk.pcie.cfg = s.blk.pcie.cfg) ∧
  (∀ (s : State) (c : HostConfig), s.blk.power.on = true → s.blk.pcie.perst = false → s.blk.pcie.flr = false →
    ∃ t, exec (.configSpaceReady c) s = .next t ∧ t.blk.pcie.loaded = true ∧ t.blk.pcie.cfg = legalConfig c ∧
      t.blk.configAnswer = .served ∧
      (c.bme = false → s.blk.pcie.cfg.bme = true → ∀ k < 32, (s.blk.chan k).st = 1 → (t.blk.chan k).st = 2 ∧ (t.blk.chan k).cause = 2) ∧
      ∃ h, t.blk.pcie.header = some h ∧ h.classCode = 0x118000 ∧ h.subsystem = 0 ∧ h.subVendor = h.vendor ∧
        h.bar0 = BitVec.ofNat 64 (c.bar0 % 2 ^ 64 / 2 ^ 26 * 2 ^ 26 + 4) ∧ h.bar2 = BitVec.ofNat 64 (c.bar2 % 2 ^ 64 / 2 ^ 28 * 2 ^ 28 + 4) ∧
        h.bar4 = BitVec.ofNat 64 (c.bar4 % 2 ^ 64 / 2 ^ 36 * 2 ^ 36 + 12) ∧
        (s.blk.part = .h48 → h.device = 0x2048) ∧ (s.blk.part = .h24 → h.device = 0x2024)) ∧
  (∀ s : State, Safety.Serving s → s.blk.pcie.loaded = true → s.blk.pcie.perst = false → s.blk.armedDoms = [] →
    ∃ t, exec .flr s = .next t ∧ t.blk.pcie.flr = true ∧ t.blk.pcie.flrDue = false ∧ t.blk.pcie.wins = [] ∧
      t.blk.pcie.d3 = false ∧ (∀ c < 32, t.blk.chan c = Dma.reset) ∧
      (∀ k < 64, (s.blk.bank k).firmware = false → (s.blk.bank k).owner = owHOST → (t.blk.bank k).owner = owUNOWNED) ∧
      (∀ q, 2 ≤ q → q < 4096 →
        if (s.blk.queue q).producer = .host ∨ (s.blk.queue q).producer = .dma ∨ (s.blk.queue q).consumer = .host ∨
            (s.blk.queue q).consumer = .dma
        then (t.blk.queue q).enabled = false else t.blk.queue q = s.blk.queue q) ∧
      (t.blk.queue 0).rings = [] ∧ (t.blk.queue q0Response).rings = [] ∧ (t.blk.queue 1).rings = (s.blk.queue 1).rings ∧
      (t.blk.queue 1).consumer = .host) ∧
  (∀ (s : State) (d : Nat), Safety.Serving s → s.blk.pcie.loaded = true → s.blk.pcie.perst = false → d < 8 → s.blk.dstate d = 1 →
    ∃ t, exec .flr s = .next t ∧ t.blk.pcie.flr = true ∧ t.blk.pcie.flrDue = true ∧ t.blk.barUp = false ∧
      (∀ c < 32, (t.blk.chan c).st = 0) ∧ t.blk.queues = s.blk.queues ∧
      ∃ r ∈ (t.blk.dom d).stops, r.reason = srSOFTWARE ∧ r.pos = (s.blk.time.abs + 1) * 32 + 31) ∧
  (∀ s : State, s.blk.power.on = true → s.blk.pcie.flr = true → s.blk.pcie.flrDue = false →
    ∃ t, exec .flrComplete s = .next t ∧ t.blk.pcie.flr = false ∧ t.blk.rd 0x1E00 5 = 0 ∧ t.blk.pcie.cfg.bme = false ∧
      t.blk.pcie.cfg.msix = false ∧ t.blk.pcie.aer = s.blk.pcie.aer ∧ Safety.Keeps (fun i r => i == 0x1E00 && r == 5) s t) ∧
  (∀ (s : State) (perst : Bool), s.blk.power.on = true →
    ∃ t, exec (.conventionalReset perst) s = .next t ∧ t.blk.pcie.flr = true ∧ t.blk.pcie.perst = (s.blk.pcie.perst || perst) ∧
      t.blk.pcie.loaded = (s.blk.pcie.loaded && !perst) ∧ t.blk.pcie.cfg.rate = 0 ∧ (∀ c < 32, (t.blk.chan c).st = 0)) ∧
  (∀ (s : State) (c : Nat), Safety.Serving s → c < 32 → (s.blk.chan c).st = 1 →
    ∃ t, exec .bmeClear s = .next t ∧ t.blk.pcie.cfg.bme = false ∧ (t.blk.chan c).st = 2 ∧ (t.blk.chan c).cause = 2 ∧
      (t.blk.chan c).aborted = satTo 32 ((s.blk.chan c).aborted + (s.blk.chan c).fetched.length + (s.blk.chan c).early.length) ∧
      (t.blk.chan c).head = (s.blk.chan c).head ∧ Safety.Keeps (fun _ _ => false) s t) ∧
  (∀ (s : State) (c : Nat), Safety.Serving s → s.blk.pcie.loaded = true → c < 32 → (s.blk.chan c).st = 1 →
    ∃ t, exec .d3hotEntry s = .next t ∧ t.blk.pcie.d3 = true ∧ (t.blk.chan c).st = 2 ∧ (t.blk.chan c).cause = 3 ∧
      t.blk.barUp = false ∧ Safety.Keeps (fun _ _ => false) s t) ∧
  (∀ s : State, Safety.Serving s → ∃ t, exec .returnToD0 s = .next t ∧ t.blk.pcie.d3 = false ∧ t.blk.pcie.dma = s.blk.pcie.dma ∧
    Safety.Keeps (fun _ _ => false) s t) ∧
  (∀ (s : State) (x : Nat), s.blk.power.on = true → Safety.reportsSettled s.blk → 1 ≤ x → x ≤ 5 → s.blk.pcie.loaded = true →
    s.blk.pcie.perst = false → s.blk.pcie.flr = false → s.blk.linkIdle = true → s.blk.pcie.link < x →
    ((x = 1 ∧ s.blk.pcie.cfg.flit = false ∧ bit s.blk.pcie.cfg.aspm 0 = true) ∨
     (x = 2 ∧ s.blk.pcie.cfg.flit = true ∧ bit s.blk.pcie.cfg.aspm 1 = true) ∨ (x = 3 ∧ bit s.blk.pcie.cfg.aspm 2 = true) ∨
     (x = 4 ∧ bit s.blk.pcie.cfg.aspm 2 = true ∧ bit s.blk.pcie.cfg.l1ss 0 = true) ∨
     (x = 5 ∧ bit s.blk.pcie.cfg.aspm 2 = true ∧ bit s.blk.pcie.cfg.l1ss 1 = true)) →
    ∃ t, exec (.linkIdleEntry x) s = .next t ∧ t.blk.pcie.link = x ∧
      (3 ≤ x → s.blk.pcie.link < 3 → t.blk.rd 0x7101 5 = satTo 32 (s.blk.rd 0x7101 5 + 1)) ∧
      (x = 2 → t.blk.rd 0x7101 6 = satTo 32 (s.blk.rd 0x7101 6 + 1) ∧
        t.blk.linkWidth = min s.blk.pcie.cfg.width (s.blk.rd 0x7101 3)) ∧
      Safety.Keeps (fun i r => i == 0x7101 && (r == 5 || r == 6)) s t) ∧
  (∀ s : State, s.blk.power.on = true →
    ∃ t, exec .linkPowerStateExit s = .next t ∧ t.blk.pcie.link = 0 ∧ Safety.Keeps (fun _ _ => false) s t)

/-- Windows: a staged base waits; WIN_COMMIT puts the staged bases of its mask in force and old translations drain, and is answered
BUSY while they do (R445, R446). Precision Time Measurement: a dialog starts with the module's time, asked for or at the end of an
interval (log entry 43), and its end keeps the pair and counts; one asked for while it ran begins then (R458). What is not the spec's
in it: log entries 10, 12, 43. -/
def Obligations.WindowsAndTimeMeasurement : Prop :=
  (∀ (s : State) (w v : Nat), Safety.Serving s → s.blk.barUp = true → w < 8 → v < 2 ^ 15 → v < s.blk.installed →
    ∃ t, exec (.winStagedWrite w v) s = .next t ∧ t.blk.win w = ((s.blk.win w).1, v) ∧ (∀ k, k ≠ w → t.blk.win k = s.blk.win k) ∧
      Safety.Keeps (fun _ _ => false) s t) ∧
  (∀ (s : State) (mask : Nat), Safety.Serving s → s.blk.barUp = true → mask < 256 → s.blk.pcie.drain = false →
    ∃ t, exec (.winCommit mask) s = .next t ∧ t.blk.bget 0x181C 0 = stOK ∧ t.blk.pcie.drain = true ∧
      (∀ w < 8, t.blk.win w = (if bit mask w then (s.blk.win w).2 else (s.blk.win w).1, (s.blk.win w).2)) ∧
      Safety.Keeps (fun _ _ => false) s t) ∧
  (∀ (s : State) (mask : Nat), Safety.Serving s → s.blk.barUp = true → mask < 256 → s.blk.pcie.drain = true →
    ∃ t, exec (.winCommit mask) s = .next t ∧ t.blk.bget 0x181C 0 = stBUSY ∧ t.blk.pcie.wins = s.blk.pcie.wins ∧
      Safety.Keeps (fun _ _ => false) s t) ∧
  (∀ s : State, s.blk.power.on = true → ∃ t, exec .windowDrainEnd s = .next t ∧ t.blk.pcie.drain = false ∧
    t.blk.pcie.wins = s.blk.pcie.wins ∧ Safety.Keeps (fun _ _ => false) s t) ∧
  (∀ (s : State) (asked : Bool) (off : Nat), Safety.Serving s → s.blk.barUp = true → off < 2048 → s.blk.pcie.cfg.ptm = true →
    s.blk.pcie.ptm = false → (asked = true ∨ (bit (s.blk.bget 0x1840 0) 7 = true ∧
      s.blk.time.frame.toNat % 2 ^ bits (s.blk.bget 0x1840 0) 0 5 = 0 ∧ s.blk.pcie.ptmAt ≠ some s.blk.time.abs)) →
    ∃ t, exec (.ptmRequest asked off) s = .next t ∧ t.blk.pcie.ptm = true ∧ t.blk.bget 0x1848 6 = stampAdd s.blk.tsNow off ∧
      Safety.Keeps (fun _ _ => false) s t) ∧
  (∀ (s : State) (off : Nat), Safety.Serving s → s.blk.barUp = true → off < 2048 → s.blk.pcie.cfg.ptm = true → s.blk.pcie.ptm = true →
    ∃ t, exec (.ptmRequest true off) s = .next t ∧ t.blk.pcie.ptm = true ∧ t.blk.pcie.ptmWant = s.blk.pcie.ptmWant + 1 ∧
      t.blk.bget 0x1848 6 = s.blk.bget 0x1848 6 ∧ Safety.Keeps (fun _ _ => false) s t) ∧
  (∀ (s : State) (th : Nat), s.blk.power.on = true → th < 2 ^ 64 → s.blk.pcie.ptm = true →
    ∃ t, exec (.ptmDialogComplete th) s = .next t ∧
      (t.blk.pcie.ptm = true ↔ s.blk.pcie.ptmWant ≠ 0 ∧ s.blk.barUp = true ∧ s.blk.pcie.cfg.ptm = true) ∧
      t.blk.pcie.ptmWant = s.blk.pcie.ptmWant - 1 ∧ t.blk.bget 0x1848 0 = s.blk.bget 0x1848 6 ∧
      t.blk.bget 0x1848 1 = th ∧ t.blk.bget 0x1848 2 = (s.blk.bget 0x1848 2 + 1) % 2 ^ 32 ∧ Safety.Keeps (fun _ _ => false) s t)

/-- DMA channels: an enable whose checks pass makes the channel RUNNING (R442, R447, R471), ABORT halts it with cause ABORT and
counts what it had fetched (R460), a tail within the ring is in force (R447). What is not the spec's in it: log entry 12. -/
def Obligations.DmaChannelsRunAndAbort : Prop :=
  (∀ (s : State) (c v : Nat), Safety.Serving s → s.blk.barUp = true → c < 32 → v < 2 ^ 32 → bit v 31 = true → bit v 30 = false →
    (s.blk.chan c).enabled = false → ctrlStatus s.blk c v = stOK →
    ∃ t, exec (.dmaEnable c v) s = .next t ∧ (t.blk.chan c).enabled = true ∧ (t.blk.chan c).st = 1 ∧ (t.blk.chan c).cause = 0 ∧
      (t.blk.chan c).ring = (s.blk.chan c).ring ∧ Safety.Keeps (fun _ _ => false) s t) ∧
  (∀ (s : State) (c v : Nat), Safety.Serving s → s.blk.barUp = true → c < 32 → v < 2 ^ 31 → bit v 30 = false →
    ctrlStatus s.blk c v = stOK →
    ∃ t, exec (.dmaEnable c v) s = .next t ∧ (t.blk.chan c).enabled = false ∧ (t.blk.chan c).st = 0 ∧
      (t.blk.chan c).fetched = [] ∧ Safety.Keeps (fun _ _ => false) s t) ∧
  (∀ (s : State) (c : Nat), Safety.Serving s → s.blk.barUp = true → c < 32 → (s.blk.chan c).st = 1 →
    (s.blk.chan c).enabled = true → (s.blk.chan c).ctrl < 2 ^ 32 → bit (s.blk.chan c).ctrl 30 = false →
    ctrlStatus s.blk c ((s.blk.chan c).ctrl + 2 ^ 30) = stOK →
    ∃ t, exec (.dmaAbort c) s = .next t ∧ (t.blk.chan c).st = 2 ∧ (t.blk.chan c).cause = 1 ∧ (t.blk.chan c).fetched = [] ∧
      (t.blk.chan c).aborted = satTo 32 ((s.blk.chan c).aborted + (s.blk.chan c).fetched.length + (s.blk.chan c).early.length) ∧
      (t.blk.chan c).head = (s.blk.chan c).head ∧ Safety.Keeps (fun _ _ => false) s t) ∧
  (∀ (s : State) (c v : Nat), Safety.Serving s → s.blk.barUp = true → c < 32 → v < 2 ^ 17 → tailStatus s.blk c v = stOK →
    ∃ t, exec (.dmaTailWrite c v) s = .next t ∧ (t.blk.chan c).tail = v ∧ (t.blk.chan c).head = (s.blk.chan c).head ∧
      Safety.Keeps (fun _ _ => false) s t)

/-- DESCRIPTOR_COMPLETE: a descriptor of kind 0 whose octets lie in the store writes those that have not left before to the host, in
requests of at most Max_Payload_Size (R447), a staging bank of its channel being ON (R396, R455), and completes with OK, HEAD and DONE moving on (R448, R451); one that fails its checks completes with its status and halts the channel with cause DESCRIPTOR
(R450, R451, R459). Completions of reads: one that a channel wants gives it a fetched descriptor, in the ring's order (R447), or a part
of its host data; one
that it no longer wants sets LATE_CPL and counts; one that is poisoned or refused, or that does not come in time, halts a RUNNING
channel with its cause and is reported through AER (R456, R459, R466). Its tag is free again. What is not the spec's in it: log entries 6, 11, 12. -/
def Obligations.DescriptorsAndReadsComplete : Prop :=
  (∀ (s : State) (c need : Nat) (d : Descriptor) (rest : List Descriptor), s.blk.power.on = true → c < 32 → (s.blk.chan c).st = 1 →
    s.blk.mayRequest = true → (s.blk.chan c).cur = some (stOK, need) → (s.blk.chan c).fetched = d :: rest → descKind d = 0 →
    s.blk.stageOn c = true → (s.blk.chan c).sent < descLen s.blk d → d.w1 + descLen s.blk d ≤ s.blk.installed * unitBytes →
    ∃ t, exec (.descriptorComplete c []) s = .next t ∧
      (∀ q ∈ payloads s.blk.pcie.cfg.maxPayload (descLen s.blk d + 1) (d.w0 + (s.blk.chan c).sent)
          ((List.range (descLen s.blk d - (s.blk.chan c).sent)).map (fun i => memRead s.mem (d.w1 + (s.blk.chan c).sent + i))),
        .hostWrite q.1 q.2 false ∈ t.blk.out) ∧
      (t.blk.chan c).head = ((s.blk.chan c).head + 1) % 2 ^ 17 ∧ (t.blk.chan c).done = ((s.blk.chan c).done + 1) % 2 ^ 32 ∧
      (t.blk.chan c).last = stOK ∧ (t.blk.chan c).st = 1 ∧ (t.blk.chan c).fetched = rest ∧ Safety.Keeps (fun _ _ => false) s t) ∧
  (∀ (s : State) (c need st : Nat) (d : Descriptor) (rest : List Descriptor), s.blk.power.on = true → c < 32 →
    (s.blk.chan c).st = 1 → s.blk.mayRequest = true → (s.blk.chan c).cur = some (st, need) → st ≠ stOK →
    (s.blk.chan c).fetched = d :: rest →
    ∃ t, exec (.descriptorComplete c []) s = .next t ∧ (t.blk.chan c).head = ((s.blk.chan c).head + 1) % 2 ^ 17 ∧
      (t.blk.chan c).last = st ∧ (t.blk.chan c).st = 2 ∧ (t.blk.chan c).cause = 6 ∧
      (t.blk.chan c).aborted = satTo 32 ((s.blk.chan c).aborted + rest.length + (s.blk.chan c).early.length) ∧ Safety.Keeps (fun _ _ => false) s t) ∧
  (∀ (s : State) (tag : Nat) (data : List Byte) (r : DmaRead), s.blk.power.on = true → tag < 1024 →
    s.blk.pcie.reads.find? (fun x => x.tag == tag) = some r → r.late = false → r.fetch = true →
    (s.blk.chan r.chan).early = [] → r.pos = ((s.blk.chan r.chan).head + (s.blk.chan r.chan).fetched.length) % 2 ^ 17 →
    ∃ t, exec (.dmaReadCompletion tag data .good) s = .next t ∧
      (t.blk.chan r.chan).fetched = (s.blk.chan r.chan).fetched ++ [descOf data] ∧
      s.blk.pcie.reads.filter (fun x => x.tag != tag) <+: t.blk.pcie.reads ∧
      (t.blk.chan r.chan).head = (s.blk.chan r.chan).head ∧ Safety.Keeps (fun _ _ => false) s t) ∧
  (∀ (s : State) (tag : Nat) (data : List Byte) (r : DmaRead), s.blk.power.on = true → tag < 1024 →
    s.blk.pcie.reads.find? (fun x => x.tag == tag) = some r → r.late = false → r.fetch = true →
    (s.blk.chan r.chan).early = [] → r.pos ≠ ((s.blk.chan r.chan).head + (s.blk.chan r.chan).fetched.length) % 2 ^ 17 →
    ∃ t, exec (.dmaReadCompletion tag data .good) s = .next t ∧ (t.blk.chan r.chan).fetched = (s.blk.chan r.chan).fetched ∧
      (t.blk.chan r.chan).early = [(r.pos, descOf data)] ∧
      s.blk.pcie.reads.filter (fun x => x.tag != tag) <+: t.blk.pcie.reads ∧ Safety.Keeps (fun _ _ => false) s t) ∧
  (∀ (s : State) (tag : Nat) (data : List Byte) (r : DmaRead), s.blk.power.on = true → tag < 1024 →
    s.blk.pcie.reads.find? (fun x => x.tag == tag) = some r → r.late = false → r.fetch = false → (s.blk.chan r.chan).cur ≠ none →
    ∃ t, exec (.dmaReadCompletion tag data .good) s = .next t ∧
      s.blk.pcie.reads.filter (fun x => x.tag != tag) <+: t.blk.pcie.reads ∧
      (t.blk.chan r.chan).got = (s.blk.chan r.chan).got ++ [(r.pos, data.take r.len)] ∧ Safety.Keeps (fun _ _ => false) s t) ∧
  (∀ (s : State) (tag : Nat) (data : List Byte) (bad : TlpState) (r : DmaRead), s.blk.power.on = true → tag < 1024 → bad ≠ .badEcrc →
    s.blk.pcie.reads.find? (fun x => x.tag == tag) = some r → r.late = true →
    ∃ t, exec (.dmaReadCompletion tag data bad) s = .next t ∧ t.blk.bget 0x1808 1 = 1 ∧
      t.blk.bget 0x180C 0 = satTo 16 (s.blk.bget 0x180C 0 + 1) ∧ t.blk.pcie.dma = s.blk.pcie.dma ∧
      t.blk.pcie.reads = s.blk.pcie.reads.filter (fun x => x.tag != tag) ∧ Safety.Keeps (fun _ _ => false) s t) ∧
  (∀ (s : State) (tag : Nat) (data : List Byte) (r : DmaRead), s.blk.power.on = true → tag < 1024 →
    s.blk.pcie.reads.find? (fun x => x.tag == tag) = some r → r.late = false → (s.blk.chan r.chan).st = 1 →
    ∃ t, exec (.dmaReadCompletion tag data .poisoned) s = .next t ∧ (t.blk.chan r.chan).st = 2 ∧ (t.blk.chan r.chan).cause = 5 ∧
      t.blk.pcie.reads.find? (fun x => x.tag == tag) = none ∧ bit t.blk.pcie.aer 12 = true ∧
      Safety.Keeps (fun _ _ => false) s t) ∧
  (∀ (s : State) (tag : Nat) (r : DmaRead), s.blk.power.on = true → tag < 1024 →
    s.blk.pcie.reads.find? (fun x => x.tag == tag) = some r → r.late = false → (s.blk.chan r.chan).st = 1 →
    ∃ t, exec (.completionTimeout tag) s = .next t ∧ (t.blk.chan r.chan).st = 2 ∧ (t.blk.chan r.chan).cause = 4 ∧
      bit t.blk.pcie.aer 14 = true ∧
      t.blk.pcie.reads.find? (fun x => x.tag == tag) = none ∧ Safety.Keeps (fun _ _ => false) s t)

/-! ### The object dictionary -/

/-- A READ of a numeric subindex that is kept in its register is answered OK with its value and changes nothing but the count of
requests (R474, R480); a subindex that does not exist, or that the path may not read, is refused with ERR_ACCESS and its abort code
(R475, R480). A WRITE to a communication object, or to an object of the application that no other command writes (pattern, threshold,
level, counter, event, limit and mask objects: R141, R176, R178, R322), keeps the value, as a signed one where its type is, and is
answered OK (R474); one whose length is not that of the
subindex is refused with ERR_TYPE (R473), one out of range with ERR_RANGE (R56, R60), and neither changes anything but the count of
requests. What is not the spec's in it: log entries 11, 20, 21. -/
def Obligations.DictionaryReadsAndWritesAreServed : Prop :=
  (∀ (s : State) (p : Path) (idx sub : Nat) (r : OdRow), Safety.Serving s → serverHears s.blk p = true → idx < 65536 → sub < 256 →
    odRow? idx sub = some r → accessCheck s.blk p idx sub false = none → r.ty ≠ .str → r.ty ≠ .domain →
    (∀ b, liveValue b p idx sub = none) → (idx, sub) ≠ (0x1E10, 1) →
    ∃ t, exec (.dictRead p idx sub 0 0) s = .next t ∧
      t.blk.resp = { status := stOK, abort := 0, data := toLe r.ty.size (s.blk.rd idx sub) } ∧ Safety.Keeps (fun _ _ => false) s t) ∧
  (∀ (s : State) (p : Path) (idx sub : Nat) (x : Resp), Safety.Serving s → serverHears s.blk p = true → idx < 65536 → sub < 256 →
    accessCheck s.blk p idx sub false = some x →
    ∃ t, exec (.dictRead p idx sub 0 0) s = .next t ∧ t.blk.resp = x ∧ x.status = stACCESS ∧ Safety.Keeps (fun _ _ => false) s t) ∧
  (∀ (s : State) (p : Path) (idx sub v : Nat) (r : OdRow), Safety.Serving s →
    (0x1000 ≤ idx ∧ idx < 0x2000 ∧ idx ≠ 0x1010 ∧ idx ≠ 0x1011) ∨ idx / 256 ∈ [0x39, 0x48, 0x49, 0x52, 0x54, 0x62, 0x69] →
    sub < 256 → isFlag idx sub = false → clearedBy idx sub = none → Safety.Accepts s p idx sub v → odRow? idx sub = some r →
    ∃ t, exec (.dictWrite p idx sub (valueData idx sub v)) s = .next t ∧ t.blk.resp = Resp.plain stOK ∧
      (if r.ty.isSigned = true then t.blk.rdI idx sub = signed v (8 * r.ty.size) else t.blk.rd idx sub = v) ∧
      Safety.Keeps (fun i r => i == idx && r == sub) s t) ∧
  (∀ (s : State) (p : Path) (idx sub : Nat) (data : List Byte) (r : OdRow), Safety.Serving s → serverHears s.blk p = true →
    idx < 65536 → sub < 256 → data.length ≤ 16384 → accessCheck s.blk p idx sub true = none → odRow? idx sub = some r →
    data.length ≠ r.ty.size →
    ∃ t, exec (.dictWrite p idx sub data) s = .next t ∧ t.blk.resp.status = stTYPE ∧ Safety.Keeps (fun _ _ => false) s t) ∧
  (∀ (s : State) (p : Path) (idx sub v : Nat) (r : OdRow), Safety.Serving s → serverHears s.blk p = true → idx < 65536 → sub < 256 →
    accessCheck s.blk p idx sub true = none → odRow? idx sub = some r → r.ty.size ≤ 16384 → v < 256 ^ r.ty.size →
    (∀ n, valueOk (s.blk.wr 0x1E10 1 n) r idx sub v = false) →
    ∃ t, exec (.dictWrite p idx sub (valueData idx sub v)) s = .next t ∧ t.blk.resp.status = stRANGE ∧
      Safety.Keeps (fun _ _ => false) s t)

/-- The mailbox: a READ or a WRITE of the module itself is served and answered with the value, or with OK (R482 to R485); a request whose
form fails is answered with its status (R484); one for another module is forwarded under a number where the chain and its room allow,
and answered ERR_ACCESS or ERR_REFUSED where not (R487 to R489); a packet with a gap marker is counted as MALFORMED and answered by
nothing (R484). In all of them the packet has left the request ring, and what is answered has entered the response ring (R483). What is
not the spec's in it: log entries 11, 21. -/
def Obligations.MailboxRequestsAreServed : Prop :=
  (∀ (s : State) (ws : List Nat) (tags : Nat) (r : OdRow), Safety.MailboxReady s → (popRequest (s.blk.qUnread 0) s.blk).1 = (ws, tags) →
    bit tags 1 = false → formStatus (requestOf ws) = stOK →
    ((requestOf ws).target = 0 ∨ (requestOf ws).target = s.blk.rd 0x2200 1) → (requestOf ws).op = 1 →
    odRow? (requestOf ws).idx (requestOf ws).sub = some r →
    accessCheck s.blk .host (requestOf ws).idx (requestOf ws).sub false = none → r.ty ≠ .str → r.ty ≠ .domain →
    (∀ b, liveValue b .host (requestOf ws).idx (requestOf ws).sub = none) → (requestOf ws).idx ≠ 0x1E10 →
    ∃ t, exec .mailboxRequest s = .next t ∧
      t.blk.resp = { status := stOK, abort := 0, data := toLe r.ty.size (s.blk.rd (requestOf ws).idx (requestOf ws).sub) } ∧
      Safety.Popped s t ws ∧ Safety.Responded s t ws) ∧
  (∀ (s : State) (ws : List Nat) (tags v : Nat), Safety.MailboxReady s → (popRequest (s.blk.qUnread 0) s.blk).1 = (ws, tags) →
    bit tags 1 = false → formStatus (requestOf ws) = stOK →
    ((requestOf ws).target = 0 ∨ (requestOf ws).target = s.blk.rd 0x2200 1) → (requestOf ws).op = 2 →
    0x1000 ≤ (requestOf ws).idx → (requestOf ws).idx < 0x2000 → (requestOf ws).idx ≠ 0x1010 → (requestOf ws).idx ≠ 0x1011 →
    isFlag (requestOf ws).idx (requestOf ws).sub = false → clearedBy (requestOf ws).idx (requestOf ws).sub = none →
    Safety.Accepts s .host (requestOf ws).idx (requestOf ws).sub v →
    (requestOf ws).data = valueData (requestOf ws).idx (requestOf ws).sub v →
    ∃ t, exec .mailboxRequest s = .next t ∧ t.blk.resp = Resp.plain stOK ∧ t.blk.rd (requestOf ws).idx (requestOf ws).sub = v ∧
      Safety.Popped s t ws ∧ Safety.Responded s t ws ∧
      Safety.Keeps (fun i r => i == (requestOf ws).idx && r == (requestOf ws).sub) s t) ∧
  (∀ (s : State) (ws : List Nat) (tags : Nat), Safety.MailboxReady s → (popRequest (s.blk.qUnread 0) s.blk).1 = (ws, tags) →
    bit tags 1 = false → formStatus (requestOf ws) ≠ stOK →
    ∃ t, exec .mailboxRequest s = .next t ∧ t.blk.resp = formAnswer (requestOf ws) ∧ t.blk.resp.status = formStatus (requestOf ws) ∧
      Safety.Popped s t ws ∧ Safety.Responded s t ws ∧ Safety.Keeps (fun _ _ => false) s t) ∧
  (∀ (s : State) (ws : List Nat) (tags : Nat), Safety.MailboxReady s → (popRequest (s.blk.qUnread 0) s.blk).1 = (ws, tags) →
    bit tags 1 = false → formStatus (requestOf ws) = stOK → (requestOf ws).target ≠ 0 → (requestOf ws).target ≠ s.blk.rd 0x2200 1 →
    forwardStatus s.blk (requestOf ws).target ≠ stOK →
    ∃ t, exec .mailboxRequest s = .next t ∧ t.blk.resp = Resp.plain (forwardStatus s.blk (requestOf ws).target) ∧
      (t.blk.resp.status = stACCESS ∨ t.blk.resp.status = stREFUSED) ∧
      Safety.Popped s t ws ∧ Safety.Responded s t ws ∧ Safety.Keeps (fun _ _ => false) s t) ∧
  (∀ (s : State) (ws : List Nat) (tags : Nat), Safety.MailboxReady s → (popRequest (s.blk.qUnread 0) s.blk).1 = (ws, tags) →
    bit tags 1 = false → formStatus (requestOf ws) = stOK → (requestOf ws).target ≠ 0 → (requestOf ws).target ≠ s.blk.rd 0x2200 1 →
    forwardStatus s.blk (requestOf ws).target = stOK →
    ∃ t, exec .mailboxRequest s = .next t ∧ t.blk.resp = s.blk.resp ∧
      t.blk.server.fwd = s.blk.server.fwd ++ [{ no := s.blk.server.fwdNo, target := (requestOf ws).target, words := ws }] ∧
      t.blk.server.fwdNo = s.blk.server.fwdNo + 1 ∧ Safety.Popped s t ws ∧
      t.blk.queue q0Response = s.blk.queue q0Response ∧ Safety.Keeps (fun _ _ => false) s t) ∧
  (∀ (s : State) (ws : List Nat) (tags : Nat), Safety.MailboxReady s → (popRequest (s.blk.qUnread 0) s.blk).1 = (ws, tags) →
    bit tags 1 = true →
    ∃ t, exec .mailboxRequest s = .next t ∧ t.blk.rd 0x1E10 2 = 1 ∧ t.blk.rd 0x1E10 3 = satTo 32 (s.blk.rd 0x1E10 3 + 1) ∧
      t.blk.resp = s.blk.resp ∧ Safety.Popped s t ws ∧ t.blk.queue q0Response = s.blk.queue q0Response ∧
      Safety.Keeps (fun i r => i == 0x1E10 && (r == 2 || r == 3)) s t)

/-- Requests of other modules and of the CAN path: a CAN transfer that is whole is served and answered on the bus, to its USDO client or over
the SDO channel (R477, R491); a segmented one is kept open, and is aborted where it is not finished in time or breaks the protocol
(R480, R491), where the one longest without a segment is the first to be so; a broadcast is ignored (R491); a member serves a request of its master and keeps the response, and answers a repeated
one with what it kept, and passes on what is for a module below it or comes from one (R487, R488); the master sends a pending request again, and takes the response off its list (R487, R488).
What is not the spec's in it: log entries 11, 13, 14. -/
def Obligations.OtherPathsAreServed : Prop :=
  (∀ (s : State) (x : SdoTransfer) (idx sub : Nat) (r : OdRow), Safety.Serving s → canHears s.blk = true → x.write = false →
    x.broadcast = false → x.part = .whole → (∀ n ∈ x.client, 1 ≤ n ∧ n ≤ 127) → sessionFree s.blk x.client = true → idx < 65536 → sub < 256 → odRow? idx sub = some r → accessCheck s.blk .can idx sub false = none → r.ty ≠ .str →
    r.ty ≠ .domain → (∀ b, liveValue b .can idx sub = none) → (idx, sub) ≠ (0x1E10, 1) →
    ∃ t, exec (.canSdoRequest x idx sub []) s = .next t ∧
      t.blk.canPort.sessions = s.blk.canPort.sessions.filter (· != x.client) ∧
      .answer .can (s.blk.sdoTag x.client) stOK 0 (toLe r.ty.size (s.blk.rd idx sub)) ∈ t.blk.out ∧ Safety.Keeps (fun _ _ => false) s t) ∧
  (∀ (s : State) (x : SdoTransfer) (idx sub v : Nat), Safety.Serving s → canHears s.blk = true → x.write = true →
    x.broadcast = false → x.part = .whole → (∀ n ∈ x.client, 1 ≤ n ∧ n ≤ 127) → sessionFree s.blk x.client = true → 0x1000 ≤ idx → idx < 0x2000 → idx ≠ 0x1010 →
    idx ≠ 0x1011 → sub < 256 → isFlag idx sub = false → clearedBy idx sub = none → Safety.Accepts s .can idx sub v →
    (∀ r, odRow? idx sub = some r → r.ty.isSigned = false) →
    ∃ t, exec (.canSdoRequest x idx sub (valueData idx sub v)) s = .next t ∧ t.blk.rd idx sub = v ∧ t.blk.resp = Resp.plain stOK ∧
      Safety.Keeps (fun i r => i == idx && r == sub) s t) ∧
  (∀ (s : State) (x : SdoTransfer) (idx sub : Nat), Safety.Serving s → Safety.reportsSettled s.blk → canHears s.blk = true →
    (∀ n ∈ x.client, 1 ≤ n ∧ n ≤ 127) → idx < 65536 → sub < 256 →
    ∃ t, exec (.canSdoRequest x idx sub []) s = .next t ∧
      (if x.broadcast = true then t.blk.canPort = s.blk.canPort ∧ t.blk.out = s.blk.out
       else if sessionFree s.blk x.client = false then .answer .can (s.blk.sdoTag x.client) 0 0x05040005 [] ∈ t.blk.out
       else match x.part with
         | .begins => t.blk.canPort.sessions = s.blk.canPort.sessions.filter (· != x.client) ++ [x.client] ∧ t.blk.out = s.blk.out
         | .further =>
           if s.blk.canPort.sessions.contains x.client then
             t.blk.canPort.sessions = s.blk.canPort.sessions.filter (· != x.client) ++ [x.client] ∧ t.blk.out = s.blk.out
           else .answer .can (s.blk.sdoTag x.client) 0 0x05040001 [] ∈ t.blk.out
         | .toggle => .answer .can (s.blk.sdoTag x.client) 0 0x05030000 [] ∈ t.blk.out
         | .specifier => .answer .can (s.blk.sdoTag x.client) 0 0x05040001 [] ∈ t.blk.out
         | .whole => True)) ∧
  (∀ (s : State) (client : Option Nat) (rest : List (Option Nat)), Safety.Serving s → canHears s.blk = true →
    s.blk.canPort.sessions = client :: rest →
    ∃ t, exec .sdoSegmentTimeout s = .next t ∧ .answer .can (s.blk.sdoTag client) 0 0x05040000 [] ∈ t.blk.out ∧
      t.blk.canPort.sessions = rest.filter (· != client) ∧ Safety.Keeps (fun _ _ => false) s t) ∧
  (∀ (s : State) (master no : Nat) (ws : List Nat) (r : OdRow), Safety.Serving s → s.blk.parentUp = true → master < 65536 →
    s.blk.server.kept.find? (fun k => k.master == master && k.no == no) = none →
    ((requestOf ws).target = 0 ∨ (requestOf ws).target = s.blk.rd 0x2200 1) →
    (∀ j ∈ s.blk.server.job, j.back ≠ .forwarded master no (requestOf ws).tag) → formStatus (requestOf ws) = stOK →
    (requestOf ws).op = 1 → odRow? (requestOf ws).idx (requestOf ws).sub = some r →
    accessCheck s.blk .sloe (requestOf ws).idx (requestOf ws).sub false = none → r.ty ≠ .str → r.ty ≠ .domain →
    (∀ b, liveValue b .sloe (requestOf ws).idx (requestOf ws).sub = none) → (requestOf ws).idx ≠ 0x1E10 →
    ∃ t, exec (.sloeDictRequest master no ws) s = .next t ∧
      t.blk.resp = { status := stOK, abort := 0, data := toLe r.ty.size (s.blk.rd (requestOf ws).idx (requestOf ws).sub) } ∧
      (∃ x rest, t.blk.server.kept = x :: rest ∧ x.master = master ∧ x.no = no ∧ .sloe (s.blk.rd 0x2200 9) x.words ∈ t.blk.out) ∧
      Safety.Keeps (fun _ _ => false) s t) ∧
  (∀ (s : State) (master no : Nat) (ws : List Nat) (k : Kept), Safety.Serving s → s.blk.parentUp = true → master < 65536 →
    s.blk.server.kept.find? (fun x => x.master == master && x.no == no) = some k →
    ((requestOf ws).target = 0 ∨ (requestOf ws).target = s.blk.rd 0x2200 1) →
    ∃ t, exec (.sloeDictRequest master no ws) s = .next t ∧ .sloe (s.blk.rd 0x2200 9) k.words ∈ t.blk.out ∧
      t.blk.server = s.blk.server ∧ Safety.Keeps (fun _ _ => false) s t) ∧
  (∀ (s : State) (master no : Nat) (ws : List Nat) (m : ChainNode), Safety.Serving s → s.blk.parentUp = true → master < 65536 →
    (requestOf ws).target ≠ 0 → (requestOf ws).target ≠ s.blk.rd 0x2200 1 →
    s.blk.chain.found.find? (fun x => x.id == (requestOf ws).target) = some m → s.blk.linkUp m.port = true →
    ∃ t, exec (.sloeDictRequest master no ws) s = .next t ∧ .sloe m.port ws ∈ t.blk.out ∧ t.blk.server = s.blk.server ∧
      Safety.Keeps (fun _ _ => false) s t) ∧
  (∀ (s : State) (no : Nat) (m : ChainNode) (x : Forward), s.blk.power.on = true →
    s.blk.server.fwd.find? (fun f => f.no == no) = some x → s.blk.chain.found.find? (fun m => m.id == x.target) = some m →
    s.blk.linkUp m.port = true →
    ∃ t, exec (.forwardRetransmit no) s = .next t ∧ .sloe m.port x.words ∈ t.blk.out ∧ t.blk.server = s.blk.server ∧
      Safety.Keeps (fun _ _ => false) s t) ∧
  (∀ (s : State) (no : Nat) (ws : List Nat), s.blk.power.on = true → s.blk.isMaster = true →
    s.blk.server.fwd.any (fun f => f.no == no) = true →
    ∃ t, exec (.forwardedResponse no ws) s = .next t ∧ t.blk.server.fwd = s.blk.server.fwd.filter (fun f => f.no != no) ∧
      Safety.Keeps (fun _ _ => false) s t) ∧
  (∀ (s : State) (no : Nat) (ws : List Nat), s.blk.power.on = true → s.blk.isMaster = false → s.blk.parentUp = true →
    ∃ t, exec (.forwardedResponse no ws) s = .next t ∧ .sloe (s.blk.rd 0x2200 9) ws ∈ t.blk.out ∧ t.blk.server = s.blk.server ∧
      Safety.Keeps (fun _ _ => false) s t)

/-- STORE_PARAMETERS and RESTORE_DEFAULTS with their signatures start the background write of an image, the one without the groups that
the other names, with another value are refused, and are BUSY while a write runs (R495, R498). FLASH_WRITE_END: a write that succeeds
puts its image into its copy and in use; one that fails leaves both copies (R495, R496). What is not the spec's in it: log entry 39. -/
def Obligations.ImagesAreWrittenInTheBackground : Prop :=
  (∀ (s : State) (p : Path) (sub : Nat), Safety.Serving s → 1 ≤ sub → sub ≤ 3 → Safety.Accepts s p 0x1010 sub 0x65766173 →
    s.blk.server.job = none →
    ∃ t, exec (.storeParameters p sub 0x65766173) s = .next t ∧
      (∃ j, t.blk.server.job = some j ∧ j.idx = 0x1010 ∧ j.sub = sub ∧ (j.toA = true ↔ s.blk.rd 0x1E03 2 ≠ 1)) ∧
      t.blk.flash = s.blk.flash ∧ Safety.Keeps (fun _ _ => false) s t) ∧
  (∀ (s : State) (p : Path) (sub : Nat), Safety.Serving s → 1 ≤ sub → sub ≤ 3 → Safety.Accepts s p 0x1011 sub 0x64616F6C →
    s.blk.server.job = none →
    ∃ t, exec (.restoreDefaults p sub 0x64616F6C) s = .next t ∧
      (∃ j, t.blk.server.job = some j ∧ j.idx = 0x1011 ∧ j.sub = sub ∧
        j.img.comm = (if sub = 3 then (imageInUse s.blk).bind (·.comm) else none) ∧
        j.img.app = (if sub = 2 then (imageInUse s.blk).bind (·.app) else none)) ∧
      t.blk.flash = s.blk.flash ∧ Safety.Keeps (fun _ _ => false) s t) ∧
  (∀ (s : State) (p : Path) (sub v : Nat) (j : FlashJob), Safety.Serving s → 1 ≤ sub → sub ≤ 3 → s.blk.server.job = some j →
    (Safety.Accepts s p 0x1010 sub v → ∃ t, exec (.storeParameters p sub v) s = .next t ∧ t.blk.resp = Resp.plain stBUSY ∧
      t.blk.server = s.blk.server ∧ t.blk.flash = s.blk.flash ∧ Safety.Keeps (fun _ _ => false) s t) ∧
    (Safety.Accepts s p 0x1011 sub v → ∃ t, exec (.restoreDefaults p sub v) s = .next t ∧ t.blk.resp = Resp.plain stBUSY ∧
      t.blk.server = s.blk.server ∧ t.blk.flash = s.blk.flash ∧ Safety.Keeps (fun _ _ => false) s t)) ∧
  (∀ (s : State) (p : Path) (sub v : Nat), Safety.Serving s → 1 ≤ sub → sub ≤ 3 → Safety.Accepts s p 0x1011 sub v →
    s.blk.server.job = none → v ≠ 0x64616F6C →
    ∃ t, exec (.restoreDefaults p sub v) s = .next t ∧ t.blk.resp = Resp.refuse stREFUSED 0x08000020 ∧
      t.blk.server.job = none ∧ Safety.Keeps (fun _ _ => false) s t) ∧
  (∀ (s : State) (p : Path) (sub v : Nat), Safety.Serving s → 1 ≤ sub → sub ≤ 3 → Safety.Accepts s p 0x1010 sub v →
    s.blk.server.job = none → v ≠ 0x65766173 →
    ∃ t, exec (.storeParameters p sub v) s = .next t ∧ t.blk.resp = Resp.refuse stREFUSED 0x08000020 ∧
      t.blk.server.job = none ∧ Safety.Keeps (fun _ _ => false) s t) ∧
  (∀ (s : State) (j : FlashJob), s.blk.power.on = true → s.blk.server.job = some j → j.img.seq < 2 ^ 32 →
    ∃ t, exec (.flashWriteEnd true) s = .next t ∧ t.blk.server.job = none ∧ t.blk.rd 0x1E03 6 = stOK ∧
      t.blk.rd 0x1E03 2 = (if j.toA then 1 else 2) ∧ t.blk.rd 0x1E03 3 = j.img.seq ∧
      t.blk.flash.copyA = (if j.toA then some j.img else s.blk.flash.copyA) ∧
      t.blk.flash.copyB = (if j.toA then s.blk.flash.copyB else some j.img)) ∧
  (∀ (s : State) (j : FlashJob), s.blk.power.on = true → s.blk.server.job = some j →
    ∃ t, exec (.flashWriteEnd false) s = .next t ∧ t.blk.server.job = none ∧ t.blk.rd 0x1E03 6 = stHW ∧
      t.blk.flash = s.blk.flash ∧ t.blk.rd 0x1E03 2 = s.blk.rd 0x1E03 2)

/-! ### The CAN FD port -/

/-- NMT commands set the device's state, a reset of communication or of the node leaves it PRE-OPERATIONAL with the node ID of the
straps, the bit timing and polarity mode last written in force (R490, R492, R494, R521) and the termination as 0x1E20.06 then reads
(R539); the heartbeat shows the state (R491); the oldest emergency message leaves first (R493); eight starts of frame
in one polarity establish it, once the port has come up (R521); the bus state is shown with its counters (R502). What is not the spec's in it: log entry 14. -/
def Obligations.TheCanPortFollowsItsBus : Prop :=
  (∀ s : State, s.blk.power.on = true → s.blk.ps = 0 → s.blk.rd 0x1E20 1 ≠ 0 → s.blk.rd 0x1E20 7 ≠ 0 →
    (∃ t, exec .nmtStart s = .next t ∧ t.blk.rd 0x1E20 7 = 5 ∧ Safety.Keeps (fun i r => i == 0x1E20 && r == 7) s t) ∧
    (∃ t, exec .nmtStop s = .next t ∧ t.blk.rd 0x1E20 7 = 4 ∧ Safety.Keeps (fun i r => i == 0x1E20 && r == 7) s t) ∧
    (∃ t, exec .nmtEnterPreOperational s = .next t ∧ t.blk.rd 0x1E20 7 = 0x7F ∧
      Safety.Keeps (fun i r => i == 0x1E20 && r == 7) s t) ∧
    (s.blk.power.straps ≠ 0 → s.blk.power.straps < 128 →
      (∃ t, exec .nmtResetCommunication s = .next t ∧ t.blk.rd 0x1E20 7 = 0x7F ∧ t.blk.rd 0x1E01 1 = s.blk.power.straps ∧
        t.blk.canPort.timing = { s.blk.writtenTiming with termination := t.blk.rd 0x1E20 6 != 0 } ∧ t.blk.canPort.mode = s.blk.rd 0x2005 9) ∧
      (∃ t, exec .nmtResetNode s = .next t ∧ t.blk.rd 0x1E20 7 = 0x7F ∧ t.blk.rd 0x1E01 1 = s.blk.power.straps ∧
        t.blk.canPort.timing = { s.blk.writtenTiming with termination := t.blk.rd 0x1E20 6 != 0 } ∧ t.blk.canPort.mode = s.blk.rd 0x2005 9))) ∧
  (∀ s : State, s.blk.power.on = true → s.blk.ps < 4 → s.blk.rd 0x1017 0 ≠ 0 → s.blk.rd 0x1E20 7 ≠ 0 → s.blk.canSends = true →
    ∃ t, exec .heartbeat s = .next t ∧ .can (0x700 + s.blk.nodeId) [BitVec.ofNat 8 (s.blk.rd 0x1E20 7)] ∈ t.blk.out ∧
      Safety.Keeps (fun _ _ => false) s t) ∧
  (∀ (s : State) (m : Emcy) (rest : List Emcy), s.blk.power.on = true → Safety.reportsSettled s.blk → s.blk.ps < 4 →
    s.blk.emcy = m :: rest → s.blk.canSends = true → s.blk.rd 0x1E20 7 ≠ 4 → s.blk.rd 0x1E20 7 ≠ 0 →
    ∃ t, exec .emcyTransmit s = .next t ∧ t.blk.emcy = rest ∧
      .can (0x80 + s.blk.nodeId)
        (toLe 2 m.code ++ toLe 1 m.err ++ m.bytes.take 5 ++ List.replicate Config.emcyFurther.toNat 0) ∈ t.blk.out ∧
      Safety.Keeps (fun _ _ => false) s t) ∧
  (∀ (s : State) (mv : Int), s.blk.power.on = true → s.blk.ps < 4 → s.blk.canPort.mode = 0 → s.blk.rd 0x1E20 7 ≠ 0 → 900 ≤ mv →
    ∃ t, exec (.canPolarityMeasure mv) s = .next t ∧ t.blk.canPort.normal = min 8 (s.blk.canPort.normal + 1) ∧
      t.blk.canPort.swapped = 0 ∧ (7 ≤ s.blk.canPort.normal → t.blk.rd 0x2005 0xA = 1) ∧
      (s.blk.canPort.normal < 7 → t.blk.rd 0x2005 0xA = s.blk.rd 0x2005 0xA)) ∧
  (∀ (s : State) (mv : Int), s.blk.power.on = true → s.blk.ps < 4 → s.blk.canPort.mode = 0 → s.blk.rd 0x1E20 7 ≠ 0 → mv ≤ -900 →
    7 ≤ s.blk.canPort.swapped → s.blk.rd 0x2005 0xA ≠ 2 →
    ∃ t, exec (.canPolarityMeasure mv) s = .next t ∧ t.blk.rd 0x2005 0xA = 2 ∧
      t.blk.rd 0x2005 0xB = satTo 32 (s.blk.rd 0x2005 0xB + 1)) ∧
  (∀ (s : State) (x tx rx : Nat), s.blk.power.on = true → s.blk.ps < 4 → x < 3 →
    ∃ t, exec (.canBusStateChange x tx rx) s = .next t ∧ t.blk.rd 0x1E20 8 = x ∧ t.blk.rd 0x1E20 9 = satTo 8 tx ∧
      t.blk.rd 0x1E20 0xA = satTo 8 rx ∧ Safety.Keeps (fun i r => i == 0x1E20 && (r == 8 || r == 9 || r == 0xA)) s t)

/-! ### Supply, power states and start-up -/

/-- VIN_VALID begins a cold start: STARTING, PS0, the straps sampled, flash kept with one more cold start (R516, R527); a module
whose checks pass becomes READY, another FAILED with its cause (R517); the loss of VIN, its overvoltage and its reversal leave
nothing but flash, in which a write that runs is cut (R496) and the reversal is latched: every other field is as a cold start has it,
and the store is empty (R503, R506); what has left the module, the count of free values and the ordering code are no state that
is lost. What is not the spec's in it: log entries 2, 32, 39. -/
def Obligations.ColdStartAndLossOfSupply : Prop :=
  (∀ (s : State) (x : Nat), x < 128 → s.blk.power.on = false → s.blk.flash.reversed = false →
    ∃ t, exec (.vinValid x) s = .next t ∧ t.blk.power.on = true ∧ t.blk.power.straps = x ∧ t.blk.rd 0x2001 0 = 0 ∧ t.blk.ps = 0 ∧
      t.blk.flash = { s.blk.flash with colds := satTo 32 (s.blk.flash.colds + 1) } ∧ t.pending = s.pending) ∧
  (∀ (s : State) (x : StartUp), s.blk.power.on = true → s.blk.rd 0x2001 0 = 0 →
    ∃ t, exec (.moduleReady x) s = .next t ∧
      (let cause := failCause x ((List.range 64).filter (fun k => !bit s.blk.flash.retired k && !bit x.bankFail k)) s.blk;
       (cause = 0 → t.blk.rd 0x2001 0 = 1) ∧ (cause ≠ 0 → t.blk.rd 0x2001 0 = 2 ∧ t.blk.rd 0x2004 1 = cause))) ∧
  (∀ s : State, s.blk.power.on = true →
    (∃ t, exec .vinLoss s = .next t ∧ Safety.Lost s.blk s.blk.cutFlash t.blk ∧
      (∀ a < s.blk.installed * unitBytes, memRead t.mem a = 0) ∧ t.pending = s.pending) ∧
    (∃ t, exec .vinOvervoltageOff s = .next t ∧ Safety.Lost s.blk s.blk.cutFlash t.blk ∧
      (∀ a < s.blk.installed * unitBytes, memRead t.mem a = 0) ∧ t.pending = s.pending) ∧
    (∃ t, exec .supplyReversal s = .next t ∧ Safety.Lost s.blk { s.blk.cutFlash with reversed := true } t.blk ∧
      (∀ a < s.blk.installed * unitBytes, memRead t.mem a = 0) ∧ t.pending = s.pending)) ∧
  (∀ s : State, s.blk.power.on = false → ∃ t, exec .supplyReversal s = .next t ∧
    t.blk.power = s.blk.power ∧ t.blk.flash = { s.blk.flash with reversed := true } ∧ t.pending = s.pending)

/-- Power states: a request whose checks pass begins entry (R510, R511); once no domain is armed and no flash write runs the state
is in force and counted (R511); a refused request changes nothing (R510). Wake sources that are enabled and act in the state in
force begin the exit and are named (R513, R514): WAKE_N, wake lanes, trigger inputs, the CAN wake-up pattern. WAKE_EXIT ends in
PS0; after PS3 and PS4 the frame number resumes after the frames slept (R515). A resume from PS5 is READY in PS0 with frame number
0 (R515, R518). What is not the spec's in it: log entries 10, 31. -/
def Obligations.PowerStatesAreEnteredAndLeft : Prop :=
  (∀ (s : State) (w : Via) (v : Nat), Safety.Serving s → 1 ≤ v → v ≤ 5 → Safety.Reaches s w 0x2002 1 v → powerStatus s.blk v = stOK →
    ∃ t, exec (.powerStateRequest w v) s = .next t ∧ Safety.Answered w stOK t ∧ t.blk.power.entry = some v ∧ t.blk.ps = 0) ∧
  (∀ (s : State) (w : Via) (v : Nat), Safety.Serving s → v ≤ 5 → Safety.Reaches s w 0x2002 1 v → powerStatus s.blk v ≠ stOK →
    powerStatus s.blk v ≠ stRANGE →
    ∃ t, exec (.powerStateRequest w v) s = .next t ∧ Safety.Answered w (powerStatus s.blk v) t ∧ t.blk.power = s.blk.power ∧
      Safety.Keeps (fun _ _ => false) s t) ∧
  (∀ (s : State) (x : Nat), s.blk.power.on = true → s.blk.power.entry = some x → x ≤ 5 → s.blk.server.job = none →
    s.blk.armedDoms = [] → s.blk.power.held = 0 →
    ∃ t, exec .powerEntryComplete s = .next t ∧ t.blk.ps = x ∧ t.blk.power.entry = none ∧
      t.blk.rd 0x2002 5 = satTo 32 (s.blk.rd 0x2002 5 + 1)) ∧
  (∀ s : State, s.blk.power.on = true → s.blk.power.entry = none → s.blk.power.waking = false → s.blk.thermalHold = false →
    1 ≤ s.blk.ps → s.blk.ps ≤ 5 → bit (s.blk.rd 0x2002 3) 0 = true →
    ∃ t, exec .wakeN s = .next t ∧ t.blk.power.waking = true ∧ t.blk.rd 0x2002 4 = 2 ∧
      Safety.Keeps (fun i r => i == 0x2002 && r == 4) s t) ∧
  (∀ (s : State) (l : Nat) (rise : Bool), s.blk.power.on = true → s.blk.power.entry = none → s.blk.power.waking = false →
    s.blk.thermalHold = false → l < 512 → (s.blk.ps = 1 ∨ s.blk.ps = 2) → bit (s.blk.rd 0x2002 3) 1 = true →
    s.blk.rd 0x2003 1 = l / 16 → bit (s.blk.rd 0x2003 2) (l % 16) = true →
    chosenEdge (bits (s.blk.rd 0x2003 3) (2 * (l % 16)) 2) rise = true → wakePodBusy s.blk (l / 16) = false →
    ∃ t, exec (.wakeLane l rise) s = .next t ∧ t.blk.power.waking = true ∧ t.blk.rd 0x2002 4 = 3 ∧
      Safety.Keeps (fun i r => i == 0x2002 && r == 4) s t) ∧
  (∀ (s : State) (i : Nat) (rise : Bool), s.blk.power.on = true → s.blk.power.entry = none → s.blk.power.waking = false →
    s.blk.thermalHold = false → i < 2 → (s.blk.ps = 1 ∨ s.blk.ps = 2) → bit (s.blk.rd 0x2002 3) 2 = true →
    chosenEdge (bits (s.blk.rd 0x2003 4) (2 * i) 2) rise = true →
    ∃ t, exec (.trigInWake i rise) s = .next t ∧ t.blk.power.waking = true ∧ t.blk.rd 0x2002 4 = 4 ∧
      Safety.Keeps (fun i r => i == 0x2002 && r == 4) s t) ∧
  (∀ s : State, s.blk.power.on = true → s.blk.power.entry = none → s.blk.power.waking = false → s.blk.thermalHold = false →
    s.blk.ps = 4 → bit (s.blk.rd 0x2002 3) 3 = true →
    ∃ t, exec .canWakeupPattern s = .next t ∧ t.blk.power.waking = true ∧ t.blk.rd 0x2002 4 = 6 ∧
      Safety.Keeps (fun i r => i == 0x2002 && r == 4) s t) ∧
  (∀ (s : State) (c : Nat), s.blk.power.on = true → s.blk.power.waking = true → 1 ≤ s.blk.ps → s.blk.ps ≤ 4 →
    s.blk.power.after = none →
    ∃ t, exec (.wakeExit c) s = .next t ∧ t.blk.ps = 0 ∧ t.blk.power.waking = false ∧
      t.blk.rd 0x2002 5 = satTo 32 (s.blk.rd 0x2002 5 + 1) ∧
      (3 ≤ s.blk.ps → t.blk.clk.run = true ∧
        t.blk.clk.next = some ((s.blk.time.frame.toNat + 1 + framesAsleep (t.blk.rd 0x2100 8) c) % 2 ^ 53))) ∧
  (∀ (s : State) (img : Resume), s.blk.power.on = true → s.blk.power.waking = true → s.blk.ps = 5 → s.blk.flash.resume = some img →
    s.blk.power.after = none →
    ∃ t, exec .ps5ResumeReady s = .next t ∧ t.blk.ps = 0 ∧ t.blk.rd 0x2001 0 = 1 ∧ t.blk.power.waking = false ∧
      t.blk.clk.run = true ∧ t.blk.clk.next = some 0)

/-- What the module measures of itself: the die temperature with its maximum, the warning at 110.0 °C and the thermal hold at 125.0
°C, which begins entry into PS3 (R519); VIN with SUPPLY_RANGE (R505); the hours of operation in flash (R526, R527). A clear of the
error log empties it (R524). What is not the spec's in it: log entries 6, 43. -/
def Obligations.TheModuleWatchesItself : Prop :=
  (∀ (s : State) (x : Int), s.blk.power.on = true → -1280 ≤ x → x ≤ 3000 →
    ∃ t, exec (.temperatureMeasure x) s = .next t ∧ t.blk.rdI 0x2000 1 = x ∧ t.blk.rdI 0x2000 2 = max x (s.blk.rdI 0x2000 2) ∧
      (1100 ≤ x → bit (t.blk.rd 0x2005 1) 1 = true) ∧ (x ≤ 1050 → bit (t.blk.rd 0x2005 1) 1 = false) ∧
      (1250 ≤ x → s.blk.ps < 3 → s.blk.thermalHold = false → t.blk.thermalHold = true ∧ t.blk.power.entry = some 3)) ∧
  (∀ (s : State) (mv : Nat), s.blk.power.on = true →
    ∃ t, exec (.vinRangeChange mv) s = .next t ∧ t.blk.rd 0x2000 3 = satTo 16 mv ∧
      bit (t.blk.rd 0x2005 1) 0 = (decide (mv < 6000) || decide (40000 < mv)) ∧
      (bit (s.blk.rd 0x2005 1) 0 = false → (mv < 6000 ∨ 40000 < mv) →
        t.blk.rd 0x2005 5 = 1 ∧ t.blk.rd 0x2005 6 = satTo 32 (s.blk.rd 0x2005 6 + 1)) ∧
      Safety.Keeps (fun i r => (i == 0x2000 && r == 3) || (i == 0x2005 && (r == 1 || r == 5 || r == 6))) s t) ∧
  (∀ s : State, s.blk.power.on = true →
    ∃ t, exec .hourCounterSave s = .next t ∧ t.blk.flash = { s.blk.flash with
        hoursVin := satTo 32 (s.blk.flash.hoursVin + 1),
        hours := if s.blk.ps = 0 then satTo 32 (s.blk.flash.hours + 1) else s.blk.flash.hours } ∧
      Safety.Keeps (fun _ _ => false) s t) ∧
  (∀ (s : State) (p : Path), Safety.Serving s → Safety.reportsSettled s.blk → Safety.Accepts s p 0x8000 2 1 →
    ∃ t, exec (.logClear p 1) s = .next t ∧ t.blk.resp = Resp.plain stOK ∧ t.blk.rd 0x8000 1 = 0 ∧
      (∀ i < 64, t.blk.rd 0x8001 (i + 1) = 0 ∧ t.blk.rd 0x8002 (i + 1) = 0) ∧ t.blk.power = s.blk.power)
end

