-- ==== Sys2Proof/Laws/Sparse.lean ====
section
/-! SUPPORT. Laws of data by number: a read after a write, writes that leave other keys alone, and the canonical form that every
write keeps. -/

namespace Sys2Proof.Machine

variable {α : Type}

@[simp] theorem look_nil (d : Nat → α) (k : Nat) : look d [] k = d k := rfl

theorem look_cons (d : Nat → α) (a : Nat) (v : α) (m : List (Nat × α)) (k : Nat) :
    look d ((a, v) :: m) k = if a = k then v else look d m k := rfl

/-- Dropped keys read as the default. -/
theorem look_dropKeys_of_mem (d : Nat → α) (p : Nat → Bool) (k : Nat) (h : p k = true) (m : List (Nat × α)) :
    look d (dropKeys p m) k = d k := by
  induction m with
  | nil => rfl
  | cons e m ih =>
    obtain ⟨a, v⟩ := e
    by_cases ha : p a = true
    · simp [dropKeys, ha, ih]
    · have : a ≠ k := fun e => ha (e ▸ h)
      simp [dropKeys, ha, look_cons, this, ih]

/-- Keys that are not dropped read as before. -/
theorem look_dropKeys_of_not_mem (d : Nat → α) (p : Nat → Bool) (k : Nat) (h : p k = false) (m : List (Nat × α)) :
    look d (dropKeys p m) k = look d m k := by
  induction m with
  | nil => rfl
  | cons e m ih =>
    obtain ⟨a, v⟩ := e
    by_cases ha : p a = true
    · have : a ≠ k := fun e => by simp [e, h] at ha
      simp [dropKeys, ha, look_cons, this, ih]
    · simp [dropKeys, ha, look_cons, ih]

theorem look_dropKeys (d : Nat → α) (p : Nat → Bool) (k : Nat) (m : List (Nat × α)) :
    look d (dropKeys p m) k = if p k then d k else look d m k := by
  by_cases h : p k = true
  · simp [h, look_dropKeys_of_mem d p k h m]
  · simp [h, look_dropKeys_of_not_mem d p k (by simpa using h) m]

theorem look_insertKey_ne (d : Nat → α) (k j : Nat) (x : α) (h : j ≠ k) (m : List (Nat × α)) :
    look d (insertKey m k x) j = look d m j := by
  induction m with
  | nil => simp [insertKey, look_cons, h.symm]
  | cons e m ih =>
    obtain ⟨a, v⟩ := e
    by_cases ha : k < a
    · simp [insertKey, ha, look_cons, h.symm]
    · simp [insertKey, ha, look_cons, ih]

theorem look_insertKey_dropped (d : Nat → α) (k : Nat) (x : α) (m : List (Nat × α)) :
    look d (insertKey (dropKeys (fun a => a == k) m) k x) k = x := by
  induction m with
  | nil => simp [dropKeys, insertKey, look_cons]
  | cons e m ih =>
    obtain ⟨a, v⟩ := e
    by_cases ha : a = k
    · simpa [dropKeys, ha] using ih
    · simp only [dropKeys, beq_iff_eq, ha, if_false]
      by_cases hk : k < a
      · simp [insertKey, hk, look_cons]
      · simp [insertKey, hk, look_cons, ha, ih]

/-- A read after a write of the same key gives the value written. -/
@[simp] theorem look_place_self [DecidableEq α] (d : Nat → α) (m : List (Nat × α)) (k : Nat) (x : α) :
    look d (place d m k x) k = x := by
  unfold place
  by_cases h : x = d k
  · simp [h, look_dropKeys]
  · simp [h, look_insertKey_dropped]

/-- A write leaves every other key alone. -/
theorem look_place_ne [DecidableEq α] (d : Nat → α) (m : List (Nat × α)) (k j : Nat) (x : α) (h : j ≠ k) :
    look d (place d m k x) j = look d m j := by
  unfold place
  by_cases hx : x = d k
  · simp [hx, look_dropKeys, h]
  · simp [hx, look_insertKey_ne d k j x h, look_dropKeys, h]

theorem look_place [DecidableEq α] (d : Nat → α) (m : List (Nat × α)) (k j : Nat) (x : α) :
    look d (place d m k x) j = if j = k then x else look d m j := by
  by_cases h : j = k
  · simp [h]
  · simp [h, look_place_ne]

/-! ### The canonical form -/

theorem canonFrom_mono [DecidableEq α] (d : Nat → α) {b c : Nat} (h : c ≤ b) {m : List (Nat × α)} (hm : canonFrom d b m = true) :
    canonFrom d c m = true := by
  cases m with
  | nil => rfl
  | cons e m =>
    obtain ⟨a, v⟩ := e
    simp only [canonFrom, Bool.and_eq_true, decide_eq_true_eq] at hm ⊢
    exact ⟨⟨Nat.le_trans h hm.1.1, hm.1.2⟩, hm.2⟩

theorem canonFrom_dropKeys [DecidableEq α] (d : Nat → α) (p : Nat → Bool) (m : List (Nat × α)) :
    ∀ b, canonFrom d b m = true → canonFrom d b (dropKeys p m) = true := by
  induction m with
  | nil => intro b _; rfl
  | cons e m ih =>
    obtain ⟨a, v⟩ := e
    intro b h
    simp only [canonFrom, Bool.and_eq_true, decide_eq_true_eq] at h
    by_cases ha : p a = true
    · simp only [dropKeys, ha, if_true]
      exact canonFrom_mono d (by omega) (ih _ h.2)
    · simp [dropKeys, ha, canonFrom, h.1, ih _ h.2]

theorem canonFrom_insertKey [DecidableEq α] (d : Nat → α) (k : Nat) (x : α) (hx : x ≠ d k) (m : List (Nat × α)) :
    ∀ b, b ≤ k → canonFrom d b m = true →
      canonFrom d b (insertKey (dropKeys (fun a => a == k) m) k x) = true := by
  induction m with
  | nil => intro b hb _; simp [dropKeys, insertKey, canonFrom, hb, hx]
  | cons e m ih =>
    obtain ⟨a, v⟩ := e
    intro b hb h
    simp only [canonFrom, Bool.and_eq_true, decide_eq_true_eq] at h
    by_cases ha : a = k
    · simp only [dropKeys, ha, beq_self_eq_true, if_true]
      exact ih b hb (canonFrom_mono d (by omega) h.2)
    · simp only [dropKeys, beq_iff_eq, ha, if_false]
      by_cases hk : k < a
      · have := canonFrom_dropKeys d (fun a => a == k) m _ h.2
        have hka : k + 1 ≤ a := hk
        simp only [insertKey, hk, if_true, canonFrom, Bool.and_eq_true, decide_eq_true_eq]
        exact ⟨⟨hb, hx⟩, ⟨hka, h.1.2⟩, this⟩
      · have hak : a + 1 ≤ k := by omega
        simp [insertKey, hk, canonFrom, h.1.1, h.1.2, ih _ hak h.2]

/-- A write keeps the canonical form. -/
theorem canon_place [DecidableEq α] (d : Nat → α) (m : List (Nat × α)) (k : Nat) (x : α) (h : canon d m = true) :
    canon d (place d m k x) = true := by
  unfold place
  by_cases hx : x = d k
  · simpa [hx, canon] using canonFrom_dropKeys d (fun a => a == k) m 0 h
  · simpa [hx, canon] using canonFrom_insertKey d k x hx m 0 (Nat.zero_le k) h

/-- Dropping keys keeps the canonical form. -/
theorem canon_dropKeys [DecidableEq α] (d : Nat → α) (p : Nat → Bool) (m : List (Nat × α)) (h : canon d m = true) :
    canon d (dropKeys p m) = true := canonFrom_dropKeys d p m 0 h

end Sys2Proof.Machine
end

