-- ==== Sys2Proof/Laws/Memory.lean ====
section
/-! SUPPORT. Laws of the capture store's contents: every operation keeps the canonical form, a read after a write gives the octet
written, and a write or a clear leaves every other octet alone. -/

namespace Sys2Proof.Machine

theorem memWrite_wf (mem : List Host.Cell) (a : Nat) (xs : List Byte) (h : Memory.wf mem = true) :
    Memory.wf (memWrite mem a xs) = true := by
  induction xs generalizing a with
  | nil => exact h
  | cons x xs ih => exact canon_place memDefault _ _ _ (ih (a + 1))

theorem memClear_wf (mem : List Host.Cell) (lo hi : Nat) (h : Memory.wf mem = true) : Memory.wf (memClear mem lo hi) = true :=
  canon_dropKeys memDefault _ mem h

theorem memStep_wf (mem : List Host.Cell) (o : MemOp) (h : Memory.wf mem = true) : Memory.wf (memStep mem o) = true := by
  cases o with
  | write a xs => exact memWrite_wf mem a xs h
  | clear lo hi => exact memClear_wf mem lo hi h

/-- Every change that a command makes keeps the canonical form. -/
theorem memApply_wf (mem : List Host.Cell) (ops : List MemOp) (h : Memory.wf mem = true) : Memory.wf (memApply mem ops) = true := by
  induction ops generalizing mem with
  | nil => exact h
  | cons o ops ih => exact ih _ (memStep_wf mem o h)

@[simp] theorem memApply_nil (mem : List Host.Cell) : memApply mem [] = mem := rfl

theorem memApply_append (mem : List Host.Cell) (xs ys : List MemOp) :
    memApply mem (xs ++ ys) = memApply (memApply mem xs) ys := List.foldl_append ..

/-- Octets before a write's address read as before. -/
theorem memRead_memWrite_lt (mem : List Host.Cell) (a k : Nat) (xs : List Byte) (h : k < a) :
    memRead (memWrite mem a xs) k = memRead mem k := by
  induction xs generalizing a with
  | nil => rfl
  | cons x xs ih =>
    have : k ≠ a := by omega
    simpa [memWrite, memRead, look_place_ne memDefault _ _ _ _ this] using ih (a + 1) (by omega)

/-- Octets from the end of a write on read as before. -/
theorem memRead_memWrite_ge (mem : List Host.Cell) (a k : Nat) (xs : List Byte) (h : a + xs.length ≤ k) :
    memRead (memWrite mem a xs) k = memRead mem k := by
  induction xs generalizing a with
  | nil => rfl
  | cons x xs ih =>
    have h' : a + 1 + xs.length ≤ k := by simp at h; omega
    have : k ≠ a := by omega
    simpa [memWrite, memRead, look_place_ne memDefault _ _ _ _ this] using ih (a + 1) h'

/-- A written octet reads as written. -/
theorem memRead_memWrite_at (mem : List Host.Cell) (a : Nat) (xs : List Byte) (i : Nat) (x : Byte) (h : xs[i]? = some x) :
    memRead (memWrite mem a xs) (a + i) = x := by
  induction xs generalizing a i with
  | nil => simp at h
  | cons y ys ih =>
    cases i with
    | zero => simp at h; simp [memWrite, memRead, h]
    | succ i =>
      have : a + (i + 1) ≠ a := by omega
      have e : a + (i + 1) = a + 1 + i := by omega
      simp only [memWrite, memRead, look_place_ne memDefault _ _ _ _ this]
      rw [e]; exact ih (a + 1) i (by simpa using h)

/-- Cleared octets read 0, the others as before (R208). -/
theorem memRead_memClear (mem : List Host.Cell) (lo hi k : Nat) :
    memRead (memClear mem lo hi) k = if lo ≤ k ∧ k < hi then 0 else memRead mem k := by
  simp [memRead, memClear, look_dropKeys, memDefault]

end Sys2Proof.Machine
end

