-- ==== Sys2Proof/Laws/State.lean ====
section
/-! SUPPORT. One lemma per field of the block per update, and reads after writes of registers and units. -/

namespace Sys2Proof.Machine

/-! ### wr -/

@[simp] theorem Block.wr_part : ∀ (b : Block) (idx sub v : Nat), (b.wr idx sub v).part = b.part := fun _ _ _ _ => rfl
@[simp] theorem Block.wr_bar : ∀ (b : Block) (idx sub v : Nat), (b.wr idx sub v).bar = b.bar := fun _ _ _ _ => rfl
@[simp] theorem Block.wr_time : ∀ (b : Block) (idx sub v : Nat), (b.wr idx sub v).time = b.time := fun _ _ _ _ => rfl
@[simp] theorem Block.wr_packets : ∀ (b : Block) (idx sub v : Nat), (b.wr idx sub v).packets = b.packets := fun _ _ _ _ => rfl
@[simp] theorem Block.wr_lanes : ∀ (b : Block) (idx sub v : Nat), (b.wr idx sub v).lanes = b.lanes := fun _ _ _ _ => rfl
@[simp] theorem Block.wr_pods : ∀ (b : Block) (idx sub v : Nat), (b.wr idx sub v).pods = b.pods := fun _ _ _ _ => rfl
@[simp] theorem Block.wr_engines : ∀ (b : Block) (idx sub v : Nat), (b.wr idx sub v).engines = b.engines := fun _ _ _ _ => rfl
@[simp] theorem Block.wr_syncAbs : ∀ (b : Block) (idx sub v : Nat), (b.wr idx sub v).syncAbs = b.syncAbs := fun _ _ _ _ => rfl
@[simp] theorem Block.wr_doms : ∀ (b : Block) (idx sub v : Nat), (b.wr idx sub v).doms = b.doms := fun _ _ _ _ => rfl
@[simp] theorem Block.wr_outs : ∀ (b : Block) (idx sub v : Nat), (b.wr idx sub v).outs = b.outs := fun _ _ _ _ => rfl
@[simp] theorem Block.wr_vectors : ∀ (b : Block) (idx sub v : Nat), (b.wr idx sub v).vectors = b.vectors := fun _ _ _ _ => rfl
@[simp] theorem Block.wr_casc : ∀ (b : Block) (idx sub v : Nat), (b.wr idx sub v).casc = b.casc := fun _ _ _ _ => rfl
@[simp] theorem Block.wr_ptus : ∀ (b : Block) (idx sub v : Nat), (b.wr idx sub v).ptus = b.ptus := fun _ _ _ _ => rfl
@[simp] theorem Block.wr_stores : ∀ (b : Block) (idx sub v : Nat), (b.wr idx sub v).stores = b.stores := fun _ _ _ _ => rfl
@[simp] theorem Block.wr_mops : ∀ (b : Block) (idx sub v : Nat), (b.wr idx sub v).mops = b.mops := fun _ _ _ _ => rfl
@[simp] theorem Block.wr_units : ∀ (b : Block) (idx sub v : Nat), (b.wr idx sub v).units = b.units := fun _ _ _ _ => rfl
@[simp] theorem Block.wr_meas : ∀ (b : Block) (idx sub v : Nat), (b.wr idx sub v).meas = b.meas := fun _ _ _ _ => rfl
@[simp] theorem Block.wr_masks : ∀ (b : Block) (idx sub v : Nat), (b.wr idx sub v).masks = b.masks := fun _ _ _ _ => rfl
@[simp] theorem Block.wr_hists : ∀ (b : Block) (idx sub v : Nat), (b.wr idx sub v).hists = b.hists := fun _ _ _ _ => rfl
@[simp] theorem Block.wr_stims : ∀ (b : Block) (idx sub v : Nat), (b.wr idx sub v).stims = b.stims := fun _ _ _ _ => rfl
@[simp] theorem Block.wr_drivers : ∀ (b : Block) (idx sub v : Nat), (b.wr idx sub v).drivers = b.drivers := fun _ _ _ _ => rfl
@[simp] theorem Block.wr_banks : ∀ (b : Block) (idx sub v : Nat), (b.wr idx sub v).banks = b.banks := fun _ _ _ _ => rfl
@[simp] theorem Block.wr_maint : ∀ (b : Block) (idx sub v : Nat), (b.wr idx sub v).maint = b.maint := fun _ _ _ _ => rfl
@[simp] theorem Block.wr_words : ∀ (b : Block) (idx sub v : Nat), (b.wr idx sub v).words = b.words := fun _ _ _ _ => rfl
@[simp] theorem Block.wr_tags : ∀ (b : Block) (idx sub v : Nat), (b.wr idx sub v).tags = b.tags := fun _ _ _ _ => rfl
@[simp] theorem Block.wr_queues : ∀ (b : Block) (idx sub v : Nat), (b.wr idx sub v).queues = b.queues := fun _ _ _ _ => rfl
@[simp] theorem Block.wr_selectors : ∀ (b : Block) (idx sub v : Nat), (b.wr idx sub v).selectors = b.selectors := fun _ _ _ _ => rfl
@[simp] theorem Block.wr_errs : ∀ (b : Block) (idx sub v : Nat), (b.wr idx sub v).errs = b.errs := fun _ _ _ _ => rfl
@[simp] theorem Block.wr_emcy : ∀ (b : Block) (idx sub v : Nat), (b.wr idx sub v).emcy = b.emcy := fun _ _ _ _ => rfl
@[simp] theorem Block.wr_logWait : ∀ (b : Block) (idx sub v : Nat), (b.wr idx sub v).logWait = b.logWait := fun _ _ _ _ => rfl
@[simp] theorem Block.wr_lastErr : ∀ (b : Block) (idx sub v : Nat), (b.wr idx sub v).lastErr = b.lastErr := fun _ _ _ _ => rfl
@[simp] theorem Block.wr_lastAlert : ∀ (b : Block) (idx sub v : Nat), (b.wr idx sub v).lastAlert = b.lastAlert := fun _ _ _ _ => rfl
@[simp] theorem Block.wr_pcie : ∀ (b : Block) (idx sub v : Nat), (b.wr idx sub v).pcie = b.pcie := fun _ _ _ _ => rfl
@[simp] theorem Block.wr_sync : ∀ (b : Block) (idx sub v : Nat), (b.wr idx sub v).sync = b.sync := fun _ _ _ _ => rfl
@[simp] theorem Block.wr_chain : ∀ (b : Block) (idx sub v : Nat), (b.wr idx sub v).chain = b.chain := fun _ _ _ _ => rfl
@[simp] theorem Block.wr_flash : ∀ (b : Block) (idx sub v : Nat), (b.wr idx sub v).flash = b.flash := fun _ _ _ _ => rfl
@[simp] theorem Block.wr_power : ∀ (b : Block) (idx sub v : Nat), (b.wr idx sub v).power = b.power := fun _ _ _ _ => rfl
@[simp] theorem Block.wr_server : ∀ (b : Block) (idx sub v : Nat), (b.wr idx sub v).server = b.server := fun _ _ _ _ => rfl
@[simp] theorem Block.wr_canPort : ∀ (b : Block) (idx sub v : Nat), (b.wr idx sub v).canPort = b.canPort := fun _ _ _ _ => rfl
@[simp] theorem Block.wr_clk : ∀ (b : Block) (idx sub v : Nat), (b.wr idx sub v).clk = b.clk := fun _ _ _ _ => rfl
@[simp] theorem Block.wr_due : ∀ (b : Block) (idx sub v : Nat), (b.wr idx sub v).due = b.due := fun _ _ _ _ => rfl
@[simp] theorem Block.wr_resp : ∀ (b : Block) (idx sub v : Nat), (b.wr idx sub v).resp = b.resp := fun _ _ _ _ => rfl
@[simp] theorem Block.wr_out : ∀ (b : Block) (idx sub v : Nat), (b.wr idx sub v).out = b.out := fun _ _ _ _ => rfl
@[simp] theorem Block.wr_free : ∀ (b : Block) (idx sub v : Nat), (b.wr idx sub v).free = b.free := fun _ _ _ _ => rfl

/-! ### wrI -/

@[simp] theorem Block.wrI_part : ∀ (b : Block) (idx sub : Nat) (v : Int), (b.wrI idx sub v).part = b.part := fun _ _ _ _ => rfl
@[simp] theorem Block.wrI_bar : ∀ (b : Block) (idx sub : Nat) (v : Int), (b.wrI idx sub v).bar = b.bar := fun _ _ _ _ => rfl
@[simp] theorem Block.wrI_time : ∀ (b : Block) (idx sub : Nat) (v : Int), (b.wrI idx sub v).time = b.time := fun _ _ _ _ => rfl
@[simp] theorem Block.wrI_packets : ∀ (b : Block) (idx sub : Nat) (v : Int), (b.wrI idx sub v).packets = b.packets := fun _ _ _ _ => rfl
@[simp] theorem Block.wrI_lanes : ∀ (b : Block) (idx sub : Nat) (v : Int), (b.wrI idx sub v).lanes = b.lanes := fun _ _ _ _ => rfl
@[simp] theorem Block.wrI_pods : ∀ (b : Block) (idx sub : Nat) (v : Int), (b.wrI idx sub v).pods = b.pods := fun _ _ _ _ => rfl
@[simp] theorem Block.wrI_engines : ∀ (b : Block) (idx sub : Nat) (v : Int), (b.wrI idx sub v).engines = b.engines := fun _ _ _ _ => rfl
@[simp] theorem Block.wrI_syncAbs : ∀ (b : Block) (idx sub : Nat) (v : Int), (b.wrI idx sub v).syncAbs = b.syncAbs := fun _ _ _ _ => rfl
@[simp] theorem Block.wrI_doms : ∀ (b : Block) (idx sub : Nat) (v : Int), (b.wrI idx sub v).doms = b.doms := fun _ _ _ _ => rfl
@[simp] theorem Block.wrI_outs : ∀ (b : Block) (idx sub : Nat) (v : Int), (b.wrI idx sub v).outs = b.outs := fun _ _ _ _ => rfl
@[simp] theorem Block.wrI_vectors : ∀ (b : Block) (idx sub : Nat) (v : Int), (b.wrI idx sub v).vectors = b.vectors := fun _ _ _ _ => rfl
@[simp] theorem Block.wrI_casc : ∀ (b : Block) (idx sub : Nat) (v : Int), (b.wrI idx sub v).casc = b.casc := fun _ _ _ _ => rfl
@[simp] theorem Block.wrI_ptus : ∀ (b : Block) (idx sub : Nat) (v : Int), (b.wrI idx sub v).ptus = b.ptus := fun _ _ _ _ => rfl
@[simp] theorem Block.wrI_stores : ∀ (b : Block) (idx sub : Nat) (v : Int), (b.wrI idx sub v).stores = b.stores := fun _ _ _ _ => rfl
@[simp] theorem Block.wrI_mops : ∀ (b : Block) (idx sub : Nat) (v : Int), (b.wrI idx sub v).mops = b.mops := fun _ _ _ _ => rfl
@[simp] theorem Block.wrI_units : ∀ (b : Block) (idx sub : Nat) (v : Int), (b.wrI idx sub v).units = b.units := fun _ _ _ _ => rfl
@[simp] theorem Block.wrI_meas : ∀ (b : Block) (idx sub : Nat) (v : Int), (b.wrI idx sub v).meas = b.meas := fun _ _ _ _ => rfl
@[simp] theorem Block.wrI_masks : ∀ (b : Block) (idx sub : Nat) (v : Int), (b.wrI idx sub v).masks = b.masks := fun _ _ _ _ => rfl
@[simp] theorem Block.wrI_hists : ∀ (b : Block) (idx sub : Nat) (v : Int), (b.wrI idx sub v).hists = b.hists := fun _ _ _ _ => rfl
@[simp] theorem Block.wrI_stims : ∀ (b : Block) (idx sub : Nat) (v : Int), (b.wrI idx sub v).stims = b.stims := fun _ _ _ _ => rfl
@[simp] theorem Block.wrI_drivers : ∀ (b : Block) (idx sub : Nat) (v : Int), (b.wrI idx sub v).drivers = b.drivers := fun _ _ _ _ => rfl
@[simp] theorem Block.wrI_banks : ∀ (b : Block) (idx sub : Nat) (v : Int), (b.wrI idx sub v).banks = b.banks := fun _ _ _ _ => rfl
@[simp] theorem Block.wrI_maint : ∀ (b : Block) (idx sub : Nat) (v : Int), (b.wrI idx sub v).maint = b.maint := fun _ _ _ _ => rfl
@[simp] theorem Block.wrI_words : ∀ (b : Block) (idx sub : Nat) (v : Int), (b.wrI idx sub v).words = b.words := fun _ _ _ _ => rfl
@[simp] theorem Block.wrI_tags : ∀ (b : Block) (idx sub : Nat) (v : Int), (b.wrI idx sub v).tags = b.tags := fun _ _ _ _ => rfl
@[simp] theorem Block.wrI_queues : ∀ (b : Block) (idx sub : Nat) (v : Int), (b.wrI idx sub v).queues = b.queues := fun _ _ _ _ => rfl
@[simp] theorem Block.wrI_selectors : ∀ (b : Block) (idx sub : Nat) (v : Int), (b.wrI idx sub v).selectors = b.selectors := fun _ _ _ _ => rfl
@[simp] theorem Block.wrI_errs : ∀ (b : Block) (idx sub : Nat) (v : Int), (b.wrI idx sub v).errs = b.errs := fun _ _ _ _ => rfl
@[simp] theorem Block.wrI_emcy : ∀ (b : Block) (idx sub : Nat) (v : Int), (b.wrI idx sub v).emcy = b.emcy := fun _ _ _ _ => rfl
@[simp] theorem Block.wrI_logWait : ∀ (b : Block) (idx sub : Nat) (v : Int), (b.wrI idx sub v).logWait = b.logWait := fun _ _ _ _ => rfl
@[simp] theorem Block.wrI_lastErr : ∀ (b : Block) (idx sub : Nat) (v : Int), (b.wrI idx sub v).lastErr = b.lastErr := fun _ _ _ _ => rfl
@[simp] theorem Block.wrI_lastAlert : ∀ (b : Block) (idx sub : Nat) (v : Int), (b.wrI idx sub v).lastAlert = b.lastAlert := fun _ _ _ _ => rfl
@[simp] theorem Block.wrI_pcie : ∀ (b : Block) (idx sub : Nat) (v : Int), (b.wrI idx sub v).pcie = b.pcie := fun _ _ _ _ => rfl
@[simp] theorem Block.wrI_sync : ∀ (b : Block) (idx sub : Nat) (v : Int), (b.wrI idx sub v).sync = b.sync := fun _ _ _ _ => rfl
@[simp] theorem Block.wrI_chain : ∀ (b : Block) (idx sub : Nat) (v : Int), (b.wrI idx sub v).chain = b.chain := fun _ _ _ _ => rfl
@[simp] theorem Block.wrI_flash : ∀ (b : Block) (idx sub : Nat) (v : Int), (b.wrI idx sub v).flash = b.flash := fun _ _ _ _ => rfl
@[simp] theorem Block.wrI_power : ∀ (b : Block) (idx sub : Nat) (v : Int), (b.wrI idx sub v).power = b.power := fun _ _ _ _ => rfl
@[simp] theorem Block.wrI_server : ∀ (b : Block) (idx sub : Nat) (v : Int), (b.wrI idx sub v).server = b.server := fun _ _ _ _ => rfl
@[simp] theorem Block.wrI_canPort : ∀ (b : Block) (idx sub : Nat) (v : Int), (b.wrI idx sub v).canPort = b.canPort := fun _ _ _ _ => rfl
@[simp] theorem Block.wrI_clk : ∀ (b : Block) (idx sub : Nat) (v : Int), (b.wrI idx sub v).clk = b.clk := fun _ _ _ _ => rfl
@[simp] theorem Block.wrI_due : ∀ (b : Block) (idx sub : Nat) (v : Int), (b.wrI idx sub v).due = b.due := fun _ _ _ _ => rfl
@[simp] theorem Block.wrI_resp : ∀ (b : Block) (idx sub : Nat) (v : Int), (b.wrI idx sub v).resp = b.resp := fun _ _ _ _ => rfl
@[simp] theorem Block.wrI_out : ∀ (b : Block) (idx sub : Nat) (v : Int), (b.wrI idx sub v).out = b.out := fun _ _ _ _ => rfl
@[simp] theorem Block.wrI_free : ∀ (b : Block) (idx sub : Nat) (v : Int), (b.wrI idx sub v).free = b.free := fun _ _ _ _ => rfl

/-! ### wrBit -/

@[simp] theorem Block.wrBit_part : ∀ (b : Block) (idx sub i : Nat) (v : Bool), (b.wrBit idx sub i v).part = b.part := fun _ _ _ _ _ => rfl
@[simp] theorem Block.wrBit_bar : ∀ (b : Block) (idx sub i : Nat) (v : Bool), (b.wrBit idx sub i v).bar = b.bar := fun _ _ _ _ _ => rfl
@[simp] theorem Block.wrBit_time : ∀ (b : Block) (idx sub i : Nat) (v : Bool), (b.wrBit idx sub i v).time = b.time := fun _ _ _ _ _ => rfl
@[simp] theorem Block.wrBit_packets : ∀ (b : Block) (idx sub i : Nat) (v : Bool), (b.wrBit idx sub i v).packets = b.packets := fun _ _ _ _ _ => rfl
@[simp] theorem Block.wrBit_lanes : ∀ (b : Block) (idx sub i : Nat) (v : Bool), (b.wrBit idx sub i v).lanes = b.lanes := fun _ _ _ _ _ => rfl
@[simp] theorem Block.wrBit_pods : ∀ (b : Block) (idx sub i : Nat) (v : Bool), (b.wrBit idx sub i v).pods = b.pods := fun _ _ _ _ _ => rfl
@[simp] theorem Block.wrBit_engines : ∀ (b : Block) (idx sub i : Nat) (v : Bool), (b.wrBit idx sub i v).engines = b.engines := fun _ _ _ _ _ => rfl
@[simp] theorem Block.wrBit_syncAbs : ∀ (b : Block) (idx sub i : Nat) (v : Bool), (b.wrBit idx sub i v).syncAbs = b.syncAbs := fun _ _ _ _ _ => rfl
@[simp] theorem Block.wrBit_doms : ∀ (b : Block) (idx sub i : Nat) (v : Bool), (b.wrBit idx sub i v).doms = b.doms := fun _ _ _ _ _ => rfl
@[simp] theorem Block.wrBit_outs : ∀ (b : Block) (idx sub i : Nat) (v : Bool), (b.wrBit idx sub i v).outs = b.outs := fun _ _ _ _ _ => rfl
@[simp] theorem Block.wrBit_vectors : ∀ (b : Block) (idx sub i : Nat) (v : Bool), (b.wrBit idx sub i v).vectors = b.vectors := fun _ _ _ _ _ => rfl
@[simp] theorem Block.wrBit_casc : ∀ (b : Block) (idx sub i : Nat) (v : Bool), (b.wrBit idx sub i v).casc = b.casc := fun _ _ _ _ _ => rfl
@[simp] theorem Block.wrBit_ptus : ∀ (b : Block) (idx sub i : Nat) (v : Bool), (b.wrBit idx sub i v).ptus = b.ptus := fun _ _ _ _ _ => rfl
@[simp] theorem Block.wrBit_stores : ∀ (b : Block) (idx sub i : Nat) (v : Bool), (b.wrBit idx sub i v).stores = b.stores := fun _ _ _ _ _ => rfl
@[simp] theorem Block.wrBit_mops : ∀ (b : Block) (idx sub i : Nat) (v : Bool), (b.wrBit idx sub i v).mops = b.mops := fun _ _ _ _ _ => rfl
@[simp] theorem Block.wrBit_units : ∀ (b : Block) (idx sub i : Nat) (v : Bool), (b.wrBit idx sub i v).units = b.units := fun _ _ _ _ _ => rfl
@[simp] theorem Block.wrBit_meas : ∀ (b : Block) (idx sub i : Nat) (v : Bool), (b.wrBit idx sub i v).meas = b.meas := fun _ _ _ _ _ => rfl
@[simp] theorem Block.wrBit_masks : ∀ (b : Block) (idx sub i : Nat) (v : Bool), (b.wrBit idx sub i v).masks = b.masks := fun _ _ _ _ _ => rfl
@[simp] theorem Block.wrBit_hists : ∀ (b : Block) (idx sub i : Nat) (v : Bool), (b.wrBit idx sub i v).hists = b.hists := fun _ _ _ _ _ => rfl
@[simp] theorem Block.wrBit_stims : ∀ (b : Block) (idx sub i : Nat) (v : Bool), (b.wrBit idx sub i v).stims = b.stims := fun _ _ _ _ _ => rfl
@[simp] theorem Block.wrBit_drivers : ∀ (b : Block) (idx sub i : Nat) (v : Bool), (b.wrBit idx sub i v).drivers = b.drivers := fun _ _ _ _ _ => rfl
@[simp] theorem Block.wrBit_banks : ∀ (b : Block) (idx sub i : Nat) (v : Bool), (b.wrBit idx sub i v).banks = b.banks := fun _ _ _ _ _ => rfl
@[simp] theorem Block.wrBit_maint : ∀ (b : Block) (idx sub i : Nat) (v : Bool), (b.wrBit idx sub i v).maint = b.maint := fun _ _ _ _ _ => rfl
@[simp] theorem Block.wrBit_words : ∀ (b : Block) (idx sub i : Nat) (v : Bool), (b.wrBit idx sub i v).words = b.words := fun _ _ _ _ _ => rfl
@[simp] theorem Block.wrBit_tags : ∀ (b : Block) (idx sub i : Nat) (v : Bool), (b.wrBit idx sub i v).tags = b.tags := fun _ _ _ _ _ => rfl
@[simp] theorem Block.wrBit_queues : ∀ (b : Block) (idx sub i : Nat) (v : Bool), (b.wrBit idx sub i v).queues = b.queues := fun _ _ _ _ _ => rfl
@[simp] theorem Block.wrBit_selectors : ∀ (b : Block) (idx sub i : Nat) (v : Bool), (b.wrBit idx sub i v).selectors = b.selectors := fun _ _ _ _ _ => rfl
@[simp] theorem Block.wrBit_errs : ∀ (b : Block) (idx sub i : Nat) (v : Bool), (b.wrBit idx sub i v).errs = b.errs := fun _ _ _ _ _ => rfl
@[simp] theorem Block.wrBit_emcy : ∀ (b : Block) (idx sub i : Nat) (v : Bool), (b.wrBit idx sub i v).emcy = b.emcy := fun _ _ _ _ _ => rfl
@[simp] theorem Block.wrBit_logWait : ∀ (b : Block) (idx sub i : Nat) (v : Bool), (b.wrBit idx sub i v).logWait = b.logWait := fun _ _ _ _ _ => rfl
@[simp] theorem Block.wrBit_lastErr : ∀ (b : Block) (idx sub i : Nat) (v : Bool), (b.wrBit idx sub i v).lastErr = b.lastErr := fun _ _ _ _ _ => rfl
@[simp] theorem Block.wrBit_lastAlert : ∀ (b : Block) (idx sub i : Nat) (v : Bool), (b.wrBit idx sub i v).lastAlert = b.lastAlert := fun _ _ _ _ _ => rfl
@[simp] theorem Block.wrBit_pcie : ∀ (b : Block) (idx sub i : Nat) (v : Bool), (b.wrBit idx sub i v).pcie = b.pcie := fun _ _ _ _ _ => rfl
@[simp] theorem Block.wrBit_sync : ∀ (b : Block) (idx sub i : Nat) (v : Bool), (b.wrBit idx sub i v).sync = b.sync := fun _ _ _ _ _ => rfl
@[simp] theorem Block.wrBit_chain : ∀ (b : Block) (idx sub i : Nat) (v : Bool), (b.wrBit idx sub i v).chain = b.chain := fun _ _ _ _ _ => rfl
@[simp] theorem Block.wrBit_flash : ∀ (b : Block) (idx sub i : Nat) (v : Bool), (b.wrBit idx sub i v).flash = b.flash := fun _ _ _ _ _ => rfl
@[simp] theorem Block.wrBit_power : ∀ (b : Block) (idx sub i : Nat) (v : Bool), (b.wrBit idx sub i v).power = b.power := fun _ _ _ _ _ => rfl
@[simp] theorem Block.wrBit_server : ∀ (b : Block) (idx sub i : Nat) (v : Bool), (b.wrBit idx sub i v).server = b.server := fun _ _ _ _ _ => rfl
@[simp] theorem Block.wrBit_canPort : ∀ (b : Block) (idx sub i : Nat) (v : Bool), (b.wrBit idx sub i v).canPort = b.canPort := fun _ _ _ _ _ => rfl
@[simp] theorem Block.wrBit_clk : ∀ (b : Block) (idx sub i : Nat) (v : Bool), (b.wrBit idx sub i v).clk = b.clk := fun _ _ _ _ _ => rfl
@[simp] theorem Block.wrBit_due : ∀ (b : Block) (idx sub i : Nat) (v : Bool), (b.wrBit idx sub i v).due = b.due := fun _ _ _ _ _ => rfl
@[simp] theorem Block.wrBit_resp : ∀ (b : Block) (idx sub i : Nat) (v : Bool), (b.wrBit idx sub i v).resp = b.resp := fun _ _ _ _ _ => rfl
@[simp] theorem Block.wrBit_out : ∀ (b : Block) (idx sub i : Nat) (v : Bool), (b.wrBit idx sub i v).out = b.out := fun _ _ _ _ _ => rfl
@[simp] theorem Block.wrBit_free : ∀ (b : Block) (idx sub i : Nat) (v : Bool), (b.wrBit idx sub i v).free = b.free := fun _ _ _ _ _ => rfl

/-! ### bump -/

@[simp] theorem Block.bump_part : ∀ (b : Block) (w idx sub n : Nat), (b.bump w idx sub n).part = b.part := fun _ _ _ _ _ => rfl
@[simp] theorem Block.bump_bar : ∀ (b : Block) (w idx sub n : Nat), (b.bump w idx sub n).bar = b.bar := fun _ _ _ _ _ => rfl
@[simp] theorem Block.bump_time : ∀ (b : Block) (w idx sub n : Nat), (b.bump w idx sub n).time = b.time := fun _ _ _ _ _ => rfl
@[simp] theorem Block.bump_packets : ∀ (b : Block) (w idx sub n : Nat), (b.bump w idx sub n).packets = b.packets := fun _ _ _ _ _ => rfl
@[simp] theorem Block.bump_lanes : ∀ (b : Block) (w idx sub n : Nat), (b.bump w idx sub n).lanes = b.lanes := fun _ _ _ _ _ => rfl
@[simp] theorem Block.bump_pods : ∀ (b : Block) (w idx sub n : Nat), (b.bump w idx sub n).pods = b.pods := fun _ _ _ _ _ => rfl
@[simp] theorem Block.bump_engines : ∀ (b : Block) (w idx sub n : Nat), (b.bump w idx sub n).engines = b.engines := fun _ _ _ _ _ => rfl
@[simp] theorem Block.bump_syncAbs : ∀ (b : Block) (w idx sub n : Nat), (b.bump w idx sub n).syncAbs = b.syncAbs := fun _ _ _ _ _ => rfl
@[simp] theorem Block.bump_doms : ∀ (b : Block) (w idx sub n : Nat), (b.bump w idx sub n).doms = b.doms := fun _ _ _ _ _ => rfl
@[simp] theorem Block.bump_outs : ∀ (b : Block) (w idx sub n : Nat), (b.bump w idx sub n).outs = b.outs := fun _ _ _ _ _ => rfl
@[simp] theorem Block.bump_vectors : ∀ (b : Block) (w idx sub n : Nat), (b.bump w idx sub n).vectors = b.vectors := fun _ _ _ _ _ => rfl
@[simp] theorem Block.bump_casc : ∀ (b : Block) (w idx sub n : Nat), (b.bump w idx sub n).casc = b.casc := fun _ _ _ _ _ => rfl
@[simp] theorem Block.bump_ptus : ∀ (b : Block) (w idx sub n : Nat), (b.bump w idx sub n).ptus = b.ptus := fun _ _ _ _ _ => rfl
@[simp] theorem Block.bump_stores : ∀ (b : Block) (w idx sub n : Nat), (b.bump w idx sub n).stores = b.stores := fun _ _ _ _ _ => rfl
@[simp] theorem Block.bump_mops : ∀ (b : Block) (w idx sub n : Nat), (b.bump w idx sub n).mops = b.mops := fun _ _ _ _ _ => rfl
@[simp] theorem Block.bump_units : ∀ (b : Block) (w idx sub n : Nat), (b.bump w idx sub n).units = b.units := fun _ _ _ _ _ => rfl
@[simp] theorem Block.bump_meas : ∀ (b : Block) (w idx sub n : Nat), (b.bump w idx sub n).meas = b.meas := fun _ _ _ _ _ => rfl
@[simp] theorem Block.bump_masks : ∀ (b : Block) (w idx sub n : Nat), (b.bump w idx sub n).masks = b.masks := fun _ _ _ _ _ => rfl
@[simp] theorem Block.bump_hists : ∀ (b : Block) (w idx sub n : Nat), (b.bump w idx sub n).hists = b.hists := fun _ _ _ _ _ => rfl
@[simp] theorem Block.bump_stims : ∀ (b : Block) (w idx sub n : Nat), (b.bump w idx sub n).stims = b.stims := fun _ _ _ _ _ => rfl
@[simp] theorem Block.bump_drivers : ∀ (b : Block) (w idx sub n : Nat), (b.bump w idx sub n).drivers = b.drivers := fun _ _ _ _ _ => rfl
@[simp] theorem Block.bump_banks : ∀ (b : Block) (w idx sub n : Nat), (b.bump w idx sub n).banks = b.banks := fun _ _ _ _ _ => rfl
@[simp] theorem Block.bump_maint : ∀ (b : Block) (w idx sub n : Nat), (b.bump w idx sub n).maint = b.maint := fun _ _ _ _ _ => rfl
@[simp] theorem Block.bump_words : ∀ (b : Block) (w idx sub n : Nat), (b.bump w idx sub n).words = b.words := fun _ _ _ _ _ => rfl
@[simp] theorem Block.bump_tags : ∀ (b : Block) (w idx sub n : Nat), (b.bump w idx sub n).tags = b.tags := fun _ _ _ _ _ => rfl
@[simp] theorem Block.bump_queues : ∀ (b : Block) (w idx sub n : Nat), (b.bump w idx sub n).queues = b.queues := fun _ _ _ _ _ => rfl
@[simp] theorem Block.bump_selectors : ∀ (b : Block) (w idx sub n : Nat), (b.bump w idx sub n).selectors = b.selectors := fun _ _ _ _ _ => rfl
@[simp] theorem Block.bump_errs : ∀ (b : Block) (w idx sub n : Nat), (b.bump w idx sub n).errs = b.errs := fun _ _ _ _ _ => rfl
@[simp] theorem Block.bump_emcy : ∀ (b : Block) (w idx sub n : Nat), (b.bump w idx sub n).emcy = b.emcy := fun _ _ _ _ _ => rfl
@[simp] theorem Block.bump_logWait : ∀ (b : Block) (w idx sub n : Nat), (b.bump w idx sub n).logWait = b.logWait := fun _ _ _ _ _ => rfl
@[simp] theorem Block.bump_lastErr : ∀ (b : Block) (w idx sub n : Nat), (b.bump w idx sub n).lastErr = b.lastErr := fun _ _ _ _ _ => rfl
@[simp] theorem Block.bump_lastAlert : ∀ (b : Block) (w idx sub n : Nat), (b.bump w idx sub n).lastAlert = b.lastAlert := fun _ _ _ _ _ => rfl
@[simp] theorem Block.bump_pcie : ∀ (b : Block) (w idx sub n : Nat), (b.bump w idx sub n).pcie = b.pcie := fun _ _ _ _ _ => rfl
@[simp] theorem Block.bump_sync : ∀ (b : Block) (w idx sub n : Nat), (b.bump w idx sub n).sync = b.sync := fun _ _ _ _ _ => rfl
@[simp] theorem Block.bump_chain : ∀ (b : Block) (w idx sub n : Nat), (b.bump w idx sub n).chain = b.chain := fun _ _ _ _ _ => rfl
@[simp] theorem Block.bump_flash : ∀ (b : Block) (w idx sub n : Nat), (b.bump w idx sub n).flash = b.flash := fun _ _ _ _ _ => rfl
@[simp] theorem Block.bump_power : ∀ (b : Block) (w idx sub n : Nat), (b.bump w idx sub n).power = b.power := fun _ _ _ _ _ => rfl
@[simp] theorem Block.bump_server : ∀ (b : Block) (w idx sub n : Nat), (b.bump w idx sub n).server = b.server := fun _ _ _ _ _ => rfl
@[simp] theorem Block.bump_canPort : ∀ (b : Block) (w idx sub n : Nat), (b.bump w idx sub n).canPort = b.canPort := fun _ _ _ _ _ => rfl
@[simp] theorem Block.bump_clk : ∀ (b : Block) (w idx sub n : Nat), (b.bump w idx sub n).clk = b.clk := fun _ _ _ _ _ => rfl
@[simp] theorem Block.bump_due : ∀ (b : Block) (w idx sub n : Nat), (b.bump w idx sub n).due = b.due := fun _ _ _ _ _ => rfl
@[simp] theorem Block.bump_resp : ∀ (b : Block) (w idx sub n : Nat), (b.bump w idx sub n).resp = b.resp := fun _ _ _ _ _ => rfl
@[simp] theorem Block.bump_out : ∀ (b : Block) (w idx sub n : Nat), (b.bump w idx sub n).out = b.out := fun _ _ _ _ _ => rfl
@[simp] theorem Block.bump_free : ∀ (b : Block) (w idx sub n : Nat), (b.bump w idx sub n).free = b.free := fun _ _ _ _ _ => rfl

/-! ### flag -/

@[simp] theorem Block.flag_part : ∀ (b : Block) (idx sub csub n : Nat), (b.flag idx sub csub n).part = b.part := fun _ _ _ _ _ => rfl
@[simp] theorem Block.flag_bar : ∀ (b : Block) (idx sub csub n : Nat), (b.flag idx sub csub n).bar = b.bar := fun _ _ _ _ _ => rfl
@[simp] theorem Block.flag_time : ∀ (b : Block) (idx sub csub n : Nat), (b.flag idx sub csub n).time = b.time := fun _ _ _ _ _ => rfl
@[simp] theorem Block.flag_packets : ∀ (b : Block) (idx sub csub n : Nat), (b.flag idx sub csub n).packets = b.packets := fun _ _ _ _ _ => rfl
@[simp] theorem Block.flag_lanes : ∀ (b : Block) (idx sub csub n : Nat), (b.flag idx sub csub n).lanes = b.lanes := fun _ _ _ _ _ => rfl
@[simp] theorem Block.flag_pods : ∀ (b : Block) (idx sub csub n : Nat), (b.flag idx sub csub n).pods = b.pods := fun _ _ _ _ _ => rfl
@[simp] theorem Block.flag_engines : ∀ (b : Block) (idx sub csub n : Nat), (b.flag idx sub csub n).engines = b.engines := fun _ _ _ _ _ => rfl
@[simp] theorem Block.flag_syncAbs : ∀ (b : Block) (idx sub csub n : Nat), (b.flag idx sub csub n).syncAbs = b.syncAbs := fun _ _ _ _ _ => rfl
@[simp] theorem Block.flag_doms : ∀ (b : Block) (idx sub csub n : Nat), (b.flag idx sub csub n).doms = b.doms := fun _ _ _ _ _ => rfl
@[simp] theorem Block.flag_outs : ∀ (b : Block) (idx sub csub n : Nat), (b.flag idx sub csub n).outs = b.outs := fun _ _ _ _ _ => rfl
@[simp] theorem Block.flag_vectors : ∀ (b : Block) (idx sub csub n : Nat), (b.flag idx sub csub n).vectors = b.vectors := fun _ _ _ _ _ => rfl
@[simp] theorem Block.flag_casc : ∀ (b : Block) (idx sub csub n : Nat), (b.flag idx sub csub n).casc = b.casc := fun _ _ _ _ _ => rfl
@[simp] theorem Block.flag_ptus : ∀ (b : Block) (idx sub csub n : Nat), (b.flag idx sub csub n).ptus = b.ptus := fun _ _ _ _ _ => rfl
@[simp] theorem Block.flag_stores : ∀ (b : Block) (idx sub csub n : Nat), (b.flag idx sub csub n).stores = b.stores := fun _ _ _ _ _ => rfl
@[simp] theorem Block.flag_mops : ∀ (b : Block) (idx sub csub n : Nat), (b.flag idx sub csub n).mops = b.mops := fun _ _ _ _ _ => rfl
@[simp] theorem Block.flag_units : ∀ (b : Block) (idx sub csub n : Nat), (b.flag idx sub csub n).units = b.units := fun _ _ _ _ _ => rfl
@[simp] theorem Block.flag_meas : ∀ (b : Block) (idx sub csub n : Nat), (b.flag idx sub csub n).meas = b.meas := fun _ _ _ _ _ => rfl
@[simp] theorem Block.flag_masks : ∀ (b : Block) (idx sub csub n : Nat), (b.flag idx sub csub n).masks = b.masks := fun _ _ _ _ _ => rfl
@[simp] theorem Block.flag_hists : ∀ (b : Block) (idx sub csub n : Nat), (b.flag idx sub csub n).hists = b.hists := fun _ _ _ _ _ => rfl
@[simp] theorem Block.flag_stims : ∀ (b : Block) (idx sub csub n : Nat), (b.flag idx sub csub n).stims = b.stims := fun _ _ _ _ _ => rfl
@[simp] theorem Block.flag_drivers : ∀ (b : Block) (idx sub csub n : Nat), (b.flag idx sub csub n).drivers = b.drivers := fun _ _ _ _ _ => rfl
@[simp] theorem Block.flag_banks : ∀ (b : Block) (idx sub csub n : Nat), (b.flag idx sub csub n).banks = b.banks := fun _ _ _ _ _ => rfl
@[simp] theorem Block.flag_maint : ∀ (b : Block) (idx sub csub n : Nat), (b.flag idx sub csub n).maint = b.maint := fun _ _ _ _ _ => rfl
@[simp] theorem Block.flag_words : ∀ (b : Block) (idx sub csub n : Nat), (b.flag idx sub csub n).words = b.words := fun _ _ _ _ _ => rfl
@[simp] theorem Block.flag_tags : ∀ (b : Block) (idx sub csub n : Nat), (b.flag idx sub csub n).tags = b.tags := fun _ _ _ _ _ => rfl
@[simp] theorem Block.flag_queues : ∀ (b : Block) (idx sub csub n : Nat), (b.flag idx sub csub n).queues = b.queues := fun _ _ _ _ _ => rfl
@[simp] theorem Block.flag_selectors : ∀ (b : Block) (idx sub csub n : Nat), (b.flag idx sub csub n).selectors = b.selectors := fun _ _ _ _ _ => rfl
@[simp] theorem Block.flag_errs : ∀ (b : Block) (idx sub csub n : Nat), (b.flag idx sub csub n).errs = b.errs := fun _ _ _ _ _ => rfl
@[simp] theorem Block.flag_emcy : ∀ (b : Block) (idx sub csub n : Nat), (b.flag idx sub csub n).emcy = b.emcy := fun _ _ _ _ _ => rfl
@[simp] theorem Block.flag_logWait : ∀ (b : Block) (idx sub csub n : Nat), (b.flag idx sub csub n).logWait = b.logWait := fun _ _ _ _ _ => rfl
@[simp] theorem Block.flag_lastErr : ∀ (b : Block) (idx sub csub n : Nat), (b.flag idx sub csub n).lastErr = b.lastErr := fun _ _ _ _ _ => rfl
@[simp] theorem Block.flag_lastAlert : ∀ (b : Block) (idx sub csub n : Nat), (b.flag idx sub csub n).lastAlert = b.lastAlert := fun _ _ _ _ _ => rfl
@[simp] theorem Block.flag_pcie : ∀ (b : Block) (idx sub csub n : Nat), (b.flag idx sub csub n).pcie = b.pcie := fun _ _ _ _ _ => rfl
@[simp] theorem Block.flag_sync : ∀ (b : Block) (idx sub csub n : Nat), (b.flag idx sub csub n).sync = b.sync := fun _ _ _ _ _ => rfl
@[simp] theorem Block.flag_chain : ∀ (b : Block) (idx sub csub n : Nat), (b.flag idx sub csub n).chain = b.chain := fun _ _ _ _ _ => rfl
@[simp] theorem Block.flag_flash : ∀ (b : Block) (idx sub csub n : Nat), (b.flag idx sub csub n).flash = b.flash := fun _ _ _ _ _ => rfl
@[simp] theorem Block.flag_power : ∀ (b : Block) (idx sub csub n : Nat), (b.flag idx sub csub n).power = b.power := fun _ _ _ _ _ => rfl
@[simp] theorem Block.flag_server : ∀ (b : Block) (idx sub csub n : Nat), (b.flag idx sub csub n).server = b.server := fun _ _ _ _ _ => rfl
@[simp] theorem Block.flag_canPort : ∀ (b : Block) (idx sub csub n : Nat), (b.flag idx sub csub n).canPort = b.canPort := fun _ _ _ _ _ => rfl
@[simp] theorem Block.flag_clk : ∀ (b : Block) (idx sub csub n : Nat), (b.flag idx sub csub n).clk = b.clk := fun _ _ _ _ _ => rfl
@[simp] theorem Block.flag_due : ∀ (b : Block) (idx sub csub n : Nat), (b.flag idx sub csub n).due = b.due := fun _ _ _ _ _ => rfl
@[simp] theorem Block.flag_resp : ∀ (b : Block) (idx sub csub n : Nat), (b.flag idx sub csub n).resp = b.resp := fun _ _ _ _ _ => rfl
@[simp] theorem Block.flag_out : ∀ (b : Block) (idx sub csub n : Nat), (b.flag idx sub csub n).out = b.out := fun _ _ _ _ _ => rfl
@[simp] theorem Block.flag_free : ∀ (b : Block) (idx sub csub n : Nat), (b.flag idx sub csub n).free = b.free := fun _ _ _ _ _ => rfl

/-! ### bset -/

@[simp] theorem Block.bset_part : ∀ (b : Block) (off k v : Nat), (b.bset off k v).part = b.part := fun _ _ _ _ => rfl
@[simp] theorem Block.bset_regs : ∀ (b : Block) (off k v : Nat), (b.bset off k v).regs = b.regs := fun _ _ _ _ => rfl
@[simp] theorem Block.bset_time : ∀ (b : Block) (off k v : Nat), (b.bset off k v).time = b.time := fun _ _ _ _ => rfl
@[simp] theorem Block.bset_packets : ∀ (b : Block) (off k v : Nat), (b.bset off k v).packets = b.packets := fun _ _ _ _ => rfl
@[simp] theorem Block.bset_lanes : ∀ (b : Block) (off k v : Nat), (b.bset off k v).lanes = b.lanes := fun _ _ _ _ => rfl
@[simp] theorem Block.bset_pods : ∀ (b : Block) (off k v : Nat), (b.bset off k v).pods = b.pods := fun _ _ _ _ => rfl
@[simp] theorem Block.bset_engines : ∀ (b : Block) (off k v : Nat), (b.bset off k v).engines = b.engines := fun _ _ _ _ => rfl
@[simp] theorem Block.bset_syncAbs : ∀ (b : Block) (off k v : Nat), (b.bset off k v).syncAbs = b.syncAbs := fun _ _ _ _ => rfl
@[simp] theorem Block.bset_doms : ∀ (b : Block) (off k v : Nat), (b.bset off k v).doms = b.doms := fun _ _ _ _ => rfl
@[simp] theorem Block.bset_outs : ∀ (b : Block) (off k v : Nat), (b.bset off k v).outs = b.outs := fun _ _ _ _ => rfl
@[simp] theorem Block.bset_vectors : ∀ (b : Block) (off k v : Nat), (b.bset off k v).vectors = b.vectors := fun _ _ _ _ => rfl
@[simp] theorem Block.bset_casc : ∀ (b : Block) (off k v : Nat), (b.bset off k v).casc = b.casc := fun _ _ _ _ => rfl
@[simp] theorem Block.bset_ptus : ∀ (b : Block) (off k v : Nat), (b.bset off k v).ptus = b.ptus := fun _ _ _ _ => rfl
@[simp] theorem Block.bset_stores : ∀ (b : Block) (off k v : Nat), (b.bset off k v).stores = b.stores := fun _ _ _ _ => rfl
@[simp] theorem Block.bset_mops : ∀ (b : Block) (off k v : Nat), (b.bset off k v).mops = b.mops := fun _ _ _ _ => rfl
@[simp] theorem Block.bset_units : ∀ (b : Block) (off k v : Nat), (b.bset off k v).units = b.units := fun _ _ _ _ => rfl
@[simp] theorem Block.bset_meas : ∀ (b : Block) (off k v : Nat), (b.bset off k v).meas = b.meas := fun _ _ _ _ => rfl
@[simp] theorem Block.bset_masks : ∀ (b : Block) (off k v : Nat), (b.bset off k v).masks = b.masks := fun _ _ _ _ => rfl
@[simp] theorem Block.bset_hists : ∀ (b : Block) (off k v : Nat), (b.bset off k v).hists = b.hists := fun _ _ _ _ => rfl
@[simp] theorem Block.bset_stims : ∀ (b : Block) (off k v : Nat), (b.bset off k v).stims = b.stims := fun _ _ _ _ => rfl
@[simp] theorem Block.bset_drivers : ∀ (b : Block) (off k v : Nat), (b.bset off k v).drivers = b.drivers := fun _ _ _ _ => rfl
@[simp] theorem Block.bset_banks : ∀ (b : Block) (off k v : Nat), (b.bset off k v).banks = b.banks := fun _ _ _ _ => rfl
@[simp] theorem Block.bset_maint : ∀ (b : Block) (off k v : Nat), (b.bset off k v).maint = b.maint := fun _ _ _ _ => rfl
@[simp] theorem Block.bset_words : ∀ (b : Block) (off k v : Nat), (b.bset off k v).words = b.words := fun _ _ _ _ => rfl
@[simp] theorem Block.bset_tags : ∀ (b : Block) (off k v : Nat), (b.bset off k v).tags = b.tags := fun _ _ _ _ => rfl
@[simp] theorem Block.bset_queues : ∀ (b : Block) (off k v : Nat), (b.bset off k v).queues = b.queues := fun _ _ _ _ => rfl
@[simp] theorem Block.bset_selectors : ∀ (b : Block) (off k v : Nat), (b.bset off k v).selectors = b.selectors := fun _ _ _ _ => rfl
@[simp] theorem Block.bset_errs : ∀ (b : Block) (off k v : Nat), (b.bset off k v).errs = b.errs := fun _ _ _ _ => rfl
@[simp] theorem Block.bset_emcy : ∀ (b : Block) (off k v : Nat), (b.bset off k v).emcy = b.emcy := fun _ _ _ _ => rfl
@[simp] theorem Block.bset_logWait : ∀ (b : Block) (off k v : Nat), (b.bset off k v).logWait = b.logWait := fun _ _ _ _ => rfl
@[simp] theorem Block.bset_lastErr : ∀ (b : Block) (off k v : Nat), (b.bset off k v).lastErr = b.lastErr := fun _ _ _ _ => rfl
@[simp] theorem Block.bset_lastAlert : ∀ (b : Block) (off k v : Nat), (b.bset off k v).lastAlert = b.lastAlert := fun _ _ _ _ => rfl
@[simp] theorem Block.bset_pcie : ∀ (b : Block) (off k v : Nat), (b.bset off k v).pcie = b.pcie := fun _ _ _ _ => rfl
@[simp] theorem Block.bset_sync : ∀ (b : Block) (off k v : Nat), (b.bset off k v).sync = b.sync := fun _ _ _ _ => rfl
@[simp] theorem Block.bset_chain : ∀ (b : Block) (off k v : Nat), (b.bset off k v).chain = b.chain := fun _ _ _ _ => rfl
@[simp] theorem Block.bset_flash : ∀ (b : Block) (off k v : Nat), (b.bset off k v).flash = b.flash := fun _ _ _ _ => rfl
@[simp] theorem Block.bset_power : ∀ (b : Block) (off k v : Nat), (b.bset off k v).power = b.power := fun _ _ _ _ => rfl
@[simp] theorem Block.bset_server : ∀ (b : Block) (off k v : Nat), (b.bset off k v).server = b.server := fun _ _ _ _ => rfl
@[simp] theorem Block.bset_canPort : ∀ (b : Block) (off k v : Nat), (b.bset off k v).canPort = b.canPort := fun _ _ _ _ => rfl
@[simp] theorem Block.bset_clk : ∀ (b : Block) (off k v : Nat), (b.bset off k v).clk = b.clk := fun _ _ _ _ => rfl
@[simp] theorem Block.bset_due : ∀ (b : Block) (off k v : Nat), (b.bset off k v).due = b.due := fun _ _ _ _ => rfl
@[simp] theorem Block.bset_resp : ∀ (b : Block) (off k v : Nat), (b.bset off k v).resp = b.resp := fun _ _ _ _ => rfl
@[simp] theorem Block.bset_out : ∀ (b : Block) (off k v : Nat), (b.bset off k v).out = b.out := fun _ _ _ _ => rfl
@[simp] theorem Block.bset_free : ∀ (b : Block) (off k v : Nat), (b.bset off k v).free = b.free := fun _ _ _ _ => rfl

/-! ### setLane -/

@[simp] theorem Block.setLane_part : ∀ (b : Block) (l : Nat) (x : Lane), (b.setLane l x).part = b.part := fun _ _ _ => rfl
@[simp] theorem Block.setLane_regs : ∀ (b : Block) (l : Nat) (x : Lane), (b.setLane l x).regs = b.regs := fun _ _ _ => rfl
@[simp] theorem Block.setLane_bar : ∀ (b : Block) (l : Nat) (x : Lane), (b.setLane l x).bar = b.bar := fun _ _ _ => rfl
@[simp] theorem Block.setLane_time : ∀ (b : Block) (l : Nat) (x : Lane), (b.setLane l x).time = b.time := fun _ _ _ => rfl
@[simp] theorem Block.setLane_packets : ∀ (b : Block) (l : Nat) (x : Lane), (b.setLane l x).packets = b.packets := fun _ _ _ => rfl
@[simp] theorem Block.setLane_pods : ∀ (b : Block) (l : Nat) (x : Lane), (b.setLane l x).pods = b.pods := fun _ _ _ => rfl
@[simp] theorem Block.setLane_engines : ∀ (b : Block) (l : Nat) (x : Lane), (b.setLane l x).engines = b.engines := fun _ _ _ => rfl
@[simp] theorem Block.setLane_syncAbs : ∀ (b : Block) (l : Nat) (x : Lane), (b.setLane l x).syncAbs = b.syncAbs := fun _ _ _ => rfl
@[simp] theorem Block.setLane_doms : ∀ (b : Block) (l : Nat) (x : Lane), (b.setLane l x).doms = b.doms := fun _ _ _ => rfl
@[simp] theorem Block.setLane_outs : ∀ (b : Block) (l : Nat) (x : Lane), (b.setLane l x).outs = b.outs := fun _ _ _ => rfl
@[simp] theorem Block.setLane_vectors : ∀ (b : Block) (l : Nat) (x : Lane), (b.setLane l x).vectors = b.vectors := fun _ _ _ => rfl
@[simp] theorem Block.setLane_casc : ∀ (b : Block) (l : Nat) (x : Lane), (b.setLane l x).casc = b.casc := fun _ _ _ => rfl
@[simp] theorem Block.setLane_ptus : ∀ (b : Block) (l : Nat) (x : Lane), (b.setLane l x).ptus = b.ptus := fun _ _ _ => rfl
@[simp] theorem Block.setLane_stores : ∀ (b : Block) (l : Nat) (x : Lane), (b.setLane l x).stores = b.stores := fun _ _ _ => rfl
@[simp] theorem Block.setLane_mops : ∀ (b : Block) (l : Nat) (x : Lane), (b.setLane l x).mops = b.mops := fun _ _ _ => rfl
@[simp] theorem Block.setLane_units : ∀ (b : Block) (l : Nat) (x : Lane), (b.setLane l x).units = b.units := fun _ _ _ => rfl
@[simp] theorem Block.setLane_meas : ∀ (b : Block) (l : Nat) (x : Lane), (b.setLane l x).meas = b.meas := fun _ _ _ => rfl
@[simp] theorem Block.setLane_masks : ∀ (b : Block) (l : Nat) (x : Lane), (b.setLane l x).masks = b.masks := fun _ _ _ => rfl
@[simp] theorem Block.setLane_hists : ∀ (b : Block) (l : Nat) (x : Lane), (b.setLane l x).hists = b.hists := fun _ _ _ => rfl
@[simp] theorem Block.setLane_stims : ∀ (b : Block) (l : Nat) (x : Lane), (b.setLane l x).stims = b.stims := fun _ _ _ => rfl
@[simp] theorem Block.setLane_drivers : ∀ (b : Block) (l : Nat) (x : Lane), (b.setLane l x).drivers = b.drivers := fun _ _ _ => rfl
@[simp] theorem Block.setLane_banks : ∀ (b : Block) (l : Nat) (x : Lane), (b.setLane l x).banks = b.banks := fun _ _ _ => rfl
@[simp] theorem Block.setLane_maint : ∀ (b : Block) (l : Nat) (x : Lane), (b.setLane l x).maint = b.maint := fun _ _ _ => rfl
@[simp] theorem Block.setLane_words : ∀ (b : Block) (l : Nat) (x : Lane), (b.setLane l x).words = b.words := fun _ _ _ => rfl
@[simp] theorem Block.setLane_tags : ∀ (b : Block) (l : Nat) (x : Lane), (b.setLane l x).tags = b.tags := fun _ _ _ => rfl
@[simp] theorem Block.setLane_queues : ∀ (b : Block) (l : Nat) (x : Lane), (b.setLane l x).queues = b.queues := fun _ _ _ => rfl
@[simp] theorem Block.setLane_selectors : ∀ (b : Block) (l : Nat) (x : Lane), (b.setLane l x).selectors = b.selectors := fun _ _ _ => rfl
@[simp] theorem Block.setLane_errs : ∀ (b : Block) (l : Nat) (x : Lane), (b.setLane l x).errs = b.errs := fun _ _ _ => rfl
@[simp] theorem Block.setLane_emcy : ∀ (b : Block) (l : Nat) (x : Lane), (b.setLane l x).emcy = b.emcy := fun _ _ _ => rfl
@[simp] theorem Block.setLane_logWait : ∀ (b : Block) (l : Nat) (x : Lane), (b.setLane l x).logWait = b.logWait := fun _ _ _ => rfl
@[simp] theorem Block.setLane_lastErr : ∀ (b : Block) (l : Nat) (x : Lane), (b.setLane l x).lastErr = b.lastErr := fun _ _ _ => rfl
@[simp] theorem Block.setLane_lastAlert : ∀ (b : Block) (l : Nat) (x : Lane), (b.setLane l x).lastAlert = b.lastAlert := fun _ _ _ => rfl
@[simp] theorem Block.setLane_pcie : ∀ (b : Block) (l : Nat) (x : Lane), (b.setLane l x).pcie = b.pcie := fun _ _ _ => rfl
@[simp] theorem Block.setLane_sync : ∀ (b : Block) (l : Nat) (x : Lane), (b.setLane l x).sync = b.sync := fun _ _ _ => rfl
@[simp] theorem Block.setLane_chain : ∀ (b : Block) (l : Nat) (x : Lane), (b.setLane l x).chain = b.chain := fun _ _ _ => rfl
@[simp] theorem Block.setLane_flash : ∀ (b : Block) (l : Nat) (x : Lane), (b.setLane l x).flash = b.flash := fun _ _ _ => rfl
@[simp] theorem Block.setLane_power : ∀ (b : Block) (l : Nat) (x : Lane), (b.setLane l x).power = b.power := fun _ _ _ => rfl
@[simp] theorem Block.setLane_server : ∀ (b : Block) (l : Nat) (x : Lane), (b.setLane l x).server = b.server := fun _ _ _ => rfl
@[simp] theorem Block.setLane_canPort : ∀ (b : Block) (l : Nat) (x : Lane), (b.setLane l x).canPort = b.canPort := fun _ _ _ => rfl
@[simp] theorem Block.setLane_clk : ∀ (b : Block) (l : Nat) (x : Lane), (b.setLane l x).clk = b.clk := fun _ _ _ => rfl
@[simp] theorem Block.setLane_due : ∀ (b : Block) (l : Nat) (x : Lane), (b.setLane l x).due = b.due := fun _ _ _ => rfl
@[simp] theorem Block.setLane_resp : ∀ (b : Block) (l : Nat) (x : Lane), (b.setLane l x).resp = b.resp := fun _ _ _ => rfl
@[simp] theorem Block.setLane_out : ∀ (b : Block) (l : Nat) (x : Lane), (b.setLane l x).out = b.out := fun _ _ _ => rfl
@[simp] theorem Block.setLane_free : ∀ (b : Block) (l : Nat) (x : Lane), (b.setLane l x).free = b.free := fun _ _ _ => rfl

/-! ### setPod -/

@[simp] theorem Block.setPod_part : ∀ (b : Block) (n : Nat) (x : Pod), (b.setPod n x).part = b.part := fun _ _ _ => rfl
@[simp] theorem Block.setPod_regs : ∀ (b : Block) (n : Nat) (x : Pod), (b.setPod n x).regs = b.regs := fun _ _ _ => rfl
@[simp] theorem Block.setPod_bar : ∀ (b : Block) (n : Nat) (x : Pod), (b.setPod n x).bar = b.bar := fun _ _ _ => rfl
@[simp] theorem Block.setPod_time : ∀ (b : Block) (n : Nat) (x : Pod), (b.setPod n x).time = b.time := fun _ _ _ => rfl
@[simp] theorem Block.setPod_packets : ∀ (b : Block) (n : Nat) (x : Pod), (b.setPod n x).packets = b.packets := fun _ _ _ => rfl
@[simp] theorem Block.setPod_lanes : ∀ (b : Block) (n : Nat) (x : Pod), (b.setPod n x).lanes = b.lanes := fun _ _ _ => rfl
@[simp] theorem Block.setPod_engines : ∀ (b : Block) (n : Nat) (x : Pod), (b.setPod n x).engines = b.engines := fun _ _ _ => rfl
@[simp] theorem Block.setPod_syncAbs : ∀ (b : Block) (n : Nat) (x : Pod), (b.setPod n x).syncAbs = b.syncAbs := fun _ _ _ => rfl
@[simp] theorem Block.setPod_doms : ∀ (b : Block) (n : Nat) (x : Pod), (b.setPod n x).doms = b.doms := fun _ _ _ => rfl
@[simp] theorem Block.setPod_outs : ∀ (b : Block) (n : Nat) (x : Pod), (b.setPod n x).outs = b.outs := fun _ _ _ => rfl
@[simp] theorem Block.setPod_vectors : ∀ (b : Block) (n : Nat) (x : Pod), (b.setPod n x).vectors = b.vectors := fun _ _ _ => rfl
@[simp] theorem Block.setPod_casc : ∀ (b : Block) (n : Nat) (x : Pod), (b.setPod n x).casc = b.casc := fun _ _ _ => rfl
@[simp] theorem Block.setPod_ptus : ∀ (b : Block) (n : Nat) (x : Pod), (b.setPod n x).ptus = b.ptus := fun _ _ _ => rfl
@[simp] theorem Block.setPod_stores : ∀ (b : Block) (n : Nat) (x : Pod), (b.setPod n x).stores = b.stores := fun _ _ _ => rfl
@[simp] theorem Block.setPod_mops : ∀ (b : Block) (n : Nat) (x : Pod), (b.setPod n x).mops = b.mops := fun _ _ _ => rfl
@[simp] theorem Block.setPod_units : ∀ (b : Block) (n : Nat) (x : Pod), (b.setPod n x).units = b.units := fun _ _ _ => rfl
@[simp] theorem Block.setPod_meas : ∀ (b : Block) (n : Nat) (x : Pod), (b.setPod n x).meas = b.meas := fun _ _ _ => rfl
@[simp] theorem Block.setPod_masks : ∀ (b : Block) (n : Nat) (x : Pod), (b.setPod n x).masks = b.masks := fun _ _ _ => rfl
@[simp] theorem Block.setPod_hists : ∀ (b : Block) (n : Nat) (x : Pod), (b.setPod n x).hists = b.hists := fun _ _ _ => rfl
@[simp] theorem Block.setPod_stims : ∀ (b : Block) (n : Nat) (x : Pod), (b.setPod n x).stims = b.stims := fun _ _ _ => rfl
@[simp] theorem Block.setPod_drivers : ∀ (b : Block) (n : Nat) (x : Pod), (b.setPod n x).drivers = b.drivers := fun _ _ _ => rfl
@[simp] theorem Block.setPod_banks : ∀ (b : Block) (n : Nat) (x : Pod), (b.setPod n x).banks = b.banks := fun _ _ _ => rfl
@[simp] theorem Block.setPod_maint : ∀ (b : Block) (n : Nat) (x : Pod), (b.setPod n x).maint = b.maint := fun _ _ _ => rfl
@[simp] theorem Block.setPod_words : ∀ (b : Block) (n : Nat) (x : Pod), (b.setPod n x).words = b.words := fun _ _ _ => rfl
@[simp] theorem Block.setPod_tags : ∀ (b : Block) (n : Nat) (x : Pod), (b.setPod n x).tags = b.tags := fun _ _ _ => rfl
@[simp] theorem Block.setPod_queues : ∀ (b : Block) (n : Nat) (x : Pod), (b.setPod n x).queues = b.queues := fun _ _ _ => rfl
@[simp] theorem Block.setPod_selectors : ∀ (b : Block) (n : Nat) (x : Pod), (b.setPod n x).selectors = b.selectors := fun _ _ _ => rfl
@[simp] theorem Block.setPod_errs : ∀ (b : Block) (n : Nat) (x : Pod), (b.setPod n x).errs = b.errs := fun _ _ _ => rfl
@[simp] theorem Block.setPod_emcy : ∀ (b : Block) (n : Nat) (x : Pod), (b.setPod n x).emcy = b.emcy := fun _ _ _ => rfl
@[simp] theorem Block.setPod_logWait : ∀ (b : Block) (n : Nat) (x : Pod), (b.setPod n x).logWait = b.logWait := fun _ _ _ => rfl
@[simp] theorem Block.setPod_lastErr : ∀ (b : Block) (n : Nat) (x : Pod), (b.setPod n x).lastErr = b.lastErr := fun _ _ _ => rfl
@[simp] theorem Block.setPod_lastAlert : ∀ (b : Block) (n : Nat) (x : Pod), (b.setPod n x).lastAlert = b.lastAlert := fun _ _ _ => rfl
@[simp] theorem Block.setPod_pcie : ∀ (b : Block) (n : Nat) (x : Pod), (b.setPod n x).pcie = b.pcie := fun _ _ _ => rfl
@[simp] theorem Block.setPod_sync : ∀ (b : Block) (n : Nat) (x : Pod), (b.setPod n x).sync = b.sync := fun _ _ _ => rfl
@[simp] theorem Block.setPod_chain : ∀ (b : Block) (n : Nat) (x : Pod), (b.setPod n x).chain = b.chain := fun _ _ _ => rfl
@[simp] theorem Block.setPod_flash : ∀ (b : Block) (n : Nat) (x : Pod), (b.setPod n x).flash = b.flash := fun _ _ _ => rfl
@[simp] theorem Block.setPod_power : ∀ (b : Block) (n : Nat) (x : Pod), (b.setPod n x).power = b.power := fun _ _ _ => rfl
@[simp] theorem Block.setPod_server : ∀ (b : Block) (n : Nat) (x : Pod), (b.setPod n x).server = b.server := fun _ _ _ => rfl
@[simp] theorem Block.setPod_canPort : ∀ (b : Block) (n : Nat) (x : Pod), (b.setPod n x).canPort = b.canPort := fun _ _ _ => rfl
@[simp] theorem Block.setPod_clk : ∀ (b : Block) (n : Nat) (x : Pod), (b.setPod n x).clk = b.clk := fun _ _ _ => rfl
@[simp] theorem Block.setPod_due : ∀ (b : Block) (n : Nat) (x : Pod), (b.setPod n x).due = b.due := fun _ _ _ => rfl
@[simp] theorem Block.setPod_resp : ∀ (b : Block) (n : Nat) (x : Pod), (b.setPod n x).resp = b.resp := fun _ _ _ => rfl
@[simp] theorem Block.setPod_out : ∀ (b : Block) (n : Nat) (x : Pod), (b.setPod n x).out = b.out := fun _ _ _ => rfl
@[simp] theorem Block.setPod_free : ∀ (b : Block) (n : Nat) (x : Pod), (b.setPod n x).free = b.free := fun _ _ _ => rfl

/-! ### setEngine -/

@[simp] theorem Block.setEngine_part : ∀ (b : Block) (e : Nat) (x : Engine), (b.setEngine e x).part = b.part := fun _ _ _ => rfl
@[simp] theorem Block.setEngine_regs : ∀ (b : Block) (e : Nat) (x : Engine), (b.setEngine e x).regs = b.regs := fun _ _ _ => rfl
@[simp] theorem Block.setEngine_bar : ∀ (b : Block) (e : Nat) (x : Engine), (b.setEngine e x).bar = b.bar := fun _ _ _ => rfl
@[simp] theorem Block.setEngine_time : ∀ (b : Block) (e : Nat) (x : Engine), (b.setEngine e x).time = b.time := fun _ _ _ => rfl
@[simp] theorem Block.setEngine_packets : ∀ (b : Block) (e : Nat) (x : Engine), (b.setEngine e x).packets = b.packets := fun _ _ _ => rfl
@[simp] theorem Block.setEngine_lanes : ∀ (b : Block) (e : Nat) (x : Engine), (b.setEngine e x).lanes = b.lanes := fun _ _ _ => rfl
@[simp] theorem Block.setEngine_pods : ∀ (b : Block) (e : Nat) (x : Engine), (b.setEngine e x).pods = b.pods := fun _ _ _ => rfl
@[simp] theorem Block.setEngine_syncAbs : ∀ (b : Block) (e : Nat) (x : Engine), (b.setEngine e x).syncAbs = b.syncAbs := fun _ _ _ => rfl
@[simp] theorem Block.setEngine_doms : ∀ (b : Block) (e : Nat) (x : Engine), (b.setEngine e x).doms = b.doms := fun _ _ _ => rfl
@[simp] theorem Block.setEngine_outs : ∀ (b : Block) (e : Nat) (x : Engine), (b.setEngine e x).outs = b.outs := fun _ _ _ => rfl
@[simp] theorem Block.setEngine_vectors : ∀ (b : Block) (e : Nat) (x : Engine), (b.setEngine e x).vectors = b.vectors := fun _ _ _ => rfl
@[simp] theorem Block.setEngine_casc : ∀ (b : Block) (e : Nat) (x : Engine), (b.setEngine e x).casc = b.casc := fun _ _ _ => rfl
@[simp] theorem Block.setEngine_ptus : ∀ (b : Block) (e : Nat) (x : Engine), (b.setEngine e x).ptus = b.ptus := fun _ _ _ => rfl
@[simp] theorem Block.setEngine_stores : ∀ (b : Block) (e : Nat) (x : Engine), (b.setEngine e x).stores = b.stores := fun _ _ _ => rfl
@[simp] theorem Block.setEngine_mops : ∀ (b : Block) (e : Nat) (x : Engine), (b.setEngine e x).mops = b.mops := fun _ _ _ => rfl
@[simp] theorem Block.setEngine_units : ∀ (b : Block) (e : Nat) (x : Engine), (b.setEngine e x).units = b.units := fun _ _ _ => rfl
@[simp] theorem Block.setEngine_meas : ∀ (b : Block) (e : Nat) (x : Engine), (b.setEngine e x).meas = b.meas := fun _ _ _ => rfl
@[simp] theorem Block.setEngine_masks : ∀ (b : Block) (e : Nat) (x : Engine), (b.setEngine e x).masks = b.masks := fun _ _ _ => rfl
@[simp] theorem Block.setEngine_hists : ∀ (b : Block) (e : Nat) (x : Engine), (b.setEngine e x).hists = b.hists := fun _ _ _ => rfl
@[simp] theorem Block.setEngine_stims : ∀ (b : Block) (e : Nat) (x : Engine), (b.setEngine e x).stims = b.stims := fun _ _ _ => rfl
@[simp] theorem Block.setEngine_drivers : ∀ (b : Block) (e : Nat) (x : Engine), (b.setEngine e x).drivers = b.drivers := fun _ _ _ => rfl
@[simp] theorem Block.setEngine_banks : ∀ (b : Block) (e : Nat) (x : Engine), (b.setEngine e x).banks = b.banks := fun _ _ _ => rfl
@[simp] theorem Block.setEngine_maint : ∀ (b : Block) (e : Nat) (x : Engine), (b.setEngine e x).maint = b.maint := fun _ _ _ => rfl
@[simp] theorem Block.setEngine_words : ∀ (b : Block) (e : Nat) (x : Engine), (b.setEngine e x).words = b.words := fun _ _ _ => rfl
@[simp] theorem Block.setEngine_tags : ∀ (b : Block) (e : Nat) (x : Engine), (b.setEngine e x).tags = b.tags := fun _ _ _ => rfl
@[simp] theorem Block.setEngine_queues : ∀ (b : Block) (e : Nat) (x : Engine), (b.setEngine e x).queues = b.queues := fun _ _ _ => rfl
@[simp] theorem Block.setEngine_selectors : ∀ (b : Block) (e : Nat) (x : Engine), (b.setEngine e x).selectors = b.selectors := fun _ _ _ => rfl
@[simp] theorem Block.setEngine_errs : ∀ (b : Block) (e : Nat) (x : Engine), (b.setEngine e x).errs = b.errs := fun _ _ _ => rfl
@[simp] theorem Block.setEngine_emcy : ∀ (b : Block) (e : Nat) (x : Engine), (b.setEngine e x).emcy = b.emcy := fun _ _ _ => rfl
@[simp] theorem Block.setEngine_logWait : ∀ (b : Block) (e : Nat) (x : Engine), (b.setEngine e x).logWait = b.logWait := fun _ _ _ => rfl
@[simp] theorem Block.setEngine_lastErr : ∀ (b : Block) (e : Nat) (x : Engine), (b.setEngine e x).lastErr = b.lastErr := fun _ _ _ => rfl
@[simp] theorem Block.setEngine_lastAlert : ∀ (b : Block) (e : Nat) (x : Engine), (b.setEngine e x).lastAlert = b.lastAlert := fun _ _ _ => rfl
@[simp] theorem Block.setEngine_pcie : ∀ (b : Block) (e : Nat) (x : Engine), (b.setEngine e x).pcie = b.pcie := fun _ _ _ => rfl
@[simp] theorem Block.setEngine_sync : ∀ (b : Block) (e : Nat) (x : Engine), (b.setEngine e x).sync = b.sync := fun _ _ _ => rfl
@[simp] theorem Block.setEngine_chain : ∀ (b : Block) (e : Nat) (x : Engine), (b.setEngine e x).chain = b.chain := fun _ _ _ => rfl
@[simp] theorem Block.setEngine_flash : ∀ (b : Block) (e : Nat) (x : Engine), (b.setEngine e x).flash = b.flash := fun _ _ _ => rfl
@[simp] theorem Block.setEngine_power : ∀ (b : Block) (e : Nat) (x : Engine), (b.setEngine e x).power = b.power := fun _ _ _ => rfl
@[simp] theorem Block.setEngine_server : ∀ (b : Block) (e : Nat) (x : Engine), (b.setEngine e x).server = b.server := fun _ _ _ => rfl
@[simp] theorem Block.setEngine_canPort : ∀ (b : Block) (e : Nat) (x : Engine), (b.setEngine e x).canPort = b.canPort := fun _ _ _ => rfl
@[simp] theorem Block.setEngine_clk : ∀ (b : Block) (e : Nat) (x : Engine), (b.setEngine e x).clk = b.clk := fun _ _ _ => rfl
@[simp] theorem Block.setEngine_due : ∀ (b : Block) (e : Nat) (x : Engine), (b.setEngine e x).due = b.due := fun _ _ _ => rfl
@[simp] theorem Block.setEngine_resp : ∀ (b : Block) (e : Nat) (x : Engine), (b.setEngine e x).resp = b.resp := fun _ _ _ => rfl
@[simp] theorem Block.setEngine_out : ∀ (b : Block) (e : Nat) (x : Engine), (b.setEngine e x).out = b.out := fun _ _ _ => rfl
@[simp] theorem Block.setEngine_free : ∀ (b : Block) (e : Nat) (x : Engine), (b.setEngine e x).free = b.free := fun _ _ _ => rfl

/-! ### setDom -/

@[simp] theorem Block.setDom_part : ∀ (b : Block) (t : Nat) (x : Dom), (b.setDom t x).part = b.part := fun _ _ _ => rfl
@[simp] theorem Block.setDom_regs : ∀ (b : Block) (t : Nat) (x : Dom), (b.setDom t x).regs = b.regs := fun _ _ _ => rfl
@[simp] theorem Block.setDom_bar : ∀ (b : Block) (t : Nat) (x : Dom), (b.setDom t x).bar = b.bar := fun _ _ _ => rfl
@[simp] theorem Block.setDom_time : ∀ (b : Block) (t : Nat) (x : Dom), (b.setDom t x).time = b.time := fun _ _ _ => rfl
@[simp] theorem Block.setDom_packets : ∀ (b : Block) (t : Nat) (x : Dom), (b.setDom t x).packets = b.packets := fun _ _ _ => rfl
@[simp] theorem Block.setDom_lanes : ∀ (b : Block) (t : Nat) (x : Dom), (b.setDom t x).lanes = b.lanes := fun _ _ _ => rfl
@[simp] theorem Block.setDom_pods : ∀ (b : Block) (t : Nat) (x : Dom), (b.setDom t x).pods = b.pods := fun _ _ _ => rfl
@[simp] theorem Block.setDom_engines : ∀ (b : Block) (t : Nat) (x : Dom), (b.setDom t x).engines = b.engines := fun _ _ _ => rfl
@[simp] theorem Block.setDom_syncAbs : ∀ (b : Block) (t : Nat) (x : Dom), (b.setDom t x).syncAbs = b.syncAbs := fun _ _ _ => rfl
@[simp] theorem Block.setDom_outs : ∀ (b : Block) (t : Nat) (x : Dom), (b.setDom t x).outs = b.outs := fun _ _ _ => rfl
@[simp] theorem Block.setDom_vectors : ∀ (b : Block) (t : Nat) (x : Dom), (b.setDom t x).vectors = b.vectors := fun _ _ _ => rfl
@[simp] theorem Block.setDom_casc : ∀ (b : Block) (t : Nat) (x : Dom), (b.setDom t x).casc = b.casc := fun _ _ _ => rfl
@[simp] theorem Block.setDom_ptus : ∀ (b : Block) (t : Nat) (x : Dom), (b.setDom t x).ptus = b.ptus := fun _ _ _ => rfl
@[simp] theorem Block.setDom_stores : ∀ (b : Block) (t : Nat) (x : Dom), (b.setDom t x).stores = b.stores := fun _ _ _ => rfl
@[simp] theorem Block.setDom_mops : ∀ (b : Block) (t : Nat) (x : Dom), (b.setDom t x).mops = b.mops := fun _ _ _ => rfl
@[simp] theorem Block.setDom_units : ∀ (b : Block) (t : Nat) (x : Dom), (b.setDom t x).units = b.units := fun _ _ _ => rfl
@[simp] theorem Block.setDom_meas : ∀ (b : Block) (t : Nat) (x : Dom), (b.setDom t x).meas = b.meas := fun _ _ _ => rfl
@[simp] theorem Block.setDom_masks : ∀ (b : Block) (t : Nat) (x : Dom), (b.setDom t x).masks = b.masks := fun _ _ _ => rfl
@[simp] theorem Block.setDom_hists : ∀ (b : Block) (t : Nat) (x : Dom), (b.setDom t x).hists = b.hists := fun _ _ _ => rfl
@[simp] theorem Block.setDom_stims : ∀ (b : Block) (t : Nat) (x : Dom), (b.setDom t x).stims = b.stims := fun _ _ _ => rfl
@[simp] theorem Block.setDom_drivers : ∀ (b : Block) (t : Nat) (x : Dom), (b.setDom t x).drivers = b.drivers := fun _ _ _ => rfl
@[simp] theorem Block.setDom_banks : ∀ (b : Block) (t : Nat) (x : Dom), (b.setDom t x).banks = b.banks := fun _ _ _ => rfl
@[simp] theorem Block.setDom_maint : ∀ (b : Block) (t : Nat) (x : Dom), (b.setDom t x).maint = b.maint := fun _ _ _ => rfl
@[simp] theorem Block.setDom_words : ∀ (b : Block) (t : Nat) (x : Dom), (b.setDom t x).words = b.words := fun _ _ _ => rfl
@[simp] theorem Block.setDom_tags : ∀ (b : Block) (t : Nat) (x : Dom), (b.setDom t x).tags = b.tags := fun _ _ _ => rfl
@[simp] theorem Block.setDom_queues : ∀ (b : Block) (t : Nat) (x : Dom), (b.setDom t x).queues = b.queues := fun _ _ _ => rfl
@[simp] theorem Block.setDom_selectors : ∀ (b : Block) (t : Nat) (x : Dom), (b.setDom t x).selectors = b.selectors := fun _ _ _ => rfl
@[simp] theorem Block.setDom_errs : ∀ (b : Block) (t : Nat) (x : Dom), (b.setDom t x).errs = b.errs := fun _ _ _ => rfl
@[simp] theorem Block.setDom_emcy : ∀ (b : Block) (t : Nat) (x : Dom), (b.setDom t x).emcy = b.emcy := fun _ _ _ => rfl
@[simp] theorem Block.setDom_logWait : ∀ (b : Block) (t : Nat) (x : Dom), (b.setDom t x).logWait = b.logWait := fun _ _ _ => rfl
@[simp] theorem Block.setDom_lastErr : ∀ (b : Block) (t : Nat) (x : Dom), (b.setDom t x).lastErr = b.lastErr := fun _ _ _ => rfl
@[simp] theorem Block.setDom_lastAlert : ∀ (b : Block) (t : Nat) (x : Dom), (b.setDom t x).lastAlert = b.lastAlert := fun _ _ _ => rfl
@[simp] theorem Block.setDom_pcie : ∀ (b : Block) (t : Nat) (x : Dom), (b.setDom t x).pcie = b.pcie := fun _ _ _ => rfl
@[simp] theorem Block.setDom_sync : ∀ (b : Block) (t : Nat) (x : Dom), (b.setDom t x).sync = b.sync := fun _ _ _ => rfl
@[simp] theorem Block.setDom_chain : ∀ (b : Block) (t : Nat) (x : Dom), (b.setDom t x).chain = b.chain := fun _ _ _ => rfl
@[simp] theorem Block.setDom_flash : ∀ (b : Block) (t : Nat) (x : Dom), (b.setDom t x).flash = b.flash := fun _ _ _ => rfl
@[simp] theorem Block.setDom_power : ∀ (b : Block) (t : Nat) (x : Dom), (b.setDom t x).power = b.power := fun _ _ _ => rfl
@[simp] theorem Block.setDom_server : ∀ (b : Block) (t : Nat) (x : Dom), (b.setDom t x).server = b.server := fun _ _ _ => rfl
@[simp] theorem Block.setDom_canPort : ∀ (b : Block) (t : Nat) (x : Dom), (b.setDom t x).canPort = b.canPort := fun _ _ _ => rfl
@[simp] theorem Block.setDom_clk : ∀ (b : Block) (t : Nat) (x : Dom), (b.setDom t x).clk = b.clk := fun _ _ _ => rfl
@[simp] theorem Block.setDom_due : ∀ (b : Block) (t : Nat) (x : Dom), (b.setDom t x).due = b.due := fun _ _ _ => rfl
@[simp] theorem Block.setDom_resp : ∀ (b : Block) (t : Nat) (x : Dom), (b.setDom t x).resp = b.resp := fun _ _ _ => rfl
@[simp] theorem Block.setDom_out : ∀ (b : Block) (t : Nat) (x : Dom), (b.setDom t x).out = b.out := fun _ _ _ => rfl
@[simp] theorem Block.setDom_free : ∀ (b : Block) (t : Nat) (x : Dom), (b.setDom t x).free = b.free := fun _ _ _ => rfl

/-! ### setTrigOut -/

@[simp] theorem Block.setTrigOut_part : ∀ (b : Block) (o : Nat) (x : TrigOut), (b.setTrigOut o x).part = b.part := fun _ _ _ => rfl
@[simp] theorem Block.setTrigOut_regs : ∀ (b : Block) (o : Nat) (x : TrigOut), (b.setTrigOut o x).regs = b.regs := fun _ _ _ => rfl
@[simp] theorem Block.setTrigOut_bar : ∀ (b : Block) (o : Nat) (x : TrigOut), (b.setTrigOut o x).bar = b.bar := fun _ _ _ => rfl
@[simp] theorem Block.setTrigOut_time : ∀ (b : Block) (o : Nat) (x : TrigOut), (b.setTrigOut o x).time = b.time := fun _ _ _ => rfl
@[simp] theorem Block.setTrigOut_packets : ∀ (b : Block) (o : Nat) (x : TrigOut), (b.setTrigOut o x).packets = b.packets := fun _ _ _ => rfl
@[simp] theorem Block.setTrigOut_lanes : ∀ (b : Block) (o : Nat) (x : TrigOut), (b.setTrigOut o x).lanes = b.lanes := fun _ _ _ => rfl
@[simp] theorem Block.setTrigOut_pods : ∀ (b : Block) (o : Nat) (x : TrigOut), (b.setTrigOut o x).pods = b.pods := fun _ _ _ => rfl
@[simp] theorem Block.setTrigOut_engines : ∀ (b : Block) (o : Nat) (x : TrigOut), (b.setTrigOut o x).engines = b.engines := fun _ _ _ => rfl
@[simp] theorem Block.setTrigOut_syncAbs : ∀ (b : Block) (o : Nat) (x : TrigOut), (b.setTrigOut o x).syncAbs = b.syncAbs := fun _ _ _ => rfl
@[simp] theorem Block.setTrigOut_doms : ∀ (b : Block) (o : Nat) (x : TrigOut), (b.setTrigOut o x).doms = b.doms := fun _ _ _ => rfl
@[simp] theorem Block.setTrigOut_vectors : ∀ (b : Block) (o : Nat) (x : TrigOut), (b.setTrigOut o x).vectors = b.vectors := fun _ _ _ => rfl
@[simp] theorem Block.setTrigOut_casc : ∀ (b : Block) (o : Nat) (x : TrigOut), (b.setTrigOut o x).casc = b.casc := fun _ _ _ => rfl
@[simp] theorem Block.setTrigOut_ptus : ∀ (b : Block) (o : Nat) (x : TrigOut), (b.setTrigOut o x).ptus = b.ptus := fun _ _ _ => rfl
@[simp] theorem Block.setTrigOut_stores : ∀ (b : Block) (o : Nat) (x : TrigOut), (b.setTrigOut o x).stores = b.stores := fun _ _ _ => rfl
@[simp] theorem Block.setTrigOut_mops : ∀ (b : Block) (o : Nat) (x : TrigOut), (b.setTrigOut o x).mops = b.mops := fun _ _ _ => rfl
@[simp] theorem Block.setTrigOut_units : ∀ (b : Block) (o : Nat) (x : TrigOut), (b.setTrigOut o x).units = b.units := fun _ _ _ => rfl
@[simp] theorem Block.setTrigOut_meas : ∀ (b : Block) (o : Nat) (x : TrigOut), (b.setTrigOut o x).meas = b.meas := fun _ _ _ => rfl
@[simp] theorem Block.setTrigOut_masks : ∀ (b : Block) (o : Nat) (x : TrigOut), (b.setTrigOut o x).masks = b.masks := fun _ _ _ => rfl
@[simp] theorem Block.setTrigOut_hists : ∀ (b : Block) (o : Nat) (x : TrigOut), (b.setTrigOut o x).hists = b.hists := fun _ _ _ => rfl
@[simp] theorem Block.setTrigOut_stims : ∀ (b : Block) (o : Nat) (x : TrigOut), (b.setTrigOut o x).stims = b.stims := fun _ _ _ => rfl
@[simp] theorem Block.setTrigOut_drivers : ∀ (b : Block) (o : Nat) (x : TrigOut), (b.setTrigOut o x).drivers = b.drivers := fun _ _ _ => rfl
@[simp] theorem Block.setTrigOut_banks : ∀ (b : Block) (o : Nat) (x : TrigOut), (b.setTrigOut o x).banks = b.banks := fun _ _ _ => rfl
@[simp] theorem Block.setTrigOut_maint : ∀ (b : Block) (o : Nat) (x : TrigOut), (b.setTrigOut o x).maint = b.maint := fun _ _ _ => rfl
@[simp] theorem Block.setTrigOut_words : ∀ (b : Block) (o : Nat) (x : TrigOut), (b.setTrigOut o x).words = b.words := fun _ _ _ => rfl
@[simp] theorem Block.setTrigOut_tags : ∀ (b : Block) (o : Nat) (x : TrigOut), (b.setTrigOut o x).tags = b.tags := fun _ _ _ => rfl
@[simp] theorem Block.setTrigOut_queues : ∀ (b : Block) (o : Nat) (x : TrigOut), (b.setTrigOut o x).queues = b.queues := fun _ _ _ => rfl
@[simp] theorem Block.setTrigOut_selectors : ∀ (b : Block) (o : Nat) (x : TrigOut), (b.setTrigOut o x).selectors = b.selectors := fun _ _ _ => rfl
@[simp] theorem Block.setTrigOut_errs : ∀ (b : Block) (o : Nat) (x : TrigOut), (b.setTrigOut o x).errs = b.errs := fun _ _ _ => rfl
@[simp] theorem Block.setTrigOut_emcy : ∀ (b : Block) (o : Nat) (x : TrigOut), (b.setTrigOut o x).emcy = b.emcy := fun _ _ _ => rfl
@[simp] theorem Block.setTrigOut_logWait : ∀ (b : Block) (o : Nat) (x : TrigOut), (b.setTrigOut o x).logWait = b.logWait := fun _ _ _ => rfl
@[simp] theorem Block.setTrigOut_lastErr : ∀ (b : Block) (o : Nat) (x : TrigOut), (b.setTrigOut o x).lastErr = b.lastErr := fun _ _ _ => rfl
@[simp] theorem Block.setTrigOut_lastAlert : ∀ (b : Block) (o : Nat) (x : TrigOut), (b.setTrigOut o x).lastAlert = b.lastAlert := fun _ _ _ => rfl
@[simp] theorem Block.setTrigOut_pcie : ∀ (b : Block) (o : Nat) (x : TrigOut), (b.setTrigOut o x).pcie = b.pcie := fun _ _ _ => rfl
@[simp] theorem Block.setTrigOut_sync : ∀ (b : Block) (o : Nat) (x : TrigOut), (b.setTrigOut o x).sync = b.sync := fun _ _ _ => rfl
@[simp] theorem Block.setTrigOut_chain : ∀ (b : Block) (o : Nat) (x : TrigOut), (b.setTrigOut o x).chain = b.chain := fun _ _ _ => rfl
@[simp] theorem Block.setTrigOut_flash : ∀ (b : Block) (o : Nat) (x : TrigOut), (b.setTrigOut o x).flash = b.flash := fun _ _ _ => rfl
@[simp] theorem Block.setTrigOut_power : ∀ (b : Block) (o : Nat) (x : TrigOut), (b.setTrigOut o x).power = b.power := fun _ _ _ => rfl
@[simp] theorem Block.setTrigOut_server : ∀ (b : Block) (o : Nat) (x : TrigOut), (b.setTrigOut o x).server = b.server := fun _ _ _ => rfl
@[simp] theorem Block.setTrigOut_canPort : ∀ (b : Block) (o : Nat) (x : TrigOut), (b.setTrigOut o x).canPort = b.canPort := fun _ _ _ => rfl
@[simp] theorem Block.setTrigOut_clk : ∀ (b : Block) (o : Nat) (x : TrigOut), (b.setTrigOut o x).clk = b.clk := fun _ _ _ => rfl
@[simp] theorem Block.setTrigOut_due : ∀ (b : Block) (o : Nat) (x : TrigOut), (b.setTrigOut o x).due = b.due := fun _ _ _ => rfl
@[simp] theorem Block.setTrigOut_resp : ∀ (b : Block) (o : Nat) (x : TrigOut), (b.setTrigOut o x).resp = b.resp := fun _ _ _ => rfl
@[simp] theorem Block.setTrigOut_out : ∀ (b : Block) (o : Nat) (x : TrigOut), (b.setTrigOut o x).out = b.out := fun _ _ _ => rfl
@[simp] theorem Block.setTrigOut_free : ∀ (b : Block) (o : Nat) (x : TrigOut), (b.setTrigOut o x).free = b.free := fun _ _ _ => rfl

/-! ### setPtu -/

@[simp] theorem Block.setPtu_part : ∀ (b : Block) (u : Nat) (x : Ptu), (b.setPtu u x).part = b.part := fun _ _ _ => rfl
@[simp] theorem Block.setPtu_regs : ∀ (b : Block) (u : Nat) (x : Ptu), (b.setPtu u x).regs = b.regs := fun _ _ _ => rfl
@[simp] theorem Block.setPtu_bar : ∀ (b : Block) (u : Nat) (x : Ptu), (b.setPtu u x).bar = b.bar := fun _ _ _ => rfl
@[simp] theorem Block.setPtu_time : ∀ (b : Block) (u : Nat) (x : Ptu), (b.setPtu u x).time = b.time := fun _ _ _ => rfl
@[simp] theorem Block.setPtu_packets : ∀ (b : Block) (u : Nat) (x : Ptu), (b.setPtu u x).packets = b.packets := fun _ _ _ => rfl
@[simp] theorem Block.setPtu_lanes : ∀ (b : Block) (u : Nat) (x : Ptu), (b.setPtu u x).lanes = b.lanes := fun _ _ _ => rfl
@[simp] theorem Block.setPtu_pods : ∀ (b : Block) (u : Nat) (x : Ptu), (b.setPtu u x).pods = b.pods := fun _ _ _ => rfl
@[simp] theorem Block.setPtu_engines : ∀ (b : Block) (u : Nat) (x : Ptu), (b.setPtu u x).engines = b.engines := fun _ _ _ => rfl
@[simp] theorem Block.setPtu_syncAbs : ∀ (b : Block) (u : Nat) (x : Ptu), (b.setPtu u x).syncAbs = b.syncAbs := fun _ _ _ => rfl
@[simp] theorem Block.setPtu_doms : ∀ (b : Block) (u : Nat) (x : Ptu), (b.setPtu u x).doms = b.doms := fun _ _ _ => rfl
@[simp] theorem Block.setPtu_outs : ∀ (b : Block) (u : Nat) (x : Ptu), (b.setPtu u x).outs = b.outs := fun _ _ _ => rfl
@[simp] theorem Block.setPtu_vectors : ∀ (b : Block) (u : Nat) (x : Ptu), (b.setPtu u x).vectors = b.vectors := fun _ _ _ => rfl
@[simp] theorem Block.setPtu_casc : ∀ (b : Block) (u : Nat) (x : Ptu), (b.setPtu u x).casc = b.casc := fun _ _ _ => rfl
@[simp] theorem Block.setPtu_stores : ∀ (b : Block) (u : Nat) (x : Ptu), (b.setPtu u x).stores = b.stores := fun _ _ _ => rfl
@[simp] theorem Block.setPtu_mops : ∀ (b : Block) (u : Nat) (x : Ptu), (b.setPtu u x).mops = b.mops := fun _ _ _ => rfl
@[simp] theorem Block.setPtu_units : ∀ (b : Block) (u : Nat) (x : Ptu), (b.setPtu u x).units = b.units := fun _ _ _ => rfl
@[simp] theorem Block.setPtu_meas : ∀ (b : Block) (u : Nat) (x : Ptu), (b.setPtu u x).meas = b.meas := fun _ _ _ => rfl
@[simp] theorem Block.setPtu_masks : ∀ (b : Block) (u : Nat) (x : Ptu), (b.setPtu u x).masks = b.masks := fun _ _ _ => rfl
@[simp] theorem Block.setPtu_hists : ∀ (b : Block) (u : Nat) (x : Ptu), (b.setPtu u x).hists = b.hists := fun _ _ _ => rfl
@[simp] theorem Block.setPtu_stims : ∀ (b : Block) (u : Nat) (x : Ptu), (b.setPtu u x).stims = b.stims := fun _ _ _ => rfl
@[simp] theorem Block.setPtu_drivers : ∀ (b : Block) (u : Nat) (x : Ptu), (b.setPtu u x).drivers = b.drivers := fun _ _ _ => rfl
@[simp] theorem Block.setPtu_banks : ∀ (b : Block) (u : Nat) (x : Ptu), (b.setPtu u x).banks = b.banks := fun _ _ _ => rfl
@[simp] theorem Block.setPtu_maint : ∀ (b : Block) (u : Nat) (x : Ptu), (b.setPtu u x).maint = b.maint := fun _ _ _ => rfl
@[simp] theorem Block.setPtu_words : ∀ (b : Block) (u : Nat) (x : Ptu), (b.setPtu u x).words = b.words := fun _ _ _ => rfl
@[simp] theorem Block.setPtu_tags : ∀ (b : Block) (u : Nat) (x : Ptu), (b.setPtu u x).tags = b.tags := fun _ _ _ => rfl
@[simp] theorem Block.setPtu_queues : ∀ (b : Block) (u : Nat) (x : Ptu), (b.setPtu u x).queues = b.queues := fun _ _ _ => rfl
@[simp] theorem Block.setPtu_selectors : ∀ (b : Block) (u : Nat) (x : Ptu), (b.setPtu u x).selectors = b.selectors := fun _ _ _ => rfl
@[simp] theorem Block.setPtu_errs : ∀ (b : Block) (u : Nat) (x : Ptu), (b.setPtu u x).errs = b.errs := fun _ _ _ => rfl
@[simp] theorem Block.setPtu_emcy : ∀ (b : Block) (u : Nat) (x : Ptu), (b.setPtu u x).emcy = b.emcy := fun _ _ _ => rfl
@[simp] theorem Block.setPtu_logWait : ∀ (b : Block) (u : Nat) (x : Ptu), (b.setPtu u x).logWait = b.logWait := fun _ _ _ => rfl
@[simp] theorem Block.setPtu_lastErr : ∀ (b : Block) (u : Nat) (x : Ptu), (b.setPtu u x).lastErr = b.lastErr := fun _ _ _ => rfl
@[simp] theorem Block.setPtu_lastAlert : ∀ (b : Block) (u : Nat) (x : Ptu), (b.setPtu u x).lastAlert = b.lastAlert := fun _ _ _ => rfl
@[simp] theorem Block.setPtu_pcie : ∀ (b : Block) (u : Nat) (x : Ptu), (b.setPtu u x).pcie = b.pcie := fun _ _ _ => rfl
@[simp] theorem Block.setPtu_sync : ∀ (b : Block) (u : Nat) (x : Ptu), (b.setPtu u x).sync = b.sync := fun _ _ _ => rfl
@[simp] theorem Block.setPtu_chain : ∀ (b : Block) (u : Nat) (x : Ptu), (b.setPtu u x).chain = b.chain := fun _ _ _ => rfl
@[simp] theorem Block.setPtu_flash : ∀ (b : Block) (u : Nat) (x : Ptu), (b.setPtu u x).flash = b.flash := fun _ _ _ => rfl
@[simp] theorem Block.setPtu_power : ∀ (b : Block) (u : Nat) (x : Ptu), (b.setPtu u x).power = b.power := fun _ _ _ => rfl
@[simp] theorem Block.setPtu_server : ∀ (b : Block) (u : Nat) (x : Ptu), (b.setPtu u x).server = b.server := fun _ _ _ => rfl
@[simp] theorem Block.setPtu_canPort : ∀ (b : Block) (u : Nat) (x : Ptu), (b.setPtu u x).canPort = b.canPort := fun _ _ _ => rfl
@[simp] theorem Block.setPtu_clk : ∀ (b : Block) (u : Nat) (x : Ptu), (b.setPtu u x).clk = b.clk := fun _ _ _ => rfl
@[simp] theorem Block.setPtu_due : ∀ (b : Block) (u : Nat) (x : Ptu), (b.setPtu u x).due = b.due := fun _ _ _ => rfl
@[simp] theorem Block.setPtu_resp : ∀ (b : Block) (u : Nat) (x : Ptu), (b.setPtu u x).resp = b.resp := fun _ _ _ => rfl
@[simp] theorem Block.setPtu_out : ∀ (b : Block) (u : Nat) (x : Ptu), (b.setPtu u x).out = b.out := fun _ _ _ => rfl
@[simp] theorem Block.setPtu_free : ∀ (b : Block) (u : Nat) (x : Ptu), (b.setPtu u x).free = b.free := fun _ _ _ => rfl

/-! ### setStore -/

@[simp] theorem Block.setStore_part : ∀ (b : Block) (t : Nat) (x : StoreDom), (b.setStore t x).part = b.part := fun _ _ _ => rfl
@[simp] theorem Block.setStore_regs : ∀ (b : Block) (t : Nat) (x : StoreDom), (b.setStore t x).regs = b.regs := fun _ _ _ => rfl
@[simp] theorem Block.setStore_bar : ∀ (b : Block) (t : Nat) (x : StoreDom), (b.setStore t x).bar = b.bar := fun _ _ _ => rfl
@[simp] theorem Block.setStore_time : ∀ (b : Block) (t : Nat) (x : StoreDom), (b.setStore t x).time = b.time := fun _ _ _ => rfl
@[simp] theorem Block.setStore_packets : ∀ (b : Block) (t : Nat) (x : StoreDom), (b.setStore t x).packets = b.packets := fun _ _ _ => rfl
@[simp] theorem Block.setStore_lanes : ∀ (b : Block) (t : Nat) (x : StoreDom), (b.setStore t x).lanes = b.lanes := fun _ _ _ => rfl
@[simp] theorem Block.setStore_pods : ∀ (b : Block) (t : Nat) (x : StoreDom), (b.setStore t x).pods = b.pods := fun _ _ _ => rfl
@[simp] theorem Block.setStore_engines : ∀ (b : Block) (t : Nat) (x : StoreDom), (b.setStore t x).engines = b.engines := fun _ _ _ => rfl
@[simp] theorem Block.setStore_syncAbs : ∀ (b : Block) (t : Nat) (x : StoreDom), (b.setStore t x).syncAbs = b.syncAbs := fun _ _ _ => rfl
@[simp] theorem Block.setStore_doms : ∀ (b : Block) (t : Nat) (x : StoreDom), (b.setStore t x).doms = b.doms := fun _ _ _ => rfl
@[simp] theorem Block.setStore_outs : ∀ (b : Block) (t : Nat) (x : StoreDom), (b.setStore t x).outs = b.outs := fun _ _ _ => rfl
@[simp] theorem Block.setStore_vectors : ∀ (b : Block) (t : Nat) (x : StoreDom), (b.setStore t x).vectors = b.vectors := fun _ _ _ => rfl
@[simp] theorem Block.setStore_casc : ∀ (b : Block) (t : Nat) (x : StoreDom), (b.setStore t x).casc = b.casc := fun _ _ _ => rfl
@[simp] theorem Block.setStore_ptus : ∀ (b : Block) (t : Nat) (x : StoreDom), (b.setStore t x).ptus = b.ptus := fun _ _ _ => rfl
@[simp] theorem Block.setStore_mops : ∀ (b : Block) (t : Nat) (x : StoreDom), (b.setStore t x).mops = b.mops := fun _ _ _ => rfl
@[simp] theorem Block.setStore_units : ∀ (b : Block) (t : Nat) (x : StoreDom), (b.setStore t x).units = b.units := fun _ _ _ => rfl
@[simp] theorem Block.setStore_meas : ∀ (b : Block) (t : Nat) (x : StoreDom), (b.setStore t x).meas = b.meas := fun _ _ _ => rfl
@[simp] theorem Block.setStore_masks : ∀ (b : Block) (t : Nat) (x : StoreDom), (b.setStore t x).masks = b.masks := fun _ _ _ => rfl
@[simp] theorem Block.setStore_hists : ∀ (b : Block) (t : Nat) (x : StoreDom), (b.setStore t x).hists = b.hists := fun _ _ _ => rfl
@[simp] theorem Block.setStore_stims : ∀ (b : Block) (t : Nat) (x : StoreDom), (b.setStore t x).stims = b.stims := fun _ _ _ => rfl
@[simp] theorem Block.setStore_drivers : ∀ (b : Block) (t : Nat) (x : StoreDom), (b.setStore t x).drivers = b.drivers := fun _ _ _ => rfl
@[simp] theorem Block.setStore_banks : ∀ (b : Block) (t : Nat) (x : StoreDom), (b.setStore t x).banks = b.banks := fun _ _ _ => rfl
@[simp] theorem Block.setStore_maint : ∀ (b : Block) (t : Nat) (x : StoreDom), (b.setStore t x).maint = b.maint := fun _ _ _ => rfl
@[simp] theorem Block.setStore_words : ∀ (b : Block) (t : Nat) (x : StoreDom), (b.setStore t x).words = b.words := fun _ _ _ => rfl
@[simp] theorem Block.setStore_tags : ∀ (b : Block) (t : Nat) (x : StoreDom), (b.setStore t x).tags = b.tags := fun _ _ _ => rfl
@[simp] theorem Block.setStore_queues : ∀ (b : Block) (t : Nat) (x : StoreDom), (b.setStore t x).queues = b.queues := fun _ _ _ => rfl
@[simp] theorem Block.setStore_selectors : ∀ (b : Block) (t : Nat) (x : StoreDom), (b.setStore t x).selectors = b.selectors := fun _ _ _ => rfl
@[simp] theorem Block.setStore_errs : ∀ (b : Block) (t : Nat) (x : StoreDom), (b.setStore t x).errs = b.errs := fun _ _ _ => rfl
@[simp] theorem Block.setStore_emcy : ∀ (b : Block) (t : Nat) (x : StoreDom), (b.setStore t x).emcy = b.emcy := fun _ _ _ => rfl
@[simp] theorem Block.setStore_logWait : ∀ (b : Block) (t : Nat) (x : StoreDom), (b.setStore t x).logWait = b.logWait := fun _ _ _ => rfl
@[simp] theorem Block.setStore_lastErr : ∀ (b : Block) (t : Nat) (x : StoreDom), (b.setStore t x).lastErr = b.lastErr := fun _ _ _ => rfl
@[simp] theorem Block.setStore_lastAlert : ∀ (b : Block) (t : Nat) (x : StoreDom), (b.setStore t x).lastAlert = b.lastAlert := fun _ _ _ => rfl
@[simp] theorem Block.setStore_pcie : ∀ (b : Block) (t : Nat) (x : StoreDom), (b.setStore t x).pcie = b.pcie := fun _ _ _ => rfl
@[simp] theorem Block.setStore_sync : ∀ (b : Block) (t : Nat) (x : StoreDom), (b.setStore t x).sync = b.sync := fun _ _ _ => rfl
@[simp] theorem Block.setStore_chain : ∀ (b : Block) (t : Nat) (x : StoreDom), (b.setStore t x).chain = b.chain := fun _ _ _ => rfl
@[simp] theorem Block.setStore_flash : ∀ (b : Block) (t : Nat) (x : StoreDom), (b.setStore t x).flash = b.flash := fun _ _ _ => rfl
@[simp] theorem Block.setStore_power : ∀ (b : Block) (t : Nat) (x : StoreDom), (b.setStore t x).power = b.power := fun _ _ _ => rfl
@[simp] theorem Block.setStore_server : ∀ (b : Block) (t : Nat) (x : StoreDom), (b.setStore t x).server = b.server := fun _ _ _ => rfl
@[simp] theorem Block.setStore_canPort : ∀ (b : Block) (t : Nat) (x : StoreDom), (b.setStore t x).canPort = b.canPort := fun _ _ _ => rfl
@[simp] theorem Block.setStore_clk : ∀ (b : Block) (t : Nat) (x : StoreDom), (b.setStore t x).clk = b.clk := fun _ _ _ => rfl
@[simp] theorem Block.setStore_due : ∀ (b : Block) (t : Nat) (x : StoreDom), (b.setStore t x).due = b.due := fun _ _ _ => rfl
@[simp] theorem Block.setStore_resp : ∀ (b : Block) (t : Nat) (x : StoreDom), (b.setStore t x).resp = b.resp := fun _ _ _ => rfl
@[simp] theorem Block.setStore_out : ∀ (b : Block) (t : Nat) (x : StoreDom), (b.setStore t x).out = b.out := fun _ _ _ => rfl
@[simp] theorem Block.setStore_free : ∀ (b : Block) (t : Nat) (x : StoreDom), (b.setStore t x).free = b.free := fun _ _ _ => rfl

/-! ### setMeas -/

@[simp] theorem Block.setMeas_part : ∀ (b : Block) (n : Nat) (x : Meas), (b.setMeas n x).part = b.part := fun _ _ _ => rfl
@[simp] theorem Block.setMeas_regs : ∀ (b : Block) (n : Nat) (x : Meas), (b.setMeas n x).regs = b.regs := fun _ _ _ => rfl
@[simp] theorem Block.setMeas_bar : ∀ (b : Block) (n : Nat) (x : Meas), (b.setMeas n x).bar = b.bar := fun _ _ _ => rfl
@[simp] theorem Block.setMeas_time : ∀ (b : Block) (n : Nat) (x : Meas), (b.setMeas n x).time = b.time := fun _ _ _ => rfl
@[simp] theorem Block.setMeas_packets : ∀ (b : Block) (n : Nat) (x : Meas), (b.setMeas n x).packets = b.packets := fun _ _ _ => rfl
@[simp] theorem Block.setMeas_lanes : ∀ (b : Block) (n : Nat) (x : Meas), (b.setMeas n x).lanes = b.lanes := fun _ _ _ => rfl
@[simp] theorem Block.setMeas_pods : ∀ (b : Block) (n : Nat) (x : Meas), (b.setMeas n x).pods = b.pods := fun _ _ _ => rfl
@[simp] theorem Block.setMeas_engines : ∀ (b : Block) (n : Nat) (x : Meas), (b.setMeas n x).engines = b.engines := fun _ _ _ => rfl
@[simp] theorem Block.setMeas_syncAbs : ∀ (b : Block) (n : Nat) (x : Meas), (b.setMeas n x).syncAbs = b.syncAbs := fun _ _ _ => rfl
@[simp] theorem Block.setMeas_doms : ∀ (b : Block) (n : Nat) (x : Meas), (b.setMeas n x).doms = b.doms := fun _ _ _ => rfl
@[simp] theorem Block.setMeas_outs : ∀ (b : Block) (n : Nat) (x : Meas), (b.setMeas n x).outs = b.outs := fun _ _ _ => rfl
@[simp] theorem Block.setMeas_vectors : ∀ (b : Block) (n : Nat) (x : Meas), (b.setMeas n x).vectors = b.vectors := fun _ _ _ => rfl
@[simp] theorem Block.setMeas_casc : ∀ (b : Block) (n : Nat) (x : Meas), (b.setMeas n x).casc = b.casc := fun _ _ _ => rfl
@[simp] theorem Block.setMeas_ptus : ∀ (b : Block) (n : Nat) (x : Meas), (b.setMeas n x).ptus = b.ptus := fun _ _ _ => rfl
@[simp] theorem Block.setMeas_stores : ∀ (b : Block) (n : Nat) (x : Meas), (b.setMeas n x).stores = b.stores := fun _ _ _ => rfl
@[simp] theorem Block.setMeas_mops : ∀ (b : Block) (n : Nat) (x : Meas), (b.setMeas n x).mops = b.mops := fun _ _ _ => rfl
@[simp] theorem Block.setMeas_units : ∀ (b : Block) (n : Nat) (x : Meas), (b.setMeas n x).units = b.units := fun _ _ _ => rfl
@[simp] theorem Block.setMeas_masks : ∀ (b : Block) (n : Nat) (x : Meas), (b.setMeas n x).masks = b.masks := fun _ _ _ => rfl
@[simp] theorem Block.setMeas_hists : ∀ (b : Block) (n : Nat) (x : Meas), (b.setMeas n x).hists = b.hists := fun _ _ _ => rfl
@[simp] theorem Block.setMeas_stims : ∀ (b : Block) (n : Nat) (x : Meas), (b.setMeas n x).stims = b.stims := fun _ _ _ => rfl
@[simp] theorem Block.setMeas_drivers : ∀ (b : Block) (n : Nat) (x : Meas), (b.setMeas n x).drivers = b.drivers := fun _ _ _ => rfl
@[simp] theorem Block.setMeas_banks : ∀ (b : Block) (n : Nat) (x : Meas), (b.setMeas n x).banks = b.banks := fun _ _ _ => rfl
@[simp] theorem Block.setMeas_maint : ∀ (b : Block) (n : Nat) (x : Meas), (b.setMeas n x).maint = b.maint := fun _ _ _ => rfl
@[simp] theorem Block.setMeas_words : ∀ (b : Block) (n : Nat) (x : Meas), (b.setMeas n x).words = b.words := fun _ _ _ => rfl
@[simp] theorem Block.setMeas_tags : ∀ (b : Block) (n : Nat) (x : Meas), (b.setMeas n x).tags = b.tags := fun _ _ _ => rfl
@[simp] theorem Block.setMeas_queues : ∀ (b : Block) (n : Nat) (x : Meas), (b.setMeas n x).queues = b.queues := fun _ _ _ => rfl
@[simp] theorem Block.setMeas_selectors : ∀ (b : Block) (n : Nat) (x : Meas), (b.setMeas n x).selectors = b.selectors := fun _ _ _ => rfl
@[simp] theorem Block.setMeas_errs : ∀ (b : Block) (n : Nat) (x : Meas), (b.setMeas n x).errs = b.errs := fun _ _ _ => rfl
@[simp] theorem Block.setMeas_emcy : ∀ (b : Block) (n : Nat) (x : Meas), (b.setMeas n x).emcy = b.emcy := fun _ _ _ => rfl
@[simp] theorem Block.setMeas_logWait : ∀ (b : Block) (n : Nat) (x : Meas), (b.setMeas n x).logWait = b.logWait := fun _ _ _ => rfl
@[simp] theorem Block.setMeas_lastErr : ∀ (b : Block) (n : Nat) (x : Meas), (b.setMeas n x).lastErr = b.lastErr := fun _ _ _ => rfl
@[simp] theorem Block.setMeas_lastAlert : ∀ (b : Block) (n : Nat) (x : Meas), (b.setMeas n x).lastAlert = b.lastAlert := fun _ _ _ => rfl
@[simp] theorem Block.setMeas_pcie : ∀ (b : Block) (n : Nat) (x : Meas), (b.setMeas n x).pcie = b.pcie := fun _ _ _ => rfl
@[simp] theorem Block.setMeas_sync : ∀ (b : Block) (n : Nat) (x : Meas), (b.setMeas n x).sync = b.sync := fun _ _ _ => rfl
@[simp] theorem Block.setMeas_chain : ∀ (b : Block) (n : Nat) (x : Meas), (b.setMeas n x).chain = b.chain := fun _ _ _ => rfl
@[simp] theorem Block.setMeas_flash : ∀ (b : Block) (n : Nat) (x : Meas), (b.setMeas n x).flash = b.flash := fun _ _ _ => rfl
@[simp] theorem Block.setMeas_power : ∀ (b : Block) (n : Nat) (x : Meas), (b.setMeas n x).power = b.power := fun _ _ _ => rfl
@[simp] theorem Block.setMeas_server : ∀ (b : Block) (n : Nat) (x : Meas), (b.setMeas n x).server = b.server := fun _ _ _ => rfl
@[simp] theorem Block.setMeas_canPort : ∀ (b : Block) (n : Nat) (x : Meas), (b.setMeas n x).canPort = b.canPort := fun _ _ _ => rfl
@[simp] theorem Block.setMeas_clk : ∀ (b : Block) (n : Nat) (x : Meas), (b.setMeas n x).clk = b.clk := fun _ _ _ => rfl
@[simp] theorem Block.setMeas_due : ∀ (b : Block) (n : Nat) (x : Meas), (b.setMeas n x).due = b.due := fun _ _ _ => rfl
@[simp] theorem Block.setMeas_resp : ∀ (b : Block) (n : Nat) (x : Meas), (b.setMeas n x).resp = b.resp := fun _ _ _ => rfl
@[simp] theorem Block.setMeas_out : ∀ (b : Block) (n : Nat) (x : Meas), (b.setMeas n x).out = b.out := fun _ _ _ => rfl
@[simp] theorem Block.setMeas_free : ∀ (b : Block) (n : Nat) (x : Meas), (b.setMeas n x).free = b.free := fun _ _ _ => rfl

/-! ### setMask -/

@[simp] theorem Block.setMask_part : ∀ (b : Block) (t : Nat) (x : Mask), (b.setMask t x).part = b.part := fun _ _ _ => rfl
@[simp] theorem Block.setMask_regs : ∀ (b : Block) (t : Nat) (x : Mask), (b.setMask t x).regs = b.regs := fun _ _ _ => rfl
@[simp] theorem Block.setMask_bar : ∀ (b : Block) (t : Nat) (x : Mask), (b.setMask t x).bar = b.bar := fun _ _ _ => rfl
@[simp] theorem Block.setMask_time : ∀ (b : Block) (t : Nat) (x : Mask), (b.setMask t x).time = b.time := fun _ _ _ => rfl
@[simp] theorem Block.setMask_packets : ∀ (b : Block) (t : Nat) (x : Mask), (b.setMask t x).packets = b.packets := fun _ _ _ => rfl
@[simp] theorem Block.setMask_lanes : ∀ (b : Block) (t : Nat) (x : Mask), (b.setMask t x).lanes = b.lanes := fun _ _ _ => rfl
@[simp] theorem Block.setMask_pods : ∀ (b : Block) (t : Nat) (x : Mask), (b.setMask t x).pods = b.pods := fun _ _ _ => rfl
@[simp] theorem Block.setMask_engines : ∀ (b : Block) (t : Nat) (x : Mask), (b.setMask t x).engines = b.engines := fun _ _ _ => rfl
@[simp] theorem Block.setMask_syncAbs : ∀ (b : Block) (t : Nat) (x : Mask), (b.setMask t x).syncAbs = b.syncAbs := fun _ _ _ => rfl
@[simp] theorem Block.setMask_doms : ∀ (b : Block) (t : Nat) (x : Mask), (b.setMask t x).doms = b.doms := fun _ _ _ => rfl
@[simp] theorem Block.setMask_outs : ∀ (b : Block) (t : Nat) (x : Mask), (b.setMask t x).outs = b.outs := fun _ _ _ => rfl
@[simp] theorem Block.setMask_vectors : ∀ (b : Block) (t : Nat) (x : Mask), (b.setMask t x).vectors = b.vectors := fun _ _ _ => rfl
@[simp] theorem Block.setMask_casc : ∀ (b : Block) (t : Nat) (x : Mask), (b.setMask t x).casc = b.casc := fun _ _ _ => rfl
@[simp] theorem Block.setMask_ptus : ∀ (b : Block) (t : Nat) (x : Mask), (b.setMask t x).ptus = b.ptus := fun _ _ _ => rfl
@[simp] theorem Block.setMask_stores : ∀ (b : Block) (t : Nat) (x : Mask), (b.setMask t x).stores = b.stores := fun _ _ _ => rfl
@[simp] theorem Block.setMask_mops : ∀ (b : Block) (t : Nat) (x : Mask), (b.setMask t x).mops = b.mops := fun _ _ _ => rfl
@[simp] theorem Block.setMask_units : ∀ (b : Block) (t : Nat) (x : Mask), (b.setMask t x).units = b.units := fun _ _ _ => rfl
@[simp] theorem Block.setMask_meas : ∀ (b : Block) (t : Nat) (x : Mask), (b.setMask t x).meas = b.meas := fun _ _ _ => rfl
@[simp] theorem Block.setMask_hists : ∀ (b : Block) (t : Nat) (x : Mask), (b.setMask t x).hists = b.hists := fun _ _ _ => rfl
@[simp] theorem Block.setMask_stims : ∀ (b : Block) (t : Nat) (x : Mask), (b.setMask t x).stims = b.stims := fun _ _ _ => rfl
@[simp] theorem Block.setMask_drivers : ∀ (b : Block) (t : Nat) (x : Mask), (b.setMask t x).drivers = b.drivers := fun _ _ _ => rfl
@[simp] theorem Block.setMask_banks : ∀ (b : Block) (t : Nat) (x : Mask), (b.setMask t x).banks = b.banks := fun _ _ _ => rfl
@[simp] theorem Block.setMask_maint : ∀ (b : Block) (t : Nat) (x : Mask), (b.setMask t x).maint = b.maint := fun _ _ _ => rfl
@[simp] theorem Block.setMask_words : ∀ (b : Block) (t : Nat) (x : Mask), (b.setMask t x).words = b.words := fun _ _ _ => rfl
@[simp] theorem Block.setMask_tags : ∀ (b : Block) (t : Nat) (x : Mask), (b.setMask t x).tags = b.tags := fun _ _ _ => rfl
@[simp] theorem Block.setMask_queues : ∀ (b : Block) (t : Nat) (x : Mask), (b.setMask t x).queues = b.queues := fun _ _ _ => rfl
@[simp] theorem Block.setMask_selectors : ∀ (b : Block) (t : Nat) (x : Mask), (b.setMask t x).selectors = b.selectors := fun _ _ _ => rfl
@[simp] theorem Block.setMask_errs : ∀ (b : Block) (t : Nat) (x : Mask), (b.setMask t x).errs = b.errs := fun _ _ _ => rfl
@[simp] theorem Block.setMask_emcy : ∀ (b : Block) (t : Nat) (x : Mask), (b.setMask t x).emcy = b.emcy := fun _ _ _ => rfl
@[simp] theorem Block.setMask_logWait : ∀ (b : Block) (t : Nat) (x : Mask), (b.setMask t x).logWait = b.logWait := fun _ _ _ => rfl
@[simp] theorem Block.setMask_lastErr : ∀ (b : Block) (t : Nat) (x : Mask), (b.setMask t x).lastErr = b.lastErr := fun _ _ _ => rfl
@[simp] theorem Block.setMask_lastAlert : ∀ (b : Block) (t : Nat) (x : Mask), (b.setMask t x).lastAlert = b.lastAlert := fun _ _ _ => rfl
@[simp] theorem Block.setMask_pcie : ∀ (b : Block) (t : Nat) (x : Mask), (b.setMask t x).pcie = b.pcie := fun _ _ _ => rfl
@[simp] theorem Block.setMask_sync : ∀ (b : Block) (t : Nat) (x : Mask), (b.setMask t x).sync = b.sync := fun _ _ _ => rfl
@[simp] theorem Block.setMask_chain : ∀ (b : Block) (t : Nat) (x : Mask), (b.setMask t x).chain = b.chain := fun _ _ _ => rfl
@[simp] theorem Block.setMask_flash : ∀ (b : Block) (t : Nat) (x : Mask), (b.setMask t x).flash = b.flash := fun _ _ _ => rfl
@[simp] theorem Block.setMask_power : ∀ (b : Block) (t : Nat) (x : Mask), (b.setMask t x).power = b.power := fun _ _ _ => rfl
@[simp] theorem Block.setMask_server : ∀ (b : Block) (t : Nat) (x : Mask), (b.setMask t x).server = b.server := fun _ _ _ => rfl
@[simp] theorem Block.setMask_canPort : ∀ (b : Block) (t : Nat) (x : Mask), (b.setMask t x).canPort = b.canPort := fun _ _ _ => rfl
@[simp] theorem Block.setMask_clk : ∀ (b : Block) (t : Nat) (x : Mask), (b.setMask t x).clk = b.clk := fun _ _ _ => rfl
@[simp] theorem Block.setMask_due : ∀ (b : Block) (t : Nat) (x : Mask), (b.setMask t x).due = b.due := fun _ _ _ => rfl
@[simp] theorem Block.setMask_resp : ∀ (b : Block) (t : Nat) (x : Mask), (b.setMask t x).resp = b.resp := fun _ _ _ => rfl
@[simp] theorem Block.setMask_out : ∀ (b : Block) (t : Nat) (x : Mask), (b.setMask t x).out = b.out := fun _ _ _ => rfl
@[simp] theorem Block.setMask_free : ∀ (b : Block) (t : Nat) (x : Mask), (b.setMask t x).free = b.free := fun _ _ _ => rfl

/-! ### setHist -/

@[simp] theorem Block.setHist_part : ∀ (b : Block) (h : Nat) (x : Hist), (b.setHist h x).part = b.part := fun _ _ _ => rfl
@[simp] theorem Block.setHist_regs : ∀ (b : Block) (h : Nat) (x : Hist), (b.setHist h x).regs = b.regs := fun _ _ _ => rfl
@[simp] theorem Block.setHist_bar : ∀ (b : Block) (h : Nat) (x : Hist), (b.setHist h x).bar = b.bar := fun _ _ _ => rfl
@[simp] theorem Block.setHist_time : ∀ (b : Block) (h : Nat) (x : Hist), (b.setHist h x).time = b.time := fun _ _ _ => rfl
@[simp] theorem Block.setHist_packets : ∀ (b : Block) (h : Nat) (x : Hist), (b.setHist h x).packets = b.packets := fun _ _ _ => rfl
@[simp] theorem Block.setHist_lanes : ∀ (b : Block) (h : Nat) (x : Hist), (b.setHist h x).lanes = b.lanes := fun _ _ _ => rfl
@[simp] theorem Block.setHist_pods : ∀ (b : Block) (h : Nat) (x : Hist), (b.setHist h x).pods = b.pods := fun _ _ _ => rfl
@[simp] theorem Block.setHist_engines : ∀ (b : Block) (h : Nat) (x : Hist), (b.setHist h x).engines = b.engines := fun _ _ _ => rfl
@[simp] theorem Block.setHist_syncAbs : ∀ (b : Block) (h : Nat) (x : Hist), (b.setHist h x).syncAbs = b.syncAbs := fun _ _ _ => rfl
@[simp] theorem Block.setHist_doms : ∀ (b : Block) (h : Nat) (x : Hist), (b.setHist h x).doms = b.doms := fun _ _ _ => rfl
@[simp] theorem Block.setHist_outs : ∀ (b : Block) (h : Nat) (x : Hist), (b.setHist h x).outs = b.outs := fun _ _ _ => rfl
@[simp] theorem Block.setHist_vectors : ∀ (b : Block) (h : Nat) (x : Hist), (b.setHist h x).vectors = b.vectors := fun _ _ _ => rfl
@[simp] theorem Block.setHist_casc : ∀ (b : Block) (h : Nat) (x : Hist), (b.setHist h x).casc = b.casc := fun _ _ _ => rfl
@[simp] theorem Block.setHist_ptus : ∀ (b : Block) (h : Nat) (x : Hist), (b.setHist h x).ptus = b.ptus := fun _ _ _ => rfl
@[simp] theorem Block.setHist_stores : ∀ (b : Block) (h : Nat) (x : Hist), (b.setHist h x).stores = b.stores := fun _ _ _ => rfl
@[simp] theorem Block.setHist_mops : ∀ (b : Block) (h : Nat) (x : Hist), (b.setHist h x).mops = b.mops := fun _ _ _ => rfl
@[simp] theorem Block.setHist_units : ∀ (b : Block) (h : Nat) (x : Hist), (b.setHist h x).units = b.units := fun _ _ _ => rfl
@[simp] theorem Block.setHist_meas : ∀ (b : Block) (h : Nat) (x : Hist), (b.setHist h x).meas = b.meas := fun _ _ _ => rfl
@[simp] theorem Block.setHist_masks : ∀ (b : Block) (h : Nat) (x : Hist), (b.setHist h x).masks = b.masks := fun _ _ _ => rfl
@[simp] theorem Block.setHist_stims : ∀ (b : Block) (h : Nat) (x : Hist), (b.setHist h x).stims = b.stims := fun _ _ _ => rfl
@[simp] theorem Block.setHist_drivers : ∀ (b : Block) (h : Nat) (x : Hist), (b.setHist h x).drivers = b.drivers := fun _ _ _ => rfl
@[simp] theorem Block.setHist_banks : ∀ (b : Block) (h : Nat) (x : Hist), (b.setHist h x).banks = b.banks := fun _ _ _ => rfl
@[simp] theorem Block.setHist_maint : ∀ (b : Block) (h : Nat) (x : Hist), (b.setHist h x).maint = b.maint := fun _ _ _ => rfl
@[simp] theorem Block.setHist_words : ∀ (b : Block) (h : Nat) (x : Hist), (b.setHist h x).words = b.words := fun _ _ _ => rfl
@[simp] theorem Block.setHist_tags : ∀ (b : Block) (h : Nat) (x : Hist), (b.setHist h x).tags = b.tags := fun _ _ _ => rfl
@[simp] theorem Block.setHist_queues : ∀ (b : Block) (h : Nat) (x : Hist), (b.setHist h x).queues = b.queues := fun _ _ _ => rfl
@[simp] theorem Block.setHist_selectors : ∀ (b : Block) (h : Nat) (x : Hist), (b.setHist h x).selectors = b.selectors := fun _ _ _ => rfl
@[simp] theorem Block.setHist_errs : ∀ (b : Block) (h : Nat) (x : Hist), (b.setHist h x).errs = b.errs := fun _ _ _ => rfl
@[simp] theorem Block.setHist_emcy : ∀ (b : Block) (h : Nat) (x : Hist), (b.setHist h x).emcy = b.emcy := fun _ _ _ => rfl
@[simp] theorem Block.setHist_logWait : ∀ (b : Block) (h : Nat) (x : Hist), (b.setHist h x).logWait = b.logWait := fun _ _ _ => rfl
@[simp] theorem Block.setHist_lastErr : ∀ (b : Block) (h : Nat) (x : Hist), (b.setHist h x).lastErr = b.lastErr := fun _ _ _ => rfl
@[simp] theorem Block.setHist_lastAlert : ∀ (b : Block) (h : Nat) (x : Hist), (b.setHist h x).lastAlert = b.lastAlert := fun _ _ _ => rfl
@[simp] theorem Block.setHist_pcie : ∀ (b : Block) (h : Nat) (x : Hist), (b.setHist h x).pcie = b.pcie := fun _ _ _ => rfl
@[simp] theorem Block.setHist_sync : ∀ (b : Block) (h : Nat) (x : Hist), (b.setHist h x).sync = b.sync := fun _ _ _ => rfl
@[simp] theorem Block.setHist_chain : ∀ (b : Block) (h : Nat) (x : Hist), (b.setHist h x).chain = b.chain := fun _ _ _ => rfl
@[simp] theorem Block.setHist_flash : ∀ (b : Block) (h : Nat) (x : Hist), (b.setHist h x).flash = b.flash := fun _ _ _ => rfl
@[simp] theorem Block.setHist_power : ∀ (b : Block) (h : Nat) (x : Hist), (b.setHist h x).power = b.power := fun _ _ _ => rfl
@[simp] theorem Block.setHist_server : ∀ (b : Block) (h : Nat) (x : Hist), (b.setHist h x).server = b.server := fun _ _ _ => rfl
@[simp] theorem Block.setHist_canPort : ∀ (b : Block) (h : Nat) (x : Hist), (b.setHist h x).canPort = b.canPort := fun _ _ _ => rfl
@[simp] theorem Block.setHist_clk : ∀ (b : Block) (h : Nat) (x : Hist), (b.setHist h x).clk = b.clk := fun _ _ _ => rfl
@[simp] theorem Block.setHist_due : ∀ (b : Block) (h : Nat) (x : Hist), (b.setHist h x).due = b.due := fun _ _ _ => rfl
@[simp] theorem Block.setHist_resp : ∀ (b : Block) (h : Nat) (x : Hist), (b.setHist h x).resp = b.resp := fun _ _ _ => rfl
@[simp] theorem Block.setHist_out : ∀ (b : Block) (h : Nat) (x : Hist), (b.setHist h x).out = b.out := fun _ _ _ => rfl
@[simp] theorem Block.setHist_free : ∀ (b : Block) (h : Nat) (x : Hist), (b.setHist h x).free = b.free := fun _ _ _ => rfl

/-! ### setStim -/

@[simp] theorem Block.setStim_part : ∀ (b : Block) (t : Nat) (x : Stim), (b.setStim t x).part = b.part := fun _ _ _ => rfl
@[simp] theorem Block.setStim_regs : ∀ (b : Block) (t : Nat) (x : Stim), (b.setStim t x).regs = b.regs := fun _ _ _ => rfl
@[simp] theorem Block.setStim_bar : ∀ (b : Block) (t : Nat) (x : Stim), (b.setStim t x).bar = b.bar := fun _ _ _ => rfl
@[simp] theorem Block.setStim_time : ∀ (b : Block) (t : Nat) (x : Stim), (b.setStim t x).time = b.time := fun _ _ _ => rfl
@[simp] theorem Block.setStim_packets : ∀ (b : Block) (t : Nat) (x : Stim), (b.setStim t x).packets = b.packets := fun _ _ _ => rfl
@[simp] theorem Block.setStim_lanes : ∀ (b : Block) (t : Nat) (x : Stim), (b.setStim t x).lanes = b.lanes := fun _ _ _ => rfl
@[simp] theorem Block.setStim_pods : ∀ (b : Block) (t : Nat) (x : Stim), (b.setStim t x).pods = b.pods := fun _ _ _ => rfl
@[simp] theorem Block.setStim_engines : ∀ (b : Block) (t : Nat) (x : Stim), (b.setStim t x).engines = b.engines := fun _ _ _ => rfl
@[simp] theorem Block.setStim_syncAbs : ∀ (b : Block) (t : Nat) (x : Stim), (b.setStim t x).syncAbs = b.syncAbs := fun _ _ _ => rfl
@[simp] theorem Block.setStim_doms : ∀ (b : Block) (t : Nat) (x : Stim), (b.setStim t x).doms = b.doms := fun _ _ _ => rfl
@[simp] theorem Block.setStim_outs : ∀ (b : Block) (t : Nat) (x : Stim), (b.setStim t x).outs = b.outs := fun _ _ _ => rfl
@[simp] theorem Block.setStim_vectors : ∀ (b : Block) (t : Nat) (x : Stim), (b.setStim t x).vectors = b.vectors := fun _ _ _ => rfl
@[simp] theorem Block.setStim_casc : ∀ (b : Block) (t : Nat) (x : Stim), (b.setStim t x).casc = b.casc := fun _ _ _ => rfl
@[simp] theorem Block.setStim_ptus : ∀ (b : Block) (t : Nat) (x : Stim), (b.setStim t x).ptus = b.ptus := fun _ _ _ => rfl
@[simp] theorem Block.setStim_stores : ∀ (b : Block) (t : Nat) (x : Stim), (b.setStim t x).stores = b.stores := fun _ _ _ => rfl
@[simp] theorem Block.setStim_mops : ∀ (b : Block) (t : Nat) (x : Stim), (b.setStim t x).mops = b.mops := fun _ _ _ => rfl
@[simp] theorem Block.setStim_units : ∀ (b : Block) (t : Nat) (x : Stim), (b.setStim t x).units = b.units := fun _ _ _ => rfl
@[simp] theorem Block.setStim_meas : ∀ (b : Block) (t : Nat) (x : Stim), (b.setStim t x).meas = b.meas := fun _ _ _ => rfl
@[simp] theorem Block.setStim_masks : ∀ (b : Block) (t : Nat) (x : Stim), (b.setStim t x).masks = b.masks := fun _ _ _ => rfl
@[simp] theorem Block.setStim_hists : ∀ (b : Block) (t : Nat) (x : Stim), (b.setStim t x).hists = b.hists := fun _ _ _ => rfl
@[simp] theorem Block.setStim_drivers : ∀ (b : Block) (t : Nat) (x : Stim), (b.setStim t x).drivers = b.drivers := fun _ _ _ => rfl
@[simp] theorem Block.setStim_banks : ∀ (b : Block) (t : Nat) (x : Stim), (b.setStim t x).banks = b.banks := fun _ _ _ => rfl
@[simp] theorem Block.setStim_maint : ∀ (b : Block) (t : Nat) (x : Stim), (b.setStim t x).maint = b.maint := fun _ _ _ => rfl
@[simp] theorem Block.setStim_words : ∀ (b : Block) (t : Nat) (x : Stim), (b.setStim t x).words = b.words := fun _ _ _ => rfl
@[simp] theorem Block.setStim_tags : ∀ (b : Block) (t : Nat) (x : Stim), (b.setStim t x).tags = b.tags := fun _ _ _ => rfl
@[simp] theorem Block.setStim_queues : ∀ (b : Block) (t : Nat) (x : Stim), (b.setStim t x).queues = b.queues := fun _ _ _ => rfl
@[simp] theorem Block.setStim_selectors : ∀ (b : Block) (t : Nat) (x : Stim), (b.setStim t x).selectors = b.selectors := fun _ _ _ => rfl
@[simp] theorem Block.setStim_errs : ∀ (b : Block) (t : Nat) (x : Stim), (b.setStim t x).errs = b.errs := fun _ _ _ => rfl
@[simp] theorem Block.setStim_emcy : ∀ (b : Block) (t : Nat) (x : Stim), (b.setStim t x).emcy = b.emcy := fun _ _ _ => rfl
@[simp] theorem Block.setStim_logWait : ∀ (b : Block) (t : Nat) (x : Stim), (b.setStim t x).logWait = b.logWait := fun _ _ _ => rfl
@[simp] theorem Block.setStim_lastErr : ∀ (b : Block) (t : Nat) (x : Stim), (b.setStim t x).lastErr = b.lastErr := fun _ _ _ => rfl
@[simp] theorem Block.setStim_lastAlert : ∀ (b : Block) (t : Nat) (x : Stim), (b.setStim t x).lastAlert = b.lastAlert := fun _ _ _ => rfl
@[simp] theorem Block.setStim_pcie : ∀ (b : Block) (t : Nat) (x : Stim), (b.setStim t x).pcie = b.pcie := fun _ _ _ => rfl
@[simp] theorem Block.setStim_sync : ∀ (b : Block) (t : Nat) (x : Stim), (b.setStim t x).sync = b.sync := fun _ _ _ => rfl
@[simp] theorem Block.setStim_chain : ∀ (b : Block) (t : Nat) (x : Stim), (b.setStim t x).chain = b.chain := fun _ _ _ => rfl
@[simp] theorem Block.setStim_flash : ∀ (b : Block) (t : Nat) (x : Stim), (b.setStim t x).flash = b.flash := fun _ _ _ => rfl
@[simp] theorem Block.setStim_power : ∀ (b : Block) (t : Nat) (x : Stim), (b.setStim t x).power = b.power := fun _ _ _ => rfl
@[simp] theorem Block.setStim_server : ∀ (b : Block) (t : Nat) (x : Stim), (b.setStim t x).server = b.server := fun _ _ _ => rfl
@[simp] theorem Block.setStim_canPort : ∀ (b : Block) (t : Nat) (x : Stim), (b.setStim t x).canPort = b.canPort := fun _ _ _ => rfl
@[simp] theorem Block.setStim_clk : ∀ (b : Block) (t : Nat) (x : Stim), (b.setStim t x).clk = b.clk := fun _ _ _ => rfl
@[simp] theorem Block.setStim_due : ∀ (b : Block) (t : Nat) (x : Stim), (b.setStim t x).due = b.due := fun _ _ _ => rfl
@[simp] theorem Block.setStim_resp : ∀ (b : Block) (t : Nat) (x : Stim), (b.setStim t x).resp = b.resp := fun _ _ _ => rfl
@[simp] theorem Block.setStim_out : ∀ (b : Block) (t : Nat) (x : Stim), (b.setStim t x).out = b.out := fun _ _ _ => rfl
@[simp] theorem Block.setStim_free : ∀ (b : Block) (t : Nat) (x : Stim), (b.setStim t x).free = b.free := fun _ _ _ => rfl

/-! ### setDriver -/

@[simp] theorem Block.setDriver_part : ∀ (b : Block) (l : Nat) (x : Driver), (b.setDriver l x).part = b.part := fun _ _ _ => rfl
@[simp] theorem Block.setDriver_regs : ∀ (b : Block) (l : Nat) (x : Driver), (b.setDriver l x).regs = b.regs := fun _ _ _ => rfl
@[simp] theorem Block.setDriver_bar : ∀ (b : Block) (l : Nat) (x : Driver), (b.setDriver l x).bar = b.bar := fun _ _ _ => rfl
@[simp] theorem Block.setDriver_time : ∀ (b : Block) (l : Nat) (x : Driver), (b.setDriver l x).time = b.time := fun _ _ _ => rfl
@[simp] theorem Block.setDriver_packets : ∀ (b : Block) (l : Nat) (x : Driver), (b.setDriver l x).packets = b.packets := fun _ _ _ => rfl
@[simp] theorem Block.setDriver_lanes : ∀ (b : Block) (l : Nat) (x : Driver), (b.setDriver l x).lanes = b.lanes := fun _ _ _ => rfl
@[simp] theorem Block.setDriver_pods : ∀ (b : Block) (l : Nat) (x : Driver), (b.setDriver l x).pods = b.pods := fun _ _ _ => rfl
@[simp] theorem Block.setDriver_engines : ∀ (b : Block) (l : Nat) (x : Driver), (b.setDriver l x).engines = b.engines := fun _ _ _ => rfl
@[simp] theorem Block.setDriver_syncAbs : ∀ (b : Block) (l : Nat) (x : Driver), (b.setDriver l x).syncAbs = b.syncAbs := fun _ _ _ => rfl
@[simp] theorem Block.setDriver_doms : ∀ (b : Block) (l : Nat) (x : Driver), (b.setDriver l x).doms = b.doms := fun _ _ _ => rfl
@[simp] theorem Block.setDriver_outs : ∀ (b : Block) (l : Nat) (x : Driver), (b.setDriver l x).outs = b.outs := fun _ _ _ => rfl
@[simp] theorem Block.setDriver_vectors : ∀ (b : Block) (l : Nat) (x : Driver), (b.setDriver l x).vectors = b.vectors := fun _ _ _ => rfl
@[simp] theorem Block.setDriver_casc : ∀ (b : Block) (l : Nat) (x : Driver), (b.setDriver l x).casc = b.casc := fun _ _ _ => rfl
@[simp] theorem Block.setDriver_ptus : ∀ (b : Block) (l : Nat) (x : Driver), (b.setDriver l x).ptus = b.ptus := fun _ _ _ => rfl
@[simp] theorem Block.setDriver_stores : ∀ (b : Block) (l : Nat) (x : Driver), (b.setDriver l x).stores = b.stores := fun _ _ _ => rfl
@[simp] theorem Block.setDriver_mops : ∀ (b : Block) (l : Nat) (x : Driver), (b.setDriver l x).mops = b.mops := fun _ _ _ => rfl
@[simp] theorem Block.setDriver_units : ∀ (b : Block) (l : Nat) (x : Driver), (b.setDriver l x).units = b.units := fun _ _ _ => rfl
@[simp] theorem Block.setDriver_meas : ∀ (b : Block) (l : Nat) (x : Driver), (b.setDriver l x).meas = b.meas := fun _ _ _ => rfl
@[simp] theorem Block.setDriver_masks : ∀ (b : Block) (l : Nat) (x : Driver), (b.setDriver l x).masks = b.masks := fun _ _ _ => rfl
@[simp] theorem Block.setDriver_hists : ∀ (b : Block) (l : Nat) (x : Driver), (b.setDriver l x).hists = b.hists := fun _ _ _ => rfl
@[simp] theorem Block.setDriver_stims : ∀ (b : Block) (l : Nat) (x : Driver), (b.setDriver l x).stims = b.stims := fun _ _ _ => rfl
@[simp] theorem Block.setDriver_banks : ∀ (b : Block) (l : Nat) (x : Driver), (b.setDriver l x).banks = b.banks := fun _ _ _ => rfl
@[simp] theorem Block.setDriver_maint : ∀ (b : Block) (l : Nat) (x : Driver), (b.setDriver l x).maint = b.maint := fun _ _ _ => rfl
@[simp] theorem Block.setDriver_words : ∀ (b : Block) (l : Nat) (x : Driver), (b.setDriver l x).words = b.words := fun _ _ _ => rfl
@[simp] theorem Block.setDriver_tags : ∀ (b : Block) (l : Nat) (x : Driver), (b.setDriver l x).tags = b.tags := fun _ _ _ => rfl
@[simp] theorem Block.setDriver_queues : ∀ (b : Block) (l : Nat) (x : Driver), (b.setDriver l x).queues = b.queues := fun _ _ _ => rfl
@[simp] theorem Block.setDriver_selectors : ∀ (b : Block) (l : Nat) (x : Driver), (b.setDriver l x).selectors = b.selectors := fun _ _ _ => rfl
@[simp] theorem Block.setDriver_errs : ∀ (b : Block) (l : Nat) (x : Driver), (b.setDriver l x).errs = b.errs := fun _ _ _ => rfl
@[simp] theorem Block.setDriver_emcy : ∀ (b : Block) (l : Nat) (x : Driver), (b.setDriver l x).emcy = b.emcy := fun _ _ _ => rfl
@[simp] theorem Block.setDriver_logWait : ∀ (b : Block) (l : Nat) (x : Driver), (b.setDriver l x).logWait = b.logWait := fun _ _ _ => rfl
@[simp] theorem Block.setDriver_lastErr : ∀ (b : Block) (l : Nat) (x : Driver), (b.setDriver l x).lastErr = b.lastErr := fun _ _ _ => rfl
@[simp] theorem Block.setDriver_lastAlert : ∀ (b : Block) (l : Nat) (x : Driver), (b.setDriver l x).lastAlert = b.lastAlert := fun _ _ _ => rfl
@[simp] theorem Block.setDriver_pcie : ∀ (b : Block) (l : Nat) (x : Driver), (b.setDriver l x).pcie = b.pcie := fun _ _ _ => rfl
@[simp] theorem Block.setDriver_sync : ∀ (b : Block) (l : Nat) (x : Driver), (b.setDriver l x).sync = b.sync := fun _ _ _ => rfl
@[simp] theorem Block.setDriver_chain : ∀ (b : Block) (l : Nat) (x : Driver), (b.setDriver l x).chain = b.chain := fun _ _ _ => rfl
@[simp] theorem Block.setDriver_flash : ∀ (b : Block) (l : Nat) (x : Driver), (b.setDriver l x).flash = b.flash := fun _ _ _ => rfl
@[simp] theorem Block.setDriver_power : ∀ (b : Block) (l : Nat) (x : Driver), (b.setDriver l x).power = b.power := fun _ _ _ => rfl
@[simp] theorem Block.setDriver_server : ∀ (b : Block) (l : Nat) (x : Driver), (b.setDriver l x).server = b.server := fun _ _ _ => rfl
@[simp] theorem Block.setDriver_canPort : ∀ (b : Block) (l : Nat) (x : Driver), (b.setDriver l x).canPort = b.canPort := fun _ _ _ => rfl
@[simp] theorem Block.setDriver_clk : ∀ (b : Block) (l : Nat) (x : Driver), (b.setDriver l x).clk = b.clk := fun _ _ _ => rfl
@[simp] theorem Block.setDriver_due : ∀ (b : Block) (l : Nat) (x : Driver), (b.setDriver l x).due = b.due := fun _ _ _ => rfl
@[simp] theorem Block.setDriver_resp : ∀ (b : Block) (l : Nat) (x : Driver), (b.setDriver l x).resp = b.resp := fun _ _ _ => rfl
@[simp] theorem Block.setDriver_out : ∀ (b : Block) (l : Nat) (x : Driver), (b.setDriver l x).out = b.out := fun _ _ _ => rfl
@[simp] theorem Block.setDriver_free : ∀ (b : Block) (l : Nat) (x : Driver), (b.setDriver l x).free = b.free := fun _ _ _ => rfl

/-! ### setBank -/

@[simp] theorem Block.setBank_part : ∀ (b : Block) (k : Nat) (x : Bank), (b.setBank k x).part = b.part := fun _ _ _ => rfl
@[simp] theorem Block.setBank_regs : ∀ (b : Block) (k : Nat) (x : Bank), (b.setBank k x).regs = b.regs := fun _ _ _ => rfl
@[simp] theorem Block.setBank_bar : ∀ (b : Block) (k : Nat) (x : Bank), (b.setBank k x).bar = b.bar := fun _ _ _ => rfl
@[simp] theorem Block.setBank_time : ∀ (b : Block) (k : Nat) (x : Bank), (b.setBank k x).time = b.time := fun _ _ _ => rfl
@[simp] theorem Block.setBank_packets : ∀ (b : Block) (k : Nat) (x : Bank), (b.setBank k x).packets = b.packets := fun _ _ _ => rfl
@[simp] theorem Block.setBank_lanes : ∀ (b : Block) (k : Nat) (x : Bank), (b.setBank k x).lanes = b.lanes := fun _ _ _ => rfl
@[simp] theorem Block.setBank_pods : ∀ (b : Block) (k : Nat) (x : Bank), (b.setBank k x).pods = b.pods := fun _ _ _ => rfl
@[simp] theorem Block.setBank_engines : ∀ (b : Block) (k : Nat) (x : Bank), (b.setBank k x).engines = b.engines := fun _ _ _ => rfl
@[simp] theorem Block.setBank_syncAbs : ∀ (b : Block) (k : Nat) (x : Bank), (b.setBank k x).syncAbs = b.syncAbs := fun _ _ _ => rfl
@[simp] theorem Block.setBank_doms : ∀ (b : Block) (k : Nat) (x : Bank), (b.setBank k x).doms = b.doms := fun _ _ _ => rfl
@[simp] theorem Block.setBank_outs : ∀ (b : Block) (k : Nat) (x : Bank), (b.setBank k x).outs = b.outs := fun _ _ _ => rfl
@[simp] theorem Block.setBank_vectors : ∀ (b : Block) (k : Nat) (x : Bank), (b.setBank k x).vectors = b.vectors := fun _ _ _ => rfl
@[simp] theorem Block.setBank_casc : ∀ (b : Block) (k : Nat) (x : Bank), (b.setBank k x).casc = b.casc := fun _ _ _ => rfl
@[simp] theorem Block.setBank_ptus : ∀ (b : Block) (k : Nat) (x : Bank), (b.setBank k x).ptus = b.ptus := fun _ _ _ => rfl
@[simp] theorem Block.setBank_stores : ∀ (b : Block) (k : Nat) (x : Bank), (b.setBank k x).stores = b.stores := fun _ _ _ => rfl
@[simp] theorem Block.setBank_mops : ∀ (b : Block) (k : Nat) (x : Bank), (b.setBank k x).mops = b.mops := fun _ _ _ => rfl
@[simp] theorem Block.setBank_units : ∀ (b : Block) (k : Nat) (x : Bank), (b.setBank k x).units = b.units := fun _ _ _ => rfl
@[simp] theorem Block.setBank_meas : ∀ (b : Block) (k : Nat) (x : Bank), (b.setBank k x).meas = b.meas := fun _ _ _ => rfl
@[simp] theorem Block.setBank_masks : ∀ (b : Block) (k : Nat) (x : Bank), (b.setBank k x).masks = b.masks := fun _ _ _ => rfl
@[simp] theorem Block.setBank_hists : ∀ (b : Block) (k : Nat) (x : Bank), (b.setBank k x).hists = b.hists := fun _ _ _ => rfl
@[simp] theorem Block.setBank_stims : ∀ (b : Block) (k : Nat) (x : Bank), (b.setBank k x).stims = b.stims := fun _ _ _ => rfl
@[simp] theorem Block.setBank_drivers : ∀ (b : Block) (k : Nat) (x : Bank), (b.setBank k x).drivers = b.drivers := fun _ _ _ => rfl
@[simp] theorem Block.setBank_maint : ∀ (b : Block) (k : Nat) (x : Bank), (b.setBank k x).maint = b.maint := fun _ _ _ => rfl
@[simp] theorem Block.setBank_words : ∀ (b : Block) (k : Nat) (x : Bank), (b.setBank k x).words = b.words := fun _ _ _ => rfl
@[simp] theorem Block.setBank_tags : ∀ (b : Block) (k : Nat) (x : Bank), (b.setBank k x).tags = b.tags := fun _ _ _ => rfl
@[simp] theorem Block.setBank_queues : ∀ (b : Block) (k : Nat) (x : Bank), (b.setBank k x).queues = b.queues := fun _ _ _ => rfl
@[simp] theorem Block.setBank_selectors : ∀ (b : Block) (k : Nat) (x : Bank), (b.setBank k x).selectors = b.selectors := fun _ _ _ => rfl
@[simp] theorem Block.setBank_errs : ∀ (b : Block) (k : Nat) (x : Bank), (b.setBank k x).errs = b.errs := fun _ _ _ => rfl
@[simp] theorem Block.setBank_emcy : ∀ (b : Block) (k : Nat) (x : Bank), (b.setBank k x).emcy = b.emcy := fun _ _ _ => rfl
@[simp] theorem Block.setBank_logWait : ∀ (b : Block) (k : Nat) (x : Bank), (b.setBank k x).logWait = b.logWait := fun _ _ _ => rfl
@[simp] theorem Block.setBank_lastErr : ∀ (b : Block) (k : Nat) (x : Bank), (b.setBank k x).lastErr = b.lastErr := fun _ _ _ => rfl
@[simp] theorem Block.setBank_lastAlert : ∀ (b : Block) (k : Nat) (x : Bank), (b.setBank k x).lastAlert = b.lastAlert := fun _ _ _ => rfl
@[simp] theorem Block.setBank_pcie : ∀ (b : Block) (k : Nat) (x : Bank), (b.setBank k x).pcie = b.pcie := fun _ _ _ => rfl
@[simp] theorem Block.setBank_sync : ∀ (b : Block) (k : Nat) (x : Bank), (b.setBank k x).sync = b.sync := fun _ _ _ => rfl
@[simp] theorem Block.setBank_chain : ∀ (b : Block) (k : Nat) (x : Bank), (b.setBank k x).chain = b.chain := fun _ _ _ => rfl
@[simp] theorem Block.setBank_flash : ∀ (b : Block) (k : Nat) (x : Bank), (b.setBank k x).flash = b.flash := fun _ _ _ => rfl
@[simp] theorem Block.setBank_power : ∀ (b : Block) (k : Nat) (x : Bank), (b.setBank k x).power = b.power := fun _ _ _ => rfl
@[simp] theorem Block.setBank_server : ∀ (b : Block) (k : Nat) (x : Bank), (b.setBank k x).server = b.server := fun _ _ _ => rfl
@[simp] theorem Block.setBank_canPort : ∀ (b : Block) (k : Nat) (x : Bank), (b.setBank k x).canPort = b.canPort := fun _ _ _ => rfl
@[simp] theorem Block.setBank_clk : ∀ (b : Block) (k : Nat) (x : Bank), (b.setBank k x).clk = b.clk := fun _ _ _ => rfl
@[simp] theorem Block.setBank_due : ∀ (b : Block) (k : Nat) (x : Bank), (b.setBank k x).due = b.due := fun _ _ _ => rfl
@[simp] theorem Block.setBank_resp : ∀ (b : Block) (k : Nat) (x : Bank), (b.setBank k x).resp = b.resp := fun _ _ _ => rfl
@[simp] theorem Block.setBank_out : ∀ (b : Block) (k : Nat) (x : Bank), (b.setBank k x).out = b.out := fun _ _ _ => rfl
@[simp] theorem Block.setBank_free : ∀ (b : Block) (k : Nat) (x : Bank), (b.setBank k x).free = b.free := fun _ _ _ => rfl

/-! ### setUnit -/

@[simp] theorem Block.setUnit_part : ∀ (b : Block) (u v : Nat), (b.setUnit u v).part = b.part := fun _ _ _ => rfl
@[simp] theorem Block.setUnit_regs : ∀ (b : Block) (u v : Nat), (b.setUnit u v).regs = b.regs := fun _ _ _ => rfl
@[simp] theorem Block.setUnit_bar : ∀ (b : Block) (u v : Nat), (b.setUnit u v).bar = b.bar := fun _ _ _ => rfl
@[simp] theorem Block.setUnit_time : ∀ (b : Block) (u v : Nat), (b.setUnit u v).time = b.time := fun _ _ _ => rfl
@[simp] theorem Block.setUnit_packets : ∀ (b : Block) (u v : Nat), (b.setUnit u v).packets = b.packets := fun _ _ _ => rfl
@[simp] theorem Block.setUnit_lanes : ∀ (b : Block) (u v : Nat), (b.setUnit u v).lanes = b.lanes := fun _ _ _ => rfl
@[simp] theorem Block.setUnit_pods : ∀ (b : Block) (u v : Nat), (b.setUnit u v).pods = b.pods := fun _ _ _ => rfl
@[simp] theorem Block.setUnit_engines : ∀ (b : Block) (u v : Nat), (b.setUnit u v).engines = b.engines := fun _ _ _ => rfl
@[simp] theorem Block.setUnit_syncAbs : ∀ (b : Block) (u v : Nat), (b.setUnit u v).syncAbs = b.syncAbs := fun _ _ _ => rfl
@[simp] theorem Block.setUnit_doms : ∀ (b : Block) (u v : Nat), (b.setUnit u v).doms = b.doms := fun _ _ _ => rfl
@[simp] theorem Block.setUnit_outs : ∀ (b : Block) (u v : Nat), (b.setUnit u v).outs = b.outs := fun _ _ _ => rfl
@[simp] theorem Block.setUnit_vectors : ∀ (b : Block) (u v : Nat), (b.setUnit u v).vectors = b.vectors := fun _ _ _ => rfl
@[simp] theorem Block.setUnit_casc : ∀ (b : Block) (u v : Nat), (b.setUnit u v).casc = b.casc := fun _ _ _ => rfl
@[simp] theorem Block.setUnit_ptus : ∀ (b : Block) (u v : Nat), (b.setUnit u v).ptus = b.ptus := fun _ _ _ => rfl
@[simp] theorem Block.setUnit_stores : ∀ (b : Block) (u v : Nat), (b.setUnit u v).stores = b.stores := fun _ _ _ => rfl
@[simp] theorem Block.setUnit_mops : ∀ (b : Block) (u v : Nat), (b.setUnit u v).mops = b.mops := fun _ _ _ => rfl
@[simp] theorem Block.setUnit_meas : ∀ (b : Block) (u v : Nat), (b.setUnit u v).meas = b.meas := fun _ _ _ => rfl
@[simp] theorem Block.setUnit_masks : ∀ (b : Block) (u v : Nat), (b.setUnit u v).masks = b.masks := fun _ _ _ => rfl
@[simp] theorem Block.setUnit_hists : ∀ (b : Block) (u v : Nat), (b.setUnit u v).hists = b.hists := fun _ _ _ => rfl
@[simp] theorem Block.setUnit_stims : ∀ (b : Block) (u v : Nat), (b.setUnit u v).stims = b.stims := fun _ _ _ => rfl
@[simp] theorem Block.setUnit_drivers : ∀ (b : Block) (u v : Nat), (b.setUnit u v).drivers = b.drivers := fun _ _ _ => rfl
@[simp] theorem Block.setUnit_banks : ∀ (b : Block) (u v : Nat), (b.setUnit u v).banks = b.banks := fun _ _ _ => rfl
@[simp] theorem Block.setUnit_maint : ∀ (b : Block) (u v : Nat), (b.setUnit u v).maint = b.maint := fun _ _ _ => rfl
@[simp] theorem Block.setUnit_words : ∀ (b : Block) (u v : Nat), (b.setUnit u v).words = b.words := fun _ _ _ => rfl
@[simp] theorem Block.setUnit_tags : ∀ (b : Block) (u v : Nat), (b.setUnit u v).tags = b.tags := fun _ _ _ => rfl
@[simp] theorem Block.setUnit_queues : ∀ (b : Block) (u v : Nat), (b.setUnit u v).queues = b.queues := fun _ _ _ => rfl
@[simp] theorem Block.setUnit_selectors : ∀ (b : Block) (u v : Nat), (b.setUnit u v).selectors = b.selectors := fun _ _ _ => rfl
@[simp] theorem Block.setUnit_errs : ∀ (b : Block) (u v : Nat), (b.setUnit u v).errs = b.errs := fun _ _ _ => rfl
@[simp] theorem Block.setUnit_emcy : ∀ (b : Block) (u v : Nat), (b.setUnit u v).emcy = b.emcy := fun _ _ _ => rfl
@[simp] theorem Block.setUnit_logWait : ∀ (b : Block) (u v : Nat), (b.setUnit u v).logWait = b.logWait := fun _ _ _ => rfl
@[simp] theorem Block.setUnit_lastErr : ∀ (b : Block) (u v : Nat), (b.setUnit u v).lastErr = b.lastErr := fun _ _ _ => rfl
@[simp] theorem Block.setUnit_lastAlert : ∀ (b : Block) (u v : Nat), (b.setUnit u v).lastAlert = b.lastAlert := fun _ _ _ => rfl
@[simp] theorem Block.setUnit_pcie : ∀ (b : Block) (u v : Nat), (b.setUnit u v).pcie = b.pcie := fun _ _ _ => rfl
@[simp] theorem Block.setUnit_sync : ∀ (b : Block) (u v : Nat), (b.setUnit u v).sync = b.sync := fun _ _ _ => rfl
@[simp] theorem Block.setUnit_chain : ∀ (b : Block) (u v : Nat), (b.setUnit u v).chain = b.chain := fun _ _ _ => rfl
@[simp] theorem Block.setUnit_flash : ∀ (b : Block) (u v : Nat), (b.setUnit u v).flash = b.flash := fun _ _ _ => rfl
@[simp] theorem Block.setUnit_power : ∀ (b : Block) (u v : Nat), (b.setUnit u v).power = b.power := fun _ _ _ => rfl
@[simp] theorem Block.setUnit_server : ∀ (b : Block) (u v : Nat), (b.setUnit u v).server = b.server := fun _ _ _ => rfl
@[simp] theorem Block.setUnit_canPort : ∀ (b : Block) (u v : Nat), (b.setUnit u v).canPort = b.canPort := fun _ _ _ => rfl
@[simp] theorem Block.setUnit_clk : ∀ (b : Block) (u v : Nat), (b.setUnit u v).clk = b.clk := fun _ _ _ => rfl
@[simp] theorem Block.setUnit_due : ∀ (b : Block) (u v : Nat), (b.setUnit u v).due = b.due := fun _ _ _ => rfl
@[simp] theorem Block.setUnit_resp : ∀ (b : Block) (u v : Nat), (b.setUnit u v).resp = b.resp := fun _ _ _ => rfl
@[simp] theorem Block.setUnit_out : ∀ (b : Block) (u v : Nat), (b.setUnit u v).out = b.out := fun _ _ _ => rfl
@[simp] theorem Block.setUnit_free : ∀ (b : Block) (u v : Nat), (b.setUnit u v).free = b.free := fun _ _ _ => rfl

/-! ### setChan -/

@[simp] theorem Block.setChan_part : ∀ (b : Block) (c : Nat) (x : Dma), (b.setChan c x).part = b.part := fun _ _ _ => rfl
@[simp] theorem Block.setChan_regs : ∀ (b : Block) (c : Nat) (x : Dma), (b.setChan c x).regs = b.regs := fun _ _ _ => rfl
@[simp] theorem Block.setChan_bar : ∀ (b : Block) (c : Nat) (x : Dma), (b.setChan c x).bar = b.bar := fun _ _ _ => rfl
@[simp] theorem Block.setChan_time : ∀ (b : Block) (c : Nat) (x : Dma), (b.setChan c x).time = b.time := fun _ _ _ => rfl
@[simp] theorem Block.setChan_packets : ∀ (b : Block) (c : Nat) (x : Dma), (b.setChan c x).packets = b.packets := fun _ _ _ => rfl
@[simp] theorem Block.setChan_lanes : ∀ (b : Block) (c : Nat) (x : Dma), (b.setChan c x).lanes = b.lanes := fun _ _ _ => rfl
@[simp] theorem Block.setChan_pods : ∀ (b : Block) (c : Nat) (x : Dma), (b.setChan c x).pods = b.pods := fun _ _ _ => rfl
@[simp] theorem Block.setChan_engines : ∀ (b : Block) (c : Nat) (x : Dma), (b.setChan c x).engines = b.engines := fun _ _ _ => rfl
@[simp] theorem Block.setChan_syncAbs : ∀ (b : Block) (c : Nat) (x : Dma), (b.setChan c x).syncAbs = b.syncAbs := fun _ _ _ => rfl
@[simp] theorem Block.setChan_doms : ∀ (b : Block) (c : Nat) (x : Dma), (b.setChan c x).doms = b.doms := fun _ _ _ => rfl
@[simp] theorem Block.setChan_outs : ∀ (b : Block) (c : Nat) (x : Dma), (b.setChan c x).outs = b.outs := fun _ _ _ => rfl
@[simp] theorem Block.setChan_vectors : ∀ (b : Block) (c : Nat) (x : Dma), (b.setChan c x).vectors = b.vectors := fun _ _ _ => rfl
@[simp] theorem Block.setChan_casc : ∀ (b : Block) (c : Nat) (x : Dma), (b.setChan c x).casc = b.casc := fun _ _ _ => rfl
@[simp] theorem Block.setChan_ptus : ∀ (b : Block) (c : Nat) (x : Dma), (b.setChan c x).ptus = b.ptus := fun _ _ _ => rfl
@[simp] theorem Block.setChan_stores : ∀ (b : Block) (c : Nat) (x : Dma), (b.setChan c x).stores = b.stores := fun _ _ _ => rfl
@[simp] theorem Block.setChan_mops : ∀ (b : Block) (c : Nat) (x : Dma), (b.setChan c x).mops = b.mops := fun _ _ _ => rfl
@[simp] theorem Block.setChan_units : ∀ (b : Block) (c : Nat) (x : Dma), (b.setChan c x).units = b.units := fun _ _ _ => rfl
@[simp] theorem Block.setChan_meas : ∀ (b : Block) (c : Nat) (x : Dma), (b.setChan c x).meas = b.meas := fun _ _ _ => rfl
@[simp] theorem Block.setChan_masks : ∀ (b : Block) (c : Nat) (x : Dma), (b.setChan c x).masks = b.masks := fun _ _ _ => rfl
@[simp] theorem Block.setChan_hists : ∀ (b : Block) (c : Nat) (x : Dma), (b.setChan c x).hists = b.hists := fun _ _ _ => rfl
@[simp] theorem Block.setChan_stims : ∀ (b : Block) (c : Nat) (x : Dma), (b.setChan c x).stims = b.stims := fun _ _ _ => rfl
@[simp] theorem Block.setChan_drivers : ∀ (b : Block) (c : Nat) (x : Dma), (b.setChan c x).drivers = b.drivers := fun _ _ _ => rfl
@[simp] theorem Block.setChan_banks : ∀ (b : Block) (c : Nat) (x : Dma), (b.setChan c x).banks = b.banks := fun _ _ _ => rfl
@[simp] theorem Block.setChan_maint : ∀ (b : Block) (c : Nat) (x : Dma), (b.setChan c x).maint = b.maint := fun _ _ _ => rfl
@[simp] theorem Block.setChan_words : ∀ (b : Block) (c : Nat) (x : Dma), (b.setChan c x).words = b.words := fun _ _ _ => rfl
@[simp] theorem Block.setChan_tags : ∀ (b : Block) (c : Nat) (x : Dma), (b.setChan c x).tags = b.tags := fun _ _ _ => rfl
@[simp] theorem Block.setChan_queues : ∀ (b : Block) (c : Nat) (x : Dma), (b.setChan c x).queues = b.queues := fun _ _ _ => rfl
@[simp] theorem Block.setChan_selectors : ∀ (b : Block) (c : Nat) (x : Dma), (b.setChan c x).selectors = b.selectors := fun _ _ _ => rfl
@[simp] theorem Block.setChan_errs : ∀ (b : Block) (c : Nat) (x : Dma), (b.setChan c x).errs = b.errs := fun _ _ _ => rfl
@[simp] theorem Block.setChan_emcy : ∀ (b : Block) (c : Nat) (x : Dma), (b.setChan c x).emcy = b.emcy := fun _ _ _ => rfl
@[simp] theorem Block.setChan_logWait : ∀ (b : Block) (c : Nat) (x : Dma), (b.setChan c x).logWait = b.logWait := fun _ _ _ => rfl
@[simp] theorem Block.setChan_lastErr : ∀ (b : Block) (c : Nat) (x : Dma), (b.setChan c x).lastErr = b.lastErr := fun _ _ _ => rfl
@[simp] theorem Block.setChan_lastAlert : ∀ (b : Block) (c : Nat) (x : Dma), (b.setChan c x).lastAlert = b.lastAlert := fun _ _ _ => rfl
@[simp] theorem Block.setChan_sync : ∀ (b : Block) (c : Nat) (x : Dma), (b.setChan c x).sync = b.sync := fun _ _ _ => rfl
@[simp] theorem Block.setChan_chain : ∀ (b : Block) (c : Nat) (x : Dma), (b.setChan c x).chain = b.chain := fun _ _ _ => rfl
@[simp] theorem Block.setChan_flash : ∀ (b : Block) (c : Nat) (x : Dma), (b.setChan c x).flash = b.flash := fun _ _ _ => rfl
@[simp] theorem Block.setChan_power : ∀ (b : Block) (c : Nat) (x : Dma), (b.setChan c x).power = b.power := fun _ _ _ => rfl
@[simp] theorem Block.setChan_server : ∀ (b : Block) (c : Nat) (x : Dma), (b.setChan c x).server = b.server := fun _ _ _ => rfl
@[simp] theorem Block.setChan_canPort : ∀ (b : Block) (c : Nat) (x : Dma), (b.setChan c x).canPort = b.canPort := fun _ _ _ => rfl
@[simp] theorem Block.setChan_clk : ∀ (b : Block) (c : Nat) (x : Dma), (b.setChan c x).clk = b.clk := fun _ _ _ => rfl
@[simp] theorem Block.setChan_due : ∀ (b : Block) (c : Nat) (x : Dma), (b.setChan c x).due = b.due := fun _ _ _ => rfl
@[simp] theorem Block.setChan_resp : ∀ (b : Block) (c : Nat) (x : Dma), (b.setChan c x).resp = b.resp := fun _ _ _ => rfl
@[simp] theorem Block.setChan_out : ∀ (b : Block) (c : Nat) (x : Dma), (b.setChan c x).out = b.out := fun _ _ _ => rfl
@[simp] theorem Block.setChan_free : ∀ (b : Block) (c : Nat) (x : Dma), (b.setChan c x).free = b.free := fun _ _ _ => rfl

/-! ### setWord -/

@[simp] theorem Block.setWord_part : ∀ (b : Block) (k i : Nat) (v : Word), (b.setWord k i v).part = b.part := fun _ _ _ _ => rfl
@[simp] theorem Block.setWord_regs : ∀ (b : Block) (k i : Nat) (v : Word), (b.setWord k i v).regs = b.regs := fun _ _ _ _ => rfl
@[simp] theorem Block.setWord_bar : ∀ (b : Block) (k i : Nat) (v : Word), (b.setWord k i v).bar = b.bar := fun _ _ _ _ => rfl
@[simp] theorem Block.setWord_time : ∀ (b : Block) (k i : Nat) (v : Word), (b.setWord k i v).time = b.time := fun _ _ _ _ => rfl
@[simp] theorem Block.setWord_packets : ∀ (b : Block) (k i : Nat) (v : Word), (b.setWord k i v).packets = b.packets := fun _ _ _ _ => rfl
@[simp] theorem Block.setWord_lanes : ∀ (b : Block) (k i : Nat) (v : Word), (b.setWord k i v).lanes = b.lanes := fun _ _ _ _ => rfl
@[simp] theorem Block.setWord_pods : ∀ (b : Block) (k i : Nat) (v : Word), (b.setWord k i v).pods = b.pods := fun _ _ _ _ => rfl
@[simp] theorem Block.setWord_engines : ∀ (b : Block) (k i : Nat) (v : Word), (b.setWord k i v).engines = b.engines := fun _ _ _ _ => rfl
@[simp] theorem Block.setWord_syncAbs : ∀ (b : Block) (k i : Nat) (v : Word), (b.setWord k i v).syncAbs = b.syncAbs := fun _ _ _ _ => rfl
@[simp] theorem Block.setWord_doms : ∀ (b : Block) (k i : Nat) (v : Word), (b.setWord k i v).doms = b.doms := fun _ _ _ _ => rfl
@[simp] theorem Block.setWord_outs : ∀ (b : Block) (k i : Nat) (v : Word), (b.setWord k i v).outs = b.outs := fun _ _ _ _ => rfl
@[simp] theorem Block.setWord_vectors : ∀ (b : Block) (k i : Nat) (v : Word), (b.setWord k i v).vectors = b.vectors := fun _ _ _ _ => rfl
@[simp] theorem Block.setWord_casc : ∀ (b : Block) (k i : Nat) (v : Word), (b.setWord k i v).casc = b.casc := fun _ _ _ _ => rfl
@[simp] theorem Block.setWord_ptus : ∀ (b : Block) (k i : Nat) (v : Word), (b.setWord k i v).ptus = b.ptus := fun _ _ _ _ => rfl
@[simp] theorem Block.setWord_stores : ∀ (b : Block) (k i : Nat) (v : Word), (b.setWord k i v).stores = b.stores := fun _ _ _ _ => rfl
@[simp] theorem Block.setWord_mops : ∀ (b : Block) (k i : Nat) (v : Word), (b.setWord k i v).mops = b.mops := fun _ _ _ _ => rfl
@[simp] theorem Block.setWord_units : ∀ (b : Block) (k i : Nat) (v : Word), (b.setWord k i v).units = b.units := fun _ _ _ _ => rfl
@[simp] theorem Block.setWord_meas : ∀ (b : Block) (k i : Nat) (v : Word), (b.setWord k i v).meas = b.meas := fun _ _ _ _ => rfl
@[simp] theorem Block.setWord_masks : ∀ (b : Block) (k i : Nat) (v : Word), (b.setWord k i v).masks = b.masks := fun _ _ _ _ => rfl
@[simp] theorem Block.setWord_hists : ∀ (b : Block) (k i : Nat) (v : Word), (b.setWord k i v).hists = b.hists := fun _ _ _ _ => rfl
@[simp] theorem Block.setWord_stims : ∀ (b : Block) (k i : Nat) (v : Word), (b.setWord k i v).stims = b.stims := fun _ _ _ _ => rfl
@[simp] theorem Block.setWord_drivers : ∀ (b : Block) (k i : Nat) (v : Word), (b.setWord k i v).drivers = b.drivers := fun _ _ _ _ => rfl
@[simp] theorem Block.setWord_banks : ∀ (b : Block) (k i : Nat) (v : Word), (b.setWord k i v).banks = b.banks := fun _ _ _ _ => rfl
@[simp] theorem Block.setWord_maint : ∀ (b : Block) (k i : Nat) (v : Word), (b.setWord k i v).maint = b.maint := fun _ _ _ _ => rfl
@[simp] theorem Block.setWord_tags : ∀ (b : Block) (k i : Nat) (v : Word), (b.setWord k i v).tags = b.tags := fun _ _ _ _ => rfl
@[simp] theorem Block.setWord_queues : ∀ (b : Block) (k i : Nat) (v : Word), (b.setWord k i v).queues = b.queues := fun _ _ _ _ => rfl
@[simp] theorem Block.setWord_selectors : ∀ (b : Block) (k i : Nat) (v : Word), (b.setWord k i v).selectors = b.selectors := fun _ _ _ _ => rfl
@[simp] theorem Block.setWord_errs : ∀ (b : Block) (k i : Nat) (v : Word), (b.setWord k i v).errs = b.errs := fun _ _ _ _ => rfl
@[simp] theorem Block.setWord_emcy : ∀ (b : Block) (k i : Nat) (v : Word), (b.setWord k i v).emcy = b.emcy := fun _ _ _ _ => rfl
@[simp] theorem Block.setWord_logWait : ∀ (b : Block) (k i : Nat) (v : Word), (b.setWord k i v).logWait = b.logWait := fun _ _ _ _ => rfl
@[simp] theorem Block.setWord_lastErr : ∀ (b : Block) (k i : Nat) (v : Word), (b.setWord k i v).lastErr = b.lastErr := fun _ _ _ _ => rfl
@[simp] theorem Block.setWord_lastAlert : ∀ (b : Block) (k i : Nat) (v : Word), (b.setWord k i v).lastAlert = b.lastAlert := fun _ _ _ _ => rfl
@[simp] theorem Block.setWord_pcie : ∀ (b : Block) (k i : Nat) (v : Word), (b.setWord k i v).pcie = b.pcie := fun _ _ _ _ => rfl
@[simp] theorem Block.setWord_sync : ∀ (b : Block) (k i : Nat) (v : Word), (b.setWord k i v).sync = b.sync := fun _ _ _ _ => rfl
@[simp] theorem Block.setWord_chain : ∀ (b : Block) (k i : Nat) (v : Word), (b.setWord k i v).chain = b.chain := fun _ _ _ _ => rfl
@[simp] theorem Block.setWord_flash : ∀ (b : Block) (k i : Nat) (v : Word), (b.setWord k i v).flash = b.flash := fun _ _ _ _ => rfl
@[simp] theorem Block.setWord_power : ∀ (b : Block) (k i : Nat) (v : Word), (b.setWord k i v).power = b.power := fun _ _ _ _ => rfl
@[simp] theorem Block.setWord_server : ∀ (b : Block) (k i : Nat) (v : Word), (b.setWord k i v).server = b.server := fun _ _ _ _ => rfl
@[simp] theorem Block.setWord_canPort : ∀ (b : Block) (k i : Nat) (v : Word), (b.setWord k i v).canPort = b.canPort := fun _ _ _ _ => rfl
@[simp] theorem Block.setWord_clk : ∀ (b : Block) (k i : Nat) (v : Word), (b.setWord k i v).clk = b.clk := fun _ _ _ _ => rfl
@[simp] theorem Block.setWord_due : ∀ (b : Block) (k i : Nat) (v : Word), (b.setWord k i v).due = b.due := fun _ _ _ _ => rfl
@[simp] theorem Block.setWord_resp : ∀ (b : Block) (k i : Nat) (v : Word), (b.setWord k i v).resp = b.resp := fun _ _ _ _ => rfl
@[simp] theorem Block.setWord_out : ∀ (b : Block) (k i : Nat) (v : Word), (b.setWord k i v).out = b.out := fun _ _ _ _ => rfl
@[simp] theorem Block.setWord_free : ∀ (b : Block) (k i : Nat) (v : Word), (b.setWord k i v).free = b.free := fun _ _ _ _ => rfl

/-! ### setTag -/

@[simp] theorem Block.setTag_part : ∀ (b : Block) (k i v : Nat), (b.setTag k i v).part = b.part := fun _ _ _ _ => rfl
@[simp] theorem Block.setTag_regs : ∀ (b : Block) (k i v : Nat), (b.setTag k i v).regs = b.regs := fun _ _ _ _ => rfl
@[simp] theorem Block.setTag_bar : ∀ (b : Block) (k i v : Nat), (b.setTag k i v).bar = b.bar := fun _ _ _ _ => rfl
@[simp] theorem Block.setTag_time : ∀ (b : Block) (k i v : Nat), (b.setTag k i v).time = b.time := fun _ _ _ _ => rfl
@[simp] theorem Block.setTag_packets : ∀ (b : Block) (k i v : Nat), (b.setTag k i v).packets = b.packets := fun _ _ _ _ => rfl
@[simp] theorem Block.setTag_lanes : ∀ (b : Block) (k i v : Nat), (b.setTag k i v).lanes = b.lanes := fun _ _ _ _ => rfl
@[simp] theorem Block.setTag_pods : ∀ (b : Block) (k i v : Nat), (b.setTag k i v).pods = b.pods := fun _ _ _ _ => rfl
@[simp] theorem Block.setTag_engines : ∀ (b : Block) (k i v : Nat), (b.setTag k i v).engines = b.engines := fun _ _ _ _ => rfl
@[simp] theorem Block.setTag_syncAbs : ∀ (b : Block) (k i v : Nat), (b.setTag k i v).syncAbs = b.syncAbs := fun _ _ _ _ => rfl
@[simp] theorem Block.setTag_doms : ∀ (b : Block) (k i v : Nat), (b.setTag k i v).doms = b.doms := fun _ _ _ _ => rfl
@[simp] theorem Block.setTag_outs : ∀ (b : Block) (k i v : Nat), (b.setTag k i v).outs = b.outs := fun _ _ _ _ => rfl
@[simp] theorem Block.setTag_vectors : ∀ (b : Block) (k i v : Nat), (b.setTag k i v).vectors = b.vectors := fun _ _ _ _ => rfl
@[simp] theorem Block.setTag_casc : ∀ (b : Block) (k i v : Nat), (b.setTag k i v).casc = b.casc := fun _ _ _ _ => rfl
@[simp] theorem Block.setTag_ptus : ∀ (b : Block) (k i v : Nat), (b.setTag k i v).ptus = b.ptus := fun _ _ _ _ => rfl
@[simp] theorem Block.setTag_stores : ∀ (b : Block) (k i v : Nat), (b.setTag k i v).stores = b.stores := fun _ _ _ _ => rfl
@[simp] theorem Block.setTag_mops : ∀ (b : Block) (k i v : Nat), (b.setTag k i v).mops = b.mops := fun _ _ _ _ => rfl
@[simp] theorem Block.setTag_units : ∀ (b : Block) (k i v : Nat), (b.setTag k i v).units = b.units := fun _ _ _ _ => rfl
@[simp] theorem Block.setTag_meas : ∀ (b : Block) (k i v : Nat), (b.setTag k i v).meas = b.meas := fun _ _ _ _ => rfl
@[simp] theorem Block.setTag_masks : ∀ (b : Block) (k i v : Nat), (b.setTag k i v).masks = b.masks := fun _ _ _ _ => rfl
@[simp] theorem Block.setTag_hists : ∀ (b : Block) (k i v : Nat), (b.setTag k i v).hists = b.hists := fun _ _ _ _ => rfl
@[simp] theorem Block.setTag_stims : ∀ (b : Block) (k i v : Nat), (b.setTag k i v).stims = b.stims := fun _ _ _ _ => rfl
@[simp] theorem Block.setTag_drivers : ∀ (b : Block) (k i v : Nat), (b.setTag k i v).drivers = b.drivers := fun _ _ _ _ => rfl
@[simp] theorem Block.setTag_banks : ∀ (b : Block) (k i v : Nat), (b.setTag k i v).banks = b.banks := fun _ _ _ _ => rfl
@[simp] theorem Block.setTag_maint : ∀ (b : Block) (k i v : Nat), (b.setTag k i v).maint = b.maint := fun _ _ _ _ => rfl
@[simp] theorem Block.setTag_words : ∀ (b : Block) (k i v : Nat), (b.setTag k i v).words = b.words := fun _ _ _ _ => rfl
@[simp] theorem Block.setTag_queues : ∀ (b : Block) (k i v : Nat), (b.setTag k i v).queues = b.queues := fun _ _ _ _ => rfl
@[simp] theorem Block.setTag_selectors : ∀ (b : Block) (k i v : Nat), (b.setTag k i v).selectors = b.selectors := fun _ _ _ _ => rfl
@[simp] theorem Block.setTag_errs : ∀ (b : Block) (k i v : Nat), (b.setTag k i v).errs = b.errs := fun _ _ _ _ => rfl
@[simp] theorem Block.setTag_emcy : ∀ (b : Block) (k i v : Nat), (b.setTag k i v).emcy = b.emcy := fun _ _ _ _ => rfl
@[simp] theorem Block.setTag_logWait : ∀ (b : Block) (k i v : Nat), (b.setTag k i v).logWait = b.logWait := fun _ _ _ _ => rfl
@[simp] theorem Block.setTag_lastErr : ∀ (b : Block) (k i v : Nat), (b.setTag k i v).lastErr = b.lastErr := fun _ _ _ _ => rfl
@[simp] theorem Block.setTag_lastAlert : ∀ (b : Block) (k i v : Nat), (b.setTag k i v).lastAlert = b.lastAlert := fun _ _ _ _ => rfl
@[simp] theorem Block.setTag_pcie : ∀ (b : Block) (k i v : Nat), (b.setTag k i v).pcie = b.pcie := fun _ _ _ _ => rfl
@[simp] theorem Block.setTag_sync : ∀ (b : Block) (k i v : Nat), (b.setTag k i v).sync = b.sync := fun _ _ _ _ => rfl
@[simp] theorem Block.setTag_chain : ∀ (b : Block) (k i v : Nat), (b.setTag k i v).chain = b.chain := fun _ _ _ _ => rfl
@[simp] theorem Block.setTag_flash : ∀ (b : Block) (k i v : Nat), (b.setTag k i v).flash = b.flash := fun _ _ _ _ => rfl
@[simp] theorem Block.setTag_power : ∀ (b : Block) (k i v : Nat), (b.setTag k i v).power = b.power := fun _ _ _ _ => rfl
@[simp] theorem Block.setTag_server : ∀ (b : Block) (k i v : Nat), (b.setTag k i v).server = b.server := fun _ _ _ _ => rfl
@[simp] theorem Block.setTag_canPort : ∀ (b : Block) (k i v : Nat), (b.setTag k i v).canPort = b.canPort := fun _ _ _ _ => rfl
@[simp] theorem Block.setTag_clk : ∀ (b : Block) (k i v : Nat), (b.setTag k i v).clk = b.clk := fun _ _ _ _ => rfl
@[simp] theorem Block.setTag_due : ∀ (b : Block) (k i v : Nat), (b.setTag k i v).due = b.due := fun _ _ _ _ => rfl
@[simp] theorem Block.setTag_resp : ∀ (b : Block) (k i v : Nat), (b.setTag k i v).resp = b.resp := fun _ _ _ _ => rfl
@[simp] theorem Block.setTag_out : ∀ (b : Block) (k i v : Nat), (b.setTag k i v).out = b.out := fun _ _ _ _ => rfl
@[simp] theorem Block.setTag_free : ∀ (b : Block) (k i v : Nat), (b.setTag k i v).free = b.free := fun _ _ _ _ => rfl

/-! ### setQueue -/

@[simp] theorem Block.setQueue_part : ∀ (b : Block) (k : Nat) (q : Queue), (b.setQueue k q).part = b.part := fun _ _ _ => rfl
@[simp] theorem Block.setQueue_regs : ∀ (b : Block) (k : Nat) (q : Queue), (b.setQueue k q).regs = b.regs := fun _ _ _ => rfl
@[simp] theorem Block.setQueue_bar : ∀ (b : Block) (k : Nat) (q : Queue), (b.setQueue k q).bar = b.bar := fun _ _ _ => rfl
@[simp] theorem Block.setQueue_time : ∀ (b : Block) (k : Nat) (q : Queue), (b.setQueue k q).time = b.time := fun _ _ _ => rfl
@[simp] theorem Block.setQueue_packets : ∀ (b : Block) (k : Nat) (q : Queue), (b.setQueue k q).packets = b.packets := fun _ _ _ => rfl
@[simp] theorem Block.setQueue_lanes : ∀ (b : Block) (k : Nat) (q : Queue), (b.setQueue k q).lanes = b.lanes := fun _ _ _ => rfl
@[simp] theorem Block.setQueue_pods : ∀ (b : Block) (k : Nat) (q : Queue), (b.setQueue k q).pods = b.pods := fun _ _ _ => rfl
@[simp] theorem Block.setQueue_engines : ∀ (b : Block) (k : Nat) (q : Queue), (b.setQueue k q).engines = b.engines := fun _ _ _ => rfl
@[simp] theorem Block.setQueue_syncAbs : ∀ (b : Block) (k : Nat) (q : Queue), (b.setQueue k q).syncAbs = b.syncAbs := fun _ _ _ => rfl
@[simp] theorem Block.setQueue_doms : ∀ (b : Block) (k : Nat) (q : Queue), (b.setQueue k q).doms = b.doms := fun _ _ _ => rfl
@[simp] theorem Block.setQueue_outs : ∀ (b : Block) (k : Nat) (q : Queue), (b.setQueue k q).outs = b.outs := fun _ _ _ => rfl
@[simp] theorem Block.setQueue_vectors : ∀ (b : Block) (k : Nat) (q : Queue), (b.setQueue k q).vectors = b.vectors := fun _ _ _ => rfl
@[simp] theorem Block.setQueue_casc : ∀ (b : Block) (k : Nat) (q : Queue), (b.setQueue k q).casc = b.casc := fun _ _ _ => rfl
@[simp] theorem Block.setQueue_ptus : ∀ (b : Block) (k : Nat) (q : Queue), (b.setQueue k q).ptus = b.ptus := fun _ _ _ => rfl
@[simp] theorem Block.setQueue_stores : ∀ (b : Block) (k : Nat) (q : Queue), (b.setQueue k q).stores = b.stores := fun _ _ _ => rfl
@[simp] theorem Block.setQueue_mops : ∀ (b : Block) (k : Nat) (q : Queue), (b.setQueue k q).mops = b.mops := fun _ _ _ => rfl
@[simp] theorem Block.setQueue_units : ∀ (b : Block) (k : Nat) (q : Queue), (b.setQueue k q).units = b.units := fun _ _ _ => rfl
@[simp] theorem Block.setQueue_meas : ∀ (b : Block) (k : Nat) (q : Queue), (b.setQueue k q).meas = b.meas := fun _ _ _ => rfl
@[simp] theorem Block.setQueue_masks : ∀ (b : Block) (k : Nat) (q : Queue), (b.setQueue k q).masks = b.masks := fun _ _ _ => rfl
@[simp] theorem Block.setQueue_hists : ∀ (b : Block) (k : Nat) (q : Queue), (b.setQueue k q).hists = b.hists := fun _ _ _ => rfl
@[simp] theorem Block.setQueue_stims : ∀ (b : Block) (k : Nat) (q : Queue), (b.setQueue k q).stims = b.stims := fun _ _ _ => rfl
@[simp] theorem Block.setQueue_drivers : ∀ (b : Block) (k : Nat) (q : Queue), (b.setQueue k q).drivers = b.drivers := fun _ _ _ => rfl
@[simp] theorem Block.setQueue_banks : ∀ (b : Block) (k : Nat) (q : Queue), (b.setQueue k q).banks = b.banks := fun _ _ _ => rfl
@[simp] theorem Block.setQueue_maint : ∀ (b : Block) (k : Nat) (q : Queue), (b.setQueue k q).maint = b.maint := fun _ _ _ => rfl
@[simp] theorem Block.setQueue_words : ∀ (b : Block) (k : Nat) (q : Queue), (b.setQueue k q).words = b.words := fun _ _ _ => rfl
@[simp] theorem Block.setQueue_tags : ∀ (b : Block) (k : Nat) (q : Queue), (b.setQueue k q).tags = b.tags := fun _ _ _ => rfl
@[simp] theorem Block.setQueue_selectors : ∀ (b : Block) (k : Nat) (q : Queue), (b.setQueue k q).selectors = b.selectors := fun _ _ _ => rfl
@[simp] theorem Block.setQueue_errs : ∀ (b : Block) (k : Nat) (q : Queue), (b.setQueue k q).errs = b.errs := fun _ _ _ => rfl
@[simp] theorem Block.setQueue_emcy : ∀ (b : Block) (k : Nat) (q : Queue), (b.setQueue k q).emcy = b.emcy := fun _ _ _ => rfl
@[simp] theorem Block.setQueue_logWait : ∀ (b : Block) (k : Nat) (q : Queue), (b.setQueue k q).logWait = b.logWait := fun _ _ _ => rfl
@[simp] theorem Block.setQueue_lastErr : ∀ (b : Block) (k : Nat) (q : Queue), (b.setQueue k q).lastErr = b.lastErr := fun _ _ _ => rfl
@[simp] theorem Block.setQueue_lastAlert : ∀ (b : Block) (k : Nat) (q : Queue), (b.setQueue k q).lastAlert = b.lastAlert := fun _ _ _ => rfl
@[simp] theorem Block.setQueue_pcie : ∀ (b : Block) (k : Nat) (q : Queue), (b.setQueue k q).pcie = b.pcie := fun _ _ _ => rfl
@[simp] theorem Block.setQueue_sync : ∀ (b : Block) (k : Nat) (q : Queue), (b.setQueue k q).sync = b.sync := fun _ _ _ => rfl
@[simp] theorem Block.setQueue_chain : ∀ (b : Block) (k : Nat) (q : Queue), (b.setQueue k q).chain = b.chain := fun _ _ _ => rfl
@[simp] theorem Block.setQueue_flash : ∀ (b : Block) (k : Nat) (q : Queue), (b.setQueue k q).flash = b.flash := fun _ _ _ => rfl
@[simp] theorem Block.setQueue_power : ∀ (b : Block) (k : Nat) (q : Queue), (b.setQueue k q).power = b.power := fun _ _ _ => rfl
@[simp] theorem Block.setQueue_server : ∀ (b : Block) (k : Nat) (q : Queue), (b.setQueue k q).server = b.server := fun _ _ _ => rfl
@[simp] theorem Block.setQueue_canPort : ∀ (b : Block) (k : Nat) (q : Queue), (b.setQueue k q).canPort = b.canPort := fun _ _ _ => rfl
@[simp] theorem Block.setQueue_clk : ∀ (b : Block) (k : Nat) (q : Queue), (b.setQueue k q).clk = b.clk := fun _ _ _ => rfl
@[simp] theorem Block.setQueue_due : ∀ (b : Block) (k : Nat) (q : Queue), (b.setQueue k q).due = b.due := fun _ _ _ => rfl
@[simp] theorem Block.setQueue_resp : ∀ (b : Block) (k : Nat) (q : Queue), (b.setQueue k q).resp = b.resp := fun _ _ _ => rfl
@[simp] theorem Block.setQueue_out : ∀ (b : Block) (k : Nat) (q : Queue), (b.setQueue k q).out = b.out := fun _ _ _ => rfl
@[simp] theorem Block.setQueue_free : ∀ (b : Block) (k : Nat) (q : Queue), (b.setQueue k q).free = b.free := fun _ _ _ => rfl

/-! ### zeroBank -/

@[simp] theorem Block.zeroBank_part : ∀ (b : Block) (k : Nat), (b.zeroBank k).part = b.part := fun _ _ => rfl
@[simp] theorem Block.zeroBank_regs : ∀ (b : Block) (k : Nat), (b.zeroBank k).regs = b.regs := fun _ _ => rfl
@[simp] theorem Block.zeroBank_bar : ∀ (b : Block) (k : Nat), (b.zeroBank k).bar = b.bar := fun _ _ => rfl
@[simp] theorem Block.zeroBank_time : ∀ (b : Block) (k : Nat), (b.zeroBank k).time = b.time := fun _ _ => rfl
@[simp] theorem Block.zeroBank_packets : ∀ (b : Block) (k : Nat), (b.zeroBank k).packets = b.packets := fun _ _ => rfl
@[simp] theorem Block.zeroBank_lanes : ∀ (b : Block) (k : Nat), (b.zeroBank k).lanes = b.lanes := fun _ _ => rfl
@[simp] theorem Block.zeroBank_pods : ∀ (b : Block) (k : Nat), (b.zeroBank k).pods = b.pods := fun _ _ => rfl
@[simp] theorem Block.zeroBank_engines : ∀ (b : Block) (k : Nat), (b.zeroBank k).engines = b.engines := fun _ _ => rfl
@[simp] theorem Block.zeroBank_syncAbs : ∀ (b : Block) (k : Nat), (b.zeroBank k).syncAbs = b.syncAbs := fun _ _ => rfl
@[simp] theorem Block.zeroBank_doms : ∀ (b : Block) (k : Nat), (b.zeroBank k).doms = b.doms := fun _ _ => rfl
@[simp] theorem Block.zeroBank_outs : ∀ (b : Block) (k : Nat), (b.zeroBank k).outs = b.outs := fun _ _ => rfl
@[simp] theorem Block.zeroBank_vectors : ∀ (b : Block) (k : Nat), (b.zeroBank k).vectors = b.vectors := fun _ _ => rfl
@[simp] theorem Block.zeroBank_casc : ∀ (b : Block) (k : Nat), (b.zeroBank k).casc = b.casc := fun _ _ => rfl
@[simp] theorem Block.zeroBank_ptus : ∀ (b : Block) (k : Nat), (b.zeroBank k).ptus = b.ptus := fun _ _ => rfl
@[simp] theorem Block.zeroBank_stores : ∀ (b : Block) (k : Nat), (b.zeroBank k).stores = b.stores := fun _ _ => rfl
@[simp] theorem Block.zeroBank_mops : ∀ (b : Block) (k : Nat), (b.zeroBank k).mops = b.mops := fun _ _ => rfl
@[simp] theorem Block.zeroBank_units : ∀ (b : Block) (k : Nat), (b.zeroBank k).units = b.units := fun _ _ => rfl
@[simp] theorem Block.zeroBank_meas : ∀ (b : Block) (k : Nat), (b.zeroBank k).meas = b.meas := fun _ _ => rfl
@[simp] theorem Block.zeroBank_masks : ∀ (b : Block) (k : Nat), (b.zeroBank k).masks = b.masks := fun _ _ => rfl
@[simp] theorem Block.zeroBank_hists : ∀ (b : Block) (k : Nat), (b.zeroBank k).hists = b.hists := fun _ _ => rfl
@[simp] theorem Block.zeroBank_stims : ∀ (b : Block) (k : Nat), (b.zeroBank k).stims = b.stims := fun _ _ => rfl
@[simp] theorem Block.zeroBank_drivers : ∀ (b : Block) (k : Nat), (b.zeroBank k).drivers = b.drivers := fun _ _ => rfl
@[simp] theorem Block.zeroBank_banks : ∀ (b : Block) (k : Nat), (b.zeroBank k).banks = b.banks := fun _ _ => rfl
@[simp] theorem Block.zeroBank_maint : ∀ (b : Block) (k : Nat), (b.zeroBank k).maint = b.maint := fun _ _ => rfl
@[simp] theorem Block.zeroBank_queues : ∀ (b : Block) (k : Nat), (b.zeroBank k).queues = b.queues := fun _ _ => rfl
@[simp] theorem Block.zeroBank_selectors : ∀ (b : Block) (k : Nat), (b.zeroBank k).selectors = b.selectors := fun _ _ => rfl
@[simp] theorem Block.zeroBank_errs : ∀ (b : Block) (k : Nat), (b.zeroBank k).errs = b.errs := fun _ _ => rfl
@[simp] theorem Block.zeroBank_emcy : ∀ (b : Block) (k : Nat), (b.zeroBank k).emcy = b.emcy := fun _ _ => rfl
@[simp] theorem Block.zeroBank_logWait : ∀ (b : Block) (k : Nat), (b.zeroBank k).logWait = b.logWait := fun _ _ => rfl
@[simp] theorem Block.zeroBank_lastErr : ∀ (b : Block) (k : Nat), (b.zeroBank k).lastErr = b.lastErr := fun _ _ => rfl
@[simp] theorem Block.zeroBank_lastAlert : ∀ (b : Block) (k : Nat), (b.zeroBank k).lastAlert = b.lastAlert := fun _ _ => rfl
@[simp] theorem Block.zeroBank_pcie : ∀ (b : Block) (k : Nat), (b.zeroBank k).pcie = b.pcie := fun _ _ => rfl
@[simp] theorem Block.zeroBank_sync : ∀ (b : Block) (k : Nat), (b.zeroBank k).sync = b.sync := fun _ _ => rfl
@[simp] theorem Block.zeroBank_chain : ∀ (b : Block) (k : Nat), (b.zeroBank k).chain = b.chain := fun _ _ => rfl
@[simp] theorem Block.zeroBank_flash : ∀ (b : Block) (k : Nat), (b.zeroBank k).flash = b.flash := fun _ _ => rfl
@[simp] theorem Block.zeroBank_power : ∀ (b : Block) (k : Nat), (b.zeroBank k).power = b.power := fun _ _ => rfl
@[simp] theorem Block.zeroBank_server : ∀ (b : Block) (k : Nat), (b.zeroBank k).server = b.server := fun _ _ => rfl
@[simp] theorem Block.zeroBank_canPort : ∀ (b : Block) (k : Nat), (b.zeroBank k).canPort = b.canPort := fun _ _ => rfl
@[simp] theorem Block.zeroBank_clk : ∀ (b : Block) (k : Nat), (b.zeroBank k).clk = b.clk := fun _ _ => rfl
@[simp] theorem Block.zeroBank_due : ∀ (b : Block) (k : Nat), (b.zeroBank k).due = b.due := fun _ _ => rfl
@[simp] theorem Block.zeroBank_resp : ∀ (b : Block) (k : Nat), (b.zeroBank k).resp = b.resp := fun _ _ => rfl
@[simp] theorem Block.zeroBank_out : ∀ (b : Block) (k : Nat), (b.zeroBank k).out = b.out := fun _ _ => rfl
@[simp] theorem Block.zeroBank_free : ∀ (b : Block) (k : Nat), (b.zeroBank k).free = b.free := fun _ _ => rfl

/-! ### answer -/

@[simp] theorem Block.answer_part : ∀ (b : Block) (r : Resp), (b.answer r).part = b.part := fun _ _ => rfl
@[simp] theorem Block.answer_regs : ∀ (b : Block) (r : Resp), (b.answer r).regs = b.regs := fun _ _ => rfl
@[simp] theorem Block.answer_bar : ∀ (b : Block) (r : Resp), (b.answer r).bar = b.bar := fun _ _ => rfl
@[simp] theorem Block.answer_time : ∀ (b : Block) (r : Resp), (b.answer r).time = b.time := fun _ _ => rfl
@[simp] theorem Block.answer_packets : ∀ (b : Block) (r : Resp), (b.answer r).packets = b.packets := fun _ _ => rfl
@[simp] theorem Block.answer_lanes : ∀ (b : Block) (r : Resp), (b.answer r).lanes = b.lanes := fun _ _ => rfl
@[simp] theorem Block.answer_pods : ∀ (b : Block) (r : Resp), (b.answer r).pods = b.pods := fun _ _ => rfl
@[simp] theorem Block.answer_engines : ∀ (b : Block) (r : Resp), (b.answer r).engines = b.engines := fun _ _ => rfl
@[simp] theorem Block.answer_syncAbs : ∀ (b : Block) (r : Resp), (b.answer r).syncAbs = b.syncAbs := fun _ _ => rfl
@[simp] theorem Block.answer_doms : ∀ (b : Block) (r : Resp), (b.answer r).doms = b.doms := fun _ _ => rfl
@[simp] theorem Block.answer_outs : ∀ (b : Block) (r : Resp), (b.answer r).outs = b.outs := fun _ _ => rfl
@[simp] theorem Block.answer_vectors : ∀ (b : Block) (r : Resp), (b.answer r).vectors = b.vectors := fun _ _ => rfl
@[simp] theorem Block.answer_casc : ∀ (b : Block) (r : Resp), (b.answer r).casc = b.casc := fun _ _ => rfl
@[simp] theorem Block.answer_ptus : ∀ (b : Block) (r : Resp), (b.answer r).ptus = b.ptus := fun _ _ => rfl
@[simp] theorem Block.answer_stores : ∀ (b : Block) (r : Resp), (b.answer r).stores = b.stores := fun _ _ => rfl
@[simp] theorem Block.answer_mops : ∀ (b : Block) (r : Resp), (b.answer r).mops = b.mops := fun _ _ => rfl
@[simp] theorem Block.answer_units : ∀ (b : Block) (r : Resp), (b.answer r).units = b.units := fun _ _ => rfl
@[simp] theorem Block.answer_meas : ∀ (b : Block) (r : Resp), (b.answer r).meas = b.meas := fun _ _ => rfl
@[simp] theorem Block.answer_masks : ∀ (b : Block) (r : Resp), (b.answer r).masks = b.masks := fun _ _ => rfl
@[simp] theorem Block.answer_hists : ∀ (b : Block) (r : Resp), (b.answer r).hists = b.hists := fun _ _ => rfl
@[simp] theorem Block.answer_stims : ∀ (b : Block) (r : Resp), (b.answer r).stims = b.stims := fun _ _ => rfl
@[simp] theorem Block.answer_drivers : ∀ (b : Block) (r : Resp), (b.answer r).drivers = b.drivers := fun _ _ => rfl
@[simp] theorem Block.answer_banks : ∀ (b : Block) (r : Resp), (b.answer r).banks = b.banks := fun _ _ => rfl
@[simp] theorem Block.answer_maint : ∀ (b : Block) (r : Resp), (b.answer r).maint = b.maint := fun _ _ => rfl
@[simp] theorem Block.answer_words : ∀ (b : Block) (r : Resp), (b.answer r).words = b.words := fun _ _ => rfl
@[simp] theorem Block.answer_tags : ∀ (b : Block) (r : Resp), (b.answer r).tags = b.tags := fun _ _ => rfl
@[simp] theorem Block.answer_queues : ∀ (b : Block) (r : Resp), (b.answer r).queues = b.queues := fun _ _ => rfl
@[simp] theorem Block.answer_selectors : ∀ (b : Block) (r : Resp), (b.answer r).selectors = b.selectors := fun _ _ => rfl
@[simp] theorem Block.answer_errs : ∀ (b : Block) (r : Resp), (b.answer r).errs = b.errs := fun _ _ => rfl
@[simp] theorem Block.answer_emcy : ∀ (b : Block) (r : Resp), (b.answer r).emcy = b.emcy := fun _ _ => rfl
@[simp] theorem Block.answer_logWait : ∀ (b : Block) (r : Resp), (b.answer r).logWait = b.logWait := fun _ _ => rfl
@[simp] theorem Block.answer_lastErr : ∀ (b : Block) (r : Resp), (b.answer r).lastErr = b.lastErr := fun _ _ => rfl
@[simp] theorem Block.answer_lastAlert : ∀ (b : Block) (r : Resp), (b.answer r).lastAlert = b.lastAlert := fun _ _ => rfl
@[simp] theorem Block.answer_pcie : ∀ (b : Block) (r : Resp), (b.answer r).pcie = b.pcie := fun _ _ => rfl
@[simp] theorem Block.answer_sync : ∀ (b : Block) (r : Resp), (b.answer r).sync = b.sync := fun _ _ => rfl
@[simp] theorem Block.answer_chain : ∀ (b : Block) (r : Resp), (b.answer r).chain = b.chain := fun _ _ => rfl
@[simp] theorem Block.answer_flash : ∀ (b : Block) (r : Resp), (b.answer r).flash = b.flash := fun _ _ => rfl
@[simp] theorem Block.answer_power : ∀ (b : Block) (r : Resp), (b.answer r).power = b.power := fun _ _ => rfl
@[simp] theorem Block.answer_server : ∀ (b : Block) (r : Resp), (b.answer r).server = b.server := fun _ _ => rfl
@[simp] theorem Block.answer_canPort : ∀ (b : Block) (r : Resp), (b.answer r).canPort = b.canPort := fun _ _ => rfl
@[simp] theorem Block.answer_clk : ∀ (b : Block) (r : Resp), (b.answer r).clk = b.clk := fun _ _ => rfl
@[simp] theorem Block.answer_due : ∀ (b : Block) (r : Resp), (b.answer r).due = b.due := fun _ _ => rfl
@[simp] theorem Block.answer_out : ∀ (b : Block) (r : Resp), (b.answer r).out = b.out := fun _ _ => rfl
@[simp] theorem Block.answer_free : ∀ (b : Block) (r : Resp), (b.answer r).free = b.free := fun _ _ => rfl

/-! ### emit -/

@[simp] theorem Block.emit_part : ∀ (b : Block) (o : Output), (b.emit o).part = b.part := fun _ _ => rfl
@[simp] theorem Block.emit_regs : ∀ (b : Block) (o : Output), (b.emit o).regs = b.regs := fun _ _ => rfl
@[simp] theorem Block.emit_bar : ∀ (b : Block) (o : Output), (b.emit o).bar = b.bar := fun _ _ => rfl
@[simp] theorem Block.emit_time : ∀ (b : Block) (o : Output), (b.emit o).time = b.time := fun _ _ => rfl
@[simp] theorem Block.emit_packets : ∀ (b : Block) (o : Output), (b.emit o).packets = b.packets := fun _ _ => rfl
@[simp] theorem Block.emit_lanes : ∀ (b : Block) (o : Output), (b.emit o).lanes = b.lanes := fun _ _ => rfl
@[simp] theorem Block.emit_pods : ∀ (b : Block) (o : Output), (b.emit o).pods = b.pods := fun _ _ => rfl
@[simp] theorem Block.emit_engines : ∀ (b : Block) (o : Output), (b.emit o).engines = b.engines := fun _ _ => rfl
@[simp] theorem Block.emit_syncAbs : ∀ (b : Block) (o : Output), (b.emit o).syncAbs = b.syncAbs := fun _ _ => rfl
@[simp] theorem Block.emit_doms : ∀ (b : Block) (o : Output), (b.emit o).doms = b.doms := fun _ _ => rfl
@[simp] theorem Block.emit_outs : ∀ (b : Block) (o : Output), (b.emit o).outs = b.outs := fun _ _ => rfl
@[simp] theorem Block.emit_vectors : ∀ (b : Block) (o : Output), (b.emit o).vectors = b.vectors := fun _ _ => rfl
@[simp] theorem Block.emit_casc : ∀ (b : Block) (o : Output), (b.emit o).casc = b.casc := fun _ _ => rfl
@[simp] theorem Block.emit_ptus : ∀ (b : Block) (o : Output), (b.emit o).ptus = b.ptus := fun _ _ => rfl
@[simp] theorem Block.emit_stores : ∀ (b : Block) (o : Output), (b.emit o).stores = b.stores := fun _ _ => rfl
@[simp] theorem Block.emit_mops : ∀ (b : Block) (o : Output), (b.emit o).mops = b.mops := fun _ _ => rfl
@[simp] theorem Block.emit_units : ∀ (b : Block) (o : Output), (b.emit o).units = b.units := fun _ _ => rfl
@[simp] theorem Block.emit_meas : ∀ (b : Block) (o : Output), (b.emit o).meas = b.meas := fun _ _ => rfl
@[simp] theorem Block.emit_masks : ∀ (b : Block) (o : Output), (b.emit o).masks = b.masks := fun _ _ => rfl
@[simp] theorem Block.emit_hists : ∀ (b : Block) (o : Output), (b.emit o).hists = b.hists := fun _ _ => rfl
@[simp] theorem Block.emit_stims : ∀ (b : Block) (o : Output), (b.emit o).stims = b.stims := fun _ _ => rfl
@[simp] theorem Block.emit_drivers : ∀ (b : Block) (o : Output), (b.emit o).drivers = b.drivers := fun _ _ => rfl
@[simp] theorem Block.emit_banks : ∀ (b : Block) (o : Output), (b.emit o).banks = b.banks := fun _ _ => rfl
@[simp] theorem Block.emit_maint : ∀ (b : Block) (o : Output), (b.emit o).maint = b.maint := fun _ _ => rfl
@[simp] theorem Block.emit_words : ∀ (b : Block) (o : Output), (b.emit o).words = b.words := fun _ _ => rfl
@[simp] theorem Block.emit_tags : ∀ (b : Block) (o : Output), (b.emit o).tags = b.tags := fun _ _ => rfl
@[simp] theorem Block.emit_queues : ∀ (b : Block) (o : Output), (b.emit o).queues = b.queues := fun _ _ => rfl
@[simp] theorem Block.emit_selectors : ∀ (b : Block) (o : Output), (b.emit o).selectors = b.selectors := fun _ _ => rfl
@[simp] theorem Block.emit_errs : ∀ (b : Block) (o : Output), (b.emit o).errs = b.errs := fun _ _ => rfl
@[simp] theorem Block.emit_emcy : ∀ (b : Block) (o : Output), (b.emit o).emcy = b.emcy := fun _ _ => rfl
@[simp] theorem Block.emit_logWait : ∀ (b : Block) (o : Output), (b.emit o).logWait = b.logWait := fun _ _ => rfl
@[simp] theorem Block.emit_lastErr : ∀ (b : Block) (o : Output), (b.emit o).lastErr = b.lastErr := fun _ _ => rfl
@[simp] theorem Block.emit_lastAlert : ∀ (b : Block) (o : Output), (b.emit o).lastAlert = b.lastAlert := fun _ _ => rfl
@[simp] theorem Block.emit_pcie : ∀ (b : Block) (o : Output), (b.emit o).pcie = b.pcie := fun _ _ => rfl
@[simp] theorem Block.emit_sync : ∀ (b : Block) (o : Output), (b.emit o).sync = b.sync := fun _ _ => rfl
@[simp] theorem Block.emit_chain : ∀ (b : Block) (o : Output), (b.emit o).chain = b.chain := fun _ _ => rfl
@[simp] theorem Block.emit_flash : ∀ (b : Block) (o : Output), (b.emit o).flash = b.flash := fun _ _ => rfl
@[simp] theorem Block.emit_power : ∀ (b : Block) (o : Output), (b.emit o).power = b.power := fun _ _ => rfl
@[simp] theorem Block.emit_server : ∀ (b : Block) (o : Output), (b.emit o).server = b.server := fun _ _ => rfl
@[simp] theorem Block.emit_canPort : ∀ (b : Block) (o : Output), (b.emit o).canPort = b.canPort := fun _ _ => rfl
@[simp] theorem Block.emit_clk : ∀ (b : Block) (o : Output), (b.emit o).clk = b.clk := fun _ _ => rfl
@[simp] theorem Block.emit_due : ∀ (b : Block) (o : Output), (b.emit o).due = b.due := fun _ _ => rfl
@[simp] theorem Block.emit_resp : ∀ (b : Block) (o : Output), (b.emit o).resp = b.resp := fun _ _ => rfl
@[simp] theorem Block.emit_free : ∀ (b : Block) (o : Output), (b.emit o).free = b.free := fun _ _ => rfl

/-! ### addDue -/

@[simp] theorem Block.addDue_part : ∀ (b : Block) (t : Task) (at_ by_ : Nat), (b.addDue t at_ by_).part = b.part := fun _ _ _ _ => rfl
@[simp] theorem Block.addDue_regs : ∀ (b : Block) (t : Task) (at_ by_ : Nat), (b.addDue t at_ by_).regs = b.regs := fun _ _ _ _ => rfl
@[simp] theorem Block.addDue_bar : ∀ (b : Block) (t : Task) (at_ by_ : Nat), (b.addDue t at_ by_).bar = b.bar := fun _ _ _ _ => rfl
@[simp] theorem Block.addDue_time : ∀ (b : Block) (t : Task) (at_ by_ : Nat), (b.addDue t at_ by_).time = b.time := fun _ _ _ _ => rfl
@[simp] theorem Block.addDue_packets : ∀ (b : Block) (t : Task) (at_ by_ : Nat), (b.addDue t at_ by_).packets = b.packets := fun _ _ _ _ => rfl
@[simp] theorem Block.addDue_lanes : ∀ (b : Block) (t : Task) (at_ by_ : Nat), (b.addDue t at_ by_).lanes = b.lanes := fun _ _ _ _ => rfl
@[simp] theorem Block.addDue_pods : ∀ (b : Block) (t : Task) (at_ by_ : Nat), (b.addDue t at_ by_).pods = b.pods := fun _ _ _ _ => rfl
@[simp] theorem Block.addDue_engines : ∀ (b : Block) (t : Task) (at_ by_ : Nat), (b.addDue t at_ by_).engines = b.engines := fun _ _ _ _ => rfl
@[simp] theorem Block.addDue_syncAbs : ∀ (b : Block) (t : Task) (at_ by_ : Nat), (b.addDue t at_ by_).syncAbs = b.syncAbs := fun _ _ _ _ => rfl
@[simp] theorem Block.addDue_doms : ∀ (b : Block) (t : Task) (at_ by_ : Nat), (b.addDue t at_ by_).doms = b.doms := fun _ _ _ _ => rfl
@[simp] theorem Block.addDue_outs : ∀ (b : Block) (t : Task) (at_ by_ : Nat), (b.addDue t at_ by_).outs = b.outs := fun _ _ _ _ => rfl
@[simp] theorem Block.addDue_vectors : ∀ (b : Block) (t : Task) (at_ by_ : Nat), (b.addDue t at_ by_).vectors = b.vectors := fun _ _ _ _ => rfl
@[simp] theorem Block.addDue_casc : ∀ (b : Block) (t : Task) (at_ by_ : Nat), (b.addDue t at_ by_).casc = b.casc := fun _ _ _ _ => rfl
@[simp] theorem Block.addDue_ptus : ∀ (b : Block) (t : Task) (at_ by_ : Nat), (b.addDue t at_ by_).ptus = b.ptus := fun _ _ _ _ => rfl
@[simp] theorem Block.addDue_stores : ∀ (b : Block) (t : Task) (at_ by_ : Nat), (b.addDue t at_ by_).stores = b.stores := fun _ _ _ _ => rfl
@[simp] theorem Block.addDue_mops : ∀ (b : Block) (t : Task) (at_ by_ : Nat), (b.addDue t at_ by_).mops = b.mops := fun _ _ _ _ => rfl
@[simp] theorem Block.addDue_units : ∀ (b : Block) (t : Task) (at_ by_ : Nat), (b.addDue t at_ by_).units = b.units := fun _ _ _ _ => rfl
@[simp] theorem Block.addDue_meas : ∀ (b : Block) (t : Task) (at_ by_ : Nat), (b.addDue t at_ by_).meas = b.meas := fun _ _ _ _ => rfl
@[simp] theorem Block.addDue_masks : ∀ (b : Block) (t : Task) (at_ by_ : Nat), (b.addDue t at_ by_).masks = b.masks := fun _ _ _ _ => rfl
@[simp] theorem Block.addDue_hists : ∀ (b : Block) (t : Task) (at_ by_ : Nat), (b.addDue t at_ by_).hists = b.hists := fun _ _ _ _ => rfl
@[simp] theorem Block.addDue_stims : ∀ (b : Block) (t : Task) (at_ by_ : Nat), (b.addDue t at_ by_).stims = b.stims := fun _ _ _ _ => rfl
@[simp] theorem Block.addDue_drivers : ∀ (b : Block) (t : Task) (at_ by_ : Nat), (b.addDue t at_ by_).drivers = b.drivers := fun _ _ _ _ => rfl
@[simp] theorem Block.addDue_banks : ∀ (b : Block) (t : Task) (at_ by_ : Nat), (b.addDue t at_ by_).banks = b.banks := fun _ _ _ _ => rfl
@[simp] theorem Block.addDue_maint : ∀ (b : Block) (t : Task) (at_ by_ : Nat), (b.addDue t at_ by_).maint = b.maint := fun _ _ _ _ => rfl
@[simp] theorem Block.addDue_words : ∀ (b : Block) (t : Task) (at_ by_ : Nat), (b.addDue t at_ by_).words = b.words := fun _ _ _ _ => rfl
@[simp] theorem Block.addDue_tags : ∀ (b : Block) (t : Task) (at_ by_ : Nat), (b.addDue t at_ by_).tags = b.tags := fun _ _ _ _ => rfl
@[simp] theorem Block.addDue_queues : ∀ (b : Block) (t : Task) (at_ by_ : Nat), (b.addDue t at_ by_).queues = b.queues := fun _ _ _ _ => rfl
@[simp] theorem Block.addDue_selectors : ∀ (b : Block) (t : Task) (at_ by_ : Nat), (b.addDue t at_ by_).selectors = b.selectors := fun _ _ _ _ => rfl
@[simp] theorem Block.addDue_errs : ∀ (b : Block) (t : Task) (at_ by_ : Nat), (b.addDue t at_ by_).errs = b.errs := fun _ _ _ _ => rfl
@[simp] theorem Block.addDue_emcy : ∀ (b : Block) (t : Task) (at_ by_ : Nat), (b.addDue t at_ by_).emcy = b.emcy := fun _ _ _ _ => rfl
@[simp] theorem Block.addDue_logWait : ∀ (b : Block) (t : Task) (at_ by_ : Nat), (b.addDue t at_ by_).logWait = b.logWait := fun _ _ _ _ => rfl
@[simp] theorem Block.addDue_lastErr : ∀ (b : Block) (t : Task) (at_ by_ : Nat), (b.addDue t at_ by_).lastErr = b.lastErr := fun _ _ _ _ => rfl
@[simp] theorem Block.addDue_lastAlert : ∀ (b : Block) (t : Task) (at_ by_ : Nat), (b.addDue t at_ by_).lastAlert = b.lastAlert := fun _ _ _ _ => rfl
@[simp] theorem Block.addDue_pcie : ∀ (b : Block) (t : Task) (at_ by_ : Nat), (b.addDue t at_ by_).pcie = b.pcie := fun _ _ _ _ => rfl
@[simp] theorem Block.addDue_sync : ∀ (b : Block) (t : Task) (at_ by_ : Nat), (b.addDue t at_ by_).sync = b.sync := fun _ _ _ _ => rfl
@[simp] theorem Block.addDue_chain : ∀ (b : Block) (t : Task) (at_ by_ : Nat), (b.addDue t at_ by_).chain = b.chain := fun _ _ _ _ => rfl
@[simp] theorem Block.addDue_flash : ∀ (b : Block) (t : Task) (at_ by_ : Nat), (b.addDue t at_ by_).flash = b.flash := fun _ _ _ _ => rfl
@[simp] theorem Block.addDue_power : ∀ (b : Block) (t : Task) (at_ by_ : Nat), (b.addDue t at_ by_).power = b.power := fun _ _ _ _ => rfl
@[simp] theorem Block.addDue_server : ∀ (b : Block) (t : Task) (at_ by_ : Nat), (b.addDue t at_ by_).server = b.server := fun _ _ _ _ => rfl
@[simp] theorem Block.addDue_canPort : ∀ (b : Block) (t : Task) (at_ by_ : Nat), (b.addDue t at_ by_).canPort = b.canPort := fun _ _ _ _ => rfl
@[simp] theorem Block.addDue_clk : ∀ (b : Block) (t : Task) (at_ by_ : Nat), (b.addDue t at_ by_).clk = b.clk := fun _ _ _ _ => rfl
@[simp] theorem Block.addDue_resp : ∀ (b : Block) (t : Task) (at_ by_ : Nat), (b.addDue t at_ by_).resp = b.resp := fun _ _ _ _ => rfl
@[simp] theorem Block.addDue_out : ∀ (b : Block) (t : Task) (at_ by_ : Nat), (b.addDue t at_ by_).out = b.out := fun _ _ _ _ => rfl
@[simp] theorem Block.addDue_free : ∀ (b : Block) (t : Task) (at_ by_ : Nat), (b.addDue t at_ by_).free = b.free := fun _ _ _ _ => rfl

/-! ### fresh -/

@[simp] theorem Block.fresh_part : ∀ b : Block, b.fresh.2.part = b.part := fun _ => rfl
@[simp] theorem Block.fresh_regs : ∀ b : Block, b.fresh.2.regs = b.regs := fun _ => rfl
@[simp] theorem Block.fresh_bar : ∀ b : Block, b.fresh.2.bar = b.bar := fun _ => rfl
@[simp] theorem Block.fresh_time : ∀ b : Block, b.fresh.2.time = b.time := fun _ => rfl
@[simp] theorem Block.fresh_packets : ∀ b : Block, b.fresh.2.packets = b.packets := fun _ => rfl
@[simp] theorem Block.fresh_lanes : ∀ b : Block, b.fresh.2.lanes = b.lanes := fun _ => rfl
@[simp] theorem Block.fresh_pods : ∀ b : Block, b.fresh.2.pods = b.pods := fun _ => rfl
@[simp] theorem Block.fresh_engines : ∀ b : Block, b.fresh.2.engines = b.engines := fun _ => rfl
@[simp] theorem Block.fresh_syncAbs : ∀ b : Block, b.fresh.2.syncAbs = b.syncAbs := fun _ => rfl
@[simp] theorem Block.fresh_doms : ∀ b : Block, b.fresh.2.doms = b.doms := fun _ => rfl
@[simp] theorem Block.fresh_outs : ∀ b : Block, b.fresh.2.outs = b.outs := fun _ => rfl
@[simp] theorem Block.fresh_vectors : ∀ b : Block, b.fresh.2.vectors = b.vectors := fun _ => rfl
@[simp] theorem Block.fresh_casc : ∀ b : Block, b.fresh.2.casc = b.casc := fun _ => rfl
@[simp] theorem Block.fresh_ptus : ∀ b : Block, b.fresh.2.ptus = b.ptus := fun _ => rfl
@[simp] theorem Block.fresh_stores : ∀ b : Block, b.fresh.2.stores = b.stores := fun _ => rfl
@[simp] theorem Block.fresh_mops : ∀ b : Block, b.fresh.2.mops = b.mops := fun _ => rfl
@[simp] theorem Block.fresh_units : ∀ b : Block, b.fresh.2.units = b.units := fun _ => rfl
@[simp] theorem Block.fresh_meas : ∀ b : Block, b.fresh.2.meas = b.meas := fun _ => rfl
@[simp] theorem Block.fresh_masks : ∀ b : Block, b.fresh.2.masks = b.masks := fun _ => rfl
@[simp] theorem Block.fresh_hists : ∀ b : Block, b.fresh.2.hists = b.hists := fun _ => rfl
@[simp] theorem Block.fresh_stims : ∀ b : Block, b.fresh.2.stims = b.stims := fun _ => rfl
@[simp] theorem Block.fresh_drivers : ∀ b : Block, b.fresh.2.drivers = b.drivers := fun _ => rfl
@[simp] theorem Block.fresh_banks : ∀ b : Block, b.fresh.2.banks = b.banks := fun _ => rfl
@[simp] theorem Block.fresh_maint : ∀ b : Block, b.fresh.2.maint = b.maint := fun _ => rfl
@[simp] theorem Block.fresh_words : ∀ b : Block, b.fresh.2.words = b.words := fun _ => rfl
@[simp] theorem Block.fresh_tags : ∀ b : Block, b.fresh.2.tags = b.tags := fun _ => rfl
@[simp] theorem Block.fresh_queues : ∀ b : Block, b.fresh.2.queues = b.queues := fun _ => rfl
@[simp] theorem Block.fresh_selectors : ∀ b : Block, b.fresh.2.selectors = b.selectors := fun _ => rfl
@[simp] theorem Block.fresh_errs : ∀ b : Block, b.fresh.2.errs = b.errs := fun _ => rfl
@[simp] theorem Block.fresh_emcy : ∀ b : Block, b.fresh.2.emcy = b.emcy := fun _ => rfl
@[simp] theorem Block.fresh_logWait : ∀ b : Block, b.fresh.2.logWait = b.logWait := fun _ => rfl
@[simp] theorem Block.fresh_lastErr : ∀ b : Block, b.fresh.2.lastErr = b.lastErr := fun _ => rfl
@[simp] theorem Block.fresh_lastAlert : ∀ b : Block, b.fresh.2.lastAlert = b.lastAlert := fun _ => rfl
@[simp] theorem Block.fresh_pcie : ∀ b : Block, b.fresh.2.pcie = b.pcie := fun _ => rfl
@[simp] theorem Block.fresh_sync : ∀ b : Block, b.fresh.2.sync = b.sync := fun _ => rfl
@[simp] theorem Block.fresh_chain : ∀ b : Block, b.fresh.2.chain = b.chain := fun _ => rfl
@[simp] theorem Block.fresh_flash : ∀ b : Block, b.fresh.2.flash = b.flash := fun _ => rfl
@[simp] theorem Block.fresh_power : ∀ b : Block, b.fresh.2.power = b.power := fun _ => rfl
@[simp] theorem Block.fresh_server : ∀ b : Block, b.fresh.2.server = b.server := fun _ => rfl
@[simp] theorem Block.fresh_canPort : ∀ b : Block, b.fresh.2.canPort = b.canPort := fun _ => rfl
@[simp] theorem Block.fresh_clk : ∀ b : Block, b.fresh.2.clk = b.clk := fun _ => rfl
@[simp] theorem Block.fresh_due : ∀ b : Block, b.fresh.2.due = b.due := fun _ => rfl
@[simp] theorem Block.fresh_resp : ∀ b : Block, b.fresh.2.resp = b.resp := fun _ => rfl
@[simp] theorem Block.fresh_out : ∀ b : Block, b.fresh.2.out = b.out := fun _ => rfl
@[simp] theorem Block.fresh_free (b : Block) : b.fresh.2.free = b.free + 1 := rfl
@[simp] theorem Block.answer_resp (b : Block) (r : Resp) : (b.answer r).resp = r := rfl
@[simp] theorem Block.emit_out (b : Block) (o : Output) : (b.emit o).out = o :: b.out := rfl
@[simp] theorem Block.addDue_due (b : Block) (t : Task) (at_ by_ : Nat) :
    (b.addDue t at_ by_).due = b.due ++ [{ task := t, at_ := at_, by_ := by_ }] := rfl

/-! ### Reads after writes -/

theorem Block.lane_setLane : ∀ (b : Block) (k j : Nat) (x : Lane), (b.setLane k x).lane j = if j = k then x else b.lane j :=
  fun _ _ _ _ => look_place ..
@[simp] theorem Block.lane_setLane_self : ∀ (b : Block) (k : Nat) (x : Lane), (b.setLane k x).lane k = x := fun _ _ _ => look_place_self ..
theorem Block.lane_setLane_ne : ∀ (b : Block) {k j : Nat} (x : Lane), j ≠ k → (b.setLane k x).lane j = b.lane j :=
  fun _ _ _ _ h => look_place_ne _ _ _ _ _ h
theorem Block.pod_setPod : ∀ (b : Block) (k j : Nat) (x : Pod), (b.setPod k x).pod j = if j = k then x else b.pod j :=
  fun _ _ _ _ => look_place ..
@[simp] theorem Block.pod_setPod_self : ∀ (b : Block) (k : Nat) (x : Pod), (b.setPod k x).pod k = x := fun _ _ _ => look_place_self ..
theorem Block.pod_setPod_ne : ∀ (b : Block) {k j : Nat} (x : Pod), j ≠ k → (b.setPod k x).pod j = b.pod j :=
  fun _ _ _ _ h => look_place_ne _ _ _ _ _ h
theorem Block.engine_setEngine : ∀ (b : Block) (k j : Nat) (x : Engine), (b.setEngine k x).engine j = if j = k then x else b.engine j :=
  fun _ _ _ _ => look_place ..
@[simp] theorem Block.engine_setEngine_self : ∀ (b : Block) (k : Nat) (x : Engine), (b.setEngine k x).engine k = x := fun _ _ _ => look_place_self ..
theorem Block.engine_setEngine_ne : ∀ (b : Block) {k j : Nat} (x : Engine), j ≠ k → (b.setEngine k x).engine j = b.engine j :=
  fun _ _ _ _ h => look_place_ne _ _ _ _ _ h
theorem Block.dom_setDom : ∀ (b : Block) (k j : Nat) (x : Dom), (b.setDom k x).dom j = if j = k then x else b.dom j :=
  fun _ _ _ _ => look_place ..
@[simp] theorem Block.dom_setDom_self : ∀ (b : Block) (k : Nat) (x : Dom), (b.setDom k x).dom k = x := fun _ _ _ => look_place_self ..
theorem Block.dom_setDom_ne : ∀ (b : Block) {k j : Nat} (x : Dom), j ≠ k → (b.setDom k x).dom j = b.dom j :=
  fun _ _ _ _ h => look_place_ne _ _ _ _ _ h
theorem Block.trigOut_setTrigOut : ∀ (b : Block) (k j : Nat) (x : TrigOut), (b.setTrigOut k x).trigOut j = if j = k then x else b.trigOut j :=
  fun _ _ _ _ => look_place ..
@[simp] theorem Block.trigOut_setTrigOut_self : ∀ (b : Block) (k : Nat) (x : TrigOut), (b.setTrigOut k x).trigOut k = x := fun _ _ _ => look_place_self ..
theorem Block.trigOut_setTrigOut_ne : ∀ (b : Block) {k j : Nat} (x : TrigOut), j ≠ k → (b.setTrigOut k x).trigOut j = b.trigOut j :=
  fun _ _ _ _ h => look_place_ne _ _ _ _ _ h
theorem Block.ptu_setPtu : ∀ (b : Block) (k j : Nat) (x : Ptu), (b.setPtu k x).ptu j = if j = k then x else b.ptu j :=
  fun _ _ _ _ => look_place ..
@[simp] theorem Block.ptu_setPtu_self : ∀ (b : Block) (k : Nat) (x : Ptu), (b.setPtu k x).ptu k = x := fun _ _ _ => look_place_self ..
theorem Block.ptu_setPtu_ne : ∀ (b : Block) {k j : Nat} (x : Ptu), j ≠ k → (b.setPtu k x).ptu j = b.ptu j :=
  fun _ _ _ _ h => look_place_ne _ _ _ _ _ h
theorem Block.store_setStore : ∀ (b : Block) (k j : Nat) (x : StoreDom), (b.setStore k x).store j = if j = k then x else b.store j :=
  fun _ _ _ _ => look_place ..
@[simp] theorem Block.store_setStore_self : ∀ (b : Block) (k : Nat) (x : StoreDom), (b.setStore k x).store k = x := fun _ _ _ => look_place_self ..
theorem Block.store_setStore_ne : ∀ (b : Block) {k j : Nat} (x : StoreDom), j ≠ k → (b.setStore k x).store j = b.store j :=
  fun _ _ _ _ h => look_place_ne _ _ _ _ _ h
theorem Block.measUnit_setMeas : ∀ (b : Block) (k j : Nat) (x : Meas), (b.setMeas k x).measUnit j = if j = k then x else b.measUnit j :=
  fun _ _ _ _ => look_place ..
@[simp] theorem Block.measUnit_setMeas_self : ∀ (b : Block) (k : Nat) (x : Meas), (b.setMeas k x).measUnit k = x := fun _ _ _ => look_place_self ..
theorem Block.measUnit_setMeas_ne : ∀ (b : Block) {k j : Nat} (x : Meas), j ≠ k → (b.setMeas k x).measUnit j = b.measUnit j :=
  fun _ _ _ _ h => look_place_ne _ _ _ _ _ h
theorem Block.mask_setMask : ∀ (b : Block) (k j : Nat) (x : Mask), (b.setMask k x).mask j = if j = k then x else b.mask j :=
  fun _ _ _ _ => look_place ..
@[simp] theorem Block.mask_setMask_self : ∀ (b : Block) (k : Nat) (x : Mask), (b.setMask k x).mask k = x := fun _ _ _ => look_place_self ..
theorem Block.mask_setMask_ne : ∀ (b : Block) {k j : Nat} (x : Mask), j ≠ k → (b.setMask k x).mask j = b.mask j :=
  fun _ _ _ _ h => look_place_ne _ _ _ _ _ h
theorem Block.hist_setHist : ∀ (b : Block) (k j : Nat) (x : Hist), (b.setHist k x).hist j = if j = k then x else b.hist j :=
  fun _ _ _ _ => look_place ..
@[simp] theorem Block.hist_setHist_self : ∀ (b : Block) (k : Nat) (x : Hist), (b.setHist k x).hist k = x := fun _ _ _ => look_place_self ..
theorem Block.hist_setHist_ne : ∀ (b : Block) {k j : Nat} (x : Hist), j ≠ k → (b.setHist k x).hist j = b.hist j :=
  fun _ _ _ _ h => look_place_ne _ _ _ _ _ h
theorem Block.stim_setStim : ∀ (b : Block) (k j : Nat) (x : Stim), (b.setStim k x).stim j = if j = k then x else b.stim j :=
  fun _ _ _ _ => look_place ..
@[simp] theorem Block.stim_setStim_self : ∀ (b : Block) (k : Nat) (x : Stim), (b.setStim k x).stim k = x := fun _ _ _ => look_place_self ..
theorem Block.stim_setStim_ne : ∀ (b : Block) {k j : Nat} (x : Stim), j ≠ k → (b.setStim k x).stim j = b.stim j :=
  fun _ _ _ _ h => look_place_ne _ _ _ _ _ h
theorem Block.driver_setDriver : ∀ (b : Block) (k j : Nat) (x : Driver), (b.setDriver k x).driver j = if j = k then x else b.driver j :=
  fun _ _ _ _ => look_place ..
@[simp] theorem Block.driver_setDriver_self : ∀ (b : Block) (k : Nat) (x : Driver), (b.setDriver k x).driver k = x := fun _ _ _ => look_place_self ..
theorem Block.driver_setDriver_ne : ∀ (b : Block) {k j : Nat} (x : Driver), j ≠ k → (b.setDriver k x).driver j = b.driver j :=
  fun _ _ _ _ h => look_place_ne _ _ _ _ _ h
theorem Block.bank_setBank : ∀ (b : Block) (k j : Nat) (x : Bank), (b.setBank k x).bank j = if j = k then x else b.bank j :=
  fun _ _ _ _ => look_place ..
@[simp] theorem Block.bank_setBank_self : ∀ (b : Block) (k : Nat) (x : Bank), (b.setBank k x).bank k = x := fun _ _ _ => look_place_self ..
theorem Block.bank_setBank_ne : ∀ (b : Block) {k j : Nat} (x : Bank), j ≠ k → (b.setBank k x).bank j = b.bank j :=
  fun _ _ _ _ h => look_place_ne _ _ _ _ _ h
theorem Block.unit_setUnit : ∀ (b : Block) (k j : Nat) (x : Nat), (b.setUnit k x).unit j = if j = k then x else b.unit j :=
  fun _ _ _ _ => look_place ..
@[simp] theorem Block.unit_setUnit_self : ∀ (b : Block) (k : Nat) (x : Nat), (b.setUnit k x).unit k = x := fun _ _ _ => look_place_self ..
theorem Block.unit_setUnit_ne : ∀ (b : Block) {k j : Nat} (x : Nat), j ≠ k → (b.setUnit k x).unit j = b.unit j :=
  fun _ _ _ _ h => look_place_ne _ _ _ _ _ h
theorem Block.queue_setQueue : ∀ (b : Block) (k j : Nat) (x : Queue), (b.setQueue k x).queue j = if j = k then x else b.queue j :=
  fun _ _ _ _ => look_place ..
@[simp] theorem Block.queue_setQueue_self : ∀ (b : Block) (k : Nat) (x : Queue), (b.setQueue k x).queue k = x := fun _ _ _ => look_place_self ..
theorem Block.queue_setQueue_ne : ∀ (b : Block) {k j : Nat} (x : Queue), j ≠ k → (b.setQueue k x).queue j = b.queue j :=
  fun _ _ _ _ h => look_place_ne _ _ _ _ _ h
theorem Block.chan_setChan : ∀ (b : Block) (k j : Nat) (x : Dma), (b.setChan k x).chan j = if j = k then x else b.chan j :=
  fun _ _ _ _ => look_place ..
@[simp] theorem Block.chan_setChan_self : ∀ (b : Block) (k : Nat) (x : Dma), (b.setChan k x).chan k = x := fun _ _ _ => look_place_self ..
theorem Block.chan_setChan_ne : ∀ (b : Block) {k j : Nat} (x : Dma), j ≠ k → (b.setChan k x).chan j = b.chan j :=
  fun _ _ _ _ h => look_place_ne _ _ _ _ _ h

/-- Keys of subindices are distinct. -/
theorem odKey_inj {i s j r : Nat} (hs : s < 256) (hr : r < 256) : odKey i s = odKey j r ↔ i = j ∧ s = r := by
  unfold odKey; constructor
  · intro h; exact ⟨by omega, by omega⟩
  · rintro ⟨rfl, rfl⟩; rfl

theorem Block.reg_wr (b : Block) (i s j r v : Nat) :
    (b.wr i s v).reg j r = if odKey j r = odKey i s then BitVec.ofNat 64 v else b.reg j r := look_place ..

theorem Block.reg_wrI (b : Block) (i s j r : Nat) (v : Int) :
    (b.wrI i s v).reg j r = if odKey j r = odKey i s then BitVec.ofInt 64 v else b.reg j r := look_place ..

@[simp] theorem Block.reg_wr_self (b : Block) (i s v : Nat) : (b.wr i s v).reg i s = BitVec.ofNat 64 v := by simp [Block.reg_wr]

theorem Block.rd_wr (b : Block) (i s j r v : Nat) :
    (b.wr i s v).rd j r = if odKey j r = odKey i s then v % 2 ^ 64 else b.rd j r := by
  unfold Block.rd; rw [Block.reg_wr]; split <;> simp

@[simp] theorem Block.rd_wr_self (b : Block) (i s v : Nat) : (b.wr i s v).rd i s = v % 2 ^ 64 := by simp [Block.rd_wr]

theorem Block.rd_wr_ne (b : Block) (i s j r v : Nat) (h : odKey j r ≠ odKey i s) : (b.wr i s v).rd j r = b.rd j r := by
  simp [Block.rd_wr, h]

theorem Block.rd_lt (b : Block) (i s : Nat) : b.rd i s < 2 ^ 64 := (b.reg i s).isLt

/-- A register depends on the registers alone. -/
theorem Block.reg_of_regs {b c : Block} (h : c.regs = b.regs) (i s : Nat) : c.reg i s = b.reg i s := by
  unfold Block.reg; rw [h]
theorem Block.rd_of_regs {b c : Block} (h : c.regs = b.regs) (i s : Nat) : c.rd i s = b.rd i s := by
  unfold Block.rd; rw [Block.reg_of_regs h]

@[simp] theorem Block.bget_bset_self (b : Block) (off k v : Nat) : (b.bset off k v).bget off k = v := look_place_self ..
theorem Block.bget_bset (b : Block) (off k off' k' v : Nat) :
    (b.bset off k v).bget off' k' = if off' * 8 + k' = off * 8 + k then v else b.bget off' k' := look_place ..

@[simp] theorem Block.word_setWord_self (b : Block) (k i : Nat) (v : Word) : (b.setWord k i v).word k i = v := look_place_self ..
theorem Block.word_setWord_ne (b : Block) (k i k' i' : Nat) (v : Word) (h : wordKey k' i' ≠ wordKey k i) :
    (b.setWord k i v).word k' i' = b.word k' i' := look_place_ne _ _ _ _ _ h

@[simp] theorem Block.rd_bset : ∀ (b : Block) (off k v : Nat) i s, (b.bset off k v).rd i s = b.rd i s := fun _ _ _ _ _ _ => rfl
@[simp] theorem Block.rd_setLane : ∀ (b : Block) (l : Nat) (x : Lane) i s, (b.setLane l x).rd i s = b.rd i s := fun _ _ _ _ _ => rfl
@[simp] theorem Block.rd_setPod : ∀ (b : Block) (n : Nat) (x : Pod) i s, (b.setPod n x).rd i s = b.rd i s := fun _ _ _ _ _ => rfl
@[simp] theorem Block.rd_setEngine : ∀ (b : Block) (e : Nat) (x : Engine) i s, (b.setEngine e x).rd i s = b.rd i s := fun _ _ _ _ _ => rfl
@[simp] theorem Block.rd_setDom : ∀ (b : Block) (t : Nat) (x : Dom) i s, (b.setDom t x).rd i s = b.rd i s := fun _ _ _ _ _ => rfl
@[simp] theorem Block.rd_setTrigOut : ∀ (b : Block) (o : Nat) (x : TrigOut) i s, (b.setTrigOut o x).rd i s = b.rd i s := fun _ _ _ _ _ => rfl
@[simp] theorem Block.rd_setPtu : ∀ (b : Block) (u : Nat) (x : Ptu) i s, (b.setPtu u x).rd i s = b.rd i s := fun _ _ _ _ _ => rfl
@[simp] theorem Block.rd_setStore : ∀ (b : Block) (t : Nat) (x : StoreDom) i s, (b.setStore t x).rd i s = b.rd i s := fun _ _ _ _ _ => rfl
@[simp] theorem Block.rd_setMeas : ∀ (b : Block) (n : Nat) (x : Meas) i s, (b.setMeas n x).rd i s = b.rd i s := fun _ _ _ _ _ => rfl
@[simp] theorem Block.rd_setMask : ∀ (b : Block) (t : Nat) (x : Mask) i s, (b.setMask t x).rd i s = b.rd i s := fun _ _ _ _ _ => rfl
@[simp] theorem Block.rd_setHist : ∀ (b : Block) (h : Nat) (x : Hist) i s, (b.setHist h x).rd i s = b.rd i s := fun _ _ _ _ _ => rfl
@[simp] theorem Block.rd_setStim : ∀ (b : Block) (t : Nat) (x : Stim) i s, (b.setStim t x).rd i s = b.rd i s := fun _ _ _ _ _ => rfl
@[simp] theorem Block.rd_setDriver : ∀ (b : Block) (l : Nat) (x : Driver) i s, (b.setDriver l x).rd i s = b.rd i s := fun _ _ _ _ _ => rfl
@[simp] theorem Block.rd_setBank : ∀ (b : Block) (k : Nat) (x : Bank) i s, (b.setBank k x).rd i s = b.rd i s := fun _ _ _ _ _ => rfl
@[simp] theorem Block.rd_setUnit : ∀ (b : Block) (u v : Nat) i s, (b.setUnit u v).rd i s = b.rd i s := fun _ _ _ _ _ => rfl
@[simp] theorem Block.rd_setChan : ∀ (b : Block) (c : Nat) (x : Dma) i s, (b.setChan c x).rd i s = b.rd i s := fun _ _ _ _ _ => rfl
@[simp] theorem Block.rd_setWord : ∀ (b : Block) (k x : Nat) (v : Word) i s, (b.setWord k x v).rd i s = b.rd i s := fun _ _ _ _ _ _ => rfl
@[simp] theorem Block.rd_setTag : ∀ (b : Block) (k x v : Nat) i s, (b.setTag k x v).rd i s = b.rd i s := fun _ _ _ _ _ _ => rfl
@[simp] theorem Block.rd_setQueue : ∀ (b : Block) (k : Nat) (q : Queue) i s, (b.setQueue k q).rd i s = b.rd i s := fun _ _ _ _ _ => rfl
@[simp] theorem Block.rd_zeroBank : ∀ (b : Block) (k : Nat) i s, (b.zeroBank k).rd i s = b.rd i s := fun _ _ _ _ => rfl
@[simp] theorem Block.rd_answer : ∀ (b : Block) (r : Resp) i s, (b.answer r).rd i s = b.rd i s := fun _ _ _ _ => rfl
@[simp] theorem Block.rd_emit : ∀ (b : Block) (o : Output) i s, (b.emit o).rd i s = b.rd i s := fun _ _ _ _ => rfl
@[simp] theorem Block.rd_addDue : ∀ (b : Block) (t : Task) (at_ by_ : Nat) i s, (b.addDue t at_ by_).rd i s = b.rd i s := fun _ _ _ _ _ _ => rfl
@[simp] theorem Block.rd_fresh : ∀ (b : Block) i s, b.fresh.2.rd i s = b.rd i s := fun _ _ _ => rfl

end Sys2Proof.Machine
end

