-- ==== Sys2Proof/Laws/Run.lean ====
section
/-! SUPPORT. What the end of every command does: the evaluation of error register and alert touches the error log, the emergency queue
and the alert alone, the store's changes are made, and the queue of commands stays. -/

namespace Sys2Proof.Machine

/-! ### What the parts of the evaluation write -/

theorem logWrites_shape (b : Block) (s v1 v2 v3 : Nat) (l : List Nat) :
    ∃ r w, ({ ((b.wr 0x8000 1 v1).wr 0x8001 s v2).wr 0x8002 s v3 with logWait := l } : Block) =
      { b with regs := r, logWait := w } := ⟨_, _, rfl⟩

theorem logWrites_reg (b : Block) (s v1 v2 v3 : Nat) (l : List Nat) (i j : Nat) (h1 : odKey i j ≠ odKey 0x8000 1)
    (h2 : odKey i j ≠ odKey 0x8001 s) (h3 : odKey i j ≠ odKey 0x8002 s) :
    ({ ((b.wr 0x8000 1 v1).wr 0x8001 s v2).wr 0x8002 s v3 with logWait := l } : Block).reg i j = b.reg i j := by
  have e : ({ ((b.wr 0x8000 1 v1).wr 0x8001 s v2).wr 0x8002 s v3 with logWait := l } : Block).reg i j =
      (((b.wr 0x8000 1 v1).wr 0x8001 s v2).wr 0x8002 s v3).reg i j := rfl
  rw [e, Block.reg_wr, if_neg h3, Block.reg_wr, if_neg h2, Block.reg_wr, if_neg h1]

theorem logEntry_shape (c : Nat) (x : List Byte) (b : Block) : ∃ r w, logEntry c x b = { b with regs := r, logWait := w } := by
  unfold logEntry
  exact logWrites_shape ..

theorem queueEmcy_shape (c : Nat) (x : List Byte) (b : Block) : ∃ r e, queueEmcy c x b = { b with regs := r, emcy := e } := by
  unfold queueEmcy
  split
  · exact ⟨_, b.emcy, rfl⟩
  · exact ⟨b.regs, _, rfl⟩

theorem emcyEvent_shape (c g : Nat) (x : List Byte) (b : Block) :
    ∃ r w e, emcyEvent c g x b = { b with regs := r, logWait := w, emcy := e } := by
  obtain ⟨r, w, h⟩ := logEntry_shape c x b
  unfold emcyEvent; rw [h]; dsimp only
  split
  · obtain ⟨r', e, h'⟩ := queueEmcy_shape c x { b with regs := r, logWait := w }
    exact ⟨r', w, e, h'⟩
  · exact ⟨r, w, b.emcy, rfl⟩

theorem linkUse_emit (o : Output) (b : Block) :
    ∃ m l x, linkUse (b.emit o) = { b with bar := m, pcie := { b.pcie with link := l }, out := x } := by
  unfold linkUse
  split
  · exact ⟨b.bar, b.pcie.link, _, rfl⟩
  · exact ⟨b.bar, 0, _, rfl⟩

theorem sendMsix_shape (v : Nat) (b : Block) :
    ∃ m l o, sendMsix v b = { b with bar := m, pcie := { b.pcie with link := l }, out := o } := by
  unfold sendMsix
  split
  · exact ⟨b.bar, b.pcie.link, b.out, rfl⟩
  · split
    · exact ⟨_, b.pcie.link, b.out, rfl⟩
    · exact linkUse_emit ..

theorem recovered_shape (b : Block) : ∃ r w e, recovered b = { b with regs := r, logWait := w, emcy := e } := by
  unfold recovered; split
  · exact emcyEvent_shape ..
  · exact ⟨b.regs, b.logWait, b.emcy, rfl⟩

theorem raiseAlert_shape (b : Block) :
    ∃ r m l o, raiseAlert b = { b with regs := r, bar := m, pcie := { b.pcie with link := l }, out := o } := by
  unfold raiseAlert alertMessage; split
  · split
    · obtain ⟨m, l, o, h⟩ := sendMsix_shape (bits ((b.bump 32 0x2006 3 1).bget 0x1814 0) 0 6) (b.bump 32 0x2006 3 1)
      exact ⟨_, m, l, o, h⟩
    · exact ⟨_, b.bar, b.pcie.link, b.out, rfl⟩
  · exact ⟨b.regs, b.bar, b.pcie.link, b.out, rfl⟩

/-- The whole of what the evaluation of error register and alert may change. -/
theorem monitor_shape (b : Block) : ∃ r w e m l o x y, monitor b =
    { b with regs := r, logWait := w, emcy := e, bar := m, pcie := { b.pcie with link := l }, out := o, lastErr := x, lastAlert := y } := by
  obtain ⟨r, w, e, h⟩ := recovered_shape b
  obtain ⟨r', m, l, o, h'⟩ := raiseAlert_shape (recovered b)
  refine ⟨r', w, e, m, l, o, b.errorRegister, (recovered b).enabledCauses, ?_⟩
  unfold monitor
  rw [h', h]


/-- Whatever depends on none of these is as before. -/
theorem monitor_keeps {α : Type} (f : Block → α)
    (hf : ∀ (b : Block) r w e m l o x y, f
      { b with regs := r, logWait := w, emcy := e, bar := m, pcie := { b.pcie with link := l }, out := o, lastErr := x, lastAlert := y } =
      f b) (b : Block) : f (monitor b) = f b := by
  have ⟨r, w, e, m, l, o, x, y, h⟩ := monitor_shape b
  exact h ▸ hf b r w e m l o x y

@[simp] theorem monitor_part : ∀ b, (monitor b).part = b.part := monitor_keeps Block.part (by intros; rfl)
@[simp] theorem monitor_time : ∀ b, (monitor b).time = b.time := monitor_keeps Block.time (by intros; rfl)
@[simp] theorem monitor_packets : ∀ b, (monitor b).packets = b.packets := monitor_keeps Block.packets (by intros; rfl)
@[simp] theorem monitor_lanes : ∀ b, (monitor b).lanes = b.lanes := monitor_keeps Block.lanes (by intros; rfl)
@[simp] theorem monitor_pods : ∀ b, (monitor b).pods = b.pods := monitor_keeps Block.pods (by intros; rfl)
@[simp] theorem monitor_engines : ∀ b, (monitor b).engines = b.engines := monitor_keeps Block.engines (by intros; rfl)
@[simp] theorem monitor_syncAbs : ∀ b, (monitor b).syncAbs = b.syncAbs := monitor_keeps Block.syncAbs (by intros; rfl)
@[simp] theorem monitor_doms : ∀ b, (monitor b).doms = b.doms := monitor_keeps Block.doms (by intros; rfl)
@[simp] theorem monitor_outs : ∀ b, (monitor b).outs = b.outs := monitor_keeps Block.outs (by intros; rfl)
@[simp] theorem monitor_vectors : ∀ b, (monitor b).vectors = b.vectors := monitor_keeps Block.vectors (by intros; rfl)
@[simp] theorem monitor_casc : ∀ b, (monitor b).casc = b.casc := monitor_keeps Block.casc (by intros; rfl)
@[simp] theorem monitor_ptus : ∀ b, (monitor b).ptus = b.ptus := monitor_keeps Block.ptus (by intros; rfl)
@[simp] theorem monitor_stores : ∀ b, (monitor b).stores = b.stores := monitor_keeps Block.stores (by intros; rfl)
@[simp] theorem monitor_mops : ∀ b, (monitor b).mops = b.mops := monitor_keeps Block.mops (by intros; rfl)
@[simp] theorem monitor_units : ∀ b, (monitor b).units = b.units := monitor_keeps Block.units (by intros; rfl)
@[simp] theorem monitor_meas : ∀ b, (monitor b).meas = b.meas := monitor_keeps Block.meas (by intros; rfl)
@[simp] theorem monitor_masks : ∀ b, (monitor b).masks = b.masks := monitor_keeps Block.masks (by intros; rfl)
@[simp] theorem monitor_hists : ∀ b, (monitor b).hists = b.hists := monitor_keeps Block.hists (by intros; rfl)
@[simp] theorem monitor_stims : ∀ b, (monitor b).stims = b.stims := monitor_keeps Block.stims (by intros; rfl)
@[simp] theorem monitor_drivers : ∀ b, (monitor b).drivers = b.drivers := monitor_keeps Block.drivers (by intros; rfl)
@[simp] theorem monitor_banks : ∀ b, (monitor b).banks = b.banks := monitor_keeps Block.banks (by intros; rfl)
@[simp] theorem monitor_maint : ∀ b, (monitor b).maint = b.maint := monitor_keeps Block.maint (by intros; rfl)
@[simp] theorem monitor_words : ∀ b, (monitor b).words = b.words := monitor_keeps Block.words (by intros; rfl)
@[simp] theorem monitor_tags : ∀ b, (monitor b).tags = b.tags := monitor_keeps Block.tags (by intros; rfl)
@[simp] theorem monitor_queues : ∀ b, (monitor b).queues = b.queues := monitor_keeps Block.queues (by intros; rfl)
@[simp] theorem monitor_selectors : ∀ b, (monitor b).selectors = b.selectors := monitor_keeps Block.selectors (by intros; rfl)
@[simp] theorem monitor_errs : ∀ b, (monitor b).errs = b.errs := monitor_keeps Block.errs (by intros; rfl)
@[simp] theorem monitor_sync : ∀ b, (monitor b).sync = b.sync := monitor_keeps Block.sync (by intros; rfl)
@[simp] theorem monitor_chain : ∀ b, (monitor b).chain = b.chain := monitor_keeps Block.chain (by intros; rfl)
@[simp] theorem monitor_flash : ∀ b, (monitor b).flash = b.flash := monitor_keeps Block.flash (by intros; rfl)
@[simp] theorem monitor_power : ∀ b, (monitor b).power = b.power := monitor_keeps Block.power (by intros; rfl)
@[simp] theorem monitor_server : ∀ b, (monitor b).server = b.server := monitor_keeps Block.server (by intros; rfl)
@[simp] theorem monitor_canPort : ∀ b, (monitor b).canPort = b.canPort := monitor_keeps Block.canPort (by intros; rfl)
@[simp] theorem monitor_clk : ∀ b, (monitor b).clk = b.clk := monitor_keeps Block.clk (by intros; rfl)
@[simp] theorem monitor_due : ∀ b, (monitor b).due = b.due := monitor_keeps Block.due (by intros; rfl)
@[simp] theorem monitor_resp : ∀ b, (monitor b).resp = b.resp := monitor_keeps Block.resp (by intros; rfl)
@[simp] theorem monitor_free : ∀ b, (monitor b).free = b.free := monitor_keeps Block.free (by intros; rfl)

/-- Registers other than the error log and its counters are as before. -/
theorem logEntry_reg (c : Nat) (x : List Byte) (b : Block) (i s : Nat) (hs : s < 256) (h : Safety.reporting i s = false) :
    (logEntry c x b).reg i s = b.reg i s := by
  have hb : (b.rd 0x8000 1 + 1 - 1) % 64 + 1 < 256 := by omega
  simp only [Safety.reporting, Bool.or_eq_false_iff, Bool.and_eq_false_iff, beq_eq_false_iff_ne, ne_eq] at h
  have e1 : odKey i s ≠ odKey 0x8000 1 := fun e => by have := (odKey_inj hs (by omega)).1 e; omega
  have e2 : ∀ k < 256, odKey i s ≠ odKey 0x8001 k := fun k hk e => by have := (odKey_inj hs hk).1 e; omega
  have e3 : ∀ k < 256, odKey i s ≠ odKey 0x8002 k := fun k hk e => by have := (odKey_inj hs hk).1 e; omega
  unfold logEntry
  exact logWrites_reg _ _ _ _ _ _ _ _ e1 (e2 _ hb) (e3 _ hb)

theorem queueEmcy_reg (c : Nat) (x : List Byte) (b : Block) (i s : Nat) (hs : s < 256) (h : Safety.reporting i s = false) :
    (queueEmcy c x b).reg i s = b.reg i s := by
  simp only [Safety.reporting, Bool.or_eq_false_iff, Bool.and_eq_false_iff, beq_eq_false_iff_ne, ne_eq] at h
  have e1 : odKey i s ≠ odKey 0x1E20 11 := fun e => by have := (odKey_inj hs (by omega)).1 e; omega
  unfold queueEmcy
  split
  · rw [Block.bump, Block.reg_wr, if_neg e1]
  · rfl

theorem emcyEvent_reg (c g : Nat) (x : List Byte) (b : Block) (i s : Nat) (hs : s < 256) (h : Safety.reporting i s = false) :
    (emcyEvent c g x b).reg i s = b.reg i s := by
  unfold emcyEvent; dsimp only
  split
  · rw [queueEmcy_reg _ _ _ _ _ hs h, logEntry_reg _ _ _ _ _ hs h]
  · exact logEntry_reg _ _ _ _ _ hs h

@[simp] theorem sendMsix_reg (v : Nat) (b : Block) (i s : Nat) : (sendMsix v b).reg i s = b.reg i s := by
  obtain ⟨_, _, _, h⟩ := sendMsix_shape v b; rw [h]; rfl

/-- The evaluation of error register and alert writes no other register. -/
theorem monitor_reg (b : Block) (i s : Nat) (hs : s < 256) (h : Safety.reporting i s = false) : (monitor b).reg i s = b.reg i s := by
  have h' := h
  simp only [Safety.reporting, Bool.or_eq_false_iff, Bool.and_eq_false_iff, beq_eq_false_iff_ne, ne_eq] at h'
  have e1 : odKey i s ≠ odKey 0x2006 3 := fun e => by have := (odKey_inj hs (by omega)).1 e; omega
  have e0 : (recovered b).reg i s = b.reg i s := by
    unfold recovered; split
    · exact emcyEvent_reg _ _ _ _ _ _ hs h
    · rfl
  have e2 : ∀ c : Block, (raiseAlert c).reg i s = c.reg i s := fun c => by
    unfold raiseAlert alertMessage; split
    · split
      · rw [sendMsix_reg, Block.bump, Block.reg_wr, if_neg e1]
      · rw [Block.bump, Block.reg_wr, if_neg e1]
    · rfl
  show (raiseAlert (recovered b)).reg i s = _
  rw [e2, e0]

theorem monitor_rd (b : Block) (i s : Nat) (hs : s < 256) (h : Safety.reporting i s = false) : (monitor b).rd i s = b.rd i s := by
  unfold Block.rd; rw [monitor_reg b i s hs h]

/-! ### The run of a command -/

/-- Every command ends in a next state. -/
theorem State.act_next (s : State) (ok : Bool) (f : List Host.Cell → Block → Block) :
    s.act ok f = .next (if ok && s.blk.power.on then s.run f else s) := rfl

@[simp] theorem State.run_pending (s : State) (f : List Host.Cell → Block → Block) : (s.run f).pending = s.pending := rfl
@[simp] theorem State.run_mops (s : State) (f : List Host.Cell → Block → Block) : (s.run f).blk.mops = [] := rfl

/-- The contents of the store after a command: the changes that its effect has made. -/
theorem State.run_mem (s : State) (f : List Host.Cell → Block → Block) : (s.run f).mem = memApply s.mem (f s.mem s.blk).mops := by
  simp [State.run, settle]

@[simp] theorem State.run_part : ∀ (s : State) f, (s.run f).blk.part = (f s.mem s.blk).part := fun _ _ => monitor_part _
@[simp] theorem State.run_time : ∀ (s : State) f, (s.run f).blk.time = (f s.mem s.blk).time := fun _ _ => monitor_time _
@[simp] theorem State.run_packets : ∀ (s : State) f, (s.run f).blk.packets = (f s.mem s.blk).packets := fun _ _ => monitor_packets _
@[simp] theorem State.run_lanes : ∀ (s : State) f, (s.run f).blk.lanes = (f s.mem s.blk).lanes := fun _ _ => monitor_lanes _
@[simp] theorem State.run_pods : ∀ (s : State) f, (s.run f).blk.pods = (f s.mem s.blk).pods := fun _ _ => monitor_pods _
@[simp] theorem State.run_engines : ∀ (s : State) f, (s.run f).blk.engines = (f s.mem s.blk).engines := fun _ _ => monitor_engines _
@[simp] theorem State.run_syncAbs : ∀ (s : State) f, (s.run f).blk.syncAbs = (f s.mem s.blk).syncAbs := fun _ _ => monitor_syncAbs _
@[simp] theorem State.run_doms : ∀ (s : State) f, (s.run f).blk.doms = (f s.mem s.blk).doms := fun _ _ => monitor_doms _
@[simp] theorem State.run_outs : ∀ (s : State) f, (s.run f).blk.outs = (f s.mem s.blk).outs := fun _ _ => monitor_outs _
@[simp] theorem State.run_vectors : ∀ (s : State) f, (s.run f).blk.vectors = (f s.mem s.blk).vectors := fun _ _ => monitor_vectors _
@[simp] theorem State.run_casc : ∀ (s : State) f, (s.run f).blk.casc = (f s.mem s.blk).casc := fun _ _ => monitor_casc _
@[simp] theorem State.run_ptus : ∀ (s : State) f, (s.run f).blk.ptus = (f s.mem s.blk).ptus := fun _ _ => monitor_ptus _
@[simp] theorem State.run_stores : ∀ (s : State) f, (s.run f).blk.stores = (f s.mem s.blk).stores := fun _ _ => monitor_stores _
@[simp] theorem State.run_units : ∀ (s : State) f, (s.run f).blk.units = (f s.mem s.blk).units := fun _ _ => monitor_units _
@[simp] theorem State.run_meas : ∀ (s : State) f, (s.run f).blk.meas = (f s.mem s.blk).meas := fun _ _ => monitor_meas _
@[simp] theorem State.run_masks : ∀ (s : State) f, (s.run f).blk.masks = (f s.mem s.blk).masks := fun _ _ => monitor_masks _
@[simp] theorem State.run_hists : ∀ (s : State) f, (s.run f).blk.hists = (f s.mem s.blk).hists := fun _ _ => monitor_hists _
@[simp] theorem State.run_stims : ∀ (s : State) f, (s.run f).blk.stims = (f s.mem s.blk).stims := fun _ _ => monitor_stims _
@[simp] theorem State.run_drivers : ∀ (s : State) f, (s.run f).blk.drivers = (f s.mem s.blk).drivers := fun _ _ => monitor_drivers _
@[simp] theorem State.run_banks : ∀ (s : State) f, (s.run f).blk.banks = (f s.mem s.blk).banks := fun _ _ => monitor_banks _
@[simp] theorem State.run_maint : ∀ (s : State) f, (s.run f).blk.maint = (f s.mem s.blk).maint := fun _ _ => monitor_maint _
@[simp] theorem State.run_words : ∀ (s : State) f, (s.run f).blk.words = (f s.mem s.blk).words := fun _ _ => monitor_words _
@[simp] theorem State.run_tags : ∀ (s : State) f, (s.run f).blk.tags = (f s.mem s.blk).tags := fun _ _ => monitor_tags _
@[simp] theorem State.run_queues : ∀ (s : State) f, (s.run f).blk.queues = (f s.mem s.blk).queues := fun _ _ => monitor_queues _
@[simp] theorem State.run_selectors : ∀ (s : State) f, (s.run f).blk.selectors = (f s.mem s.blk).selectors := fun _ _ => monitor_selectors _
@[simp] theorem State.run_errs : ∀ (s : State) f, (s.run f).blk.errs = (f s.mem s.blk).errs := fun _ _ => monitor_errs _
@[simp] theorem State.run_sync : ∀ (s : State) f, (s.run f).blk.sync = (f s.mem s.blk).sync := fun _ _ => monitor_sync _
@[simp] theorem State.run_chain : ∀ (s : State) f, (s.run f).blk.chain = (f s.mem s.blk).chain := fun _ _ => monitor_chain _
@[simp] theorem State.run_flash : ∀ (s : State) f, (s.run f).blk.flash = (f s.mem s.blk).flash := fun _ _ => monitor_flash _
@[simp] theorem State.run_power : ∀ (s : State) f, (s.run f).blk.power = (f s.mem s.blk).power := fun _ _ => monitor_power _
@[simp] theorem State.run_server : ∀ (s : State) f, (s.run f).blk.server = (f s.mem s.blk).server := fun _ _ => monitor_server _
@[simp] theorem State.run_canPort : ∀ (s : State) f, (s.run f).blk.canPort = (f s.mem s.blk).canPort := fun _ _ => monitor_canPort _
@[simp] theorem State.run_clk : ∀ (s : State) f, (s.run f).blk.clk = (f s.mem s.blk).clk := fun _ _ => monitor_clk _
@[simp] theorem State.run_due : ∀ (s : State) f, (s.run f).blk.due = (f s.mem s.blk).due := fun _ _ => monitor_due _
@[simp] theorem State.run_resp : ∀ (s : State) f, (s.run f).blk.resp = (f s.mem s.blk).resp := fun _ _ => monitor_resp _
@[simp] theorem State.run_free : ∀ (s : State) f, (s.run f).blk.free = (f s.mem s.blk).free := fun _ _ => monitor_free _
@[simp] theorem State.run_lane : ∀ (s : State) f k, (s.run f).blk.lane k = (f s.mem s.blk).lane k :=
  fun _ _ k => monitor_keeps (Block.lane · k) (by intros; rfl) _
@[simp] theorem State.run_pod : ∀ (s : State) f k, (s.run f).blk.pod k = (f s.mem s.blk).pod k :=
  fun _ _ k => monitor_keeps (Block.pod · k) (by intros; rfl) _
@[simp] theorem State.run_engine : ∀ (s : State) f k, (s.run f).blk.engine k = (f s.mem s.blk).engine k :=
  fun _ _ k => monitor_keeps (Block.engine · k) (by intros; rfl) _
@[simp] theorem State.run_dom : ∀ (s : State) f k, (s.run f).blk.dom k = (f s.mem s.blk).dom k :=
  fun _ _ k => monitor_keeps (Block.dom · k) (by intros; rfl) _
@[simp] theorem State.run_trigOut : ∀ (s : State) f k, (s.run f).blk.trigOut k = (f s.mem s.blk).trigOut k :=
  fun _ _ k => monitor_keeps (Block.trigOut · k) (by intros; rfl) _
@[simp] theorem State.run_ptu : ∀ (s : State) f k, (s.run f).blk.ptu k = (f s.mem s.blk).ptu k :=
  fun _ _ k => monitor_keeps (Block.ptu · k) (by intros; rfl) _
@[simp] theorem State.run_store : ∀ (s : State) f k, (s.run f).blk.store k = (f s.mem s.blk).store k :=
  fun _ _ k => monitor_keeps (Block.store · k) (by intros; rfl) _
@[simp] theorem State.run_measUnit : ∀ (s : State) f k, (s.run f).blk.measUnit k = (f s.mem s.blk).measUnit k :=
  fun _ _ k => monitor_keeps (Block.measUnit · k) (by intros; rfl) _
@[simp] theorem State.run_mask : ∀ (s : State) f k, (s.run f).blk.mask k = (f s.mem s.blk).mask k :=
  fun _ _ k => monitor_keeps (Block.mask · k) (by intros; rfl) _
@[simp] theorem State.run_hist : ∀ (s : State) f k, (s.run f).blk.hist k = (f s.mem s.blk).hist k :=
  fun _ _ k => monitor_keeps (Block.hist · k) (by intros; rfl) _
@[simp] theorem State.run_stim : ∀ (s : State) f k, (s.run f).blk.stim k = (f s.mem s.blk).stim k :=
  fun _ _ k => monitor_keeps (Block.stim · k) (by intros; rfl) _
@[simp] theorem State.run_driver : ∀ (s : State) f k, (s.run f).blk.driver k = (f s.mem s.blk).driver k :=
  fun _ _ k => monitor_keeps (Block.driver · k) (by intros; rfl) _
@[simp] theorem State.run_bank : ∀ (s : State) f k, (s.run f).blk.bank k = (f s.mem s.blk).bank k :=
  fun _ _ k => monitor_keeps (Block.bank · k) (by intros; rfl) _
@[simp] theorem State.run_unit : ∀ (s : State) f k, (s.run f).blk.unit k = (f s.mem s.blk).unit k :=
  fun _ _ k => monitor_keeps (Block.unit · k) (by intros; rfl) _
@[simp] theorem State.run_queue : ∀ (s : State) f k, (s.run f).blk.queue k = (f s.mem s.blk).queue k :=
  fun _ _ k => monitor_keeps (Block.queue · k) (by intros; rfl) _

theorem State.run_reg (s : State) (f : List Host.Cell → Block → Block) (i r : Nat) (hr : r < 256) (h : Safety.reporting i r = false) :
    (s.run f).blk.reg i r = (f s.mem s.blk).reg i r := monitor_reg _ _ _ hr h

theorem State.run_rd (s : State) (f : List Host.Cell → Block → Block) (i r : Nat) (hr : r < 256) (h : Safety.reporting i r = false) :
    (s.run f).blk.rd i r = (f s.mem s.blk).rd i r := monitor_rd _ _ _ hr h

/-- A command that changes no register but those of `R`, and no octet of the store. -/
theorem State.run_keeps {s : State} {f : List Host.Cell → Block → Block} {R : Nat → Nat → Bool}
    (h : ∀ i r, r < 256 → (i, r) ≠ (0x1E10, 1) → R i r = false → (f s.mem s.blk).reg i r = s.blk.reg i r)
    (hm : (f s.mem s.blk).mops = s.blk.mops) : Safety.Keeps R s (s.run f) :=
  ⟨⟨fun i r h1 h2 h3 h4 => (State.run_reg s f i r h1 h2).trans (h i r h1 h3 h4), rfl⟩, by rw [State.run_mem, hm]⟩

/-- The store is settled after every command. -/
theorem State.run_storeSettled (s : State) (f : List Host.Cell → Block → Block) (h : Memory.wf s.mem = true) :
    Safety.storeSettled (s.run f) := ⟨by rw [State.run_mem]; exact memApply_wf _ _ h, rfl⟩

end Sys2Proof.Machine
end

