-- ==== Sys2Proof/Laws/Exec.lean ====
section
/-! SUPPORT. What every command has in common: it ends in a next state, without effect where it is not well formed, and its effect is
a run that settles the store and the reports. -/

namespace Sys2Proof.Machine

/-- The commands that also act while the module is off: the two events of the supply that the module notices then. -/
def Instr.ofSupply : Instr → Bool
  | .vinValid _ => true
  | .supplyReversal => true
  | _ => false

/-- Every command is a run, where it is well formed and, but for the supply's events, VIN is valid. -/
theorem exec_shape (c : Instr) (s : State) :
    ∃ f, exec c s = .next (if c.wf && (s.blk.power.on || Instr.ofSupply c) then s.run f else s) := by
  cases c
  case vinValid straps => exact ⟨_, by simp only [Instr.ofSupply, Bool.or_true, Bool.and_true]; rfl⟩
  case supplyReversal => exact ⟨_, by simp only [Instr.ofSupply, Bool.or_true, Bool.and_true]; rfl⟩
  all_goals exact ⟨_, by simp only [Instr.ofSupply, Bool.or_false]; rfl⟩

end Sys2Proof.Machine
end

