-- ==== Sys2Proof/Laws/Stop.lean ====
section
/-! SUPPORT. The stops of a domain (R172, R173): which of those requested applies, and what a request and its becoming known can
change. -/

namespace Sys2Proof.Machine

@[simp] theorem firstStop_nil : firstStop [] = none := rfl

@[simp] theorem firstStop_singleton (x : StopReq) : firstStop [x] = some x := rfl

@[simp] theorem firstStop_eq_none {l : List StopReq} : firstStop l = none ↔ l = [] := by
  cases l with
  | nil => simp
  | cons x l =>
    simp only [firstStop, reduceCtorEq, iff_false]
    split
    · split <;> simp
    · simp

/-- The stop that applies is one of those requested. -/
theorem firstStop_mem {l : List StopReq} {x : StopReq} (h : firstStop l = some x) : x ∈ l := by
  induction l generalizing x with
  | nil => simp at h
  | cons a l ih =>
    simp only [firstStop] at h
    split at h
    · rename_i c hc
      split at h
      · cases h; exact List.mem_cons_of_mem _ (ih hc)
      · cases h; exact List.mem_cons_self
    · cases h; exact List.mem_cons_self

theorem StopReq.beats_irrefl (x : StopReq) : x.beats x = false := by simp [StopReq.beats]

theorem StopReq.not_beats_trans {x y z : StopReq} (h : y.beats x = false) (h' : z.beats y = false) : z.beats x = false := by
  simp only [StopReq.beats, Bool.or_eq_false_iff, Bool.and_eq_false_iff, decide_eq_false_iff_not, beq_eq_false_iff_ne] at *
  omega

theorem StopReq.beats_asymm {x y : StopReq} (h : x.beats y = true) : y.beats x = false := by
  simp only [StopReq.beats, Bool.or_eq_true, Bool.and_eq_true, Bool.or_eq_false_iff, Bool.and_eq_false_iff, decide_eq_true_eq,
    beq_iff_eq, decide_eq_false_iff_not, beq_eq_false_iff_ne] at *
  omega

/-- No stop requested comes before the one that applies. -/
theorem firstStop_least {l : List StopReq} {x : StopReq} (h : firstStop l = some x) : ∀ y ∈ l, y.beats x = false := by
  induction l generalizing x with
  | nil => simp at h
  | cons a l ih =>
    simp only [firstStop] at h
    split at h
    · rename_i c hc
      have hl := ih hc
      split at h
      · rename_i hb
        cases h
        intro y hy
        rcases List.mem_cons.mp hy with rfl | hy
        · exact StopReq.beats_asymm hb
        · exact hl y hy
      · rename_i hb
        cases h
        intro y hy
        rcases List.mem_cons.mp hy with rfl | hy
        · exact StopReq.beats_irrefl _
        · exact StopReq.not_beats_trans (Bool.eq_false_iff.mpr hb) (hl y hy)
    · rename_i hn
      cases h
      intro y hy
      rcases List.mem_cons.mp hy with rfl | hy
      · exact StopReq.beats_irrefl _
      · rw [firstStop_eq_none] at hn; simp [hn] at hy

/-- A stop that comes before every other one requested is the one that applies. -/
theorem firstStop_of_least {l : List StopReq} {x : StopReq} (hx : x ∈ l) (h : ∀ y ∈ l, y ≠ x → x.beats y = true) :
    firstStop l = some x := by
  cases hf : firstStop l with
  | none => rw [firstStop_eq_none] at hf; simp [hf] at hx
  | some z =>
    by_cases hz : z = x
    · rw [hz]
    · have := firstStop_least hf x hx
      rw [h z (firstStop_mem hf) hz] at this
      cases this

/-- A domain has a stop that applies exactly where one has been requested. -/
@[simp] theorem Dom.stop_eq_none {d : Dom} : d.stop = none ↔ d.stops = [] := firstStop_eq_none

/-- A stop that becomes known changes the state and the stop reason of its domain and nothing else. -/
theorem knowStop_shape (t : Nat) (b : Block) : ∃ r, knowStop t b = { b with regs := r } := by
  unfold knowStop
  split
  · split <;> exact ⟨_, rfl⟩
  · exact ⟨_, rfl⟩

/-- A request of a stop changes the list of its domain's stops and what `knowStop` changes. -/
theorem requestStop_shape (t pos reason known : Nat) (b : Block) :
    ∃ r d, requestStop t pos reason known b = { b with regs := r, doms := d } := by
  unfold requestStop
  split
  · exact ⟨_, _, rfl⟩
  · obtain ⟨r, h⟩ := knowStop_shape t (b.setDom t { b.dom t with
      stops := (b.dom t).stops ++ [{ pos := pos, rank := stopRank reason, reason := reason, known := known }] })
    exact ⟨r, _, h⟩

end Sys2Proof.Machine
end

