-- ==== Sys2Proof/Tests/Slice0.lean ====
section
/-! SUPPORT. Tests: ill-formed commands, single commands with values that the spec works out, and for every statement of
Obligations.lean with hypotheses a state and operands that meet them, clause by clause. -/

namespace Sys2Proof.Tests

open Sys2Proof.Machine

set_option Elab.async false

/-- The ready module that the tests act on: an H48 with its clock running, in frame 8, the function and its bus mastering enabled,
NMT OPERATIONAL, the CAN polarity established, host ABI version 1 in force. -/
def tReady : Block :=
  let b := Block.cold .h48 127 Flash.new
  let b := { b with
    time := { abs := 8, frame := 8, wrapDue := false, phys := 256, jumps := [] },
    clk := { Clk.off with run := true },
    pcie := { Pcie.off with perst := false, loaded := true, cfg := { HostConfig.reset with bme := true, msix := true, ptm := true, aspm := 7 } } }
  (((b.wr 0x2001 0 1).wr 0x1E20 7 5).wr 0x1E00 5 1).wr 0x2005 0xA 1

/-- The ready module with some registers and units set. -/
def tState (b : Block) : State := { State.reset with blk := b }

/-- The state that a step answers. -/
def tNext (o : Host.Outcome State Fault Refusal) : State := match o with | .next t => t | _ => State.reset

/-- An entry whose row, where it has one, holds no signed value. -/
theorem tUnsigned {idx sub : Nat} (h : (odRow? idx sub).all (fun x => !x.ty.isSigned) = true) (r : OdRow)
    (e : odRow? idx sub = some r) : r.ty.isSigned = false := by
  simpa [e] using h

/-! ### Well-formedness: one ill-formed command for each check, which the check refuses -/

/-- Ill-formed commands are refused. -/
theorem test_ill_formed_1 : ([
    .frameTick { lanes := [⟨512, [], []⟩], trig0 := [], trig1 := [], sync := [], late := [], outer := false, bad := [] },
    .frameTick { lanes := [], trig0 := [], trig1 := [], sync := [], late := [8], outer := false, bad := [] }, .ptuTimeout 16,
    .timerExpired 8 1, .timerExpired 1 8, .trigOutPulseEnd 2 1, .trigOutPulseEnd 1 64, .forcedTriggerEffect 8, .leaveStopping 8,
    .podAssignWrite .host 32 1, .modeWrite .host 8 1, .registerWrite 0x4000000 1 1, .flagClear (.dict .host 65536 1) 1 false,
    .flagClear (.dict .host 0x5100 256) 1 false, .flagClear (.bar 0x4000000 0) 1 false, .flagClear (.bar 0x120 32) 1 false,
    .counterClear (.dict .can 65536 1) 1 false, .counterClear (.bar 0x120 32) 1 false, .windowWrite .host 32 1 1,
    .windowWrite .host 1 3 1, .windowSettled 32, .laneSettingWrite .host 512 1, .ditherWrite .host 32 1, .healthModeWrite .host 32 1,
    .contactOvervoltage 512 1 false, .contactOvervoltage 1 2 false, .healthVisitEnd 32 1 1 1 1,
    .probeTestEnd [⟨512, 0, 0, 0, 0, 0, 0, 0⟩], .recalEnd 32, .detectorPeriodEnd 32, .indigoEngineWrite .host 64 1 1,
    .indigoEngineWrite .host 1 3 1, .indigoOutput 64, .bankRequest .bar 64 1, .fadeEnd 64, .coefficientWrite .host 2 1 1 1,
    .coefficientWrite .host 1 64 1 1, .coefficientWrite .host 1 1 65 1, .thresholdWrite .host 512 1 1, .thresholdWrite .host 1 0 1,
    .thresholdWrite .host 1 4 1, .arm .bar 8, .stop .bar 8, .forceTrigger .bar 8, .ptuAssignWrite .host 16 1,
    .ptuStandardWrite .host 16 1, .regionAllocationWrite .host 9 1, .storeCommit 8, .hwmWrite .host 8 1] : List Instr).all (fun c => !c.wf) = true := by decide +kernel

/-- Ill-formed commands are refused. -/
theorem test_ill_formed_2 : ([
    .peakReset .bar 8 1, .postTriggerStop 8, .segmentLengthClose 8, .deferredSegmentOpen 8, .bar4Read 0x1000000000 4 [],
    .bar4Read 4095 2 [], .bar4Write 0x1000000000 [] .good, .bar4Write 4095 [0, 0] .good, .storeLoRead 8 1, .storeLoRead 1 12,
    .trigTsLoRead 8, .windowEnd 8, .resultsLatch 32, .limitCompare 8, .maskHoldoffEnd 8, .maskTsLoRead 8, .snapshotCommand .host 16 1,
    .snapshotReadoutStart 16, .snapshotReadoutEnd 16, .driveEnableWrite .host 32 1, .idleLevelWrite .host 32 1,
    .driverLevelsWrite .host 32 1, .launchAtContact 8, .passEnd 8, .driverShort 512, .driverReenable .host 32 1,
    .clockConfigWrite .host 0 1, .clockConfigWrite .host 6 1, .bandEntryWrite .host 128 1, .lockLost 0, .lockLost 5, .syncInEvent 32,
    .sloeTrainingComplete 4 { txPort := 0, farPort := 0, corrections := 0, farId := 1, farLow := 1, farHigh := 2 },
    .sloeFrameMessage 4 1 [], .sloeFrameMessage 1 2048 [], .linkLoss (.own 4), .linkLoss (.beyond 4), .alignment ⟨4, false⟩,
    .handoverRequest .bar 64 1 1, .handoverRequest .bar 1 65536 1, .handoverRequest .bar 1 1 16, .bankPowerRequest .bar 64 1,
    .bankPowerRequest .bar 1 4, .bankKeepRequest .bar 64 false, .reclaim .bar 64, .bankClearingEnd 64,
    .bankWindowAccess false 0x2000000 1 1, .bankTestEnd 3, .patrolScrubRead 1 3 false false] : List Instr).all (fun c => !c.wf) = true := by decide +kernel

/-- Ill-formed commands are refused. -/
theorem test_ill_formed_3 : ([
    .queuePush { cls := .host, inst := 0 } 4096 1 1 false false, .queuePush { cls := .host, inst := 0 } 1 1 (2 ^ 64) false false,
    .queuePop { cls := .host, inst := 0 } 4096 false, .popBurst 4096 1 false, .popBurst 1 0 false, .popBurst 1 4097 false,
    .hostPopTimeout 4096, .mark { cls := .host, inst := 0 } 4096 false, .rewind { cls := .host, inst := 0 } 4096 false,
    .release { cls := .host, inst := 0 } 4096 false, .qcfgWrite .bar 4096 1, .qendWrite .bar 4096 1, .winStagedWrite 8 1,
    .dmaEnable 32 1, .dmaAbort 32, .dmaTailWrite 32 1, .descriptorComplete 32 [], .dmaReadCompletion 1024 [] .good,
    .completionTimeout 1024, .ptmRequest false 2048, .ptmDialogComplete (2 ^ 64), .linkIdleEntry 0, .linkIdleEntry 6,
    .dictRead .host 65536 1 1 1, .dictRead .host 1 256 1 1, .dictRead .host 1 1 (2 ^ 32) 1, .dictRead .host 1 1 1 16385,
    .dictWrite .host 65536 0 [], .dictWrite .host 0 256 [], .dictWrite .host 0 0 (List.replicate 16385 0), .sloeDictRequest 65536 1 [],
    .storeParameters .host 0 1, .storeParameters .host 4 1, .restoreDefaults .host 0 1, .restoreDefaults .host 4 1, .vinValid 128,
    .wakeLane 512 false, .trigInWake 2 false, .temperatureMeasure (-1281), .temperatureMeasure 3001, .canBusStateChange 3 1 1,
    .sloeSignalPresent 4, .sloeTrainingLanesTimeout 4, .bankWakeComplete 64, .canSdoRequest ⟨false, none, false, .whole⟩ 65536 0 [],
    .canSdoRequest ⟨false, none, false, .whole⟩ 0 256 [], .canSdoRequest ⟨true, none, false, .whole⟩ 0 0 (List.replicate 65537 0),
    .canSdoRequest ⟨false, some 0, false, .whole⟩ 0 0 [], .canSdoRequest ⟨false, some 128, false, .whole⟩ 0 0 []] : List Instr).all (fun c => !c.wf) = true := by decide +kernel

/-- Commands like them, with units that exist, are well formed. -/
theorem test_well_formed : ([
    .ptuTimeout 1, .timerExpired 1 1, .trigOutPulseEnd 1 1, .forcedTriggerEffect 1, .leaveStopping 1, .podAssignWrite .host 1 1,
    .modeWrite .host 1 1, .registerWrite 1 1 1, .windowWrite .host 1 1 1, .windowSettled 1, .laneSettingWrite .host 1 1,
    .ditherWrite .host 1 1, .healthModeWrite .host 1 1, .contactOvervoltage 1 1 false, .healthVisitEnd 1 1 1 1 1, .recalEnd 1,
    .detectorPeriodEnd 1, .indigoEngineWrite .host 1 1 1, .indigoOutput 1, .bankRequest .bar 1 1, .fadeEnd 1,
    .coefficientWrite .host 1 1 1 1, .thresholdWrite .host 1 1 1, .arm .bar 1, .stop .bar 1, .forceTrigger .bar 1,
    .ptuAssignWrite .host 1 1, .ptuStandardWrite .host 1 1, .regionAllocationWrite .host 1 1, .storeCommit 1, .hwmWrite .host 1 1,
    .peakReset .bar 1 1, .postTriggerStop 1, .segmentLengthClose 1, .deferredSegmentOpen 1, .storeLoRead 1 1, .trigTsLoRead 1,
    .windowEnd 1, .resultsLatch 1, .limitCompare 1, .maskHoldoffEnd 1, .maskTsLoRead 1, .snapshotCommand .host 1 1,
    .snapshotReadoutStart 1, .snapshotReadoutEnd 1, .driveEnableWrite .host 1 1, .idleLevelWrite .host 1 1, .driverLevelsWrite .host 1 1,
    .launchAtContact 1, .passEnd 1, .driverShort 1, .driverReenable .host 1 1, .clockConfigWrite .host 1 1, .bandEntryWrite .host 1 1,
    .lockLost 1, .syncInEvent 1,
    .sloeTrainingComplete 1 { txPort := 0, farPort := 0, corrections := 0, farId := 1, farLow := 1, farHigh := 2 },
    .sloeFrameMessage 1 1 [], .linkLoss (.own 3), .linkLoss (.beyond 3), .alignment ⟨3, false⟩, .handoverRequest .bar 1 1 1,
    .bankPowerRequest .bar 1 1, .bankKeepRequest .bar 1 false, .reclaim .bar 1, .bankClearingEnd 1, .bankWindowAccess false 1 1 1,
    .bankTestEnd 1, .patrolScrubRead 1 1 false false, .queuePush { cls := .host, inst := 0 } 1 1 1 false false,
    .queuePop { cls := .host, inst := 0 } 1 false, .popBurst 1 1 false, .hostPopTimeout 1, .mark { cls := .host, inst := 0 } 1 false,
    .rewind { cls := .host, inst := 0 } 1 false, .release { cls := .host, inst := 0 } 1 false, .qcfgWrite .bar 1 1, .qendWrite .bar 1 1,
    .winStagedWrite 1 1, .dmaEnable 1 1, .dmaAbort 1, .dmaTailWrite 1 1, .descriptorComplete 1 [], .dmaReadCompletion 1 [] .good,
    .completionTimeout 1, .ptmRequest false 1, .ptmDialogComplete 1, .linkIdleEntry 1, .dictRead .host 1 1 1 1, .sloeDictRequest 1 1 [],
    .storeParameters .host 1 1, .restoreDefaults .host 1 1, .vinValid 1, .wakeLane 1 false, .trigInWake 1 false, .temperatureMeasure 0,
    .canBusStateChange 1 1 1, .sloeSignalPresent 1, .sloeTrainingLanesTimeout 1, .bankWakeComplete 1,
    .canSdoRequest ⟨false, some 127, false, .whole⟩ 1 1 []] : List Instr).all Instr.wf = true := by decide +kernel

/-- After an action on the ready module: does `p` hold of the state? -/
def tAfter (s : State) (c : Instr) (p : State → Bool) : Bool :=
  match exec c s with
  | .next t => p t
  | _ => false

/-- Several commands, one step each. -/
def tBlk (b : Block) (c : Instr) : Block := (tNext (exec c (tState b))).blk

/-! ### The table's words, the queue -/

/-- No row of the table has bits, so no word spells a command, and no word changes the queue. -/
theorem test_no_word_spells_a_command : decodeTableWord 32 5 = none ∧ (State.reset.withFetchWord 32 5) = State.reset := ⟨rfl, rfl⟩

/-- A step takes the front of the queue and leaves the rest. -/
theorem test_step_takes_the_front :
    (tNext (step { State.reset with pending := [.frameNowLoRead, .lock false] })).pending = [.lock false] := rfl

/-! ### One command each, with values that the spec works out -/

/-- R39: the number after 0x1F_FFFF_FFFF_FFFF is 0. -/
theorem test_the_frame_number_returns_to_zero :
    (nextFrame { tReady with time := { tReady.time with frame := 0x1FFFFFFFFFFFFF } }).2.2.time.frame.toNat = 0 := by decide +kernel

/-- R63 and its case: host ABI version 0 is answered ERR_VERSION, and none is in force. -/
theorem test_host_abi : tAfter (tState (tReady.wr 0x1E00 5 0)) (.hostAbiWrite 0)
    (fun t => t.blk.bget 0x1800 0 == stVERSION && t.blk.rd 0x1E00 5 == 0) = true := by decide +kernel

/-- R328's worked example: 25 MHz doubled and 5.12 GS/s give the ratio 204 + 3,435,973,837/2^32 and 5,120,000,000,001 mHz. -/
theorem test_a_fractional_ratio : ratioOf 5120000000000 (refFp2 25000000 1) = 0xCCCCCCCCCD ∧
    rateOf 0xCCCCCCCCCD (refFp2 25000000 1) = 5120000000001 := by constructor <;> decide +kernel

/-- R68's worked example: the window 0x0FA0_FE70 is accepted; 1.8 V reads code 14 and 0 V code 0. -/
theorem test_a_window : tAfter (tState tReady) (.windowWrite .host 0 1 0x0FA0FE70) (fun t => t.blk.resp.status == stOK && (t.blk.pod 0).win == 0x0FA0FE70) = true := by
  decide +kernel

/-- R99's case: a lane setting with FALL above RISE is refused whole; the worked example's 0x0004_00BC is accepted for LANE37. -/
theorem test_lane_settings : tAfter (tState tReady) (.laneSettingWrite .host 37 0x000400BC) (fun t => t.blk.resp.status == stOK && t.blk.rd 0x3202 6 == 0x000400BC) = true ∧
    tAfter (tState tReady) (.laneSettingWrite .host 37 0x000400CB) (fun t => t.blk.resp.status == stRANGE) = true := by
  constructor <;> decide +kernel

/-- R128's case: during a fade to B, a request for B replaces a pending one for A. -/
theorem test_pending_bank_request :
    tAfter (tState ((tReady.wr 0x4600 1 1).setEngine 0 { Engine.reset with fade := some ⟨1, 3, 8⟩, pendBank := some 0 }))
      (.bankRequest .bar 0 1) (fun t => (t.blk.engine 0).pendBank == some 1) = true := by decide +kernel

/-- R132's case: a threshold that makes L + 2H reach U is refused with ERR_RANGE. -/
theorem test_threshold_check :
    (let b := ((tReady.wr 0x4800 1 1000).wr 0x4800 2 0).wr 0x4800 3 100;
     tAfter (tState b) (.thresholdWrite .host 0 2 800) (fun t => t.blk.resp.status == stRANGE && t.blk.rd 0x4800 2 == 0)) = true := by decide +kernel

/-- R198 and R199: writing the standard SSI loads 0x18, 100,000 and 0. -/
theorem test_ptu_defaults : tAfter (tState tReady) (.ptuStandardWrite .can 15 7)
    (fun t => t.blk.rd 0x581F 6 == 0x18 && t.blk.rd 0x581F 7 == 100000 && t.blk.rd 0x581F 8 == 0) = true := by decide +kernel

/-- R205, R217: a region beyond the installed capacity is refused with ERR_RANGE, one that overlaps another with ERR_REFUSED. -/
theorem test_region_checks : tAfter (tState tReady) (.regionAllocationWrite .host 0 0x0002FFFF) (fun t => t.blk.resp.status == stRANGE) = true ∧
    tAfter (tState (tReady.wr 0x6000 2 0x00100000)) (.regionAllocationWrite .host 0 0x0001000F) (fun t => t.blk.resp.status == stREFUSED) = true := by
  constructor <;> decide +kernel

/-- R358's case: in TRACK an event 40 samples from its expected boundary is refused with cause RANGE, and 0x2201.06 reads 40. -/
theorem test_sync_in_out_of_range :
    (let b := ((tReady.wr 0x2201 1 2).wr 0x2201 3 16);
     tAfter (tState { b with time := { b.time with frame := 0x10001, abs := 0x10001 },
                             sync := { b.sync with level := List.replicate 8 false ++ [true] } }) (.syncInEvent 8) (fun t => t.blk.rdI 0x2201 6 == 40 && t.blk.rd 0x2201 7 != 0)) = true := by
  decide +kernel

/-- R356's worked example: ALIGN, OFFSET 0, an event at frame 5,000, sample 21: a slip of −11 that applies in frame 5,002. -/
theorem test_sync_in_align :
    (let b := tReady.wr 0x2201 1 1;
     tAfter (tState { b with time := { b.time with frame := 5000, abs := 5000 },
                             sync := { b.sync with level := List.replicate 21 false ++ [true] } }) (.syncInEvent 21)
       (fun t => t.blk.rdI 0x2201 6 == -11 && t.blk.sync.wait.map (fun w => (w.at_, w.s)) == [(5002, -11)])) = true := by decide +kernel

/-- R388, R389: a handover with the bank's generation is served, a second one with the old generation is answered ERR_OWNER. -/
theorem test_handover : (let b := tBlk tReady (.handoverRequest .bar 63 0 owHOST);
    (b.bank 63).owner == owHOST && (b.bank 63).gen == 1 && b.bget 0x1408 0 % 16 == stOK &&
      (tBlk b (.handoverRequest .bar 63 0 owUNOWNED)).bget 0x1408 0 % 16 == stOWNER) = true := by decide +kernel

/-- R385: ADD32X2 has no carry between the halves; ADD64 has. -/
theorem test_word_operations :
    (let b := (tReady.setBank 5 { Bank.reset with owner := owHOST }).setWord 5 9 0x00000001FFFFFFFF;
     let b := ((b.bset 0x1410 0 (5 * 65536 + 9)).bset 0x1418 0 1).bset 0x141C 0 0;
     (tBlk b .add32x2).word 5 9 == 0x0000000100000000 && (tBlk b .add64).word 5 9 == 0x0000000200000000 &&
       (tBlk b .swap64).word 5 9 == 1 && (tBlk b .add64).bget 0x1420 0 == 0xFFFFFFFF) = true := by decide +kernel

/-- R50 and its case: GAP cleared in the cycle of a drop stays set, and the drop counts. -/
theorem test_gap_set_wins : tAfter (tState (tReady.setQueue 2 { queueDefault 2 with gap := true, drops := 6 })) (.flagClear (.bar 0x20054 0) 1 true)
    (fun t => (t.blk.queue 2).gap && (t.blk.queue 2).drops == 7) = true := by decide +kernel

/-- R51 and its case: a counter at all-ones that is cleared in the cycle of an event reads 1. -/
theorem test_counter_cleared_with_an_event : tAfter (tState (tReady.wr 0x5100 7 0xFFFFFFFF)) (.counterClear (.dict .host 0x5100 8) 1 true)
    (fun t => t.blk.rd 0x5100 7 == 1) = true := by decide +kernel

/-- R480: an unknown index, an unknown subindex, a write of a constant, a value too long. -/
theorem test_dictionary_refusals :
    tAfter (tState tReady) (.dictRead .host 0x0FFF 0 0 0) (fun t => t.blk.resp == Resp.refuse stACCESS 0x06020000) = true ∧
    tAfter (tState tReady) (.dictRead .host 0x5001 9 0 0) (fun t => t.blk.resp == Resp.refuse stACCESS 0x06090011) = true ∧
    tAfter (tState tReady) (.dictWrite .can 0x5001 0 [0]) (fun t => t.blk.resp == Resp.refuse stACCESS 0x06010002) = true ∧
    tAfter (tState tReady) (.dictWrite .can 0x5001 1 [0, 0]) (fun t => t.blk.resp == Resp.refuse stTYPE 0x06070012) = true := by
  refine ⟨?_, ?_, ?_, ?_⟩ <;> decide +kernel

/-- R28's case: the mode of a STOPPING domain is answered BUSY and stays. -/
theorem test_mode_of_a_stopping_domain : tAfter (tState ((tReady.wr 0x5001 1 2).wr 0x5100 2 2)) (.modeWrite .can 0 0)
    (fun t => t.blk.resp.status == stBUSY && t.blk.mode 0 == 2) = true := by decide +kernel

/-- R337, R338: loss of the reference with cause LOS. -/
theorem test_lock_lost : tAfter (tState ((tReady.wr 0x2101 1 2).wr 0x2101 2 1)) (.lockLost 1) (fun t => t.blk.rd 0x2101 7 == 1) = true := by
  decide +kernel

/-- R506: a reversal is latched without VIN. -/
theorem test_reversal : tAfter (tState { tReady with power := { tReady.power with on := false } }) .supplyReversal (fun t => t.blk.flash.reversed) = true := by
  decide +kernel

/-- R519: the warning is live at 110.0 °C and not at 109.9 °C. -/
theorem test_temperature : tAfter (tState tReady) (.temperatureMeasure 1100) (fun t => bit (t.blk.rd 0x2005 1) 1) = true ∧
    tAfter (tState tReady) (.temperatureMeasure 1099) (fun t => !bit (t.blk.rd 0x2005 1) 1) = true := by
  constructor <;> decide +kernel

/-- R217's worked example: SEG-FULL with 8 pods at full rate charges 2,192 B per frame, TIMING-BIN with 8 pods at s = 4 charges 272. -/
theorem test_charges :
    (let b := (List.range 8).foldl (fun (b : Block) n => (b.wr 0x5000 (n + 1) 0).wr 0x5000 (n + 9) 1) tReady;
     let b := ((b.wr 0x5001 1 5).wr 0x5001 2 2).wr 0x6101 1 2;
     b.charge 0 == 2192 && b.charge 1 == 272) = true := by decide +kernel

/-- R68: with the window −0.2 V to 2.0 V, 1.8 V reads code 14 and 0 V code 1, which is above tap 1, −0.0625 V (log entry 28). -/
theorem test_codes : codeOf 0x0FA0FE70 0 1800000 = 14 ∧ codeOf 0x0FA0FE70 0 0 = 1 := by constructor <;> decide +kernel

/-- R543's example: LANE37P lies at (4, 6), LANE37N at (5, 6), LANE53P at (4, 23). -/
theorem test_lane_contacts : contactAt 4 6 = .lane 37 false ∧ contactAt 5 6 = .lane 37 true ∧ contactAt 4 23 = .lane 53 false := by
  decide +kernel

/-- R541: 48 contacts are VIN and 1,168 are GND. -/
theorem test_power_contacts :
    (let all := (List.range 2401).map (fun i => contactAt (i / 49 + 1) (i % 49 + 1))
     (all.filter (· == .vin)).length == 48 && (all.filter (· == .gnd)).length == 1168) = true := by decide +kernel

/-- R502's examples: at 2 Mb/s a bit spans 20 quanta and 75 % is quantum 15; at 8 Mb/s it spans 5 and 75 % is quantum 4. -/
theorem test_sample_points : samplePoint 20 75 = 15 ∧ samplePoint 5 75 = 4 := by decide

/-- R414, R431, R435: after reset Q0 and Q1 alone are enabled, and 0x7080.02 counts two. -/
theorem test_queues_at_reset : State.reset.blk.queuesOn = 2 := by decide +kernel

/-! ### Witnesses: every clause's hypotheses are met together -/

/-- The empty queue. -/
theorem witness_EmptyQueueIdles : State.reset.pending = [] := rfl

theorem witness_EveryStepKeepsTheStoreAndTheReportsSettled :
    (∃ (s : State) (t : State), (step s = .next t) ∧ (Safety.Settled s)) :=
  ⟨{ State.reset with pending := [.vinLoss] }, tNext (step { State.reset with pending := [.vinLoss] }), (rfl), by decide +kernel⟩

theorem witness_WithoutSupplyOrFormNothingHappens :
    (∃ (c : Instr) (s : State), (∀ x, c ≠ .vinValid x) ∧ (s.blk.power.on = false) ∧ (c ≠ .supplyReversal)) ∧
    (∃ (c : Instr), (c.wf = false)) :=
  ⟨⟨.flr, (let r := tReady; tState { r with power := { r.power with on := false } }), (fun x h => by cases h),
      by decide +kernel⟩,
   ⟨.arm .bar 8, by decide +kernel⟩⟩

theorem witness_FrameTickAdvancesTheFrameNumber :
    (∃ (s : State) (inp : FrameIn), ((Instr.frameTick inp).wf = true) ∧ (s.blk.power.on = true) ∧ (s.blk.clk.run = true) ∧
      (s.blk.clk.next = none) ∧ (∀ x ∈ s.blk.sync.wait, x.at_ = s.blk.time.abs + 1 → x.load = none) ∧ (2 ≤ s.blk.applyAfter ∨
      s.blk.on 0x2201 4 = false)) ∧
    (∃ (s : State) (inp : FrameIn) (x : SlipLoad) (n : Nat), ((Instr.frameTick inp).wf = true) ∧ (s.blk.power.on = true) ∧
      (s.blk.clk.run = true) ∧ (s.blk.clk.next = none) ∧ (s.blk.sync.wait = [x]) ∧ (x.at_ = s.blk.time.abs + 1) ∧ (x.load = some
      n) ∧ (x.counts = true)) ∧
    (∃ (s : State), (s.blk.clk.run = false)) ∧
    (∃ (s : State), (s.blk.power.on = true) ∧ (s.blk.rd 0x2101 1 = 1) ∧ (s.blk.rd 0x2101 2 = 1 → s.blk.qualified = true) ∧
      (s.blk.clk.run = false) ∧ (s.blk.clk.next = none)) ∧
    (∃ (s : State) (inp : FrameIn), ((Instr.frameTick inp).wf = true) ∧ (s.blk.power.on = true) ∧ (s.blk.clk.run = true) ∧
      (s.blk.clk.next = some 0) ∧ (s.blk.sync.wait = [])) ∧
    (∃ (s : State) (p : Path), (Safety.Serving s) ∧ (serverHears s.blk p = true)) ∧
    (∃ (s : State), (Safety.Serving s) ∧ (s.blk.barUp = true)) ∧
    (∃ (s : State) (inp : FrameIn) (d : Nat) (a : Nat), (Safety.Walks s inp d a)) ∧
    (∃ (s : State) (inp : FrameIn) (d : Nat) (a : Nat), (Safety.Walks s inp d a) ∧ ((s.blk.store d).live = true) ∧ ((s.blk.store
      d).released = a) ∧ (regionClass (s.blk.mode d) = 0) ∧ (s.blk.dataType d = 2 ∨ s.blk.dataType d = 3)) :=
  ⟨⟨tState (let r := tReady; r), { lanes := [], trig0 := [], trig1 := [], sync := [], late := [], outer := false, bad := [] },
      by decide +kernel⟩,
   ⟨tState (let r := tReady; { r with sync := { r.sync with wait := [⟨9, 0, some 77, true⟩] } }),
     { lanes := [], trig0 := [], trig1 := [], sync := [], late := [], outer := false, bad := [] }, ⟨9, 0, some 77, true⟩, 77,
     by decide +kernel⟩,
   ⟨tState (let r := tReady; { r with clk := Clk.off }), by decide +kernel⟩,
   ⟨tState (let r := tReady; { r with clk := Clk.off }.wr 0x2101 1 1), by decide +kernel⟩,
   ⟨tState (let r := tReady; { r with clk := { Clk.off with run := true, next := some 0 } }),
     { lanes := [], trig0 := [], trig1 := [], sync := [], late := [], outer := false, bad := [] }, by decide +kernel⟩,
   ⟨tState (let r := tReady; r), .can, by decide +kernel⟩,
   ⟨tState (let r := tReady; { r with time := { r.time with frame := 0x1FFFFFFFFFFFFF } }), by decide +kernel⟩,
   ⟨tState (let r := tReady; { r.wr 0x5107 2 1 with doms := [(7, { Dom.reset with first := some 4, evaluated := 128 })] }),
     { lanes := [], trig0 := [], trig1 := [], sync := [], late := [], outer := false, bad := [] }, 7, 4, by decide +kernel⟩,
   ⟨tState (let r := tReady;
     { ((r.wr 0x5000 32 7).wr 0x5107 2 1).wr 0x5001 8 2 with packets := [{ abs := 4, num := 4, voidFrom := 32, brk := false, cut := false, phys := 128, trig0 := [], trig1 := [], lanes := [] }], doms := [(7, { Dom.reset with first := some 4, evaluated := 128 })], stores := [(7, { StoreDom.reset with live := true, size := 67108864, released := 4 })] }),
     { lanes := [], trig0 := [], trig1 := [], sync := [], late := [], outer := false, bad := [] }, 7, 4, by decide +kernel⟩⟩

theorem witness_TimebaseEventsTakeEffect :
    (∃ (s : State), (s.blk.power.on = true) ∧ (s.blk.time.wrapDue = true)) ∧
    (∃ (s : State) (d : Nat) (m : Nat), (s.blk.power.on = true) ∧ (d < 8) ∧ (m < 8) ∧ (((s.blk.dom d).timer m).due ≠ 0) ∧
      (((s.blk.dom d).timer m).due < (s.blk.dom d).evaluated)) ∧
    (∃ (s : State) (o : Nat) (e : Nat), (s.blk.power.on = true) ∧ (o < 2) ∧ (e < 64) ∧ ((s.blk.trigOut o).on = true) ∧
      ((s.blk.trigOut o).stopAt ≤ s.blk.time.phys + e)) ∧
    (∃ (s : State) (d : Nat) (r : StopReq), (s.blk.power.on = true) ∧ (d < 8) ∧ ((s.blk.dom d).stop = some r) ∧ (∀ f ∈ (s.blk.dom
      d).forced, r.pos < f * 32)) ∧
    (∃ (s : State) (d : Nat) (f : Nat), (s.blk.power.on = true) ∧ (d < 8) ∧ (f ∈ (s.blk.dom d).forced) ∧ (s.blk.evaluates d (f *
      32) = true) ∧ (segmented (s.blk.mode d) = false) ∧ ((s.blk.dom d).placed = false) ∧ ((s.blk.store d).seg = none) ∧
      ((s.blk.store d).deferred = none)) :=
  ⟨⟨tState (let r := tReady; { r with time := { r.time with wrapDue := true } }), by decide +kernel⟩,
   ⟨tState (let r := tReady; r.setDom 7 { Dom.reset with evaluated := 101, timers := [(7, { due := 100, expired := false })] }),
     7, 7, by decide +kernel⟩,
   ⟨tState (let r := tReady; r.setTrigOut 1 { on := true, stopAt := 63, coming := [], wave := [] }), 1, 63, by decide +kernel⟩,
   ⟨tState (let r := tReady; r.setDom 0 { Dom.reset with forced := [9, 10], stops := [⟨287, 2, 2, 8⟩] }), 0, ⟨287, 2, 2, 8⟩,
     by decide +kernel⟩,
   ⟨tState (let r := tReady; ((r.wr 0x5001 8 1).wr 0x5107 2 1).setDom 7 { Dom.reset with first := some 9, forced := [9] }), 7, 9,
     by decide +kernel⟩⟩

theorem witness_PodAndModeWritesTakeEffect :
    (∃ (s : State) (p : Path) (n : Nat) (v : Nat), (Safety.Serving s) ∧ (n < 32) ∧ (Safety.Accepts s p 0x5000 (n + 1) v) ∧ (v < 8
      ∨ v = 0xFF) ∧ (s.blk.podDom n < 8 → s.blk.mode (s.blk.podDom n) = 0) ∧ (v < 8 → s.blk.mode v = 0)) ∧
    (∃ (s : State) (p : Path) (d : Nat) (v : Nat), (Safety.Serving s) ∧ (d < 8) ∧ (Safety.Accepts s p 0x5001 (d + 1) v) ∧
      (s.blk.dstate d = 0) ∧ (s.blk.mode d = 0 ∨ v = 0)) ∧
    (∃ (s : State) (p : Path) (n : Nat) (v : Nat), (Safety.Serving s) ∧ (n < 32) ∧ (Safety.Accepts s p 0x5000 (n + 1) v) ∧ (v < 8
      ∨ v = 0xFF) ∧ ((s.blk.podDom n < 8 ∧ s.blk.mode (s.blk.podDom n) ≠ 0) ∨ (v < 8 ∧ s.blk.mode v ≠ 0))) ∧
    (∃ (s : State) (p : Path) (d : Nat) (v : Nat), (Safety.Serving s) ∧ (d < 8) ∧ (Safety.Accepts s p 0x5001 (d + 1) v) ∧
      (s.blk.dstate d ≤ 2) ∧ (s.blk.dstate d ≠ 0 ∨ (s.blk.mode d ≠ 0 ∧ v ≠ 0))) ∧
    (∃ (s : State) (p : Path) (d : Nat) (v : Nat), (Safety.Serving s) ∧ (d < 8) ∧ (serverHears s.blk p = true) ∧ (accessCheck
      s.blk p 0x5001 (d + 1) true = none) ∧ (0xC < v) ∧ (v < 256)) :=
  ⟨⟨tState (let r := tReady; r.wr 0x5000 32 3), .host, 31, 7, by decide +kernel⟩,
   ⟨tState (let r := tReady; r), .can, 7, 0xC, by decide +kernel⟩,
   ⟨tState (let r := tReady; (r.wr 0x5000 32 7).wr 0x5001 8 0xA), .host, 31, 0xFF, by decide +kernel⟩,
   ⟨tState (let r := tReady; r.wr 0x5001 8 0xC), .host, 7, 1, by decide +kernel⟩,
   ⟨tState (let r := tReady; r), .host, 7, 0xD, by decide +kernel⟩⟩

theorem witness_ArmArmsTheDomain :
    (∃ (s : State) (w : Via) (d : Nat), (Safety.Serving s) ∧ (d < 8) ∧ (Safety.Reaches s w (0x5100 + d) 1 1) ∧ (∀ n ∈
      s.blk.podsOf d, s.blk.maint.running.find? (fun a => a.pods.contains n) = none) ∧ (armStatus s.blk d = stOK)) ∧
    (∃ (s : State) (p : Path) (d : Nat), (Safety.Serving s) ∧ (d < 8) ∧ (Safety.Accepts s p (0x5100 + d) 1 1) ∧
      (s.blk.power.lockWait = false) ∧ (s.blk.pcie.flr = false) ∧ (s.blk.armed d = true) ∧ (∀ n ∈ s.blk.podsOf d,
      s.blk.maint.running.find? (fun a => a.pods.contains n) = none)) :=
  ⟨⟨tState (let r := tReady; ((r.wr 0x5000 1 0).wr 0x5001 1 2).wr 0x6000 1 0x00010000), .dict .host, 0, by decide +kernel⟩,
   ⟨tState (let r := tReady; ((r.wr 0x5000 1 0).wr 0x5001 1 0xA).wr 0x5100 2 2), .sloe, 0, by decide +kernel⟩⟩

theorem witness_StopsAndForcedTriggersTakeEffect :
    (∃ (s : State) (w : Via) (d : Nat), (Safety.Serving s) ∧ (d < 8) ∧ (Safety.Reaches s w (0x5100 + d) 1 2) ∧ (s.blk.dstate d =
      1) ∧ ((s.blk.dom d).stop = none)) ∧
    (∃ (s : State) (w : Via) (d : Nat), (Safety.Serving s) ∧ (d < 8) ∧ (Safety.Reaches s w (0x5100 + d) 1 3) ∧ (s.blk.dstate d =
      1)) ∧
    (∃ (s : State) (d : Nat), (s.blk.power.on = true) ∧ (d < 8) ∧ (leaveReady s.blk d = true)) :=
  ⟨⟨tState (let r := tReady; (r.wr 0x5001 8 0xA).wr 0x5107 2 1), .bar, 7, by decide +kernel⟩,
   ⟨tState (let r := tReady; (r.wr 0x5001 1 0xA).wr 0x5100 2 1), .dict .can, 0, by decide +kernel⟩,
   ⟨tState (let r := tReady; (({ r with time := { r.time with abs := 10 } }.wr 0x5001 1 1).wr 0x5100 2 2).setDom 0
     { Dom.reset with evaluated := 64, first := some 1, stops := [⟨63, 2, 2, 1⟩] }), 0, by decide +kernel⟩⟩

theorem witness_PtuWritesAndTimeoutsTakeEffect :
    (∃ (s : State) (p : Path) (u : Nat) (v : Nat), (Safety.Serving s) ∧ (u < 16) ∧ (Safety.Accepts s p 0x5800 (u + 1) v) ∧
      (s.blk.ptuDom u < 8 → s.blk.armed (s.blk.ptuDom u) = false) ∧ (v < 8 → s.blk.armed v = false)) ∧
    (∃ (s : State) (p : Path) (u : Nat) (v : Nat), (Safety.Serving s) ∧ (u < 16) ∧ (Safety.Accepts s p (0x5810 + u) 1 v)) ∧
    (∃ (s : State) (u : Nat) (q : Nat), (s.blk.power.on = true) ∧ (u < 16) ∧ (s.blk.ptuDom u < 8) ∧ (s.blk.armed (s.blk.ptuDom u)
      = true) ∧ (ptuDue (s.blk.ptuCfg u) (s.blk.ptu u) = some q) ∧ (q ≤ (s.blk.dom (s.blk.ptuDom u)).evaluated - 1)) :=
  ⟨⟨tState (let r := tReady; r.wr 0x5800 16 2), .host, 15, 0xFF, by decide +kernel⟩,
   ⟨tState (let r := tReady; r), .host, 15, 9, by decide +kernel⟩,
   ⟨tState (let r := tReady; (((((((r.wr 0x5000 1 0).wr 0x5001 1 3).wr 0x5100 2 1).wr 0x5800 1 0).wr 0x5810 1 1).wr 0x5810 7
     100).setDom 0 { Dom.reset with evaluated := 200, first := some 0 }).setPtu 0
     { Ptu.reset with hunting := false, phase := 1, z := 50 }), 0, 149, by decide +kernel⟩⟩

theorem witness_LaneAndPodSettingsTakeEffect :
    (∃ (s : State) (p : Path) (n : Nat) (sub : Nat) (v : Nat), (Safety.Serving s) ∧ (n < 32) ∧ (sub = 1 ∨ sub = 2) ∧
      (Safety.Accepts s p (0x3100 + n) sub v)) ∧
    (∃ (s : State) (p : Path) (l : Nat) (v : Nat), (Safety.Serving s) ∧ (l < 512) ∧ (Safety.Accepts s p (0x3200 + l / 16) (l % 16
      + 1) v)) ∧
    (∃ (s : State) (p : Path) (n : Nat) (v : Nat), (Safety.Serving s) ∧ (n < 32) ∧ (Safety.Accepts s p (0x3100 + n) 3 v)) ∧
    (∃ (s : State) (p : Path) (n : Nat) (v : Nat), (Safety.Serving s) ∧ (n < 32) ∧ (Safety.Accepts s p (0x3100 + n) 4 v)) ∧
    (∃ (s : State) (n : Nat), (s.blk.power.on = true) ∧ (n < 32)) :=
  ⟨⟨tState (let r := tReady; r), .host, 31, 2, 1, by decide +kernel⟩,
   ⟨tState (let r := tReady; r), .sloe, 511, 0x88, by decide +kernel⟩,
   ⟨tState (let r := tReady; r), .host, 31, 1, by decide +kernel⟩,
   ⟨tState (let r := tReady; r), .can, 0, 2, by decide +kernel⟩,
   ⟨tState (let r := tReady; r.wr 0x311F 10 3), 31, by decide +kernel⟩⟩

theorem witness_ContactEventsSetTheLaneStatus :
    (∃ (s : State) (l : Nat) (c : Nat), (s.blk.power.on = true) ∧ (l < 512) ∧ (c < 2)) ∧
    (∃ (s : State) (n : Nat) (l : Nat) (x : Pod), (s.blk.power.on = true) ∧ (n < 32) ∧ (s.blk.pod n = x) ∧ (x.visit < 32) ∧ (l =
      16 * n + x.visit / 2) ∧ (x.visitMode ≠ 0) ∧ (x.visitCut = false) ∧ (x.se = true → x.visit % 2 = 0)) ∧
    (∃ (s : State) (n : Nat) (l : Nat) (x : Pod), (s.blk.power.on = true) ∧ (n < 32) ∧ (s.blk.pod n = x) ∧ (x.visit < 32) ∧ (l =
      16 * n + x.visit / 2) ∧ (x.visitMode = 0 ∨ x.visitCut = true)) :=
  ⟨⟨tState (let r := tReady; r), 511, 1, by decide +kernel⟩,
   ⟨tState (let r := tReady; r.setPod 0 { tReady.pod 0 with visit := 11, visitMode := 2, visitCut := false }), 0, 5,
     { tReady.pod 0 with visit := 11, visitMode := 2, visitCut := false }, by decide +kernel⟩,
   ⟨tState (let r := tReady; r.setPod 31 { tReady.pod 31 with visit := 31, visitMode := 0 }), 31, 511,
     { tReady.pod 31 with visit := 31, visitMode := 0 }, by decide +kernel⟩⟩

theorem witness_ActivitiesWaitRunAndEnd :
    (∃ (s : State) (p : Path), (Safety.Serving s) ∧ (Safety.Accepts s p 0x3010 2 1) ∧ (activityStatus s.blk true = stOK)) ∧
    (∃ (s : State) (p : Path), (Safety.Serving s) ∧ (Safety.Accepts s p 0x3011 2 1) ∧ (activityStatus s.blk false = stOK)) ∧
    (∃ (s : State) (a : Activity) (rest : List Activity), (s.blk.power.on = true) ∧ (startable s.blk.heldPods s.blk.maint.waiting
      = some (a, rest))) ∧
    (∃ (s : State) (a : Activity) (rs : List ProbeResult), (s.blk.power.on = true) ∧ ((Instr.probeTestEnd rs).wf = true) ∧
      (s.blk.maint.running.find? (·.probe) = some a)) ∧
    (∃ (s : State) (n : Nat) (a : Activity), (s.blk.power.on = true) ∧ (n < 32) ∧ (s.blk.maint.running.find? (fun x => !x.probe
      && x.pods.contains n) = some a)) :=
  ⟨⟨tState (let r := tReady; r.wr 0x3010 1 0x80000001), .host, by decide +kernel⟩,
   ⟨tState (let r := tReady; r.wr 0x3011 1 0x80000001), .can, by decide +kernel⟩,
   ⟨tState (let r := tReady; { r with maint := { r.maint with waiting := [⟨true, false, [0, 31]⟩] } }), ⟨true, false, [0, 31]⟩,
     [], by decide +kernel⟩,
   ⟨tState (let r := tReady; { r with maint := { r.maint with running := [⟨true, false, [0, 31]⟩] } }), ⟨true, false, [0, 31]⟩,
     [⟨511, 0, 25000, 0, 30000, 9000, 25000, 50⟩], by decide +kernel⟩,
   ⟨tState (let r := tReady; { r with maint := { r.maint with running := [⟨false, true, [31]⟩] } }), 31, ⟨false, true, [31]⟩,
     by decide +kernel⟩⟩

theorem witness_SynchronisingResetIsRequestedAndMade :
    (∃ (s : State) (w : Via), (Safety.Serving s) ∧ (Safety.Reaches s w 0x4010 1 1)) ∧
    (∃ (s : State) (d : Due) (rest : List Due), (s.blk.power.on = true) ∧ (takeDue (fun x => x.task == .indigoSync && decide
      (x.at_ ≤ s.blk.time.abs)) s.blk.due = some (d, rest)) ∧ (s.blk.syncAbs ≠ s.blk.time.abs)) :=
  ⟨⟨tState (let r := tReady; r), .bar, by decide +kernel⟩,
   ⟨tState (let r := tReady; { r with due := [⟨.indigoSync, 8, 8⟩] }), ⟨.indigoSync, 8, 8⟩, [], by decide +kernel⟩⟩

theorem witness_IndigoWritesTakeEffect :
    (∃ (s : State) (p : Path) (e : Nat) (sub : Nat) (v : Nat), (Safety.Serving s) ∧ (e < 64) ∧ (sub = 1 ∨ sub = 2 ∨ sub = 4) ∧
      (Safety.Accepts s p (0x4600 + e) sub v)) ∧
    (∃ (s : State) (p : Path) (k : Nat) (e : Nat) (v : Nat), (Safety.Serving s) ∧ (k < 2) ∧ (e < 64) ∧ (Safety.Accepts s p
      (0x4600 + e) (9 + k) v) ∧ (bankLocked s.blk k e = false)) ∧
    (∃ (s : State) (p : Path) (k : Nat) (e : Nat) (sub : Nat) (v : Nat), (Safety.Serving s) ∧ (k < 2) ∧ (e < 64) ∧ (1 ≤ sub) ∧
      (sub ≤ 64) ∧ (Safety.Accepts s p (coefObj k e) sub v) ∧ (bankLocked s.blk k e = false)) ∧
    (∃ (s : State) (p : Path) (l : Nat) (v : Nat) (sub : Nat), (Safety.Serving s) ∧ (l < 512) ∧ (sub = 1 ∨ sub = 2) ∧
      (Safety.Accepts s p (0x4800 + l) sub v)) ∧
    (∃ (s : State) (p : Path) (l : Nat) (v : Nat), (Safety.Serving s) ∧ (l < 512) ∧ (Safety.Accepts s p (0x4800 + l) 3 v)) :=
  ⟨⟨tState (let r := tReady; r), .host, 63, 1, 1, by decide +kernel⟩,
   ⟨tState (let r := tReady; r), .host, 1, 63, 64, by decide +kernel⟩,
   ⟨tState (let r := tReady; r), .host, 1, 63, 64, 0x8000, by decide +kernel⟩,
   ⟨tState (let r := tReady; r), .can, 511, 0x1234, 1, by decide +kernel⟩,
   ⟨tState (let r := tReady; r), .host, 511, 0, by decide +kernel⟩⟩

theorem witness_CoefficientsOfABankInUseAreLocked :
    (∃ (s : State) (p : Path) (k : Nat) (e : Nat) (sub : Nat) (v : Nat), (Safety.Serving s) ∧ (k < 2) ∧ (e < 64) ∧ (1 ≤ sub) ∧
      (sub ≤ 64) ∧ (Safety.Accepts s p (coefObj k e) sub v) ∧ (s.blk.engBank e = k ∨ (s.blk.engOn e = true ∧ ∃ f, (s.blk.engine
      e).fade = some f ∧ f.running = true))) ∧
    (∃ (s : State) (p : Path) (k : Nat) (e : Nat) (v : Nat), (Safety.Serving s) ∧ (k < 2) ∧ (e < 64) ∧ (Safety.Accepts s p
      (0x4600 + e) (9 + k) v) ∧ (s.blk.engBank e = k ∨ (s.blk.engOn e = true ∧ ∃ f, (s.blk.engine e).fade = some f ∧ f.running =
      true))) :=
  ⟨⟨tState (let r := tReady; r.wr 0x463F 1 1), .host, 0, 63, 64, 1, by decide +kernel⟩,
   ⟨tState (let r := tReady; ((r.wr 0x463F 1 1).setEngine 63 { Engine.reset with fade := some ⟨1, 0, 0⟩ })), .host, 1, 63, 2,
     by decide +kernel⟩⟩

theorem witness_BankRequestsFade :
    (∃ (s : State) (w : Via) (e : Nat) (v : Nat), (Safety.Serving s) ∧ (e < 64) ∧ (v < 2) ∧ (Safety.Reaches s w (0x4600 + e) 6 v)
      ∧ (s.blk.engOn e = false) ∧ ((s.blk.engine e).fade = none)) ∧
    (∃ (s : State) (w : Via) (e : Nat) (v : Nat), (Safety.Serving s) ∧ (e < 64) ∧ (v < 2) ∧ (Safety.Reaches s w (0x4600 + e) 6 v)
      ∧ (s.blk.engOn e = true) ∧ ((s.blk.engine e).fade = none) ∧ (s.blk.engBank e ≠ v)) ∧
    (∃ (s : State) (w : Via) (e : Nat) (v : Nat) (f : Fade), (Safety.Serving s) ∧ (e < 64) ∧ (v < 2) ∧ (Safety.Reaches s w
      (0x4600 + e) 6 v) ∧ (s.blk.engOn e = true) ∧ ((s.blk.engine e).fade = some f) ∧ (f.running = true)) ∧
    (∃ (s : State) (e : Nat) (f : Fade), (s.blk.power.on = true) ∧ (e < 64) ∧ ((s.blk.engine e).fade = some f) ∧ (f.running =
      false)) :=
  ⟨⟨tState (let r := tReady; r), .dict .host, 63, 1, by decide +kernel⟩,
   ⟨tState (let r := tReady; r.wr 0x463F 1 1), .bar, 63, 1, by decide +kernel⟩,
   ⟨tState (let r := tReady; (r.wr 0x4600 1 1).setEngine 0 { Engine.reset with fade := some ⟨1, 3, 8⟩ }), .bar, 0, 0, ⟨1, 3, 8⟩,
     by decide +kernel⟩,
   ⟨tState (let r := tReady; (r.wr 0x4600 1 1).setEngine 0 { Engine.reset with fade := some ⟨1, 8, 8⟩, pendBank := some 1 }), 0,
     ⟨1, 8, 8⟩, by decide +kernel⟩⟩

theorem witness_DetectorsAndIndigoShowTheirValues :
    (∃ (s : State) (e : Nat) (r : Nat) (k : Nat) (xs : List Int) (ms : List Nat) (d : Due) (rest : List Due), (s.blk.power.on =
      true) ∧ (e < 64) ∧ (takeDue (fun x => isOutputOf e x && decide (x.at_ ≤ s.blk.time.abs)) s.blk.due = some (d, rest)) ∧
      (d.task = .indigoRank e r k xs ms)) ∧
    (∃ (s : State) (e : Nat) (r : Nat) (m : Nat) (z : Int) (d : Due) (rest : List Due) (zs : List Int), (s.blk.power.on = true) ∧
      (e < 64) ∧ (takeDue (fun x => isOutputOf e x && decide (x.at_ ≤ s.blk.time.abs)) s.blk.due = some (d, rest)) ∧ (d.task =
      .indigoFir e r 0 [z] [m]) ∧ ((r + 1) % s.blk.engD e = 0) ∧ ((s.blk.engine e).fade = none) ∧ (s.blk.rd (0x4600 + e) 0xC = 0)
      ∧ (zs = z :: (look (fun _ => []) (s.blk.engine e).zs 0).take 63)) ∧
    (∃ (s : State) (e : Nat) (r : Nat) (k : Nat) (zs : List Int) (ms : List Nat) (d : Due) (rest : List Due) (x : OutDec),
      (s.blk.power.on = true) ∧ (e < 64) ∧ (takeDue (fun y => isOutputOf e y && decide (y.at_ ≤ s.blk.time.abs)) s.blk.due = some
      (d, rest)) ∧ (d.task = .indigoFir e r k zs ms) ∧ (0 < k) ∧ ((s.blk.engine e).decs.find? (fun y => y.r == r) = some x)) ∧
    (∃ (s : State) (e : Nat) (abs : Nat) (k : Nat) (i : Nat) (outs : List IndPoint) (o : IndPoint) (d : Due) (rest : List Due),
      (s.blk.power.on = true) ∧ (e < 64) ∧ (takeDue (fun x => isOutputOf e x && decide (x.at_ ≤ s.blk.time.abs)) s.blk.due = some
      (d, rest)) ∧ (d.task = .indigoSlots e abs k outs) ∧ (s.blk.engOn e = true) ∧ (outs[i]? = some o) ∧ (k + i < 8) ∧ (-32768 ≤
      o.y) ∧ (o.y ≤ 32767)) ∧
    (∃ (s : State) (n : Nat) (d : Due) (rest : List Due), (s.blk.power.on = true) ∧ (n < 32) ∧ (takeDue (fun x => x.task ==
      .detectorLatch n) s.blk.due = some (d, rest))) :=
  ⟨⟨tState (let r := tReady; { r.wr 0x463F 1 1 with due := [⟨.indigoRank 63 0 5 [-15328, 7, 9] [9, 8, 7], 8, 8⟩] }), 63, 0, 5,
      [-15328, 7, 9], [9, 8, 7], ⟨.indigoRank 63 0 5 [-15328, 7, 9] [9, 8, 7], 8, 8⟩, [], by decide +kernel⟩,
   ⟨tState (let r := tReady; { r.wr 0x463F 1 1 with due := [⟨.indigoFir 63 0 0 [-15328] [9], 8, 8⟩] }), 63, 0, 9, -15328,
     ⟨.indigoFir 63 0 0 [-15328] [9], 8, 8⟩, [], [-15328], by decide +kernel⟩,
   ⟨tState (let r := tReady; ({ r.wr 0x463F 1 1 with due := [⟨.indigoFir 63 4 5 [-15328, 7, 9] [9, 8, 7], 8, 8⟩] }).setEngine 63
     { Engine.reset with decs := [⟨4, 319, 13, 1, 1, 0, 0, false, 2016⟩] }), 63, 4, 5, [-15328, 7, 9], [9, 8, 7], ⟨.indigoFir 63
     4 5 [-15328, 7, 9] [9, 8, 7], 8, 8⟩, [], ⟨4, 319, 13, 1, 1, 0, 0, false, 2016⟩, by decide +kernel⟩,
   ⟨tState (let r := tReady;
     { r.wr 0x463F 1 1 with due := [⟨.indigoSlots 63 10 5 [⟨100, 0, 0, 1, 500, 7⟩, ⟨108, 0, 0, 1, -500, 7⟩], 8, 9⟩] }), 63, 10,
     5, 1, [⟨100, 0, 0, 1, 500, 7⟩, ⟨108, 0, 0, 1, -500, 7⟩], ⟨108, 0, 0, 1, -500, 7⟩, ⟨.indigoSlots 63 10 5 [⟨100, 0, 0, 1, 500,
     7⟩, ⟨108, 0, 0, 1, -500, 7⟩], 8, 9⟩, [], by decide +kernel⟩,
   ⟨tState (let r := tReady;
     { r.setLane 511 { tReady.lane 511 with latch := some ⟨15, 0, 100, 900, 32⟩ } with due := [⟨.detectorLatch 31, 8, 9⟩] }), 31,
     ⟨.detectorLatch 31, 8, 9⟩, [], by decide +kernel⟩⟩

theorem witness_RegionsAreAllocatedAndCleared :
    (∃ (s : State) (p : Path) (r : Nat) (v : Nat), (Safety.Serving s) ∧ (r < 9) ∧ (Safety.Accepts s p 0x6000 (r + 1) v) ∧
      (s.blk.mops = []) ∧ (regionStatus s.blk r v = stOK) ∧ (r = 8 → stimulusBusy s.blk = false)) ∧
    (∃ (s : State) (p : Path) (v : Nat), (Safety.Serving s) ∧ (Safety.Accepts s p 0x6001 6 v) ∧ (s.blk.mops = []) ∧ (∀ r ∈
      setBits 9 v, r = 8 ∨ s.blk.armed r = false) ∧ (8 ∈ setBits 9 v → stimulusBusy s.blk = false)) ∧
    (∃ (s : State) (p : Path) (v : Nat) (r : Nat), (Safety.Serving s) ∧ (Safety.Accepts s p 0x6001 6 v) ∧ (r ∈ setBits 9 v) ∧ (r
      < 8) ∧ (s.blk.armed r = true)) ∧
    (∃ (s : State) (p : Path) (v : Nat) (d : Nat), (Safety.Serving s) ∧ (Safety.Accepts s p 0x6000 9 v) ∧ (d < 8) ∧ (s.blk.armed
      d = true) ∧ (s.blk.mode d = 0xA ∨ s.blk.mode d = 0xB ∨ s.blk.mode d = 8)) ∧
    (∃ (s : State) (p : Path) (v : Nat) (d : Nat), (Safety.Serving s) ∧ (Safety.Accepts s p 0x6001 6 v) ∧ (8 ∈ setBits 9 v) ∧ (d
      < 8) ∧ (s.blk.armed d = true) ∧ (s.blk.mode d = 0xA ∨ s.blk.mode d = 0xB ∨ s.blk.mode d = 8)) :=
  ⟨⟨tState (let r := tReady; r), .host, 8, 0x00010005, by decide +kernel⟩,
   ⟨tState (let r := tReady; r.wr 0x6000 1 0x00010000), .host, 0x101, by decide +kernel⟩,
   ⟨tState (let r := tReady; (r.wr 0x6000 8 0x00010000).wr 0x5107 2 1), .host, 0x80, 7, by decide +kernel⟩,
   ⟨tState (let r := tReady; (r.wr 0x5001 8 0xA).wr 0x5107 2 1), .host, 0x00010005, 7, by decide +kernel⟩,
   ⟨tState (let r := tReady; (r.wr 0x5001 8 0xB).wr 0x5107 2 2), .host, 0x101, 7, by decide +kernel⟩⟩

theorem witness_FramesAreCommittedAndTheFillIsWatched :
    (∃ (s : State) (d : Nat) (f : StagedFrame) (rest : List StagedFrame), (s.blk.power.on = true) ∧ (d < 8) ∧ (s.blk.mops = []) ∧
      ((s.blk.store d).staged = f :: rest) ∧ (f.left = 0)) ∧
    (∃ (s : State) (p : Path) (d : Nat) (v : Nat), (Safety.Serving s) ∧ (d < 8) ∧ (Safety.Accepts s p (0x6100 + d) 8 v)) ∧
    (∃ (s : State) (w : Via) (d : Nat), (Safety.Serving s) ∧ (d < 8) ∧ (Safety.Reaches s w (0x6400 + d) 6 1)) :=
  ⟨⟨tState (let r := tReady; r.setStore 7
      { StoreDom.reset with live := true, size := 4096, staged := [⟨3, 0, 0, [(64, [5, 6]), (72, [9])], some 16, 127, none⟩] }),
      7, ⟨3, 0, 0, [(64, [5, 6]), (72, [9])], some 16, 127, none⟩, [], by decide +kernel⟩,
   ⟨tState (let r := tReady; (r.wr 0x6407 1 100).wr 0x6107 8 101), .host, 7, 100, by decide +kernel⟩,
   ⟨tState (let r := tReady; r.wr 0x6407 1 100), .bar, 7, by decide +kernel⟩⟩

theorem witness_TheStoreEndsItsUnits :
    (∃ (s : State) (d : Nat) (p : Nat) (x : StopReq), (s.blk.power.on = true) ∧ (d < 8) ∧ ((s.blk.store d).postStop = some p) ∧
      (p < (s.blk.dom d).evaluated) ∧ (s.blk.armed d = true) ∧ (x =
      { pos := p, rank := stopRank srSTORE, reason := srSTORE, known := p / 32 + 5 }) ∧ (x ∈ (s.blk.dom d).stops) ∧ (∀ y ∈
      (s.blk.dom d).stops, y ≠ x → x.beats y = true)) ∧
    (∃ (s : State) (d : Nat) (c : Nat) (g : Segment), (s.blk.power.on = true) ∧ (d < 8) ∧ ((s.blk.store d).seg = some g) ∧
      ((s.blk.store d).deferred = none) ∧ (lengthClose s.blk d g = some c) ∧ (c < (s.blk.dom d).evaluated) ∧ (s.blk.evaluates d c
      = true)) ∧
    (∃ (s : State) (d : Nat) (x : Deferred), (s.blk.power.on = true) ∧ (d < 8) ∧ ((s.blk.store d).seg = none) ∧ ((s.blk.store
      d).deferred = some x) ∧ (x.at_ ≤ (s.blk.dom d).evaluated) ∧ (s.blk.evaluates d x.at_ = true) ∧ (slotProtected s.blk d =
      false)) :=
  ⟨⟨tState (let r := tReady; (((r.wr 0x5001 8 1).wr 0x5107 2 1).setStore 7 { StoreDom.reset with postStop := some 127 }).setDom
      7 { Dom.reset with evaluated := 128, first := some 1, stops := [⟨200, 2, 2, 7⟩, ⟨127, 4, 4, 8⟩] }), 7, 127, ⟨127, 4, 4, 8⟩,
      by decide +kernel⟩,
   ⟨tState (let r := tReady; ((((r.wr 0x5001 1 5).wr 0x5100 2 1).wr 0x6100 5 20).setStore 0
     { StoreDom.reset with live := true, slots := 4, seg := some ⟨0, 0, 64, 0, 1, 0, 0, false, false, 0, 0, none, none, 64, none⟩ }).setDom
     0 { Dom.reset with evaluated := 96, first := some 1 }), 0, 83, ⟨0, 0, 64, 0, 1, 0, 0, false, false, 0, 0, none, none, 64,
     none⟩, by decide +kernel⟩,
   ⟨tState (let r := tReady; (((r.wr 0x5001 1 5).wr 0x5100 2 1).setStore 0
     { StoreDom.reset with live := true, slots := 4, deferred := some ⟨70, 11⟩ }).setDom 0
     { Dom.reset with evaluated := 70, first := some 1 }), 0, ⟨70, 11⟩, by decide +kernel⟩⟩

theorem witness_Bar4ReachesTheStore :
    (∃ (s : State) (x : Nat) (len : Nat), (Safety.Serving s) ∧ (s.blk.barUp = true) ∧ (s.blk.mops = []) ∧ (1 ≤ len) ∧
      ((Instr.bar4Read x len []).wf = true)) ∧
    (∃ (s : State) (x : Nat) (data : List Byte), (Safety.Serving s) ∧ (s.blk.barUp = true) ∧ (s.blk.mops = []) ∧
      ((Instr.bar4Write x data .good).wf = true) ∧ (s.blk.regionOfUnit (s.blk.apertureAddr x / unitBytes) = some 8)) ∧
    (∃ (s : State) (x : Nat) (data : List Byte), (Safety.Serving s) ∧ (s.blk.barUp = true) ∧ (s.blk.mops = []) ∧
      ((Instr.bar4Write x data .good).wf = true) ∧ (s.blk.regionOfUnit (s.blk.apertureAddr x / unitBytes) ≠ some 8)) :=
  ⟨⟨tState (let r := tReady; r), 0xFF8, 8, by decide +kernel⟩,
   ⟨tState (let r := tReady; r.wr 0x6000 9 0x00010000), 8, [1, 2, 3], by decide +kernel⟩,
   ⟨tState (let r := tReady; r), 8, [1, 2, 3], by decide +kernel⟩⟩

theorem witness_LoReadsLatchTheirHighHalf :
    (∃ (s : State), (Safety.Serving s) ∧ (s.blk.barUp = true)) :=
  ⟨tState (let r := tReady; r), by decide +kernel⟩

theorem witness_Bar0WritesAreServedOrRecorded :
    (∃ (s : State), (Safety.Serving s) ∧ (s.blk.barUp = true)) ∧
    (∃ (s : State) (off : Nat) (v : Nat), (Safety.Serving s) ∧ (s.blk.barUp = true) ∧ (off < 0x2000000) ∧ (off % 4 = 0) ∧
      ((regWrite s.mem off (v % 2 ^ 32) s.blk).1 ≠ stOK)) ∧
    (∃ (s : State) (off : Nat) (size : Nat), (Safety.Serving s) ∧ (s.blk.barUp = true) ∧ (off < 0x2000000) ∧ (size = 4 → off % 4
      ≠ 0) ∧ (size = 8 → off % 8 ≠ 0)) ∧
    (∃ (s : State) (off : Nat), (s.blk.power.on = true) ∧ (s.blk.barUp = true) ∧ (s.blk.rd 0x2001 0 = 0) ∧ (off < 0x4000000)) ∧
    (∃ (s : State) (off : Nat), (s.blk.power.on = true) ∧ (s.blk.barUp = true) ∧ (s.blk.rd 0x2001 0 = 2) ∧ (off < 0x4000000)) ∧
    (∃ (s : State) (v : Nat), (Safety.Serving s) ∧ (s.blk.barUp = true) ∧ (v < 65536) ∧ (s.blk.rd 0x1E00 5 = 0) ∧ (s.blk.rd
      0x1E00 3 ≤ v)) ∧
    (∃ (s : State) (v : Nat), (Safety.Serving s) ∧ (s.blk.barUp = true) ∧ (v < 65536) ∧ (s.blk.rd 0x1E00 5 = 0) ∧ (v < s.blk.rd
      0x1E00 3)) ∧
    (∃ (s : State) (v : Nat), (Safety.Serving s) ∧ (s.blk.barUp = true) ∧ (v < 65536) ∧ (s.blk.rd 0x1E00 5 ≠ 0)) ∧
    (∃ (s : State), (Safety.Serving s) ∧ (s.blk.barUp = true)) ∧
    (∃ (s : State) (off : Nat) (v : Nat) (st : Nat) (st' : Nat), (Safety.Serving s) ∧ (s.blk.barUp = true) ∧ (off < 0x2000000) ∧
      (off % 8 = 0) ∧ ((regWrite s.mem off (v % 2 ^ 32) s.blk).1 = st) ∧ (st ≠ stOK) ∧ ((regWrite s.mem (off + 4) (v / 2 ^ 32 % 2
      ^ 32) (rejectWrite off st s.blk)).1 = st') ∧ (st' ≠ stOK)) :=
  ⟨⟨tState (let r := tReady; r), by decide +kernel⟩,
   ⟨tState (let r := tReady; r), 0x1FFFFFC, 1, by decide +kernel⟩,
   ⟨tState (let r := tReady; r), 0, 2, by decide +kernel⟩,
   ⟨tState (let r := tReady; r.wr 0x2001 0 0), 0x3FFFFFF, by decide +kernel⟩,
   ⟨tState (let r := tReady; r.wr 0x2001 0 2), 0x3FFFFFF, by decide +kernel⟩,
   ⟨tState (let r := tReady; r.wr 0x1E00 5 0), 65535, by decide +kernel⟩,
   ⟨tState (let r := tReady; r.wr 0x1E00 5 0), 0, by decide +kernel⟩,
   ⟨tState (let r := tReady; r), 0, by decide +kernel⟩,
   ⟨tState (let r := tReady; r), by decide +kernel⟩,
   ⟨tState (let r := tReady; r), 0x1FFFFF8, 1, stACCESS, stACCESS, by decide +kernel⟩⟩

theorem witness_FlagsAndCountersClear :
    (∃ (s : State) (p : Path) (idx : Nat) (sub : Nat), (Safety.Serving s) ∧ (idx < 65536) ∧ (sub < 256) ∧ (isFlag idx sub = true)
      ∧ (Safety.Accepts s p idx sub 1)) ∧
    (∃ (s : State) (p : Path) (idx : Nat) (sub : Nat), (Safety.Serving s) ∧ (idx < 65536) ∧ (sub < 256) ∧ (isFlag idx sub = true)
      ∧ (Safety.Accepts s p idx sub 0)) ∧
    (∃ (s : State) (off : Nat) (i : Nat) (idx : Nat) (sub : Nat), (Safety.Serving s) ∧ (s.blk.barUp = true) ∧ (off < 0x1800) ∧
      ((barFlags off).find? (fun x => x.1 == i) = some (i, idx, sub))) ∧
    (∃ (s : State) (p : Path) (idx : Nat) (sub : Nat) (c : Nat), (Safety.Serving s) ∧ (Safety.reportsSettled s.blk) ∧ (idx <
      65536) ∧ (sub < 256) ∧ (clearedBy idx sub = some c) ∧ (Safety.Accepts s p idx sub 1)) ∧
    (∃ (s : State) (off : Nat) (i : Nat) (f : Nat) (co : Nat) (cf : Nat) (w : Nat), (Safety.Serving s) ∧ (s.blk.barUp = true) ∧
      (ownFlag off i = some (f, co, cf, w))) ∧
    (∃ (s : State), (Safety.Serving s) ∧ (s.blk.barUp = true)) ∧
    (∃ (s : State) (q : Nat), (Safety.Serving s) ∧ (s.blk.barUp = true) ∧ (q < 4096)) ∧
    (∃ (s : State) (off : Nat), (Safety.Serving s) ∧ (Safety.reportsSettled s.blk) ∧ (s.blk.barUp = true) ∧ (off < 0x4000000)) ∧
    (∃ (s : State) (off : Nat) (i : Nat) (co : Nat) (cf : Nat), (Safety.Serving s) ∧ (s.blk.barUp = true) ∧ ((off, i, co, cf) ∈
      [(0x120, 1, 0x120, 1), (0xA04, 1, 0xA04, 1), (0x1704, 1, 0x1704, 1), (0x1808, 2, 0x180C, 0), (0x1808, 3, 0x180C, 1)])) ∧
    (∃ (s : State) (d : Nat) (i : Nat) (idx : Nat) (c : Nat), (Safety.Serving s) ∧ (s.blk.barUp = true) ∧ (d < 8) ∧ ((i, idx, c)
      ∈ [(0, 0x6300 + d, 9), (1, 0x6300 + d, 0xC), (2, 0x6400 + d, 3), (3, 0x6300 + d, 0xF)])) ∧
    (∃ (s : State) (q : Nat), (Safety.Serving s) ∧ (s.blk.barUp = true) ∧ (q < 4096)) ∧
    (∃ (s : State), (Safety.Serving s) ∧ (s.blk.barUp = true)) :=
  ⟨⟨tState (let r := tReady; r.wr 0x5100 6 1), .host, 0x5100, 6, by decide +kernel⟩,
   ⟨tState (let r := tReady; r.wr 0x5100 6 1), .host, 0x5100, 6, by decide +kernel⟩,
   ⟨tState (let r := tReady; r.wr 0x5107 9 1), 0x5C8, 1, 0x5107, 9, by decide +kernel⟩,
   ⟨tState (let r := tReady; r), .host, 0x5100, 8, 7, by decide +kernel⟩,
   ⟨tState (let r := tReady; r.bset 0x120 1 0xFFFF), 0x120, 0, 0, 0x120, 1, 16, by decide +kernel⟩,
   ⟨tState (let r := tReady; r), by decide +kernel⟩,
   ⟨tState (let r := tReady; r), 4095, by decide +kernel⟩,
   ⟨tState (let r := tReady; r), 0x5C8, by decide +kernel⟩,
   ⟨tState (let r := tReady; r.bset 0x180C 1 7), 0x1808, 3, 0x180C, 1, by decide +kernel⟩,
   ⟨tState (let r := tReady; r), 7, 3, 0x6307, 0xF, by decide +kernel⟩,
   ⟨tState (let r := tReady; r), 4095, by decide +kernel⟩,
   ⟨tState (let r := tReady; r), by decide +kernel⟩⟩

theorem witness_ClockWritesTakeEffect :
    (∃ (s : State) (p : Path) (sub : Nat) (v : Nat), (Safety.Serving s) ∧ (1 ≤ sub) ∧ (sub ≤ 5) ∧ (Safety.Accepts s p 0x2100 sub
      v) ∧ (clockStatus s.blk sub v = stOK)) ∧
    (∃ (s : State) (p : Path) (k : Nat) (v : Nat), (Safety.Serving s) ∧ (k < 128) ∧ (Safety.Accepts s p 0x2110 (k + 1) v) ∧
      (bandWriteStatus s.blk (some k) v = stOK) ∧ (s.blk.maint.verifyEnd ≤ s.blk.time.abs)) ∧
    (∃ (s : State) (p : Path), (Safety.Serving s) ∧ (Safety.Accepts s p 0x2110 0x81 1) ∧ (bandWriteStatus s.blk none 0 = stOK) ∧
      (s.blk.maint.verifyEnd ≤ s.blk.time.abs)) ∧
    (∃ (s : State) (p : Path) (v : Nat), (Safety.Serving s) ∧ (Safety.Accepts s p 0x2100 6 v)) ∧
    (∃ (s : State) (w : Via) (v : Nat), (Safety.Serving s) ∧ (v < 2 ^ 32) ∧ (Safety.Reaches s w 0x2102 1 v)) ∧
    (∃ (s : State) (p : Path) (sub : Nat) (v : Nat), (Safety.Serving s) ∧ (1 ≤ sub) ∧ (sub ≤ 5) ∧ (Safety.Accepts s p 0x2100 sub
      v) ∧ (s.blk.armedDoms ≠ [])) ∧
    (∃ (s : State) (p : Path) (k : Nat) (v : Nat), (Safety.Serving s) ∧ (k < 128) ∧ (Safety.Accepts s p 0x2110 (k + 1) v) ∧
      (bandOk v = true) ∧ (s.blk.armedDoms ≠ [])) ∧
    (∃ (s : State) (p : Path) (k : Nat) (v : Nat), (Safety.Serving s) ∧ (k < 128) ∧ (Safety.Accepts s p 0x2110 (k + 1) v) ∧
      (bandWriteStatus s.blk (some k) v = stOK) ∧ (s.blk.time.abs < s.blk.maint.verifyEnd)) ∧
    (∃ (s : State) (p : Path), (Safety.Serving s) ∧ (Safety.Accepts s p 0x2110 0x81 1) ∧ (bandWriteStatus s.blk none 0 = stOK) ∧
      (s.blk.time.abs < s.blk.maint.verifyEnd)) :=
  ⟨⟨tState (let r := tReady; r), .host, 4, 5000000000000, by decide +kernel⟩,
   ⟨tState (let r := tReady; r), .host, 127, 0, by decide +kernel⟩,
   ⟨tState (let r := tReady; r), .sloe, by decide +kernel⟩,
   ⟨tState (let r := tReady; r), .host, 3, by decide +kernel⟩,
   ⟨tState (let r := tReady; r), .bar, 0xFFFFFFFF, by decide +kernel⟩,
   ⟨tState (let r := tReady; r.wr 0x5107 2 2), .host, 5, 0, by decide +kernel⟩,
   ⟨tState (let r := tReady; r.wr 0x5100 2 1), .host, 0, 0, by decide +kernel⟩,
   ⟨tState (let r := tReady; { r with maint := { r.maint with verifyEnd := 9 } }), .host, 127, 0, by decide +kernel⟩,
   ⟨tState (let r := tReady; { r with maint := { r.maint with verifyEnd := 9 } }), .sloe, by decide +kernel⟩⟩

theorem witness_LockAndItsLoss :
    (∃ (s : State), (s.blk.power.on = true) ∧ (s.blk.rd 0x2101 1 = 1) ∧ (s.blk.rd 0x2101 2 = 1 → s.blk.qualified = true)) ∧
    (∃ (s : State) (c : Nat), (s.blk.power.on = true) ∧ (1 ≤ c) ∧ (c ≤ 4) ∧ (s.blk.lockedRef = true) ∧ (s.blk.clk.coast = none)) :=
  ⟨⟨tState (let r := tReady; r.wr 0x2101 1 1), by decide +kernel⟩,
   ⟨tState (let r := tReady; r.wr 0x2101 1 2), 4, by decide +kernel⟩⟩

theorem witness_ReferenceAndPhaseEventsTakeEffect :
    (∃ (s : State), (s.blk.power.on = true) ∧ (s.blk.lockedRef = false)) ∧
    (∃ (s : State) (a : Nat) (n : Nat), (s.blk.power.on = true) ∧ (s.blk.clk.qualFrom = some (a, n)) ∧ (a + n ≤ s.blk.time.abs) ∧
      (s.blk.lockedRef = false)) ∧
    (∃ (s : State), (s.blk.power.on = true) ∧ (s.blk.qualified = true) ∧ (s.blk.rd 0x2101 1 = 5) ∧ (s.blk.clk.jump = none)) ∧
    (∃ (s : State) (x : Nat × Nat), (s.blk.power.on = true) ∧ (s.blk.clk.slew = some x) ∧ (s.blk.rd 0x2101 1 = 3) ∧ (slewLeft
      s.blk = 0)) ∧
    (∃ (b : Block) (a : Nat) (limit : Nat), (b.clk.coast = some (a, limit)) ∧ (b.rd 0x2101 1 = 5) ∧ (limit ≠ 2 ^ 32 - 1)) ∧
    (∃ (s : State), (s.blk.power.on = true) ∧ (s.blk.clk.fall = true) ∧ (s.blk.rd 0x2101 1 = 5)) ∧
    (∃ (s : State), (s.blk.power.on = true) ∧ (2 ≤ s.blk.rd 0x2101 1) ∧ (s.blk.rdI 0x2102 2 ≠ s.blk.rdI 0x2102 1) ∧ (∀ a,
      s.blk.clk.stepAt = some a → a + s.blk.rd 0x2102 3 ≤ s.blk.time.abs)) :=
  ⟨⟨tState (let r := tReady; r), by decide +kernel⟩,
   ⟨tState (let r := tReady; { r with clk := { r.clk with qualFrom := some (2, 5) } }), 2, 5, by decide +kernel⟩,
   ⟨tState (let r := tReady; (r.wr 0x2101 1 5).wr 0x2101 3 7), by decide +kernel⟩,
   ⟨tState (let r := tReady; { r.wr 0x2101 1 3 with clk := { r.clk with slew := some (0, 5) } }), (0, 5), by decide +kernel⟩,
   ⟨{ tReady.wr 0x2101 1 5 with clk := { tReady.clk with coast := some (3, 5) } }, 3, 5, by decide +kernel⟩,
   ⟨tState (let r := tReady; { r.wr 0x2101 1 5 with clk := { r.clk with coast := some (3, 5), fall := true } }),
     by decide +kernel⟩,
   ⟨tState (let r := tReady; ((r.wr 0x2101 1 2).wr 0x2102 1 5).wr 0x2102 3 1), by decide +kernel⟩⟩

theorem witness_FrameSyncSlipsAndLoads :
    (∃ (s : State) (e : Nat) (x : Int), (s.blk.power.on = true) ∧ (e < 32) ∧ (s.blk.rd 0x2201 1 ≠ 0) ∧ (s.blk.sync.slipDue =
      none) ∧ (s.blk.sync.loadDue = none) ∧ (s.blk.clk.run = true) ∧ (s.blk.sync.from_ ≤ e) ∧ (s.blk.syncRise e = true) ∧
      (s.blk.on 0x2201 4 = false) ∧ (x = requestedSlip (s.blk.rd 0x2201 1) (s.blk.rd 0x2201 3) (32 * s.blk.time.frame.toNat + e +
      s.blk.rd 0x2201 2)) ∧ (slipCause s.blk x = 0) ∧ (x ≠ 0)) ∧
    (∃ (s : State) (e : Nat) (x : Int), (s.blk.power.on = true) ∧ (e < 32) ∧ (s.blk.rd 0x2201 1 ≠ 0) ∧ (s.blk.sync.slipDue =
      none) ∧ (s.blk.sync.loadDue = none) ∧ (s.blk.clk.run = true) ∧ (s.blk.sync.from_ ≤ e) ∧ (s.blk.syncRise e = true) ∧ (x =
      requestedSlip (s.blk.rd 0x2201 1) (s.blk.rd 0x2201 3) (32 * s.blk.time.frame.toNat + e + s.blk.rd 0x2201 2)) ∧ (e <
      s.blk.voidSoon) ∧ (slipCause s.blk x ≠ 0) ∧ (x ≠ 0 ∨ s.blk.on 0x2201 4 = true)) ∧
    (∃ (s : State) (x : Int), (s.blk.power.on = true) ∧ (s.blk.sync.slipDue = some x)) ∧
    (∃ (s : State) (old : Nat), (s.blk.power.on = true) ∧ (s.blk.sync.slipDue = none) ∧ (s.blk.sync.loadDue = some old)) ∧
    (∃ (s : State) (p : Path) (v : Nat), (Safety.Serving s) ∧ (Safety.Accepts s p 0x2220 7 v) ∧ (chainLoadStatus s.blk v = stOK)) ∧
    (∃ (s : State) (e : Nat) (at_ : Nat) (n : Nat) (x : Int), (s.blk.power.on = true) ∧ (e < 32) ∧ (s.blk.rd 0x2201 1 ≠ 0) ∧
      (s.blk.sync.slipDue = none) ∧ (s.blk.sync.loadDue = none) ∧ (s.blk.clk.run = true) ∧ (s.blk.sync.from_ ≤ e) ∧
      (s.blk.syncRise e = true) ∧ (s.blk.on 0x2201 4 = true) ∧ (at_ = 32 * s.blk.time.frame.toNat + e + s.blk.rd 0x2201 2) ∧ (x =
      requestedSlip (s.blk.rd 0x2201 1) (s.blk.rd 0x2201 3) at_) ∧ ((n : Int) = (((s.blk.rd 0x2201 5 : Nat) : Int) + (32 *
      ((s.blk.time.frame.toNat + s.blk.applyAfter : Nat) : Int) + x - at_) / 32) % ((2 ^ 53 : Nat) : Int)) ∧ (slipCause s.blk x =
      0)) :=
  ⟨⟨tState (let r := tReady; { r.wr 0x2201 1 1 with sync := { r.sync with level := List.replicate 31 false ++ [true] } }), 31,
      (-1 - 8*32 + 8*32), by decide +kernel⟩,
   ⟨tState (let r := tReady;
     { r.wr 0x2201 1 1 with sync := { r.sync with wait := [⟨9, 1, none, true⟩], level := [false, false, false, true] } }), 3, 3,
     by decide +kernel⟩,
   ⟨tState (let r := tReady; { r with sync := { r.sync with slipDue := some 3 } }), 3, by decide +kernel⟩,
   ⟨tState (let r := tReady; { r with sync := { r.sync with loadDue := some 3 } }), 3, by decide +kernel⟩,
   ⟨tState (let r := tReady; r), .host, 9007199254740991, by decide +kernel⟩,
   ⟨tState (let r := tReady;
     { (r.wr 0x2201 1 1).wr 0x2201 4 1 with sync := { r.sync with level := List.replicate 31 false ++ [true] } }), 31, 287, 1,
     (-1 - 8*32 + 8*32), by decide +kernel⟩⟩

theorem witness_SloePortsLinkAndCarryMessages :
    (∃ (s : State) (p : Nat), (s.blk.power.on = true) ∧ (p < 4) ∧ (s.blk.on (0x2210 + p) 1 = true) ∧ (s.blk.linkUp p = false) ∧
      (s.blk.rd (0x2210 + p) 2 ≠ 0)) ∧
    (∃ (s : State) (p : Nat), (s.blk.power.on = true) ∧ (p < 4) ∧ (s.blk.rd (0x2210 + p) 2 = 1)) ∧
    (∃ (s : State) (p : Nat) (v : Nat) (x : Training), (s.blk.power.on = true) ∧ (p < 4) ∧ (s.blk.rd (0x2210 + p) 2 = 1) ∧
      (s.blk.txTaken p = false) ∧ (sloeVersion x.farLow x.farHigh = some v)) ∧
    (∃ (s : State) (p : Nat) (x : Training), (s.blk.power.on = true) ∧ (p < 4) ∧ (s.blk.rd (0x2210 + p) 2 = 1) ∧ (s.blk.txTaken p
      = false) ∧ (sloeVersion x.farLow x.farHigh = none)) ∧
    (∃ (s : State) (p : Nat), (s.blk.power.on = true) ∧ (p < 4) ∧ (s.blk.linkUp p = true)) ∧
    (∃ (s : State) (p : Nat) (off : Nat) (ws : List Nat), (s.blk.power.on = true) ∧ (p < 4) ∧ (off < 2048) ∧ (s.blk.linkUp p =
      true) ∧ (messageGood ws = true) ∧ (s.blk.linkRole p = 2) ∧ (s.blk.linkVersion p = 2)) ∧
    (∃ (s : State) (p : Nat) (off : Nat) (ws : List Nat), (s.blk.power.on = true) ∧ (p < 4) ∧ (off < 2048) ∧ (s.blk.linkUp p =
      true) ∧ (messageGood ws = false) ∧ (s.blk.linkRole p = 2) ∧ (s.blk.linkVersion p = 2) ∧ ((s.blk.port p).bad < 15)) ∧
    (∃ (s : State) (p : Nat), (s.blk.power.on = true) ∧ (p < 4) ∧ (s.blk.linkRole p = 1) ∧ (s.blk.armedDoms = [])) :=
  ⟨⟨tState (let r := tReady; (r.wr 0x2213 1 1).wr 0x2213 2 4), 3, by decide +kernel⟩,
   ⟨tState (let r := tReady; r.wr 0x2213 2 1), 3, by decide +kernel⟩,
   ⟨tState (let r := tReady; r.wr 0x2213 2 1), 3, 2, ⟨0, 1, 0, 0x123, 1, 5⟩, by decide +kernel⟩,
   ⟨tState (let r := tReady; r.wr 0x2210 2 1), 0, ⟨0, 1, 0, 0x123, 3, 5⟩, by decide +kernel⟩,
   ⟨tState (let r := tReady; r.wr 0x2210 2 3), 0, by decide +kernel⟩,
   ⟨tState (let r := tReady; ((r.wr 0x2210 2 2).wr 0x2210 8 2).wr 0x2210 4 2), 0, 2047, (let ws := [1, 2, 3, 4, 5, 0]; [1, 2, 3,
     4, 5, crc16 (checked ws) * 2 ^ 48]), by decide +kernel⟩,
   ⟨tState (let r := tReady; ((r.wr 0x2213 2 2).wr 0x2213 8 2).wr 0x2213 4 2), 3, 0, [1, 2], by decide +kernel⟩,
   ⟨tState (let r := tReady; ((r.wr 0x2213 2 2).wr 0x2213 8 1).wr 0x2200 4 2), 3, by decide +kernel⟩⟩

theorem witness_ChainsAreDiscoveredAndConfigured :
    (∃ (s : State) (p : Path) (found : List ChainMember), (Safety.Serving s) ∧ (Safety.Accepts s p 0x2200 3 1) ∧ (discoveryStatus
      s.blk found = stOK)) ∧
    (∃ (s : State) (x : ChainInfo) (q : Asked), (s.blk.power.on = true) ∧ (s.blk.isMaster = true) ∧ (s.blk.rd 0x2200 4 = 1) ∧
      (s.blk.chain.asked = some q) ∧ (s.blk.server.later = []) ∧ (discoveryStatus s.blk x.found = stOK)) ∧
    (∃ (s : State), (s.blk.power.on = true) ∧ (s.blk.isMaster = true) ∧ (s.blk.rd 0x2200 4 = 1) ∧ (s.blk.chain.asked = none) ∧
      (s.blk.server.later = [])) ∧
    (∃ (s : State) (x : ChainInfo), (s.blk.power.on = true) ∧ (s.blk.isMaster = false) ∧ (x.parent < 4) ∧ (s.blk.linkUp x.parent
      = true) ∧ (s.blk.armedDoms = []) ∧ (s.blk.chain.asked = none) ∧ (s.blk.server.later = [])) ∧
    (∃ (s : State) (p : Path) (v : Nat) (refused : Bool), (Safety.Serving s) ∧ (Safety.Accepts s p 0x2220 1 v) ∧ (horizonStatus
      s.blk false (p == .sloe) refused v = stOK)) ∧
    (∃ (s : State) (p : Path) (v : Nat) (refused : Bool), (Safety.Serving s) ∧ (Safety.Accepts s p 0x2220 2 v) ∧ (horizonStatus
      s.blk true (p == .sloe) refused v = stOK)) ∧
    (∃ (s : State) (p : Path) (v : Nat) (refused : Bool), (Safety.Serving s) ∧ (Safety.Accepts s p 0x2220 1 v) ∧ (s.blk.isMember
      = false ∨ p = .sloe) ∧ (hMin s.blk.dmax ≤ v) ∧ (v ≤ 4096) ∧ (s.blk.armedDoms ≠ [] ∨ s.blk.anyArmed = true ∨ refused =
      true)) ∧
    (∃ (s : State) (p : Path) (v : Nat) (refused : Bool), (Safety.Serving s) ∧ (Safety.Accepts s p 0x2220 2 v) ∧ (s.blk.isMember
      = false ∨ p = .sloe) ∧ (s.blk.armedDoms ≠ [] ∨ s.blk.anyArmed = true ∨ refused = true)) :=
  ⟨⟨tState (let r := tReady; r.wr 0x2200 2 1), .host, [⟨0x222, [⟨0, 0, 1, 2⟩], false, 0⟩], by decide +kernel⟩,
   ⟨tState (let r := tReady; { (r.wr 0x2200 2 1).wr 0x2200 4 1 with chain := { r.chain with asked := some ⟨0, .host, .path⟩ } }),
     ⟨[0], 0, 0, 1, 2, 0, 14, 0, [], []⟩, ⟨0, .host, .path⟩, by decide +kernel⟩,
   ⟨tState (let r := tReady; (r.wr 0x2200 2 1).wr 0x2200 4 1), by decide +kernel⟩,
   ⟨tState (let r := tReady; r.wr 0x2210 2 2), ⟨[], 0x101, 1, 1, 2, 0, 14, 0, [], []⟩, by decide +kernel⟩,
   ⟨tState (let r := tReady; r), .host, 4096, false, by decide +kernel⟩,
   ⟨tState (let r := tReady; r), .host, 0xFFFFFFFF, false, by decide +kernel⟩,
   ⟨tState (let r := tReady; r.wr 0x5100 2 1), .host, 4096, false, by decide +kernel⟩,
   ⟨tState (let r := tReady; r.wr 0x5100 2 1), .host, 1, false, by decide +kernel⟩⟩

theorem witness_AlignmentFollowsTheMeasures :
    (∃ (s : State) (p : Nat), (s.blk.power.on = true) ∧ (p < 4) ∧ (s.blk.linkUp p = true) ∧ (measured256 (s.blk.port p) = true) ∧
      (s.blk.sync.wait = []) ∧ (s.blk.linkRole p ≠ 1 ∨ s.blk.isMember = false) ∧ ((s.blk.port p).delta ≤ 8192) ∧ (-2 ≤
      (s.blk.port p).theta) ∧ ((s.blk.port p).theta ≤ 2)) ∧
    (∃ (s : State) (p : Nat), (s.blk.power.on = true) ∧ (p < 4) ∧ (s.blk.linkUp p = true) ∧ (measured256 (s.blk.port p) = true) ∧
      (s.blk.sync.wait = []) ∧ (s.blk.linkRole p = 1) ∧ (s.blk.isMember = true) ∧ (s.blk.rd 0x2200 0xA = 1) ∧ ((s.blk.port
      p).delta ≤ 8192) ∧ (-2 ≤ (s.blk.port p).theta) ∧ ((s.blk.port p).theta ≤ 2)) ∧
    (∃ (s : State), (s.blk.power.on = true) ∧ (s.blk.rd 0x2200 9 < 4) ∧ (s.blk.linkUp (s.blk.rd 0x2200 9) = true) ∧
      (s.blk.isMember = true) ∧ (s.blk.rd 0x2200 0xA = 3) ∧ (measured256 (s.blk.port (s.blk.rd 0x2200 9)) = true) ∧ (-32 ≤
      (s.blk.port (s.blk.rd 0x2200 9)).theta) ∧ ((s.blk.port (s.blk.rd 0x2200 9)).theta ≤ 32)) :=
  ⟨⟨tState (let r := tReady; (((r.wr 0x2213 2 2).wr 0x2213 8 2) |> (fun b =>
      { b with chain := { b.chain with ports := [(3, { SloePort.reset with n := 256, own := 1000, far := 1500 })] } }))), 3,
      by decide +kernel⟩,
   ⟨tState (let r := tReady; ((((((r.wr 0x2213 2 2).wr 0x2213 8 1).wr 0x2200 4 2).wr 0x2200 0xA 1).wr 0x2200 9 3) |> (fun b =>
     { b with chain := { b.chain with ports := [(3, { SloePort.reset with n := 256, own := 1000, far := 1500 })] } }))), 3,
     by decide +kernel⟩,
   ⟨tState (let r := tReady; (((((r.wr 0x2213 2 3).wr 0x2200 4 2).wr 0x2200 0xA 3).wr 0x2200 9 3) |> (fun b =>
     { b with chain := { b.chain with ports := [(3, { SloePort.reset with n := 256, own := 1000, far := 1500 })] } }))),
     by decide +kernel⟩⟩

theorem witness_MeasurementsAndMasks :
    (∃ (s : State) (d : Nat) (n : Nat) (p : Nat) (first : Nat), (s.blk.power.on = true) ∧ (d < 8) ∧ (n < 32) ∧ (s.blk.podDom n =
      d) ∧ ((s.blk.measUnit n).endDue = some p) ∧ ((s.blk.measUnit n).start = some first)) ∧
    (∃ (s : State) (n : Nat) (w : EndedWin) (rest : List EndedWin), (s.blk.power.on = true) ∧ (n < 32) ∧ ((s.blk.measUnit
      n).ended = w :: rest) ∧ (w.latchAt ≤ s.blk.time.abs)) ∧
    (∃ (s : State) (d : Nat) (n : Nat), (s.blk.power.on = true) ∧ (d < 8) ∧ (n < 32) ∧ (s.blk.podDom n = d) ∧ ((s.blk.mask
      d).found = []) ∧ (s.blk.maskWorks d = true → (dueLatched s.blk d).flatMap (latchedViolations s.blk d) = [])) ∧
    (∃ (s : State) (d : Nat) (v : Violation), (s.blk.power.on = true) ∧ (d < 8) ∧ ((s.blk.mask d).found = []) ∧ (s.blk.maskWorks
      d = true) ∧ ((dueLatched s.blk d).flatMap (latchedViolations s.blk d) = [v]) ∧ (s.blk.rd (0x6840 + d) 1 = 0) ∧ ((s.blk.mask
      d).recs.length < 63)) ∧
    (∃ (s : State) (d : Nat) (v : Violation), (s.blk.power.on = true) ∧ (d < 8) ∧ ((s.blk.mask d).found = []) ∧ (s.blk.maskWorks
      d = true) ∧ ((dueLatched s.blk d).flatMap (latchedViolations s.blk d) = [v]) ∧ (s.blk.rd (0x6840 + d) 1 ≠ 0) ∧ (s.blk.rd
      (0x6840 + d) 1 = s.blk.rd (0x6840 + d) 6 + 1) ∧ (s.blk.rd (0x6840 + d) 3 = 0) ∧ (s.blk.dstate d = 1) ∧ (segmented
      (s.blk.mode d) = false) ∧ ((s.blk.dom d).stop = none)) ∧
    (∃ (s : State) (d : Nat), (s.blk.power.on = true) ∧ (d < 8) ∧ (s.blk.rd (0x6840 + d) 5 = 2) ∧ (s.blk.dstate d ≠ 1) ∧ (∀ x,
      (s.blk.dom d).stop = some x → x.pos < s.blk.time.abs * 32 + 31) ∧ (s.blk.dstate d = 2 → ∀ y, firstStop ((s.blk.dom
      d).stops.filter (fun y => decide (y.known ≤ s.blk.time.abs))) = some y → s.blk.rd (0x5100 + d) 4 = y.reason)) :=
  ⟨⟨tState (let r := tReady; ((r.wr 0x5000 32 7).wr 0x682F 1 3).setMeas 31
      { Meas.reset with start := some 32, endDue := some 95 }), 7, 31, 95, 32, by decide +kernel⟩,
   ⟨tState (let r := tReady; r.setMeas 31 { Meas.reset with ended := [⟨32, 95, true, 8, false, []⟩] }), 31, ⟨32, 95, true, 8,
     false, []⟩, [], by decide +kernel⟩,
   ⟨tState (let r := tReady; (r.wr 0x5000 32 7).setMeas 31 { Meas.reset with latched := [⟨8, 0, 95, []⟩, ⟨9, 0, 127, []⟩] }), 7,
     31, by decide +kernel⟩,
   ⟨tState (let r := tReady; ((((((r.wr 0x5000 1 0).wr 0x5001 1 1).wr 0x5100 2 1).wr 0x6850 1 0x13000).wr 0x6850 2 50).wr 0x6840
     1 0).setMeas 0 { Meas.reset with latched := [⟨8, 0, 95, [[0x1000 * 2 ^ 32, 40, 100, 0, 60, 90]]⟩] }), 0, ((fun s : State =>
     (((dueLatched s.blk 0).flatMap (latchedViolations s.blk 0)).head?.getD ⟨0, 0, 0, 0, 0, 0, 0, 0⟩)) (tState ((fun r =>
     ((((((r.wr 0x5000 1 0).wr 0x5001 1 1).wr 0x5100 2 1).wr 0x6850 1 0x13000).wr 0x6850 2 50).wr 0x6840 1 0).setMeas 0
     { Meas.reset with latched := [⟨8, 0, 95, [[0x1000 * 2 ^ 32, 40, 100, 0, 60, 90]]⟩] }) tReady))), by decide +kernel⟩,
   ⟨tState (let r := tReady; ((((((r.wr 0x5000 1 0).wr 0x5001 1 1).wr 0x5100 2 1).wr 0x6850 1 0x13000).wr 0x6850 2 50).wr 0x6840
     1 1).setMeas 0 { Meas.reset with latched := [⟨8, 0, 95, [[0x1000 * 2 ^ 32, 40, 100, 0, 60, 90]]⟩] }), 0, ((fun s : State =>
     (((dueLatched s.blk 0).flatMap (latchedViolations s.blk 0)).head?.getD ⟨0, 0, 0, 0, 0, 0, 0, 0⟩)) (tState ((fun r =>
     ((((((r.wr 0x5000 1 0).wr 0x5001 1 1).wr 0x5100 2 1).wr 0x6850 1 0x13000).wr 0x6850 2 50).wr 0x6840 1 1).setMeas 0
     { Meas.reset with latched := [⟨8, 0, 95, [[0x1000 * 2 ^ 32, 40, 100, 0, 60, 90]]⟩] }) tReady))), by decide +kernel⟩,
   ⟨tState (let r := tReady; (((r.wr 0x6847 5 2).wr 0x5107 2 2).wr 0x5107 4 3).setDom 7
     { Dom.reset with stops := [{ pos := 286, rank := 3, reason := 3, known := 8 }] }), 7, by decide +kernel⟩⟩

theorem witness_HistogramSnapshots :
    (∃ (s : State) (p : Path) (h : Nat), (Safety.Serving s) ∧ (h < 16) ∧ (Safety.Accepts s p (0x6A00 + h) 0xA 1) ∧ (s.blk.rd
      (0x6A00 + h) 1 < 8) ∧ (s.blk.dstate (s.blk.rd (0x6A00 + h) 1) = 1)) ∧
    (∃ (s : State) (p : Path) (h : Nat), (Safety.Serving s) ∧ (h < 16) ∧ (Safety.Accepts s p (0x6A00 + h) 0xA 1) ∧ (s.blk.dstate
      (s.blk.rd (0x6A00 + h) 1) ≠ 1)) ∧
    (∃ (s : State) (h : Nat) (pos : Nat) (at_ : Nat) (final : Bool), (s.blk.power.on = true) ∧ (h < 16) ∧ ((s.blk.hist
      h).dueStart = some (pos, at_, final)) ∧ (at_ ≤ s.blk.time.abs) ∧ ((s.blk.hist h).nextNo < 2 ^ 32) ∧ (8 < s.blk.bins h)) ∧
    (∃ (s : State) (h : Nat) (ro : Readout), (s.blk.power.on = true) ∧ (h < 16) ∧ ((s.blk.hist h).readout = some ro) ∧
      (s.blk.bins h ≤ ro.next) ∧ (ro.final = false)) ∧
    (∃ (s : State) (h : Nat) (ro : Readout), (s.blk.power.on = true) ∧ (h < 16) ∧ ((s.blk.hist h).readout = some ro) ∧
      (s.blk.bins h ≤ ro.next) ∧ (ro.final = true) ∧ (s.blk.rd (0x6A00 + h) 0xC < 64)) :=
  ⟨⟨tState (let r := tReady; (((r.wr 0x6A0F 1 7).wr 0x5107 2 1).wr 0x6A0F 9 1).wr 0x6A0F 0xB 1), .host, 15, by decide +kernel⟩,
   ⟨tState (let r := tReady; r.wr 0x6A0F 1 7), .host, 15, by decide +kernel⟩,
   ⟨tState (let r := tReady; r.setHist 15 { Hist.reset with dueStart := some (64, 8, true), nextNo := 4294967295 }), 15, 64, 8,
     true, by decide +kernel⟩,
   ⟨tState (let r := tReady; r.setHist 15 { Hist.reset with readout := some ⟨0, 65536, 0, 0, 0, [], [], false⟩ }), 15, ⟨0, 65536,
     0, 0, 0, [], [], false⟩, by decide +kernel⟩,
   ⟨tState (let r := tReady; (r.wr 0x6A0F 0xC 63).setHist 15
     { Hist.reset with readout := some ⟨0, 65536, 0, 0, 0, [], [], true⟩ }), 15, ⟨0, 65536, 0, 0, 0, [], [], true⟩,
     by decide +kernel⟩⟩

theorem witness_DriversAndPatternsTakeEffect :
    (∃ (s : State) (p : Path) (n : Nat) (v : Nat) (m : Nat), (Safety.Serving s) ∧ (n < 32) ∧ (m < 16) ∧ (Safety.Accepts s p
      (0x3800 + n) 2 v)) ∧
    (∃ (s : State) (p : Path) (n : Nat) (v : Nat) (m : Nat), (Safety.Serving s) ∧ (n < 32) ∧ (m < 16) ∧ (Safety.Accepts s p
      (0x3800 + n) 3 v)) ∧
    (∃ (s : State) (l : Nat), (s.blk.power.on = true) ∧ (l < 512) ∧ (s.blk.driverOn l = true)) ∧
    (∃ (s : State) (p : Path) (n : Nat) (v : Nat) (m : Nat), (Safety.Serving s) ∧ (n < 32) ∧ (m < 16) ∧ (Safety.Accepts s p
      (0x3800 + n) 6 v)) ∧
    (∃ (s : State) (d : Nat) (pos : Nat) (p : Nat) (safe : Bool) (rest : List (Nat × Nat × Bool × Bool)), (s.blk.power.on = true)
      ∧ (d < 8) ∧ (p < 16) ∧ ((s.blk.stim d).reached = (pos, p, safe, true) :: rest)) ∧
    (∃ (s : State) (d : Nat) (pos : Nat) (k : Nat) (safe : Bool) (rest : List (Nat × Nat × Bool)), (s.blk.power.on = true) ∧ (d <
      8) ∧ ((s.blk.stim d).ends = (pos, k, safe) :: rest)) :=
  ⟨⟨tState (let r := tReady; (r.wr 0x5000 32 7).wr 0x5001 8 0xA), .host, 31, 0x8001, 15, by decide +kernel⟩,
   ⟨tState (let r := tReady; r.wr 0x381F 4 0x8000), .host, 31, 0x80000000, 15, by decide +kernel⟩,
   ⟨tState (let r := tReady; (((r.wr 0x5000 32 7).wr 0x5001 8 0xA).wr 0x381F 4 0x8000).wr 0x381F 2 0x8000), 511,
     by decide +kernel⟩,
   ⟨tState (let r := tReady; r.wr 0x381F 5 0x8001), .host, 31, 1, 15, by decide +kernel⟩,
   ⟨tState (let r := tReady; r.setStim 7 { Stim.reset with reached := [(100, 15, true, true)] }), 7, 100, 15, true, [],
     by decide +kernel⟩,
   ⟨tState (let r := tReady; r.setStim 7 { Stim.reset with ends := [(100, 0, false)] }), 7, 100, 0, false, [], by decide +kernel⟩⟩

theorem witness_DriverLevelsAreWrittenTogether :
    (∃ (s : State) (p : Path) (n : Nat) (v : Nat), (Safety.Serving s) ∧ (n < 32) ∧ (serverHears s.blk p = true) ∧ (accessCheck
      s.blk p (0x3800 + n) 1 true = none) ∧ (v < 2 ^ 32) ∧ (-2000 ≤ signed (bits v 0 16) 16) ∧ (signed (bits v 16 16) 16 ≤ 10000)
      ∧ (200 ≤ signed (bits v 16 16) 16 - signed (bits v 0 16) 16) ∧ (s.blk.podDom n < 8 → s.blk.armed (s.blk.podDom n) = false)) ∧
    (∃ (s : State) (p : Path) (n : Nat) (v : Nat), (Safety.Serving s) ∧ (n < 32) ∧ (serverHears s.blk p = true) ∧ (accessCheck
      s.blk p (0x3800 + n) 1 true = none) ∧ (v < 2 ^ 32) ∧ (-2000 ≤ signed (bits v 0 16) 16) ∧ (signed (bits v 16 16) 16 ≤ 10000)
      ∧ (200 ≤ signed (bits v 16 16) 16 - signed (bits v 0 16) 16) ∧ (s.blk.podDom n < 8) ∧ (s.blk.armed (s.blk.podDom n) =
      true)) ∧
    (∃ (s : State) (p : Path) (n : Nat) (v : Nat), (Safety.Serving s) ∧ (n < 32) ∧ (serverHears s.blk p = true) ∧ (accessCheck
      s.blk p (0x3800 + n) 1 true = none) ∧ (v < 2 ^ 32) ∧ (signed (bits v 0 16) 16 < -2000 ∨ 10000 < signed (bits v 16 16) 16 ∨
      signed (bits v 16 16) 16 - signed (bits v 0 16) 16 < 200)) :=
  ⟨⟨tState (let r := tReady; r), .host, 31, 0x2710F830, by decide +kernel⟩,
   ⟨tState (let r := tReady; ((r.wr 0x5000 32 7).wr 0x5001 8 1).wr 0x5107 2 1), .host, 31, 0x00C80000, by decide +kernel⟩,
   ⟨tState (let r := tReady; r), .host, 31, 0x00C70000, by decide +kernel⟩⟩

theorem witness_HandoverChangesTheOwner :
    (∃ (s : State) (w : Via) (k : Nat) (new : Nat), (Safety.Serving s) ∧ (k < 64) ∧ (new < 16) ∧ (new ≠ owUNOWNED) ∧ ((s.blk.bank
      k).gen < 65536) ∧ (Safety.Reaches s w 0x7001 1 (k + new * 2 ^ 8 + (s.blk.bank k).gen * 2 ^ 16)) ∧ (handoverStatus s.blk k
      (s.blk.bank k).gen new = stOK) ∧ ((s.blk.bank k).owner ≠ new)) ∧
    (∃ (s : State) (w : Via) (k : Nat), (Safety.Serving s) ∧ (k < 64) ∧ ((s.blk.bank k).gen < 65536) ∧ (Safety.Reaches s w 0x7001
      1 (k + (s.blk.bank k).gen * 2 ^ 16)) ∧ (handoverStatus s.blk k (s.blk.bank k).gen owUNOWNED = stOK) ∧ ((s.blk.bank k).owner
      ≠ owUNOWNED)) ∧
    (∃ (s : State) (w : Via) (k : Nat) (gen : Nat) (new : Nat), (Safety.Serving s) ∧ (k < 64) ∧ (gen < 65536) ∧ (new < 10 ∨ new =
      15) ∧ (gen ≠ (s.blk.bank k).gen) ∧ (Safety.Reaches s w 0x7001 1 (k + new * 2 ^ 8 + gen * 2 ^ 16))) :=
  ⟨⟨tState (let r := tReady; r), .dict .host, 63, 1, by decide +kernel⟩,
   ⟨tState (let r := tReady; r.setBank 63 { Bank.reset with owner := 1, gen := 65535 }), .bar, 63, by decide +kernel⟩,
   ⟨tState (let r := tReady; r), .bar, 63, 65535, 15, by decide +kernel⟩⟩

theorem witness_BankPowerAndClearing :
    (∃ (s : State) (w : Via) (k : Nat) (v : Nat), (Safety.Serving s) ∧ (k < 64) ∧ (v < 3) ∧ (Safety.Reaches s w 0x7001 2 (k + 2 ^
      11 + v * 2 ^ 12)) ∧ (bankCtrlStatus s.blk k (k + 2 ^ 11 + v * 2 ^ 12) = stOK) ∧ (∀ o ∈ s.blk.maint.ops, o.bank ≠ k)) ∧
    (∃ (s : State) (w : Via) (k : Nat) (keep : Bool), (Safety.Serving s) ∧ (k < 64) ∧ (Safety.Reaches s w 0x7001 2 (k + 2 ^ 9 +
      b2n keep * 2 ^ 10)) ∧ (bankCtrlStatus s.blk k (k + 2 ^ 9 + b2n keep * 2 ^ 10) = stOK)) ∧
    (∃ (s : State) (k : Nat), (s.blk.power.on = true) ∧ (k < 64) ∧ ((s.blk.bank k).waking = true) ∧ ((s.blk.bank k).want = 0) ∧
      (∀ key ∈ [0, q0Response, 1] ++ s.blk.queues.map Prod.fst, (s.blk.queue key).bank ≠ k)) ∧
    (∃ (s : State) (k : Nat), (s.blk.power.on = true) ∧ (k < 64) ∧ ((s.blk.bank k).clearing = true)) :=
  ⟨⟨tState (let r := tReady; r.setBank 63 { Bank.reset with owner := 1 }), .bar, 63, 2, by decide +kernel⟩,
   ⟨tState (let r := tReady; r.setBank 63 { Bank.reset with owner := 1 }), .dict .host, 63, true, by decide +kernel⟩,
   ⟨tState (let r := tReady; r.setBank 63 { Bank.reset with power := 2, waking := true }), 63, by decide +kernel⟩,
   ⟨tState (let r := tReady; r.setBank 63 { Bank.reset with clearing := true }), 63, by decide +kernel⟩⟩

theorem witness_HostBanksAreReadWrittenAndOperatedOn :
    (∃ (s : State) (k : Nat) (i : Nat), (Safety.Serving s) ∧ (s.blk.barUp = true) ∧ (k < 64) ∧ (i < 65536) ∧ (Safety.HostBank s
      k)) ∧
    (∃ (s : State) (k : Nat) (i : Nat) (v : Nat), (Safety.Serving s) ∧ (s.blk.barUp = true) ∧ (k < 64) ∧ (i < 65536) ∧ (v < 2 ^
      64) ∧ (Safety.HostBank s k)) ∧
    (∃ (s : State) (off : Nat), (Safety.Serving s) ∧ (s.blk.barUp = true) ∧ (off < 0x2000000) ∧ (hostOwns s.blk (off / 0x80000) =
      false)) ∧
    (∃ (s : State) (k : Nat) (i : Nat), (Safety.Serving s) ∧ (s.blk.barUp = true) ∧ (k < 64) ∧ (i < 65536) ∧ (s.blk.bget 0x1410 0
      = k * 65536 + i) ∧ (s.blk.bget 0x1418 0 < 2 ^ 32) ∧ (s.blk.bget 0x141C 0 < 2 ^ 32) ∧ (Safety.HostBank s k)) ∧
    (∃ (s : State), (Safety.Serving s) ∧ (s.blk.barUp = true) ∧ (∀ o ∈ s.blk.maint.ops, o.kind < 2)) :=
  ⟨⟨tState (let r := tReady; r.setBank 63 { Bank.reset with owner := 1 }), 63, 65535, by decide +kernel⟩,
   ⟨tState (let r := tReady; r.setBank 63 { Bank.reset with owner := 1 }), 63, 65535, 18446744073709551615, by decide +kernel⟩,
   ⟨tState (let r := tReady; r), 0x1FFFFFF, by decide +kernel⟩,
   ⟨tState (let r := tReady; ((r.setBank 63 { Bank.reset with owner := 1 }).bset 0x1410 0 4194303).bset 0x1418 0 0xFFFFFFFF), 63,
     65535, by decide +kernel⟩,
   ⟨tState (let r := tReady; r), by decide +kernel⟩⟩

theorem witness_BankTestsBorrowAndReturn :
    (∃ (s : State) (p : Path) (k : Nat) (idle : Bool), (Safety.Serving s) ∧ (k < 64) ∧ (Safety.Accepts s p 0x7012 0xA k) ∧
      (borrowable s.blk k idle = true)) ∧
    (∃ (s : State) (idle : List Nat) (k : Nat) (rest : List Nat), (s.blk.power.on = true) ∧ (k < 64) ∧ (s.blk.maint.test = none)
      ∧ (bit (s.blk.rd 0x7010 1) 1 = true) ∧ (s.blk.maint.testReqs = k :: rest) ∧ (borrowable s.blk k (idle.contains k) = true) ∧
      ((s.blk.bank k).owner = owUNOWNED)) ∧
    (∃ (s : State) (idle : List Nat) (k : Nat) (sp : Nat) (rest : List Nat), (s.blk.power.on = true) ∧ (k < 64) ∧
      (s.blk.maint.test = none) ∧ (bit (s.blk.rd 0x7010 1) 1 = true) ∧ (s.blk.maint.testReqs = k :: rest) ∧ (borrowable s.blk k
      (idle.contains k) = true) ∧ ((s.blk.bank k).owner = owHOST) ∧ (pickBank s.blk = some sp)) ∧
    (∃ (s : State) (x : BankTest), (s.blk.power.on = true) ∧ (s.blk.maint.test = some x) ∧ (x.aborted = false) ∧ (x.target < 64)
      ∧ (x.spare ≠ some x.target)) ∧
    (∃ (s : State) (x : BankTest), (s.blk.power.on = true) ∧ (s.blk.maint.test = some x) ∧ (x.aborted = false) ∧ (x.target < 64)
      ∧ (x.spare ≠ some x.target)) ∧
    (∃ (s : State) (x : BankTest) (sp : Nat), (s.blk.power.on = true) ∧ (s.blk.maint.test = some x) ∧ (x.aborted = false) ∧
      (x.spare = some sp) ∧ (sp < 64) ∧ (x.target ≠ sp)) ∧
    (∃ (s : State) (w : Via) (k : Nat) (x : BankTest), (Safety.Serving s) ∧ (k < 64) ∧ (Safety.Reaches s w 0x7001 2 (k + 2 ^ 8))
      ∧ ((s.blk.bank k).borrowed = true) ∧ ((s.blk.bank k).lender = owHOST) ∧ (s.blk.maint.test = some x) ∧ (x.target = k) ∧
      (x.aborted = false)) ∧
    (∃ (s : State) (x : BankTest), (s.blk.power.on = true) ∧ (s.blk.maint.test = some x) ∧ (x.aborted = true) ∧ (x.spare ≠ some
      x.target)) ∧
    (∃ (s : State) (p : Path), (Safety.Serving s) ∧ (Safety.Accepts s p 0x7012 9 1)) :=
  ⟨⟨tState (let r := tReady; r.setBank 63 { Bank.reset with owner := 1 }), .host, 63, true, by decide +kernel⟩,
   ⟨tState (let r := tReady; { r.wr 0x7010 1 2 with maint := { r.maint with testReqs := [63] } }), [], 63, [], by decide +kernel⟩,
   ⟨tState (let r := tReady;
     ({ (r.wr 0x7010 1 2).setBank 63 { Bank.reset with owner := 1 } with maint := { r.maint with testReqs := [63] } }).wr 0x7010
     6 1), [63], 63, 0, [], by decide +kernel⟩,
   ⟨tState (let r := tReady;
     { r.setBank 63 { Bank.reset with owner := 7, borrowed := true, lender := 1 } with maint := { r.maint with test := some ⟨63, 1, some 0, false⟩ } }),
     ⟨63, 1, some 0, false⟩, by decide +kernel⟩,
   ⟨tState (let r := tReady;
     { r.setBank 63 { Bank.reset with owner := 7, borrowed := true, lender := 1 } with maint := { r.maint with test := some ⟨63, 1, some 0, false⟩ } }),
     ⟨63, 1, some 0, false⟩, by decide +kernel⟩,
   ⟨tState (let r := tReady;
     { r.setBank 0 { Bank.reset with owner := 7, borrowed := true, lender := 1 } with maint := { r.maint with test := some ⟨0, 1, some 63, false⟩ } }),
     ⟨0, 1, some 63, false⟩, 63, by decide +kernel⟩,
   ⟨tState (let r := tReady;
     { r.setBank 63 { Bank.reset with owner := 7, borrowed := true, lender := 1 } with maint := { r.maint with test := some ⟨63, 1, some 0, false⟩ } }),
     .bar, 63, ⟨63, 1, some 0, false⟩, by decide +kernel⟩,
   ⟨tState (let r := tReady;
     { r.setBank 63 { Bank.reset with owner := 7, borrowed := true, lender := 1 } with maint := { r.maint with test := some ⟨63, 1, some 0, true⟩ } }),
     ⟨63, 1, some 0, true⟩, by decide +kernel⟩,
   ⟨tState (let r := tReady; r), .host, by decide +kernel⟩⟩

theorem witness_ScrubAndVerifyReportWhatTheyFind :
    (∃ (s : State) (a : Nat), (s.blk.power.on = true) ∧ (bit (s.blk.rd 0x7010 1) 0 = true) ∧ (a / unitBytes < 65536) ∧
      (s.blk.scrubNext (a / unitBytes) = true)) ∧
    (∃ (s : State) (a : Nat), (s.blk.power.on = true) ∧ (bit (s.blk.rd 0x7010 1) 0 = true) ∧ (a / unitBytes < 65536) ∧
      (s.blk.scrubNext (a / unitBytes) = true)) ∧
    (∃ (s : State) (a : Nat), (s.blk.power.on = true) ∧ (bit (s.blk.rd 0x7010 1) 0 = true) ∧ (s.blk.scrubNext (a / unitBytes) =
      true) ∧ (s.blk.unitIn (a / unitBytes + 1) 65536 = false)) ∧
    (∃ (s : State) (i : Nat) (v : Nat), (∀ j < 128, s.blk.band j = s.blk.bandShadow j) ∧ (s.blk.power.on = true) ∧ (i < 128) ∧
      (bit (s.blk.rd 0x7010 1) 3 = true) ∧ (bandOf v ≠ s.blk.bandShadow i)) :=
  ⟨⟨tState (let r := tReady; (r.wr 0x7010 1 1).setUnit 24575 2), 51539607551, by decide +kernel⟩,
   ⟨tState (let r := tReady; (r.wr 0x7010 1 1).setUnit 24575 1), 51539607551, by decide +kernel⟩,
   ⟨tState (let r := tReady; (r.wr 0x7010 1 1).setUnit 0 1), 0, by decide +kernel⟩,
   ⟨tState (let r := tReady;
     { r.wr 0x7010 1 8 with clk := { r.clk with bands := [(127, bandOf 7)], shadow := [(127, bandOf 7)] } }), 127, 5, (fun _ _ =>
     rfl), by decide +kernel⟩⟩

theorem witness_PushesEnterOrAreDropped :
    (∃ (s : State) (a : Agent) (q : Nat) (prio : Nat) (data : Nat) (key : Nat) (k : Nat) (x : Queue), (Safety.ReachesQueues s a)
      ∧ (q < 4096) ∧ (prio < 8) ∧ (data < 2 ^ 64) ∧ (a.cls = .sloeRx → s.blk.isMember = false) ∧ (key = pushKey a q) ∧ (x =
      s.blk.queue key) ∧ (k = x.target (if a.cls = .host then prio else x.hwPrio)) ∧ (Safety.Takes s q key k) ∧ (x.mayPush a =
      true) ∧ (x.open_ = none ∨ x.open_ = some a) ∧ (x.dropping = false) ∧ ((x.ring k).occ + 2 ≤ x.slots)) ∧
    (∃ (s : State) (a : Agent) (q : Nat) (prio : Nat) (data : Nat) (key : Nat) (k : Nat) (x : Queue), (Safety.ReachesQueues s a)
      ∧ (q < 4096) ∧ (prio < 8) ∧ (data < 2 ^ 64) ∧ (a.cls = .sloeRx → s.blk.isMember = false) ∧ (key = pushKey a q) ∧ (x =
      s.blk.queue key) ∧ (k = x.target (if a.cls = .host then prio else x.hwPrio)) ∧ (Safety.Takes s q key k) ∧ (x.mayPush a =
      true) ∧ (x.open_ = none ∨ x.open_ = some a) ∧ (x.slots < (x.ring k).occ + 2)) ∧
    (∃ (s : State) (a : Agent) (q : Nat) (prio : Nat) (data : Nat), (Safety.ReachesQueues s a) ∧ (a.cls = .host) ∧ (q < 4096) ∧
      (data < 2 ^ 64) ∧ (8 ≤ prio ∨ (s.blk.queue q).mayPush a = false)) ∧
    (∃ (s : State) (a : Agent) (q : Nat) (data : Nat), (Safety.ReachesQueues s a) ∧ (a.cls = .sloeRx) ∧ (s.blk.isMember = true) ∧
      (q < 4096) ∧ (data < 2 ^ 64)) ∧
    (∃ (s : State) (a : Agent) (q : Nat) (data : Nat), (Safety.ReachesQueues s a) ∧ (a.cls ≠ .host) ∧ (q < 4096) ∧ (data < 2 ^
      64) ∧ (a.cls = .sloeRx → s.blk.isMember = false) ∧ ((s.blk.queue (pushKey a q)).mayPush a = false)) ∧
    (∃ (s : State) (a : Agent) (q : Nat) (prio : Nat) (data : Nat) (key : Nat) (x : Queue), (Safety.ReachesQueues s a) ∧ (q <
      4096) ∧ (prio < 8) ∧ (data < 2 ^ 64) ∧ (a.cls = .sloeRx → s.blk.isMember = false) ∧ (key = pushKey a q) ∧ (x = s.blk.queue
      key) ∧ (qBroken s.blk key = false) ∧ (q = 0 → qBroken s.blk 0 = false ∧ qBroken s.blk q0Response = false) ∧ ((s.blk.queue
      (popKey q)).hostReads = []) ∧ (x.held = []) ∧ (x.mayPush a = true) ∧ (s.blk.ringOn key = false ∨ x.open_ ≠ none ∧ x.open_ ≠
      some a)) :=
  ⟨⟨tState (let r := tReady; r.setQueue 4095 (Queue.empty 0xC7050000 0x1001)), hostAgent, 4095, 7, 18446744073709551615, 4095,
      7, Queue.empty 0xC7050000 0x1001, by decide +kernel⟩,
   ⟨tState (let r := tReady; r.setQueue 2
     { Queue.empty 0x84050000 0x1002 with rings := [(0, { Ring.reset with w := 15, w2 := 15 })] }), coreAgent, 2, 0, 5, 2, 0,
     { Queue.empty 0x84050000 0x1002 with rings := [(0, { Ring.reset with w := 15, w2 := 15 })] }, by decide +kernel⟩,
   ⟨tState (let r := tReady; r.setQueue 4095 (Queue.empty 0x84050000 0x1001)), hostAgent, 4095, 8, 5, by decide +kernel⟩,
   ⟨tState (let r := tReady; ((r.wr 0x2200 2 2).wr 0x2200 4 2).wr 0x2210 4 2), ⟨.sloeRx, 0⟩, 4095, 18446744073709551615,
     by decide +kernel⟩,
   ⟨tState (let r := tReady; r.setQueue 4095 (Queue.empty 0x84050000 0x1001)), coreAgent, 4095, 5, by decide +kernel⟩,
   ⟨tState (let r := tReady; (r.setBank 2 { r.bank 2 with power := 1 })), coreAgent, 0, 0, 5, 4096, queueDefault 4096,
     by decide +kernel⟩⟩

theorem witness_PopsTakeTheOldestItem :
    (∃ (s : State) (q : Nat), (Safety.ReachesQueues s hostAgent) ∧ (1 ≤ q) ∧ (q < 4096) ∧ (Safety.Calm s q) ∧ ((s.blk.queue
      q).mayPop hostAgent = true) ∧ (0 < ((s.blk.queue q).ring 0).unread)) ∧
    (∃ (s : State) (a : Agent) (q : Nat), (Safety.ReachesQueues s a) ∧ (1 ≤ q) ∧ (q < 4096) ∧ (Safety.Calm s q) ∧ (a.cls = .dma ∨
      a.cls = .controlCore) ∧ ((s.blk.queue q).enabled = true) ∧ ((s.blk.queue q).mayPop a = true) ∧ (0 < ((s.blk.queue q).ring
      0).unread)) ∧
    (∃ (s : State) (q : Nat), (Safety.ReachesQueues s hostAgent) ∧ (1 ≤ q) ∧ (q < 4096) ∧ (Safety.Calm s q) ∧ ((s.blk.queue
      q).mayPop hostAgent = true) ∧ (((s.blk.queue q).ring 0).unread = 0)) ∧
    (∃ (s : State) (q : Nat) (n : Nat), (Safety.ReachesQueues s hostAgent) ∧ (1 ≤ q) ∧ (q < 4096) ∧ (1 ≤ n) ∧ (n ≤ 256) ∧
      (Safety.Calm s q) ∧ ((s.blk.queue q).mayPop hostAgent = true)) ∧
    (∃ (s : State) (q : Nat) (n : Nat) (rest : List HostWait), (s.blk.power.on = true) ∧ (q < 4096) ∧ ((s.blk.queue (popKey
      q)).hostReads = .read n :: rest) ∧ (qReadable s.blk (popKey q) = none) ∧ (rest.all HostWait.isRead = true)) :=
  ⟨⟨tState (let r := tReady; r.setQueue 4095
      { Queue.empty 0x84050000 0x1001 with rings := [(0, { Ring.reset with w := 1, w2 := 1 })] }), 4095, by decide +kernel⟩,
   ⟨tState (let r := tReady; r.setQueue 2
     { Queue.empty 0x84050000 0x7F4001 with ends := 0x1F4001, rings := [(0, { Ring.reset with w := 1, w2 := 1 })] }), ⟨.dma, 31⟩,
     2, by decide +kernel⟩,
   ⟨tState (let r := tReady; r.setQueue 4095 (Queue.empty 0x84050000 0x1001)), 4095, by decide +kernel⟩,
   ⟨tState (let r := tReady; r.setQueue 4095
     { Queue.empty 0x84050000 0x1001 with rings := [(0, { Ring.reset with w := 3, w2 := 3 })] }), 4095, 256, by decide +kernel⟩,
   ⟨tState (let r := tReady; r.setQueue 4096 { queueDefault 4096 with hostReads := [.read 2, .read 1] }), 0, 2, [.read 1],
     by decide +kernel⟩⟩

theorem witness_MarkRewindAndRelease :
    (∃ (s : State) (a : Agent) (q : Nat), (Safety.ReachesQueues s a) ∧ (1 ≤ q) ∧ (q < 4096) ∧ (Safety.Calm s q) ∧ ((s.blk.queue
      q).mayPop a = true)) ∧
    (∃ (s : State) (q : Nat) (ws : List HostWait), (Safety.ReachesQueues s hostAgent) ∧ (1 ≤ q) ∧ (q < 4096) ∧ (qBroken s.blk q =
      false) ∧ ((s.blk.queue q).mayPop hostAgent = true) ∧ ((s.blk.queue q).hostReads = ws) ∧ (ws ≠ [])) :=
  ⟨⟨tState (let r := tReady; r.setQueue 4095
      { Queue.empty 0x84050000 0x1001 with rings := [(0, { Ring.reset with w := 3, w2 := 3, r := 2, r2 := 2, f := 1, f2 := 1 })] }),
      hostAgent, 4095, by decide +kernel⟩,
   ⟨tState (let r := tReady; r.setQueue 4095 { Queue.empty 0x84050000 0x1001 with hostReads := [.read 1] }), 4095, [.read 1],
     by decide +kernel⟩⟩

theorem witness_QueueConfigurationTakesEffect :
    (∃ (s : State) (w : Via) (q : Nat) (v : Nat), (∀ p, w = .dict p → s.blk.selected p = q) ∧ (Safety.Serving s) ∧ (2 ≤ q) ∧ (q <
      4096) ∧ (v < 2 ^ 32) ∧ (qcfgFields v = v) ∧ (Safety.Reaches s w 0x7081 2 v) ∧ (qcfgStatus s.blk q v = stOK)) ∧
    (∃ (s : State) (w : Via) (q : Nat) (v : Nat), (∀ p, w = .dict p → s.blk.selected p = q) ∧ (Safety.Serving s) ∧ (2 ≤ q) ∧ (q <
      4096) ∧ (v < 2 ^ 32) ∧ (qendFields v = v) ∧ (Safety.Reaches s w 0x7081 3 v) ∧ (qendStatus s.blk q v = stOK)) :=
  ⟨⟨tState (let r := tReady; r.setBank 5 { Bank.reset with owner := 5 }), .bar, 4095, 0x84050000, (fun p h =>
      by cases h <;> decide +kernel), by decide +kernel⟩,
   ⟨tState (let r := tReady; { r with selectors := [(0, 4095)] }), .dict .host, 4095, 0x1001, (fun p h =>
     by cases h <;> decide +kernel), by decide +kernel⟩⟩

theorem witness_TheFunctionStartsStopsAndSleeps :
    (∃ (s : State), (s.blk.power.on = true)) ∧
    (∃ (s : State), (s.blk.power.on = true) ∧ (s.blk.pcie.perst = false) ∧ (s.blk.pcie.flr = false)) ∧
    (∃ (s : State), (Safety.Serving s) ∧ (s.blk.pcie.loaded = true) ∧ (s.blk.pcie.perst = false) ∧ (s.blk.armedDoms = [])) ∧
    (∃ (s : State) (d : Nat), (Safety.Serving s) ∧ (s.blk.pcie.loaded = true) ∧ (s.blk.pcie.perst = false) ∧ (d < 8) ∧
      (s.blk.dstate d = 1)) ∧
    (∃ (s : State), (s.blk.power.on = true) ∧ (s.blk.pcie.flr = true) ∧ (s.blk.pcie.flrDue = false)) ∧
    (∃ (s : State), (s.blk.power.on = true)) ∧
    (∃ (s : State) (c : Nat), (Safety.Serving s) ∧ (c < 32) ∧ ((s.blk.chan c).st = 1)) ∧
    (∃ (s : State) (c : Nat), (Safety.Serving s) ∧ (s.blk.pcie.loaded = true) ∧ (c < 32) ∧ ((s.blk.chan c).st = 1)) ∧
    (∃ (s : State), (Safety.Serving s)) ∧
    (∃ (s : State) (x : Nat), (s.blk.power.on = true) ∧ (Safety.reportsSettled s.blk) ∧ (1 ≤ x) ∧ (x ≤ 5) ∧ (s.blk.pcie.loaded =
      true) ∧ (s.blk.pcie.perst = false) ∧ (s.blk.pcie.flr = false) ∧ (s.blk.linkIdle = true) ∧ (s.blk.pcie.link < x) ∧ ((x = 1 ∧
      s.blk.pcie.cfg.flit = false ∧ bit s.blk.pcie.cfg.aspm 0 = true) ∨ (x = 2 ∧ s.blk.pcie.cfg.flit = true ∧ bit
      s.blk.pcie.cfg.aspm 1 = true) ∨ (x = 3 ∧ bit s.blk.pcie.cfg.aspm 2 = true) ∨ (x = 4 ∧ bit s.blk.pcie.cfg.aspm 2 = true ∧
      bit s.blk.pcie.cfg.l1ss 0 = true) ∨ (x = 5 ∧ bit s.blk.pcie.cfg.aspm 2 = true ∧ bit s.blk.pcie.cfg.l1ss 1 = true))) ∧
    (∃ (s : State), (s.blk.power.on = true)) :=
  ⟨⟨tState (let r := tReady; { r with pcie := Pcie.off }), by decide +kernel⟩,
   ⟨tState (let r := tReady; r.setChan 3 { Dma.reset with st := 1 }), by decide +kernel⟩,
   ⟨tState (let r := tReady; (r.setBank 63 { Bank.reset with owner := 1 }).setQueue 9 (Queue.empty 0x84050000 0x1001)),
     by decide +kernel⟩,
   ⟨tState (let r := tReady; r.wr 0x5107 2 1), 7, by decide +kernel⟩,
   ⟨tState (let r := tReady; { r with pcie := { r.pcie with flr := true } }), by decide +kernel⟩,
   ⟨tState (let r := tReady; r.setChan 31 { Dma.reset with st := 1 }), by decide +kernel⟩,
   ⟨tState (let r := tReady; r.setChan 31 { Dma.reset with st := 1, ctrl := 0x80200000, fetched := [⟨0, 0, 0, 0⟩] }), 31,
     by decide +kernel⟩,
   ⟨tState (let r := tReady; r.setChan 31 { Dma.reset with st := 1, ctrl := 0x80200000, fetched := [⟨0, 0, 0, 0⟩] }), 31,
     by decide +kernel⟩,
   ⟨tState (let r := tReady; { r with pcie := { r.pcie with d3 := true } }), by decide +kernel⟩,
   ⟨tState (let r := tReady; { r with pcie := { r.pcie with cfg := { r.pcie.cfg with l1ss := 3 } } }), 5, by decide +kernel⟩,
   ⟨tState (let r := tReady; { r with pcie := { r.pcie with link := 3 } }), by decide +kernel⟩⟩

theorem witness_WindowsAndTimeMeasurement :
    (∃ (s : State) (w : Nat) (v : Nat), (Safety.Serving s) ∧ (s.blk.barUp = true) ∧ (w < 8) ∧ (v < 2 ^ 15) ∧ (v <
      s.blk.installed)) ∧
    (∃ (s : State) (mask : Nat), (Safety.Serving s) ∧ (s.blk.barUp = true) ∧ (mask < 256) ∧ (s.blk.pcie.drain = false)) ∧
    (∃ (s : State) (mask : Nat), (Safety.Serving s) ∧ (s.blk.barUp = true) ∧ (mask < 256) ∧ (s.blk.pcie.drain = true)) ∧
    (∃ (s : State), (s.blk.power.on = true)) ∧
    (∃ (s : State) (asked : Bool) (off : Nat), (Safety.Serving s) ∧ (s.blk.barUp = true) ∧ (off < 2048) ∧ (s.blk.pcie.cfg.ptm =
      true) ∧ (s.blk.pcie.ptm = false) ∧ (asked = true ∨ (bit (s.blk.bget 0x1840 0) 7 = true ∧ s.blk.time.frame.toNat % 2 ^ bits
      (s.blk.bget 0x1840 0) 0 5 = 0 ∧ s.blk.pcie.ptmAt ≠ some s.blk.time.abs))) ∧
    (∃ (s : State) (off : Nat), (Safety.Serving s) ∧ (s.blk.barUp = true) ∧ (off < 2048) ∧ (s.blk.pcie.cfg.ptm = true) ∧
      (s.blk.pcie.ptm = true)) ∧
    (∃ (s : State) (th : Nat), (s.blk.power.on = true) ∧ (th < 2 ^ 64) ∧ (s.blk.pcie.ptm = true)) :=
  ⟨⟨tState (let r := tReady; r), 7, 24575, by decide +kernel⟩,
   ⟨tState (let r := tReady; setWin 7 5 9 r), 255, by decide +kernel⟩,
   ⟨tState (let r := tReady; { r with pcie := { r.pcie with drain := true } }), 255, by decide +kernel⟩,
   ⟨tState (let r := tReady; { r with pcie := { r.pcie with drain := true } }), by decide +kernel⟩,
   ⟨tState (let r := tReady; r), true, 2047, by decide +kernel⟩,
   ⟨tState (let r := tReady; { r with pcie := { r.pcie with ptm := true } }), 2047, by decide +kernel⟩,
   ⟨tState (let r := tReady; { r.bset 0x1848 6 77 with pcie := { r.pcie with ptm := true } }), 18446744073709551615,
     by decide +kernel⟩⟩

theorem witness_DmaChannelsRunAndAbort :
    (∃ (s : State) (c : Nat) (v : Nat), (Safety.Serving s) ∧ (s.blk.barUp = true) ∧ (c < 32) ∧ (v < 2 ^ 32) ∧ (bit v 31 = true) ∧
      (bit v 30 = false) ∧ ((s.blk.chan c).enabled = false) ∧ (ctrlStatus s.blk c v = stOK)) ∧
    (∃ (s : State) (c : Nat) (v : Nat), (Safety.Serving s) ∧ (s.blk.barUp = true) ∧ (c < 32) ∧ (v < 2 ^ 31) ∧ (bit v 30 = false)
      ∧ (ctrlStatus s.blk c v = stOK)) ∧
    (∃ (s : State) (c : Nat), (Safety.Serving s) ∧ (s.blk.barUp = true) ∧ (c < 32) ∧ ((s.blk.chan c).st = 1) ∧ ((s.blk.chan
      c).enabled = true) ∧ ((s.blk.chan c).ctrl < 2 ^ 32) ∧ (bit (s.blk.chan c).ctrl 30 = false) ∧ (ctrlStatus s.blk c
      ((s.blk.chan c).ctrl + 2 ^ 30) = stOK)) ∧
    (∃ (s : State) (c : Nat) (v : Nat), (Safety.Serving s) ∧ (s.blk.barUp = true) ∧ (c < 32) ∧ (v < 2 ^ 17) ∧ (tailStatus s.blk c
      v = stOK)) :=
  ⟨⟨tState (let r := tReady; r), 31, 0x80200000, by decide +kernel⟩,
   ⟨tState (let r := tReady; r.setChan 31 { Dma.reset with st := 2, ctrl := 0x80200000 }), 31, 0x00200000, by decide +kernel⟩,
   ⟨tState (let r := tReady; r.setChan 31 { Dma.reset with st := 1, ctrl := 0x80200000, fetched := [⟨0, 0, 0, 0⟩] }), 31,
     by decide +kernel⟩,
   ⟨tState (let r := tReady; r), 31, 4, by decide +kernel⟩⟩

theorem witness_DescriptorsAndReadsComplete :
    (∃ (s : State) (c : Nat) (need : Nat) (d : Descriptor) (rest : List Descriptor), (s.blk.power.on = true) ∧ (c < 32) ∧
      ((s.blk.chan c).st = 1) ∧ (s.blk.mayRequest = true) ∧ ((s.blk.chan c).cur = some (stOK, need)) ∧ ((s.blk.chan c).fetched =
      d :: rest) ∧ (descKind d = 0) ∧ (s.blk.stageOn c = true) ∧ ((s.blk.chan c).sent < descLen s.blk d) ∧ (d.w1 + descLen s.blk
      d ≤ s.blk.installed * unitBytes)) ∧
    (∃ (s : State) (c : Nat) (need : Nat) (st : Nat) (d : Descriptor) (rest : List Descriptor), (s.blk.power.on = true) ∧ (c <
      32) ∧ ((s.blk.chan c).st = 1) ∧ (s.blk.mayRequest = true) ∧ ((s.blk.chan c).cur = some (st, need)) ∧ (st ≠ stOK) ∧
      ((s.blk.chan c).fetched = d :: rest)) ∧
    (∃ (s : State) (tag : Nat) (r : DmaRead), (s.blk.power.on = true) ∧ (tag < 1024) ∧ (s.blk.pcie.reads.find? (fun x => x.tag ==
      tag) = some r) ∧ (r.late = false) ∧ (r.fetch = true) ∧ ((s.blk.chan r.chan).early = []) ∧ (r.pos = ((s.blk.chan
      r.chan).head + (s.blk.chan r.chan).fetched.length) % 2 ^ 17)) ∧
    (∃ (s : State) (tag : Nat) (r : DmaRead), (s.blk.power.on = true) ∧ (tag < 1024) ∧ (s.blk.pcie.reads.find? (fun x => x.tag ==
      tag) = some r) ∧ (r.late = false) ∧ (r.fetch = true) ∧ ((s.blk.chan r.chan).early = []) ∧ (r.pos ≠ ((s.blk.chan
      r.chan).head + (s.blk.chan r.chan).fetched.length) % 2 ^ 17)) ∧
    (∃ (s : State) (tag : Nat) (r : DmaRead), (s.blk.power.on = true) ∧ (tag < 1024) ∧ (s.blk.pcie.reads.find? (fun x => x.tag ==
      tag) = some r) ∧ (r.late = false) ∧ (r.fetch = false) ∧ ((s.blk.chan r.chan).cur ≠ none)) ∧
    (∃ (s : State) (tag : Nat) (bad : TlpState) (r : DmaRead), (s.blk.power.on = true) ∧ (tag < 1024) ∧ (bad ≠ .badEcrc) ∧
      (s.blk.pcie.reads.find? (fun x => x.tag == tag) = some r) ∧ (r.late = true)) ∧
    (∃ (s : State) (tag : Nat) (r : DmaRead), (s.blk.power.on = true) ∧ (tag < 1024) ∧ (s.blk.pcie.reads.find? (fun x => x.tag ==
      tag) = some r) ∧ (r.late = false) ∧ ((s.blk.chan r.chan).st = 1)) ∧
    (∃ (s : State) (tag : Nat) (r : DmaRead), (s.blk.power.on = true) ∧ (tag < 1024) ∧ (s.blk.pcie.reads.find? (fun x => x.tag ==
      tag) = some r) ∧ (r.late = false) ∧ ((s.blk.chan r.chan).st = 1)) :=
  ⟨⟨tState (let r := tReady; r.setChan 31
      { Dma.reset with st := 1, ctrl := 0x80200000, tail := 1, cur := some (0, 0), fetched := [⟨0x1000, 51539607544, 8, 0⟩] }),
      31, 0, ⟨0x1000, 51539607544, 8, 0⟩, [], by decide +kernel⟩,
   ⟨tState (let r := tReady; r.setChan 0
     { Dma.reset with st := 1, ctrl := 0x80200000, tail := 1, cur := some (2, 0), fetched := [⟨0x1001, 0, 8, 0⟩, ⟨0, 0, 0, 0⟩] }),
     0, 0, 2, ⟨0x1001, 0, 8, 0⟩, [⟨0, 0, 0, 0⟩], by decide +kernel⟩,
   ⟨tState (let r := tReady;
     { r.setChan 31 { Dma.reset with st := 1, ctrl := 0x80200000, tail := 1 } with pcie := { (r.setChan 31 { Dma.reset with st := 1, ctrl := 0x80200000, tail := 1 }).pcie with reads := [⟨1023, 31, true, 0, 32, false⟩] } }),
     1023, ⟨1023, 31, true, 0, 32, false⟩, by decide +kernel⟩,
   ⟨tState (let r := tReady;
     { r.setChan 31 { Dma.reset with st := 1, ctrl := 0x80200000, tail := 2 } with pcie := { (r.setChan 31 { Dma.reset with st := 1, ctrl := 0x80200000, tail := 2 }).pcie with reads := [⟨1023, 31, true, 1, 32, false⟩] } }),
     1023, ⟨1023, 31, true, 1, 32, false⟩, by decide +kernel⟩,
   ⟨tState (let r := tReady; (((r.setChan 31
     { Dma.reset with st := 1, ctrl := 0x80200000, tail := 1, cur := some (0, 64), fetched := [⟨0, 0, 0, 0⟩], asked := 64 })) |>
     (fun b => { b with pcie := { b.pcie with reads := [⟨0, 31, false, 0, 64, false⟩] } }))), 0, ⟨0, 31, false, 0, 64, false⟩,
     by decide +kernel⟩,
   ⟨tState (let r := tReady; { r with pcie := { r.pcie with reads := [⟨0, 31, false, 0, 64, true⟩] } }), 0, .poisoned, ⟨0, 31,
     false, 0, 64, true⟩, by decide +kernel⟩,
   ⟨tState (let r := tReady; (((r.setChan 31 { Dma.reset with st := 1, ctrl := 0x80200000 })) |> (fun b =>
     { b with pcie := { b.pcie with reads := [⟨0, 31, false, 0, 64, false⟩] } }))), 0, ⟨0, 31, false, 0, 64, false⟩,
     by decide +kernel⟩,
   ⟨tState (let r := tReady; (((r.setChan 31 { Dma.reset with st := 1, ctrl := 0x80200000 })) |> (fun b =>
     { b with pcie := { b.pcie with reads := [⟨1023, 31, true, 0, 32, false⟩] } }))), 1023, ⟨1023, 31, true, 0, 32, false⟩,
     by decide +kernel⟩⟩

theorem witness_DictionaryReadsAndWritesAreServed :
    (∃ (s : State) (p : Path) (idx : Nat) (sub : Nat) (r : OdRow), (∀ b, liveValue b p idx sub = none) ∧ (Safety.Serving s) ∧
      (serverHears s.blk p = true) ∧ (idx < 65536) ∧ (sub < 256) ∧ (odRow? idx sub = some r) ∧ (accessCheck s.blk p idx sub false
      = none) ∧ (r.ty ≠ .str) ∧ (r.ty ≠ .domain) ∧ ((idx, sub) ≠ (0x1E10, 1))) ∧
    (∃ (s : State) (p : Path) (idx : Nat) (sub : Nat) (x : Resp), (Safety.Serving s) ∧ (serverHears s.blk p = true) ∧ (idx <
      65536) ∧ (sub < 256) ∧ (accessCheck s.blk p idx sub false = some x)) ∧
    (∃ (s : State) (p : Path) (idx : Nat) (sub : Nat) (v : Nat) (r : OdRow), (Safety.Serving s) ∧ ((0x1000 ≤ idx ∧ idx < 0x2000 ∧
      idx ≠ 0x1010 ∧ idx ≠ 0x1011) ∨ idx / 256 ∈ [0x39, 0x48, 0x49, 0x52, 0x54, 0x62, 0x69]) ∧ (sub < 256) ∧ (isFlag idx sub =
      false) ∧ (clearedBy idx sub = none) ∧ (Safety.Accepts s p idx sub v) ∧ (odRow? idx sub = some r)) ∧
    (∃ (s : State) (p : Path) (idx : Nat) (sub : Nat) (data : List Byte) (r : OdRow), (Safety.Serving s) ∧ (serverHears s.blk p =
      true) ∧ (idx < 65536) ∧ (sub < 256) ∧ (data.length ≤ 16384) ∧ (accessCheck s.blk p idx sub true = none) ∧ (odRow? idx sub =
      some r) ∧ (data.length ≠ r.ty.size)) ∧
    (∃ (s : State) (p : Path) (idx : Nat) (sub : Nat) (v : Nat) (r : OdRow), (∀ n, valueOk (s.blk.wr 0x1E10 1 n) r idx sub v =
      false) ∧ (Safety.Serving s) ∧ (serverHears s.blk p = true) ∧ (idx < 65536) ∧ (sub < 256) ∧ (accessCheck s.blk p idx sub
      true = none) ∧ (odRow? idx sub = some r) ∧ (r.ty.size ≤ 16384) ∧ (v < 256 ^ r.ty.size)) :=
  ⟨⟨tState (let r := tReady; r), .can, 0x1017, 0, ((odRow? 0x1017 0).getD ⟨0, 0, 0, 0, .u8, .rw, 0, .any⟩), (fun _ => rfl),
      by decide +kernel⟩,
   ⟨tState (let r := tReady; r), .sloe, 0x1E04, 77, Resp.refuse stACCESS 0x06090011, by decide +kernel⟩,
   ⟨tState (let r := tReady; r), .host, 0x4800, 1, 0x4001, ((odRow? 0x4800 1).getD ⟨0, 0, 0, 0, .u8, .rw, 0, .any⟩),
     by decide +kernel⟩,
   ⟨tState (let r := tReady; r), .host, 0x1017, 0, [1, 2, 3], ((odRow? 0x1017 0).getD ⟨0, 0, 0, 0, .u8, .rw, 0, .any⟩),
     by decide +kernel⟩,
   ⟨tState (let r := tReady; r), .host, 0x5100, 1, 4, ((odRow? 0x5100 1).getD ⟨0, 0, 0, 0, .u8, .rw, 0, .any⟩), (fun n => by
     rfl), by decide +kernel⟩⟩

theorem witness_MailboxRequestsAreServed :
    (∃ (s : State) (ws : List Nat) (tags : Nat) (r : OdRow), (∀ b, liveValue b .host (requestOf ws).idx (requestOf ws).sub =
      none) ∧ (Safety.MailboxReady s) ∧ ((popRequest (s.blk.qUnread 0) s.blk).1 = (ws, tags)) ∧ (bit tags 1 = false) ∧
      (formStatus (requestOf ws) = stOK) ∧ ((requestOf ws).target = 0 ∨ (requestOf ws).target = s.blk.rd 0x2200 1) ∧ ((requestOf
      ws).op = 1) ∧ (odRow? (requestOf ws).idx (requestOf ws).sub = some r) ∧ (accessCheck s.blk .host (requestOf ws).idx
      (requestOf ws).sub false = none) ∧ (r.ty ≠ .str) ∧ (r.ty ≠ .domain) ∧ ((requestOf ws).idx ≠ 0x1E10)) ∧
    (∃ (s : State) (ws : List Nat) (tags : Nat) (v : Nat), (Safety.MailboxReady s) ∧ ((popRequest (s.blk.qUnread 0) s.blk).1 =
      (ws, tags)) ∧ (bit tags 1 = false) ∧ (formStatus (requestOf ws) = stOK) ∧ ((requestOf ws).target = 0 ∨ (requestOf
      ws).target = s.blk.rd 0x2200 1) ∧ ((requestOf ws).op = 2) ∧ (0x1000 ≤ (requestOf ws).idx) ∧ ((requestOf ws).idx < 0x2000) ∧
      ((requestOf ws).idx ≠ 0x1010) ∧ ((requestOf ws).idx ≠ 0x1011) ∧ (isFlag (requestOf ws).idx (requestOf ws).sub = false) ∧
      (clearedBy (requestOf ws).idx (requestOf ws).sub = none) ∧ (Safety.Accepts s .host (requestOf ws).idx (requestOf ws).sub v)
      ∧ ((requestOf ws).data = valueData (requestOf ws).idx (requestOf ws).sub v)) ∧
    (∃ (s : State) (ws : List Nat) (tags : Nat), (Safety.MailboxReady s) ∧ ((popRequest (s.blk.qUnread 0) s.blk).1 = (ws, tags))
      ∧ (bit tags 1 = false) ∧ (formStatus (requestOf ws) ≠ stOK)) ∧
    (∃ (s : State) (ws : List Nat) (tags : Nat), (Safety.MailboxReady s) ∧ ((popRequest (s.blk.qUnread 0) s.blk).1 = (ws, tags))
      ∧ (bit tags 1 = false) ∧ (formStatus (requestOf ws) = stOK) ∧ ((requestOf ws).target ≠ 0) ∧ ((requestOf ws).target ≠
      s.blk.rd 0x2200 1) ∧ (forwardStatus s.blk (requestOf ws).target ≠ stOK)) ∧
    (∃ (s : State) (ws : List Nat) (tags : Nat), (Safety.MailboxReady s) ∧ ((popRequest (s.blk.qUnread 0) s.blk).1 = (ws, tags))
      ∧ (bit tags 1 = false) ∧ (formStatus (requestOf ws) = stOK) ∧ ((requestOf ws).target ≠ 0) ∧ ((requestOf ws).target ≠
      s.blk.rd 0x2200 1) ∧ (forwardStatus s.blk (requestOf ws).target = stOK)) ∧
    (∃ (s : State) (ws : List Nat) (tags : Nat), (Safety.MailboxReady s) ∧ ((popRequest (s.blk.qUnread 0) s.blk).1 = (ws, tags))
      ∧ (bit tags 1 = true)) :=
  ⟨⟨tState (let r := tReady; (((r.setQueue 0
      { queueDefault 0 with rings := [(0, { Ring.reset with w := 2, w2 := 2 })] }).setWord 2 0 0x10170001).setTag 2 1 (1 + 0))),
      [0x10170001, 0], 1, ((odRow? 0x1017 0).getD ⟨0, 0, 0, 0, .u8, .rw, 0, .any⟩), (fun _ => rfl), by decide +kernel⟩,
   ⟨tState (let r := tReady; ((((r.setQueue 0
     { queueDefault 0 with rings := [(0, { Ring.reset with w := 3, w2 := 3 })] }).setWord 2 0 0x10170002).setWord 2 1 2).setWord
     2 2 0x3e8).setTag 2 2 1), [0x10170002, 2, 0x3e8], 1, 1000, by decide +kernel⟩,
   ⟨tState (let r := tReady; (((r.setQueue 0 { queueDefault 0 with rings := [(0, { Ring.reset with w := 2, w2 := 2 })] }).setWord
     2 0 0x10170003).setWord 2 1 0).setTag 2 1 1), [0x10170003, 0], 1, by decide +kernel⟩,
   ⟨tState (let r := tReady; (((r.setQueue 0 { queueDefault 0 with rings := [(0, { Ring.reset with w := 2, w2 := 2 })] }).setWord
     2 0 0x222000010170001).setWord 2 1 0).setTag 2 1 1), [0x222000010170001, 0], 1, by decide +kernel⟩,
   ⟨tState (let r := tReady;
     ((({ (r.wr 0x2200 2 1).wr 0x2200 4 2 with chain := { r.chain with found := [⟨0x222, 1, 3, false, 0⟩] } }.setQueue 0
     { queueDefault 0 with rings := [(0, { Ring.reset with w := 2, w2 := 2 })] }).setWord 2 0 0x222000010170001).setWord 2 1
     0).setTag 2 1 1), [0x222000010170001, 0], 1, by decide +kernel⟩,
   ⟨tState (let r := tReady; (((r.setQueue 0 { queueDefault 0 with rings := [(0, { Ring.reset with w := 2, w2 := 2 })] }).setWord
     2 0 0x10170001).setTag 2 1 (1 + 2))), [0x10170001, 0], 3, by decide +kernel⟩⟩

theorem witness_OtherPathsAreServed :
    (∃ (s : State) (x : SdoTransfer) (idx : Nat) (sub : Nat) (r : OdRow), (∀ b, liveValue b .can idx sub = none) ∧
      (Safety.Serving s) ∧ (canHears s.blk = true) ∧ (x.write = false) ∧ (x.broadcast = false) ∧ (x.part = .whole) ∧ (∀ n ∈
      x.client, 1 ≤ n ∧ n ≤ 127) ∧ (sessionFree s.blk x.client = true) ∧ (idx < 65536) ∧ (sub < 256) ∧ (odRow? idx sub = some r)
      ∧ (accessCheck s.blk .can idx sub false = none) ∧ (r.ty ≠ .str) ∧ (r.ty ≠ .domain) ∧ ((idx, sub) ≠ (0x1E10, 1))) ∧
    (∃ (s : State) (x : SdoTransfer) (idx : Nat) (sub : Nat) (v : Nat), (∀ r, odRow? idx sub = some r → r.ty.isSigned = false) ∧
      (Safety.Serving s) ∧ (canHears s.blk = true) ∧ (x.write = true) ∧ (x.broadcast = false) ∧ (x.part = .whole) ∧ (∀ n ∈
      x.client, 1 ≤ n ∧ n ≤ 127) ∧ (sessionFree s.blk x.client = true) ∧ (0x1000 ≤ idx) ∧ (idx < 0x2000) ∧ (idx ≠ 0x1010) ∧ (idx
      ≠ 0x1011) ∧ (sub < 256) ∧ (isFlag idx sub = false) ∧ (clearedBy idx sub = none) ∧ (Safety.Accepts s .can idx sub v)) ∧
    (∃ (s : State) (x : SdoTransfer) (idx : Nat) (sub : Nat), (Safety.Serving s) ∧ (Safety.reportsSettled s.blk) ∧ (canHears
      s.blk = true) ∧ (∀ n ∈ x.client, 1 ≤ n ∧ n ≤ 127) ∧ (idx < 65536) ∧ (sub < 256)) ∧
    (∃ (s : State) (client : Option Nat) (rest : List (Option Nat)), (Safety.Serving s) ∧ (canHears s.blk = true) ∧
      (s.blk.canPort.sessions = client :: rest)) ∧
    (∃ (s : State) (master : Nat) (no : Nat) (ws : List Nat) (r : OdRow), (∀ b, liveValue b .sloe (requestOf ws).idx (requestOf
      ws).sub = none) ∧ (Safety.Serving s) ∧ (s.blk.parentUp = true) ∧ (master < 65536) ∧ (s.blk.server.kept.find? (fun k =>
      k.master == master && k.no == no) = none) ∧ ((requestOf ws).target = 0 ∨ (requestOf ws).target = s.blk.rd 0x2200 1) ∧ (∀ j
      ∈ s.blk.server.job, j.back ≠ .forwarded master no (requestOf ws).tag) ∧ (formStatus (requestOf ws) = stOK) ∧ ((requestOf
      ws).op = 1) ∧ (odRow? (requestOf ws).idx (requestOf ws).sub = some r) ∧ (accessCheck s.blk .sloe (requestOf ws).idx
      (requestOf ws).sub false = none) ∧ (r.ty ≠ .str) ∧ (r.ty ≠ .domain) ∧ ((requestOf ws).idx ≠ 0x1E10)) ∧
    (∃ (s : State) (master : Nat) (no : Nat) (ws : List Nat) (k : Kept), (Safety.Serving s) ∧ (s.blk.parentUp = true) ∧ (master <
      65536) ∧ (s.blk.server.kept.find? (fun x => x.master == master && x.no == no) = some k) ∧ ((requestOf ws).target = 0 ∨
      (requestOf ws).target = s.blk.rd 0x2200 1)) ∧
    (∃ (s : State) (master : Nat) (ws : List Nat) (m : ChainNode), (Safety.Serving s) ∧ (s.blk.parentUp = true) ∧ (master <
      65536) ∧ ((requestOf ws).target ≠ 0) ∧ ((requestOf ws).target ≠ s.blk.rd 0x2200 1) ∧ (s.blk.chain.found.find? (fun x =>
      x.id == (requestOf ws).target) = some m) ∧ (s.blk.linkUp m.port = true)) ∧
    (∃ (s : State) (no : Nat) (m : ChainNode) (x : Forward), (s.blk.power.on = true) ∧ (s.blk.server.fwd.find? (fun f => f.no ==
      no) = some x) ∧ (s.blk.chain.found.find? (fun m => m.id == x.target) = some m) ∧ (s.blk.linkUp m.port = true)) ∧
    (∃ (s : State) (no : Nat), (s.blk.power.on = true) ∧ (s.blk.isMaster = true) ∧ (s.blk.server.fwd.any (fun f => f.no == no) =
      true)) ∧
    (∃ (s : State), (s.blk.power.on = true) ∧ (s.blk.isMaster = false) ∧ (s.blk.parentUp = true)) :=
  ⟨⟨tState (let r := tReady; r.wr 0x2005 0xA 1), ⟨false, some 5, false, .whole⟩, 0x1017, 0, ((odRow? 0x1017 0).getD ⟨0, 0, 0, 0,
      .u8, .rw, 0, .any⟩), (fun _ => rfl), by decide +kernel⟩,
   ⟨tState (let r := tReady; r.wr 0x2005 0xA 1), ⟨true, none, false, .whole⟩, 0x1017, 0, 65535, (tUnsigned (by decide +kernel)),
     by decide +kernel⟩,
   ⟨tState (let r := tReady; { r.wr 0x2005 0xA 1 with canPort := { r.canPort with sessions := [some 1] } }), ⟨false, some 127,
     false, .begins⟩, 0x1017, 0, by decide +kernel⟩,
   ⟨tState (let r := tReady; { r.wr 0x2005 0xA 1 with canPort := { r.canPort with sessions := [some 1, none] } }), some 1,
     [none], by decide +kernel⟩,
   ⟨tState (let r := tReady; (r.wr 0x2210 2 2).wr 0x2210 8 1), 65535, 3, [0x10170001, 0], ((odRow? 0x1017 0).getD ⟨0, 0, 0, 0,
     .u8, .rw, 0, .any⟩), (fun _ => rfl), by decide +kernel⟩,
   ⟨tState (let r := tReady; { (r.wr 0x2210 2 2).wr 0x2210 8 1 with server := { r.server with kept := [⟨7, 3, [1]⟩] } }), 7, 3,
     [], ⟨7, 3, [1]⟩, by decide +kernel⟩,
   ⟨tState (let r := tReady;
     { ((r.wr 0x2210 2 2).wr 0x2210 8 1).wr 0x2213 2 2 with chain := { r.chain with found := [⟨0x222, 0, 3, false, 0⟩] } }), 1,
     [0x222000000000000], ⟨0x222, 0, 3, false, 0⟩, by decide +kernel⟩,
   ⟨tState (let r := tReady;
     { (r.wr 0x2213 2 2).wr 0x2213 8 2 with server := { r.server with fwd := [⟨3, 0x222, [1]⟩] }, chain := { r.chain with found := [⟨0x222, 1, 3, false, 0⟩] } }),
     3, ⟨0x222, 1, 3, false, 0⟩, ⟨3, 0x222, [1]⟩, by decide +kernel⟩,
   ⟨tState (let r := tReady; { r.wr 0x2200 2 1 with server := { r.server with fwd := [⟨3, 0x222, [1]⟩] } }), 3,
     by decide +kernel⟩,
   ⟨tState (let r := tReady; (r.wr 0x2210 2 2).wr 0x2210 8 1), by decide +kernel⟩⟩

theorem witness_ImagesAreWrittenInTheBackground :
    (∃ (s : State) (p : Path) (sub : Nat), (Safety.Serving s) ∧ (1 ≤ sub) ∧ (sub ≤ 3) ∧ (Safety.Accepts s p 0x1010 sub
      0x65766173) ∧ (s.blk.server.job = none)) ∧
    (∃ (s : State) (p : Path) (sub : Nat), (Safety.Serving s) ∧ (1 ≤ sub) ∧ (sub ≤ 3) ∧ (Safety.Accepts s p 0x1011 sub
      0x64616F6C) ∧ (s.blk.server.job = none)) ∧
    (∃ (s : State) (sub : Nat) (j : FlashJob), (Safety.Serving s) ∧ (1 ≤ sub) ∧ (sub ≤ 3) ∧ (s.blk.server.job = some j)) ∧
    (∃ (s : State) (p : Path) (sub : Nat) (v : Nat), (Safety.Serving s) ∧ (1 ≤ sub) ∧ (sub ≤ 3) ∧ (Safety.Accepts s p 0x1011 sub
      v) ∧ (s.blk.server.job = none) ∧ (v ≠ 0x64616F6C)) ∧
    (∃ (s : State) (p : Path) (sub : Nat) (v : Nat), (Safety.Serving s) ∧ (1 ≤ sub) ∧ (sub ≤ 3) ∧ (Safety.Accepts s p 0x1010 sub
      v) ∧ (s.blk.server.job = none) ∧ (v ≠ 0x65766173)) ∧
    (∃ (s : State) (j : FlashJob), (s.blk.power.on = true) ∧ (s.blk.server.job = some j) ∧ (j.img.seq < 2 ^ 32)) ∧
    (∃ (s : State) (j : FlashJob), (s.blk.power.on = true) ∧ (s.blk.server.job = some j)) :=
  ⟨⟨tState (let r := tReady; r), .can, 3, by decide +kernel⟩,
   ⟨tState (let r := tReady; r), .host, 2, by decide +kernel⟩,
   ⟨tState (let r := tReady;
     { r with server := { r.server with job := some ⟨true, ⟨5, 1, 0, 0, none, none⟩, .host, .path, 0x1010, 1⟩ } }), 3, ⟨true, ⟨5,
     1, 0, 0, none, none⟩, .host, .path, 0x1010, 1⟩, by decide +kernel⟩,
   ⟨tState (let r := tReady; r), .host, 2, 5, by decide +kernel⟩,
   ⟨tState (let r := tReady; r), .host, 1, 5, by decide +kernel⟩,
   ⟨tState (let r := tReady;
     { r with server := { r.server with job := some ⟨true, ⟨5, 1, 0, 0, none, none⟩, .host, .path, 0x1010, 1⟩ } }), ⟨true, ⟨5, 1,
     0, 0, none, none⟩, .host, .path, 0x1010, 1⟩, by decide +kernel⟩,
   ⟨tState (let r := tReady;
     { r with server := { r.server with job := some ⟨false, ⟨5, 1, 0, 0, none, none⟩, .host, .path, 0x1011, 1⟩ } }), ⟨false, ⟨5,
     1, 0, 0, none, none⟩, .host, .path, 0x1011, 1⟩, by decide +kernel⟩⟩

theorem witness_TheCanPortFollowsItsBus :
    (∃ (s : State), (s.blk.power.on = true) ∧ (s.blk.ps = 0) ∧ (s.blk.rd 0x1E20 1 ≠ 0) ∧ (s.blk.rd 0x1E20 7 ≠ 0)) ∧
    (∃ (s : State), (s.blk.power.on = true) ∧ (s.blk.ps < 4) ∧ (s.blk.rd 0x1017 0 ≠ 0) ∧ (s.blk.rd 0x1E20 7 ≠ 0) ∧
      (s.blk.canSends = true)) ∧
    (∃ (s : State) (m : Emcy) (rest : List Emcy), (s.blk.power.on = true) ∧ (Safety.reportsSettled s.blk) ∧ (s.blk.ps < 4) ∧
      (s.blk.emcy = m :: rest) ∧ (s.blk.canSends = true) ∧ (s.blk.rd 0x1E20 7 ≠ 4) ∧ (s.blk.rd 0x1E20 7 ≠ 0)) ∧
    (∃ (s : State) (mv : Int), (s.blk.power.on = true) ∧ (s.blk.ps < 4) ∧ (s.blk.canPort.mode = 0) ∧ (s.blk.rd 0x1E20 7 ≠ 0) ∧
      (900 ≤ mv)) ∧
    (∃ (s : State) (mv : Int), (s.blk.power.on = true) ∧ (s.blk.ps < 4) ∧ (s.blk.canPort.mode = 0) ∧ (s.blk.rd 0x1E20 7 ≠ 0) ∧
      (mv ≤ -900) ∧ (7 ≤ s.blk.canPort.swapped) ∧ (s.blk.rd 0x2005 0xA ≠ 2)) ∧
    (∃ (s : State) (x : Nat), (s.blk.power.on = true) ∧ (s.blk.ps < 4) ∧ (x < 3)) :=
  ⟨⟨tState (let r := tReady; r), by decide +kernel⟩,
   ⟨tState (let r := tReady; (r.wr 0x1017 0 100).wr 0x2005 0xA 1), by decide +kernel⟩,
   ⟨tState (let r := tReady; { r.wr 0x2005 0xA 1 with emcy := [⟨0x4210, 8, [1, 2, 3, 4, 5]⟩] }), ⟨0x4210, 8, [1, 2, 3, 4, 5]⟩,
     [], by decide +kernel⟩,
   ⟨tState (let r := tReady; r), 900, by decide +kernel⟩,
   ⟨tState (let r := tReady; { r with canPort := { r.canPort with swapped := 7 } }), -900, by decide +kernel⟩,
   ⟨tState (let r := tReady; r), 2, by decide +kernel⟩⟩

theorem witness_ColdStartAndLossOfSupply :
    (∃ (s : State) (x : Nat), (x < 128) ∧ (s.blk.power.on = false) ∧ (s.blk.flash.reversed = false)) ∧
    (∃ (s : State), (s.blk.power.on = true) ∧ (s.blk.rd 0x2001 0 = 0)) ∧
    (∃ (s : State), (s.blk.power.on = true)) ∧
    (∃ (s : State), (s.blk.power.on = false)) :=
  ⟨⟨tState (let r := tReady; { r with power := { r.power with on := false } }), 127, by decide +kernel⟩,
   ⟨tState (let r := tReady; r.wr 0x2001 0 0), by decide +kernel⟩,
   ⟨tState (let r := tReady; r), by decide +kernel⟩,
   ⟨tState (let r := tReady; { r with power := { r.power with on := false } }), by decide +kernel⟩⟩

theorem witness_PowerStatesAreEnteredAndLeft :
    (∃ (s : State) (w : Via) (v : Nat), (Safety.Serving s) ∧ (1 ≤ v) ∧ (v ≤ 5) ∧ (Safety.Reaches s w 0x2002 1 v) ∧ (powerStatus
      s.blk v = stOK)) ∧
    (∃ (s : State) (w : Via) (v : Nat), (Safety.Serving s) ∧ (v ≤ 5) ∧ (Safety.Reaches s w 0x2002 1 v) ∧ (powerStatus s.blk v ≠
      stOK) ∧ (powerStatus s.blk v ≠ stRANGE)) ∧
    (∃ (s : State) (x : Nat), (s.blk.power.on = true) ∧ (s.blk.power.entry = some x) ∧ (x ≤ 5) ∧ (s.blk.server.job = none) ∧
      (s.blk.armedDoms = []) ∧ (s.blk.power.held = 0)) ∧
    (∃ (s : State), (s.blk.power.on = true) ∧ (s.blk.power.entry = none) ∧ (s.blk.power.waking = false) ∧ (s.blk.thermalHold =
      false) ∧ (1 ≤ s.blk.ps) ∧ (s.blk.ps ≤ 5) ∧ (bit (s.blk.rd 0x2002 3) 0 = true)) ∧
    (∃ (s : State) (l : Nat) (rise : Bool), (s.blk.power.on = true) ∧ (s.blk.power.entry = none) ∧ (s.blk.power.waking = false) ∧
      (s.blk.thermalHold = false) ∧ (l < 512) ∧ (s.blk.ps = 1 ∨ s.blk.ps = 2) ∧ (bit (s.blk.rd 0x2002 3) 1 = true) ∧ (s.blk.rd
      0x2003 1 = l / 16) ∧ (bit (s.blk.rd 0x2003 2) (l % 16) = true) ∧ (chosenEdge (bits (s.blk.rd 0x2003 3) (2 * (l % 16)) 2)
      rise = true) ∧ (wakePodBusy s.blk (l / 16) = false)) ∧
    (∃ (s : State) (i : Nat) (rise : Bool), (s.blk.power.on = true) ∧ (s.blk.power.entry = none) ∧ (s.blk.power.waking = false) ∧
      (s.blk.thermalHold = false) ∧ (i < 2) ∧ (s.blk.ps = 1 ∨ s.blk.ps = 2) ∧ (bit (s.blk.rd 0x2002 3) 2 = true) ∧ (chosenEdge
      (bits (s.blk.rd 0x2003 4) (2 * i) 2) rise = true)) ∧
    (∃ (s : State), (s.blk.power.on = true) ∧ (s.blk.power.entry = none) ∧ (s.blk.power.waking = false) ∧ (s.blk.thermalHold =
      false) ∧ (s.blk.ps = 4) ∧ (bit (s.blk.rd 0x2002 3) 3 = true)) ∧
    (∃ (s : State), (s.blk.power.on = true) ∧ (s.blk.power.waking = true) ∧ (1 ≤ s.blk.ps) ∧ (s.blk.ps ≤ 4) ∧ (s.blk.power.after
      = none)) ∧
    (∃ (s : State) (img : Resume), (s.blk.power.on = true) ∧ (s.blk.power.waking = true) ∧ (s.blk.ps = 5) ∧ (s.blk.flash.resume =
      some img) ∧ (s.blk.power.after = none)) :=
  ⟨⟨tState (let r := tReady; { r with pcie := { r.pcie with cfg := { r.pcie.cfg with aspm := 7 } } }), .dict .host, 5,
      by decide +kernel⟩,
   ⟨tState (let r := tReady; r.wr 0x5100 2 1), .bar, 1, by decide +kernel⟩,
   ⟨tState (let r := tReady; { r with power := { r.power with entry := some 5 } }), 5, by decide +kernel⟩,
   ⟨tState (let r := tReady; (r.wr 0x2002 2 5).wr 0x2002 3 1), by decide +kernel⟩,
   ⟨tState (let r := tReady; (((((r.wr 0x2002 2 2).wr 0x2002 3 2).wr 0x2003 1 31).wr 0x2003 2 0x8000).wr 0x2003 3 0xC0000000).wr
     0x5000 32 0xFF), 511, true, by decide +kernel⟩,
   ⟨tState (let r := tReady; ((r.wr 0x2002 2 1).wr 0x2002 3 4).wr 0x2003 4 8), 1, false, by decide +kernel⟩,
   ⟨tState (let r := tReady; (r.wr 0x2002 2 4).wr 0x2002 3 8), by decide +kernel⟩,
   ⟨tState (let r := tReady; { r.wr 0x2002 2 4 with power := { r.power with waking := true } }), by decide +kernel⟩,
   ⟨tState (let r := tReady;
     { r.wr 0x2002 2 5 with power := { r.power with waking := true }, flash := { r.flash with resume := some ⟨[], [], 5, []⟩ } }),
     ⟨[], [], 5, []⟩, by decide +kernel⟩⟩

theorem witness_TheModuleWatchesItself :
    (∃ (s : State) (x : Int), (s.blk.power.on = true) ∧ (-1280 ≤ x) ∧ (x ≤ 3000)) ∧
    (∃ (s : State), (s.blk.power.on = true)) ∧
    (∃ (s : State), (s.blk.power.on = true)) ∧
    (∃ (s : State) (p : Path), (Safety.Serving s) ∧ (Safety.reportsSettled s.blk) ∧ (Safety.Accepts s p 0x8000 2 1)) :=
  ⟨⟨tState (let r := tReady; r), 1250, by decide +kernel⟩,
   ⟨tState (let r := tReady; r), by decide +kernel⟩,
   ⟨tState (let r := tReady; r), by decide +kernel⟩,
   ⟨tState (let r := tReady; r), .host, by decide +kernel⟩⟩

end Sys2Proof.Tests
end

/-! # A write of one number over a dictionary path (R60, R473, R474, R477)

What every command that writes one number to a subindex has in common in a module that serves: the request is counted, the checks of
R60 stand before the owning chapter, and the chapter's status is the answer. -/

namespace Sys2Proof.Machine

/-! ### Octets of a number (R43) -/

@[simp] theorem toLe_length (n v : Nat) : (toLe n v).length = n := by
  induction n generalizing v with
  | zero => rfl
  | succ n ih => simp [toLe, ih]

@[simp] theorem ofLe_toLe (n v : Nat) : ofLe (toLe n v) = v % 256 ^ n := by
  induction n generalizing v with
  | zero => simp [toLe, ofLe, Nat.mod_one]
  | succ n ih => simp [toLe, ofLe, ih, Nat.pow_succ', Nat.mod_mul]

/-! ### An effect for each of a list -/

/-- What every single effect leaves as it is, all of them leave as it is. -/
theorem forEach_keeps {α β γ : Type} (g : β → γ) {xs : List α} {f : α → β → β} (h : ∀ x ∈ xs, ∀ b, g (f x b) = g b) (b : β) :
    g (forEach xs f b) = g b :=
  List.foldlRecOn xs (fun b x => f x b) (motive := fun c => g c = g b) rfl (fun c hc x hx => (h x hx c).trans hc)

/-! ### The request counted, and the answer -/

/-- The block in which the checks of a request are made: the request is counted in 0x1E10.01. -/
def Block.counted (b : Block) : Block := b.bump 32 0x1E10 1 1

@[simp] theorem Block.counted_mops (b : Block) : b.counted.mops = b.mops := rfl

@[simp] theorem Block.counted_selected (b : Block) (p : Path) : b.counted.selected p = b.selected p := rfl

theorem Block.counted_reg (b : Block) {i r : Nat} (hr : r < 256) (h : (i, r) ≠ (0x1E10, 1)) : b.counted.reg i r = b.reg i r := by
  have hk : odKey i r ≠ odKey 0x1E10 1 := fun e => h (Prod.ext_iff.mpr ((odKey_inj hr (by decide)).1 e))
  rw [Block.counted, Block.bump, Block.reg_wr, if_neg hk]

theorem Block.counted_rd (b : Block) {i r : Nat} (hr : r < 256) (h : i ≠ 0x1E10) : b.counted.rd i r = b.rd i r := by
  unfold Block.rd
  rw [Block.counted_reg b hr (fun e => h (congrArg Prod.fst e))]

@[simp] theorem Block.counted_isMember (b : Block) : b.counted.isMember = b.isMember := by
  simp [Block.isMember, Block.inChain, Block.isMaster, Block.counted_rd]

/-- The checks of existence, access, right and lock do not depend on the count of requests. -/
@[simp] theorem accessCheck_counted (b : Block) (p : Path) (idx sub : Nat) (w : Bool) :
    accessCheck b.counted p idx sub w = accessCheck b p idx sub w := by
  have hl : pathLocked b.counted p idx = pathLocked b p idx := by cases p <;> simp [pathLocked, Block.counted_rd]
  have hf : fixedNow b.counted p idx sub = fixedNow b p idx sub := by
    unfold fixedNow; rw [Block.counted_isMember]; rfl
  simp [accessCheck, hl, hf]

@[simp] theorem answered_resp (p : Path) (x : Resp) (b : Block) : (answered p (some x, b)).resp = x := by
  unfold answered; dsimp only; split <;> rfl

@[simp] theorem answered_mops (p : Path) (x : Resp) (b : Block) : (answered p (some x, b)).mops = b.mops := by
  unfold answered; dsimp only; split <;> rfl

@[simp] theorem answered_reg (p : Path) (x : Resp) (b : Block) (i r : Nat) : (answered p (some x, b)).reg i r = b.reg i r := by
  unfold answered; dsimp only; split <;> rfl

/-- A module that serves takes a dictionary write at once: nothing stands before the server's checks and nothing has to wake. -/
theorem dictPut_of_serving {s : State} {p : Path} (hs : Safety.Serving s) (hh : serverHears s.blk p = true) (mem : List Host.Cell)
    (idx sub v : Nat) :
    dictPut p mem idx sub v s.blk = answered p (dictWrite p .path mem idx sub (valueData idx sub v) s.blk.counted) := by
  obtain ⟨_, hready, hps, hentry, _⟩ := hs
  have hawake : awake 5 s.blk = s.blk := by simp [awake, hps, hentry]
  simp [dictPut, dictCommand, hh, serveWrite, serve, notServing, hready, hawake, Block.counted]

/-! ### The checks of a write (R60) -/

/-- A value out of range is refused with ERR_RANGE before the owning chapter sees it. -/
theorem dictWrite_of_not_valueOk {b : Block} {p : Path} {idx sub v : Nat} {r : OdRow} (ha : accessCheck b p idx sub true = none)
    (hr : odRow? idx sub = some r) (hv : v < 256 ^ r.ty.size) (hok : valueOk b r idx sub v = false) (back : ReplyTo)
    (mem : List Host.Cell) :
    dictWrite p back mem idx sub (valueData idx sub v) b = (some (Resp.refuse stRANGE (rangeAbort b r idx sub v)), b) := by
  simp [dictWrite, ha, hr, valueData, typeCheck, Nat.mod_eq_of_lt hv, hok]

/-- Past the checks of R60 the owning chapter serves the write: its status is the answer. Images and discovery, which answer later, are
left out. -/
theorem dictWrite_of_chapterWrite {b c : Block} {p : Path} {idx sub v st : Nat} {r : OdRow} (ha : accessCheck b p idx sub true = none)
    (hr : odRow? idx sub = some r) (hv : v < 256 ^ r.ty.size) (hok : valueOk b r idx sub v = true) (hd : ownerArmed b r idx sub = false)
    {mem : List Host.Cell} (hc : chapterWrite p mem idx sub v b = (st, c)) (hst : st ≠ stRANGE) (back : ReplyTo)
    (h10 : idx ≠ 0x1010 := by decide) (h11 : idx ≠ 0x1011 := by decide) (h22 : idx ≠ 0x2200 := by decide) :
    dictWrite p back mem idx sub (valueData idx sub v) b = (some (Resp.plain st), c) := by
  simp [dictWrite, ha, hr, valueData, typeCheck, Nat.mod_eq_of_lt hv, hok, hd, h10, h11, h22, hc, hst]

/-! ### The run of a write -/

/-- The state after a write of a number over a path. -/
def State.put (s : State) (p : Path) (idx sub v : Nat) : State := s.run (fun mem b => dictPut p mem idx sub v b)

/-- What a write that a module takes and answers leaves: the answer, and the registers of the served block. -/
theorem State.put_of_dictWrite {s : State} {p : Path} {idx sub v : Nat} {x : Resp} {c : Block} (hs : Safety.Serving s)
    (hh : serverHears s.blk p = true)
    (hw : dictWrite p .path s.mem idx sub (valueData idx sub v) s.blk.counted = (some x, c)) :
    (s.put p idx sub v).blk.resp = x ∧
    ∀ i r, r < 256 → Safety.reporting i r = false → (s.put p idx sub v).blk.rd i r = c.rd i r := by
  have hp := (dictPut_of_serving hs hh s.mem idx sub v).trans (congrArg (answered p) hw)
  refine ⟨by simp [State.put, hp], fun i r hr hi => ?_⟩
  unfold Block.rd
  rw [State.put, State.run_reg _ _ _ _ hr hi, hp, answered_reg]

/-- A write that is refused where it stands answers its status and changes nothing else. -/
theorem State.put_of_refused {s : State} {p : Path} {idx sub v : Nat} {x : Resp} (hs : Safety.Serving s)
    (hh : serverHears s.blk p = true)
    (hw : dictWrite p .path s.mem idx sub (valueData idx sub v) s.blk.counted = (some x, s.blk.counted)) :
    (s.put p idx sub v).blk.resp = x ∧ Safety.Keeps (fun _ _ => false) s (s.put p idx sub v) := by
  have hp := (dictPut_of_serving hs hh s.mem idx sub v).trans (congrArg (answered p) hw)
  refine ⟨(State.put_of_dictWrite hs hh hw).1, State.run_keeps (fun i r hr hi _ => ?_) ?_⟩
  · rw [hp, answered_reg, Block.counted_reg _ hr hi]
  · rw [hp, answered_mops, Block.counted_mops]

/-- A register that no command reports in and that is not the count of requests, where nothing is changed. -/
theorem Safety.Keeps.rd {R : Nat → Nat → Bool} {s t : State} (h : Safety.Keeps R s t) {i r : Nat} (hr : r < 256)
    (hrep : Safety.reporting i r = false) (hi : i ≠ 0x1E10) (hR : R i r = false) : t.blk.rd i r = s.blk.rd i r := by
  obtain ⟨⟨hreg, _⟩, _⟩ := h
  unfold Block.rd
  rw [hreg i r hr hrep (fun e => hi (congrArg Prod.fst e)) hR]

end Sys2Proof.Machine

/-! # Writes of a pod's domain and of a domain's mode (R22, R28) -/

namespace Sys2Proof.Machine

/-! ### The two objects (R25) -/

/-- The row of a pod's domain. -/
def podDomRow : OdRow := ⟨0x5000, 0x5000, 1, 32, .u8, .rws, 0xFF, .rngOr 0 7 255⟩

/-- The row of a domain's mode. -/
def modeRow : OdRow := ⟨0x5001, 0x5001, 1, 8, .u8, .rw, 0, .any⟩

theorem odRow?_podDom {n : Nat} (hn : n < 32) : odRow? 0x5000 (n + 1) = some podDomRow :=
  (by decide : ∀ k < 32, odRow? 0x5000 (k + 1) = some podDomRow) n hn

theorem odRow?_mode {d : Nat} (hd : d < 8) : odRow? 0x5001 (d + 1) = some modeRow :=
  (by decide : ∀ k < 8, odRow? 0x5001 (k + 1) = some modeRow) d hd

/-- A pod's domain may be written to 0 to 7, or to 0xFF for none. -/
theorem valueOk_podDom (b : Block) (sub v : Nat) : valueOk b podDomRow 0x5000 sub v = true ↔ v < 8 ∨ v = 0xFF := by
  simp [valueOk, podDomRow, crossOk, Nat.lt_succ_iff]

/-- Modes are coded 0 to 0xC. -/
theorem valueOk_mode (b : Block) (sub v : Nat) : valueOk b modeRow 0x5001 sub v = decide (v ≤ 0xC) := by
  simp [valueOk, modeRow, crossOk]

/-- Neither object has an owning domain whose arm would refuse the write before its chapter does (R25). -/
theorem ownerArmed_podDom (b : Block) (sub : Nat) : ownerArmed b podDomRow 0x5000 sub = false := by
  simp [ownerArmed, owningDomain]

theorem ownerArmed_mode (b : Block) (sub : Nat) : ownerArmed b modeRow 0x5001 sub = false := by
  simp [ownerArmed, modeRow]

theorem chapterWrite_podDom {n : Nat} (hn : n < 32) (p : Path) (mem : List Host.Cell) (v : Nat) (b : Block) :
    chapterWrite p mem 0x5000 (n + 1) v b = podAssign n v b := by
  have hflag : isFlag 0x5000 (n + 1) = false := by rw [isFlag, odRow?_podDom hn]; rfl
  have hclear : clearedBy 0x5000 (n + 1) = none := by rw [clearedBy, odRow?_podDom hn]; rfl
  simp [chapterWrite, hflag, hclear, domainWrite]

theorem chapterWrite_mode {d : Nat} (hd : d < 8) (p : Path) (mem : List Host.Cell) (v : Nat) (b : Block) :
    chapterWrite p mem 0x5001 (d + 1) v b = modeWrite d v b := by
  have hflag : isFlag 0x5001 (d + 1) = false := by rw [isFlag, odRow?_mode hd]; rfl
  have hclear : clearedBy 0x5001 (d + 1) = none := by rw [clearedBy, odRow?_mode hd]; rfl
  simp [chapterWrite, hflag, hclear, domainWrite]

/-- The checks before the chapter leave of a mode only that its code exists. -/
theorem mode_le_of_accepts {s : State} {p : Path} {d v : Nat} (hd : d < 8) (h : Safety.Accepts s p 0x5001 (d + 1) v) : v ≤ 0xC := by
  obtain ⟨_, _, hrow⟩ := h
  rw [odRow?_mode hd] at hrow
  simp only [Option.any_some, valueOk_mode, Bool.and_eq_true, decide_eq_true_eq] at hrow
  obtain ⟨⟨_, hv⟩, _⟩ := hrow
  exact hv

/-! ### In the block that counts the request -/

theorem Block.counted_podDom (b : Block) {n : Nat} (hn : n < 32) : b.counted.podDom n = b.podDom n :=
  Block.counted_rd b (by omega) (by decide)

theorem Block.counted_mode (b : Block) {d : Nat} (hd : d < 8) : b.counted.mode d = b.mode d :=
  Block.counted_rd b (by omega) (by decide)

theorem Block.counted_dstate (b : Block) {d : Nat} (hd : d < 8) : b.counted.dstate d = b.dstate d :=
  Block.counted_rd b (by decide) (by omega)

/-! ### What the drivers' following leaves alone (R304, R311) -/

theorem cutVisit_rd (n : Nat) (b : Block) (i r : Nat) : (cutVisit n b).rd i r = b.rd i r := rfl

/-- The drivers of a pod show in its own enable register and in no other. -/
theorem refreshDrivers_rd (n : Nat) (b : Block) {i r : Nat} (hr : r < 256) (h : i ≠ driveObj n) :
    (refreshDrivers n b).rd i r = b.rd i r := by
  have hk : odKey i r ≠ odKey (driveObj n) 4 := fun e => h ((odKey_inj hr (by decide)).1 e).1
  unfold refreshDrivers
  dsimp only
  refine (forEach_keeps (fun c : Block => c.rd i r) (fun m _ c => ?_) _).trans ?_
  · simp only [apply_ite (fun c : Block => c.rd i r), Block.rd_setDriver, ite_self]
  · simp only [apply_ite (fun c : Block => c.rd i r), cutVisit_rd, Block.rd_wr_ne _ _ _ _ _ _ hk, ite_self]

/-- So do the drivers of all pods of a domain. -/
theorem refreshDomain_rd (d : Nat) (b : Block) {i r : Nat} (hr : r < 256) (h : 0x3820 ≤ i) :
    (forEach (b.podsOf d) refreshDrivers b).rd i r = b.rd i r := by
  refine forEach_keeps (fun c => c.rd i r) (fun n hn c => refreshDrivers_rd n c hr ?_) b
  have hn : n < 32 := List.mem_range.1 (List.mem_filter.1 hn).1
  unfold driveObj
  omega

theorem unown_rd (k : Nat) (b : Block) (i r : Nat) : (unown k b).rd i r = b.rd i r := by
  simp [unown, setOwner]

theorem setHeld_rd (code unit x : Nat) (b : Block) (i r : Nat) : (setHeld code unit x b).rd i r = b.rd i r := rfl

/-- A bank that returns is a matter of the banks, not of the registers. -/
theorem returnBank_rd (code unit : Nat) (b : Block) (i r : Nat) : (returnBank code unit b).rd i r = b.rd i r := by
  unfold returnBank
  split
  · rw [setHeld_rd, unown_rd]
  · rfl

/-- A pattern engine that is switched off shows in its domain's stimulus object. -/
theorem stimOff_rd (d : Nat) (b : Block) {i r : Nat} (hr : r < 256) (h : i ≠ stimObj d) : (stimOff d b).rd i r = b.rd i r := by
  have hk : ∀ k < 256, odKey i r ≠ odKey (stimObj d) k := fun k hk e => h ((odKey_inj hr hk).1 e).1
  simp [stimOff, Block.rd_wr_ne _ _ _ _ _ _ (hk _ _)]

/-- The end of a domain's drive modes leaves the registers above those of drivers and pattern engines alone. -/
theorem leaveDrive_rd {d : Nat} (hd : d < 8) (b : Block) {i r : Nat} (hr : r < 256) (h : 0x3A08 ≤ i) :
    (leaveDrive d b).rd i r = b.rd i r := by
  have ho : i ≠ stimObj d := by unfold stimObj; omega
  have hk : odKey i r ≠ odKey (stimObj d) 0xD := fun e => ho ((odKey_inj hr (by decide)).1 e).1
  unfold leaveDrive
  dsimp only
  rw [refreshDomain_rd _ _ hr (by omega), Block.rd_wr_ne _ _ _ _ _ _ hk, returnBank_rd, stimOff_rd _ _ hr ho]

theorem driveChanged_rd {d : Nat} (hd : d < 8) (was : Bool) (b : Block) {i r : Nat} (hr : r < 256) (h : 0x3A08 ≤ i) :
    (driveChanged d was b).rd i r = b.rd i r := by
  unfold driveChanged
  split
  · exact leaveDrive_rd hd b hr h
  · exact refreshDomain_rd _ _ hr (by omega)

/-! ### The two rules -/

/-- A legal value is refused exactly where one of the two domains is not IDLE (R22). -/
theorem podAssignStatus_of_legal (b : Block) (n : Nat) {v : Nat} (hv : v < 8 ∨ v = 0xFF) :
    podAssignStatus b n v =
      if (b.podDom n < 8 ∧ b.mode (b.podDom n) ≠ 0) ∨ (v < 8 ∧ b.mode v ≠ 0) then stSTATE else stOK := by
  have hr : ¬ (8 ≤ v ∧ ¬ v = 0xFF) := by omega
  simp [podAssignStatus, firstFail, hr]

/-- A pod moves between domains that are both IDLE, no domain counting as one (R22). -/
theorem podAssign_of_idle {b : Block} {n v : Nat} (hv : v < 8 ∨ v = 0xFF) (hnow : b.podDom n < 8 → b.mode (b.podDom n) = 0)
    (hnew : v < 8 → b.mode v = 0) : podAssign n v b = (stOK, refreshDrivers n (b.wr 0x5000 (n + 1) v)) := by
  have hst : podAssignStatus b n v = stOK := by
    rw [podAssignStatus_of_legal b n hv, if_neg]
    rintro (⟨h, hne⟩ | ⟨h, hne⟩)
    · exact hne (hnow h)
    · exact hne (hnew h)
  rw [podAssign, if_pos hst, hst]

/-- Where one of the two domains is not IDLE, the pod stays (R22). -/
theorem podAssign_of_not_idle {b : Block} {n v : Nat} (hv : v < 8 ∨ v = 0xFF)
    (h : (b.podDom n < 8 ∧ b.mode (b.podDom n) ≠ 0) ∨ (v < 8 ∧ b.mode v ≠ 0)) : podAssign n v b = (stSTATE, b) := by
  have hst : podAssignStatus b n v = stSTATE := by rw [podAssignStatus_of_legal b n hv, if_pos h]
  rw [podAssign, if_neg (by rw [hst]; decide), hst]

/-- An UNARMED domain takes any mode while it is IDLE, and IDLE always (R28). -/
theorem modeWrite_of_unarmed {b : Block} {d v : Nat} (hv : v ≤ 0xC) (hst : b.dstate d = 0) (h : b.mode d = 0 ∨ v = 0) :
    modeWrite d v b = (stOK, driveChanged d (b.driveMode d) (b.wr 0x5001 (d + 1) v)) := by
  have hok : modeStatus b d v = stOK := by
    rcases h with h | h <;> simp [modeStatus, firstFail, hst, h, Nat.not_lt.2 hv]
  simp [modeWrite, hok]

/-- The refusals of R28: BUSY while the domain is STOPPING, otherwise ERR_STATE. -/
theorem modeWrite_of_refused {b : Block} {d v : Nat} (hv : v ≤ 0xC) (hst : b.dstate d ≤ 2)
    (h : b.dstate d ≠ 0 ∨ (b.mode d ≠ 0 ∧ v ≠ 0)) :
    modeWrite d v b = (if b.dstate d = 2 then stBUSY else stSTATE, b) := by
  have hbad : modeStatus b d v = if b.dstate d = 2 then stBUSY else stSTATE := by
    have : b.dstate d = 0 ∨ b.dstate d = 1 ∨ b.dstate d = 2 := by omega
    rcases this with h0 | h1 | h2
    · have hm : b.mode d ≠ 0 ∧ v ≠ 0 := h.resolve_left (fun hne => hne h0)
      simp [modeStatus, firstFail, h0, hm, Nat.not_lt.2 hv]
    · simp [modeStatus, firstFail, h1, Nat.not_lt.2 hv]
    · simp [modeStatus, firstFail, h2, Nat.not_lt.2 hv]
  have hne : modeStatus b d v ≠ stOK := by rw [hbad]; split <;> decide
  rw [modeWrite, if_neg hne, hbad]

/-! ### The two commands -/

theorem exec_podAssignWrite {s : State} (hs : Safety.Serving s) {n : Nat} (hn : n < 32) (p : Path) (v : Nat) :
    exec (.podAssignWrite p n v) s = .next (s.put p 0x5000 (n + 1) v) := by
  have hact : ((Instr.podAssignWrite p n v).wf && s.blk.power.on) = true := by simp [Instr.wf, hn, hs.1]
  show s.act _ _ = _
  rw [State.act_next, if_pos hact, State.put]

theorem exec_modeWrite {s : State} (hs : Safety.Serving s) {d : Nat} (hd : d < 8) (p : Path) (v : Nat) :
    exec (.modeWrite p d v) s = .next (s.put p 0x5001 (d + 1) v) := by
  have hact : ((Instr.modeWrite p d v).wf && s.blk.power.on) = true := by simp [Instr.wf, hd, hs.1]
  show s.act _ _ = _
  rw [State.act_next, if_pos hact, State.put]

section

variable {s : State} {p : Path} {v : Nat}

/-- Past the checks before the chapter, `podAssign` gives the answer to a write of a pod's domain. -/
theorem dictWrite_podDom {n st : Nat} {c : Block} (hn : n < 32) (ha : Safety.Accepts s p 0x5000 (n + 1) v)
    (hv : v < 8 ∨ v = 0xFF) (hc : podAssign n v s.blk.counted = (st, c)) (hst : st ≠ stRANGE) :
    dictWrite p .path s.mem 0x5000 (n + 1) (valueData 0x5000 (n + 1) v) s.blk.counted = (some (Resp.plain st), c) := by
  obtain ⟨_, haccess, _⟩ := ha
  exact dictWrite_of_chapterWrite ((accessCheck_counted ..).trans haccess) (odRow?_podDom hn)
    (show v < 256 by omega) ((valueOk_podDom ..).2 hv) (ownerArmed_podDom ..) ((chapterWrite_podDom hn ..).trans hc) hst _

/-- So does `modeWrite` for a domain's mode. -/
theorem dictWrite_mode {d st : Nat} {c : Block} (hd : d < 8) (ha : Safety.Accepts s p 0x5001 (d + 1) v)
    (hc : modeWrite d v s.blk.counted = (st, c)) (hst : st ≠ stRANGE) :
    dictWrite p .path s.mem 0x5001 (d + 1) (valueData 0x5001 (d + 1) v) s.blk.counted = (some (Resp.plain st), c) := by
  have hv := mode_le_of_accepts hd ha
  obtain ⟨_, haccess, _⟩ := ha
  exact dictWrite_of_chapterWrite ((accessCheck_counted ..).trans haccess) (odRow?_mode hd)
    (show v < 256 by omega) (by simpa [valueOk_mode] using hv) (ownerArmed_mode ..) ((chapterWrite_mode hd ..).trans hc) hst _

variable (hs : Safety.Serving s)
include hs

/-- The move of a pod between IDLE domains is in force (R22). -/
theorem put_podDom_of_idle {n : Nat} (hn : n < 32) (ha : Safety.Accepts s p 0x5000 (n + 1) v) (hv : v < 8 ∨ v = 0xFF)
    (hnow : s.blk.podDom n < 8 → s.blk.mode (s.blk.podDom n) = 0) (hnew : v < 8 → s.blk.mode v = 0) :
    (s.put p 0x5000 (n + 1) v).blk.podDom n = v ∧ (s.put p 0x5000 (n + 1) v).blk.resp = Resp.plain stOK ∧
      ∀ k, k < 32 → k ≠ n → (s.put p 0x5000 (n + 1) v).blk.podDom k = s.blk.podDom k := by
  have hc := podAssign_of_idle (b := s.blk.counted) (n := n) hv
    (by rw [Block.counted_podDom _ hn]; exact fun h => (Block.counted_mode _ h).trans (hnow h))
    (fun h => (Block.counted_mode _ h).trans (hnew h))
  obtain ⟨hresp, hrd⟩ := State.put_of_dictWrite hs ha.1 (dictWrite_podDom hn ha hv hc (by decide))
  have hdom : ∀ k < 32, (s.put p 0x5000 (n + 1) v).blk.podDom k =
      (s.blk.counted.wr 0x5000 (n + 1) v).rd 0x5000 (k + 1) := fun k hk =>
    (hrd _ _ (by omega) rfl).trans (refreshDrivers_rd _ _ (by omega) (by unfold driveObj; omega))
  refine ⟨?_, hresp, fun k hk hkn => ?_⟩
  · rw [hdom n hn, Block.rd_wr_self, Nat.mod_eq_of_lt (by omega)]
  · have hne : odKey 0x5000 (k + 1) ≠ odKey 0x5000 (n + 1) := by unfold odKey; omega
    rw [hdom k hk, Block.rd_wr_ne _ _ _ _ _ _ hne]
    exact Block.counted_podDom _ hk

/-- A mode written to an UNARMED domain that is IDLE, or IDLE itself, is in force (R28). -/
theorem put_mode_of_unarmed {d : Nat} (hd : d < 8) (ha : Safety.Accepts s p 0x5001 (d + 1) v) (hst : s.blk.dstate d = 0)
    (h : s.blk.mode d = 0 ∨ v = 0) :
    (s.put p 0x5001 (d + 1) v).blk.mode d = v ∧ (s.put p 0x5001 (d + 1) v).blk.resp = Resp.plain stOK ∧
      ∀ e, e < 8 → e ≠ d → (s.put p 0x5001 (d + 1) v).blk.mode e = s.blk.mode e := by
  have hv := mode_le_of_accepts hd ha
  have hc := modeWrite_of_unarmed (b := s.blk.counted) hv ((Block.counted_dstate _ hd).trans hst)
    (by rwa [Block.counted_mode _ hd])
  obtain ⟨hresp, hrd⟩ := State.put_of_dictWrite hs ha.1 (dictWrite_mode hd ha hc (by decide))
  have hmode : ∀ e < 8, (s.put p 0x5001 (d + 1) v).blk.mode e = (s.blk.counted.wr 0x5001 (d + 1) v).rd 0x5001 (e + 1) := fun e he =>
    (hrd _ _ (by omega) rfl).trans (driveChanged_rd hd _ _ (by omega) (by decide))
  refine ⟨?_, hresp, fun e he hed => ?_⟩
  · rw [hmode d hd, Block.rd_wr_self, Nat.mod_eq_of_lt (by omega)]
  · have hne : odKey 0x5001 (e + 1) ≠ odKey 0x5001 (d + 1) := by unfold odKey; omega
    rw [hmode e he, Block.rd_wr_ne _ _ _ _ _ _ hne]
    exact Block.counted_mode _ he

/-- The move of a pod from or to a domain that is not IDLE is refused (R22). -/
theorem put_podDom_of_not_idle {n : Nat} (hn : n < 32) (ha : Safety.Accepts s p 0x5000 (n + 1) v) (hv : v < 8 ∨ v = 0xFF)
    (h : (s.blk.podDom n < 8 ∧ s.blk.mode (s.blk.podDom n) ≠ 0) ∨ (v < 8 ∧ s.blk.mode v ≠ 0)) :
    (s.put p 0x5000 (n + 1) v).blk.resp = Resp.plain stSTATE ∧
      Safety.Keeps (fun _ _ => false) s (s.put p 0x5000 (n + 1) v) := by
  have hc := podAssign_of_not_idle (b := s.blk.counted) (n := n) hv
    (by
      rw [Block.counted_podDom _ hn]
      exact h.imp (fun ⟨hlt, hne⟩ => ⟨hlt, fun e => hne ((Block.counted_mode _ hlt).symm.trans e)⟩)
        (fun ⟨hlt, hne⟩ => ⟨hlt, fun e => hne ((Block.counted_mode _ hlt).symm.trans e)⟩))
  exact State.put_of_refused hs ha.1 (dictWrite_podDom hn ha hv hc (by decide))

/-- A mode that the domain's state or its present mode bars is refused (R28). -/
theorem put_mode_of_refused {d : Nat} (hd : d < 8) (ha : Safety.Accepts s p 0x5001 (d + 1) v) (hst : s.blk.dstate d ≤ 2)
    (h : s.blk.dstate d ≠ 0 ∨ (s.blk.mode d ≠ 0 ∧ v ≠ 0)) :
    (s.put p 0x5001 (d + 1) v).blk.resp = Resp.plain (if s.blk.dstate d = 2 then stBUSY else stSTATE) ∧
      Safety.Keeps (fun _ _ => false) s (s.put p 0x5001 (d + 1) v) := by
  have hds := Block.counted_dstate s.blk hd
  have hc := modeWrite_of_refused (b := s.blk.counted) (mode_le_of_accepts hd ha) (by rwa [hds])
    (by rwa [hds, Block.counted_mode _ hd])
  rw [hds] at hc
  exact State.put_of_refused hs ha.1 (dictWrite_mode hd ha hc (by split <;> decide))

/-- A code above 0xC is out of range, whatever state the domain is in (R28). -/
theorem put_mode_of_out_of_range {d : Nat} (hd : d < 8) (hh : serverHears s.blk p = true)
    (ha : accessCheck s.blk p 0x5001 (d + 1) true = none) (hlo : 0xC < v) (hhi : v < 256) :
    (s.put p 0x5001 (d + 1) v).blk.resp.status = stRANGE ∧ Safety.Keeps (fun _ _ => false) s (s.put p 0x5001 (d + 1) v) := by
  have hbad : valueOk s.blk.counted modeRow 0x5001 (d + 1) v = false := by simpa [valueOk_mode] using hlo
  obtain ⟨hresp, hkeeps⟩ := State.put_of_refused hs hh
    (dictWrite_of_not_valueOk ((accessCheck_counted ..).trans ha) (odRow?_mode hd) hhi hbad .path s.mem)
  exact ⟨congrArg Resp.status hresp, hkeeps⟩

end

/-- Settles O10: by R22 and R28 the chapter's status decides, and where it is OK only drivers, pattern engine and banks follow, none of
which holds an assignment or a mode. -/
theorem podAndModeWritesTakeEffect : Obligations.PodAndModeWritesTakeEffect := by
  unfold Obligations.PodAndModeWritesTakeEffect
  refine ⟨?_, ?_, ?_, ?_, ?_⟩
  · intro s p n v hs hn ha hv hnow hnew
    exact ⟨_, exec_podAssignWrite hs hn p v, put_podDom_of_idle hs hn ha hv hnow hnew⟩
  · intro s p d v hs hd ha hst h
    exact ⟨_, exec_modeWrite hs hd p v, put_mode_of_unarmed hs hd ha hst h⟩
  · intro s p n v hs hn ha hv h
    obtain ⟨hresp, hkeeps⟩ := put_podDom_of_not_idle hs hn ha hv h
    exact ⟨_, exec_podAssignWrite hs hn p v, hresp, hkeeps.rd (by omega) rfl (by decide) rfl, hkeeps⟩
  · intro s p d v hs hd ha hst h
    obtain ⟨hresp, hkeeps⟩ := put_mode_of_refused hs hd ha hst h
    exact ⟨_, exec_modeWrite hs hd p v, hresp, hkeeps.rd (by omega) rfl (by decide) rfl, hkeeps⟩
  · intro s p d v hs hd hh ha hlo hhi
    obtain ⟨hresp, hkeeps⟩ := put_mode_of_out_of_range hs hd hh ha hlo hhi
    exact ⟨_, exec_modeWrite hs hd p v, hresp, hkeeps.rd (by omega) rfl (by decide) rfl, hkeeps⟩

end Sys2Proof.Machine

/-! # A write of 1 to a flag over BAR0 at an offset that is not aligned (R49, R55, R441) -/

namespace Sys2Proof.Machine

/-! ### A misaligned write of a register is rejected (R55, R441) -/

/-- A module that serves rejects a 32-bit write at an offset that is no multiple of 4, whatever the register. -/
theorem barPut_of_misaligned {s : State} (hs : Safety.Serving s) (hup : s.blk.barUp = true) {off : Nat} (hoff : off < 0x2000000)
    (hal : off % 4 ≠ 0) (mem : List Host.Cell) (v : Nat) : barPut mem off v s.blk = rejectWrite off stACCESS s.blk := by
  obtain ⟨_, hready, hps, hentry, _⟩ := hs
  have hwake : barWake off v s.blk = s.blk := by
    have hne : off ≠ 0x40 := fun h => hal (h ▸ rfl)
    simp [barWake, hne, awake, hps, hentry]
  have hawake : s.blk.asleepInHold = false := by simp [Block.asleepInHold, hps]
  have hwin : ¬ 0x4000000 ≤ off := by omega
  have hbank : ¬ 0x2000000 ≤ off := by omega
  simp [barPut, barWrite, hup, hwin, Block.ready, hready, hwake, hawake, hbank, hal]

/-- A rejected write shows in registers of BAR0 alone, unless it is the hardware that fails. -/
theorem rejectWrite_rd (off : Nat) {st : Nat} (hst : st ≠ stHW) (b : Block) (i r : Nat) :
    (rejectWrite off st b).rd i r = b.rd i r := by simp [rejectWrite, hst]

/-! ### The flags of STIM_STATUS_t (R324) -/

/-- Every offset from 0xD20 to 0xD3F lists the flags of the register in which it lies, one inside the register too. -/
theorem barFlags_stimStatus {off : Nat} (hlo : 0xD20 ≤ off) (hhi : off < 0xD40) :
    barFlags off = [(8, 0x3A00 + (off - 0xD20) / 4, 6), (9, 0x3A00 + (off - 0xD20) / 4, 9)] := by
  have hne : off ≠ 0x200 ∧ off ≠ 0x600 ∧ off ≠ 0xB00 ∧ off ≠ 0xB04 ∧ off ≠ 0xD00 := by omega
  obtain ⟨h1, h2, h3, h4, h5⟩ := hne
  simp [barFlags, h1, h2, h3, h4, h5, hlo, hhi]

/-- FLAG_CLEAR while VIN is valid: `flagCommand`, then the end of every command. -/
theorem exec_flagClear {s : State} (hs : Safety.Serving s) {f : FlagRef} (hf : f.wf = true) (v : Nat) (hw : Bool) :
    exec (.flagClear f v hw) s = .next (s.run (fun mem b => flagCommand mem f v hw b)) := by
  have hact : ((Instr.flagClear f v hw).wf && s.blk.power.on) = true := by simp [Instr.wf, hf, hs.1]
  show s.act _ _ = _
  rw [State.act_next, if_pos hact]

/-- A write of 1 to UNDERRUN at an offset inside STIM_STATUS_t is rejected: every flag and counter stays as it is. -/
theorem exec_flagClear_underrun_of_misaligned {s : State} (hs : Safety.Serving s) (hup : s.blk.barUp = true) {off : Nat}
    (hlo : 0xD20 ≤ off) (hhi : off < 0xD40) (hal : off % 4 ≠ 0) :
    ∃ t, exec (.flagClear (.bar off 8) 1 false) s = .next t ∧ ∀ i r, r < 256 → Safety.reporting i r = false →
      t.blk.rd i r = s.blk.rd i r := by
  have hf : (FlagRef.bar off 8).wf = true := by simp [FlagRef.wf]; omega
  have hplace : 8 ∈ flagPlaces off := by simp [flagPlaces, barFlags_stimStatus hlo hhi]
  have hcommand : flagCommand s.mem (.bar off 8) 1 false s.blk = rejectWrite off stACCESS s.blk := by
    simp [flagCommand, hplace, barPut_of_misaligned hs hup (show off < 0x2000000 by omega) hal]
  refine ⟨_, exec_flagClear hs hf 1 false, fun i r hr hi => ?_⟩
  rw [State.run_rd _ _ _ _ hr hi, hcommand, rejectWrite_rd _ (by decide)]

/-! ### The counterexample -/

/-- A module that is READY in PS0 with its function enabled, where the stimulus of domain 0 has flagged an UNDERRUN (R317). -/
def underrunFlagged : State :=
  { State.reset with
    blk := { (State.reset.blk.wr 0x2001 0 1).wr 0x3A00 6 1 with pcie := { Pcie.off with perst := false, loaded := true } } }

theorem underrunFlagged_serving : Safety.Serving underrunFlagged := by decide

theorem underrunFlagged_barUp : underrunFlagged.blk.barUp = true := by decide

theorem underrunFlagged_rd : underrunFlagged.blk.rd 0x3A00 6 = 1 := by decide

/-- Refutes O28: its third clause takes every offset below 0x1800 for which `barFlags` lists a flag. 0xD21 is one of them, inside
STIM_STATUS_0, but no aligned offset: by R55 and R441 the write is rejected with ERR_ACCESS and discarded whole, and UNDERRUN stays
set although hardware has not set it in that cycle. -/
theorem not_flagsAndCountersClear : ¬ Obligations.FlagsAndCountersClear := by
  unfold Obligations.FlagsAndCountersClear
  intro h
  obtain ⟨_, _, hbar, _⟩ := h
  obtain ⟨t, hexec, hclear, _⟩ := hbar underrunFlagged 0xD21 8 0x3A00 6 false underrunFlagged_serving underrunFlagged_barUp
    (by decide) (by decide)
  obtain ⟨t', hexec', hkeep⟩ := exec_flagClear_underrun_of_misaligned underrunFlagged_serving underrunFlagged_barUp
    (off := 0xD21) (by decide) (by decide) (by decide)
  obtain rfl : t = t' := Host.Outcome.next.inj (hexec.symm.trans hexec')
  have hset : t.blk.rd 0x3A00 6 = 1 := (hkeep _ _ (by decide) rfl).trans underrunFlagged_rd
  exact absurd (hset.symm.trans hclear) (by decide)

end Sys2Proof.Machine

/-! # Locked coefficients (R129) -/

namespace Sys2Proof.Machine

/-! ### Writes of the Indigo objects (R139, R140) -/

/-- Whether a value of an Indigo object is in range does not depend on the block, unless it is one of the forms. -/
theorem valueOk_indigo (b c : Block) {r : OdRow} {idx sub v : Nat} (hpage : idx / 256 = 0x46 ∨ idx / 256 = 0x47)
    (hform : r.chk ≠ .form) : valueOk b r idx sub v = valueOk c r idx sub v := by
  have hclock : idx ≠ 0x2100 := by omega
  have hcross : crossOk b idx sub v = crossOk c idx sub v := by
    rcases hpage with h | h <;> simp [crossOk, h, hclock]
  cases hchk : r.chk with
  | form => exact absurd hchk hform
  | _ => simp [valueOk, hchk, hcross]

/-- Chapter 04 serves the writes of its objects that are neither flags nor clear fields. -/
theorem chapterWrite_indigo {r : OdRow} {idx sub : Nat} (hr : odRow? idx sub = some r) (hidx : idx / 4096 = 4)
    (hflag : r.chk ≠ .w1c) (hbool : r.ty ≠ .bool) (p : Path) (mem : List Host.Cell) (v : Nat) (b : Block) :
    chapterWrite p mem idx sub v b = indigoWrite idx sub v b := by
  have hnf : isFlag idx sub = false := by simp [isFlag, hr, hflag]
  have hnc : clearedBy idx sub = none := by simp [clearedBy, hr, hbool]
  simp [chapterWrite, hnf, hnc, hidx]

/-- An accepted write of a number to an Indigo object is answered with the status that chapter 04 gives, whether or not an owner is
armed: the object is not RWS. -/
theorem dictWrite_indigo {s : State} {p : Path} {r : OdRow} {idx sub v st : Nat} {c : Block} (ha : Safety.Accepts s p idx sub v)
    (hr : odRow? idx sub = some r) (hpage : idx / 256 = 0x46 ∨ idx / 256 = 0x47) (hflag : r.chk ≠ .w1c) (hform : r.chk ≠ .form)
    (hbool : r.ty ≠ .bool) (hrws : r.acc ≠ .rws) (hc : indigoWrite idx sub v s.blk.counted = (st, c)) (hst : st ≠ stRANGE) :
    dictWrite p .path s.mem idx sub (valueData idx sub v) s.blk.counted = (some (Resp.plain st), c) := by
  obtain ⟨_, haccess, hrow⟩ := ha
  simp only [hr, Option.any_some, Bool.and_eq_true, decide_eq_true_eq] at hrow
  obtain ⟨⟨hv, hok⟩, _⟩ := hrow
  have howner : ownerArmed s.blk.counted r idx sub = false := by simp [ownerArmed, hrws]
  exact dictWrite_of_chapterWrite ((accessCheck_counted ..).trans haccess) hr hv ((valueOk_indigo _ _ hpage hform).trans hok) howner
    ((chapterWrite_indigo hr (by omega) hflag hbool ..).trans hc) hst .path (by omega) (by omega) (by omega)

/-- The row of a bank's tap count. -/
def tapRow (k : Nat) : OdRow := ⟨0x4600, 0x463F, 9 + k, 9 + k, .u8, .rw, 1, .rng 1 64⟩

/-- The row of a bank request. -/
def bankRequestRow : OdRow := ⟨0x4600, 0x463F, 6, 6, .u8, .wo, 0, .any⟩

/-- The row of a coefficient: h(0) has a default of its own (R126). -/
def coefRow (sub : Nat) : OdRow :=
  if sub = 1 then ⟨0x4700, 0x477F, 1, 1, .i16, .rw, 0x4000, .any⟩ else ⟨0x4700, 0x477F, 2, 64, .i16, .rw, 0, .any⟩

theorem odRow?_tap {k e : Nat} (hk : k < 2) (he : e < 64) : odRow? (0x4600 + e) (9 + k) = some (tapRow k) :=
  (by decide : ∀ e < 64, ∀ k < 2, odRow? (0x4600 + e) (9 + k) = some (tapRow k)) e he k hk

theorem odRow?_bankRequest {e : Nat} (he : e < 64) : odRow? (0x4600 + e) 6 = some bankRequestRow :=
  (by decide : ∀ e < 64, odRow? (0x4600 + e) 6 = some bankRequestRow) e he

/-- The coefficient objects lie in page 0x47, bank B's 64 objects behind bank A's. -/
theorem coefObj_eq {k : Nat} (hk : k < 2) (e : Nat) : coefObj k e = 0x4700 + 64 * k + e := by
  unfold coefObj
  split <;> omega

theorem odRow?_coef {k e sub : Nat} (hk : k < 2) (he : e < 64) (hlo : 1 ≤ sub) (hhi : sub ≤ 64) :
    odRow? (coefObj k e) sub = some (coefRow sub) := by
  have hobj := coefObj_eq hk e
  have hpage : coefObj k e / 256 = 0x47 := by omega
  have hrange : 0x4700 ≤ coefObj k e ∧ coefObj k e ≤ 0x477F := by omega
  by_cases h1 : sub = 1
  · simp [odRow?, hpage, odPage, od47, OdRow.holds, hrange, coefRow, h1]
  · have h0 : sub ≠ 0 := by omega
    have h2 : 2 ≤ sub := by omega
    have hle : ¬ sub ≤ 1 := by omega
    simp [odRow?, hpage, odPage, od47, OdRow.holds, hrange, coefRow, h0, h1, h2, hle, hhi]

/-! ### A write of a bank in use (R129) -/

/-- Coefficient writes find the bank and the engine in the object's index. -/
theorem indigoWrite_coef {k e : Nat} (hk : k < 2) (he : e < 64) (sub v : Nat) (b : Block) :
    indigoWrite (coefObj k e) sub v b = coefWrite k e (coefObj k e) sub v b := by
  have hobj := coefObj_eq hk e
  have hsync : coefObj k e ≠ 0x4010 := by omega
  have hpage : coefObj k e / 256 = 0x47 := by omega
  have hbank : (coefObj k e - 0x4700) / 64 = k := by omega
  have hengine : (coefObj k e - 0x4700) % 64 = e := by omega
  simp [indigoWrite, hsync, hpage, hbank, hengine]

/-- So do writes of tap counts, with the bank in the subindex. -/
theorem indigoWrite_tap {k e : Nat} (hk : k < 2) (he : e < 64) (v : Nat) (b : Block) :
    indigoWrite (0x4600 + e) (9 + k) v b = coefWrite k e (0x4600 + e) (9 + k) v b := by
  have hsync : 0x4600 + e ≠ 0x4010 := by omega
  have hpage : (0x4600 + e) / 256 = 0x46 := by omega
  obtain rfl | rfl : k = 0 ∨ k = 1 := by omega
  · simp [indigoWrite, hsync, hpage]
  · simp [indigoWrite, hsync, hpage]

/-- The active bank is locked, and during a fade either bank. -/
theorem bankLocked_of_inUse {b : Block} {k e : Nat}
    (h : b.engBank e = k ∨ ∃ f, (b.engine e).fade = some f ∧ f.running = true) : bankLocked b k e = true := by
  rcases h with h | ⟨f, hf, hrun⟩
  · simp [bankLocked, h]
  · simp [bankLocked, hf, hrun]

theorem coefWrite_of_locked {b : Block} {k e : Nat} (h : bankLocked b k e = true) (idx sub v : Nat) :
    coefWrite k e idx sub v b = (stSTATE, b) := by
  have hne : stSTATE ≠ stOK := by decide
  simp [coefWrite, whenOk, h, hne]

/-! ### In the block that counts the request -/

@[simp] theorem Block.counted_engine (b : Block) (e : Nat) : b.counted.engine e = b.engine e := rfl

theorem Block.counted_engBank (b : Block) (e : Nat) : b.counted.engBank e = b.engBank e :=
  Block.counted_rd b (by decide) (by unfold eObj; omega)

theorem Block.counted_engOn (b : Block) (e : Nat) : b.counted.engOn e = b.engOn e := by
  unfold Block.engOn Block.on
  rw [Block.counted_rd b (by decide) (by unfold eObj; omega)]

/-- Counting the request unlocks no bank. -/
theorem bankLocked_counted_of_inUse {b : Block} {k e : Nat}
    (h : b.engBank e = k ∨ (b.engOn e = true ∧ ∃ f, (b.engine e).fade = some f ∧ f.running = true)) :
    bankLocked b.counted k e = true :=
  bankLocked_of_inUse (h.imp (Block.counted_engBank ..).trans And.right)

/-! ### The command -/

/-- COEFFICIENT_WRITE is a write of the coefficient's subindex. -/
theorem exec_coefficientWrite_coef {s : State} (hs : Safety.Serving s) {k e sub : Nat} (hk : k < 2) (he : e < 64) (hlo : 1 ≤ sub)
    (hhi : sub ≤ 64) (p : Path) (v : Nat) :
    exec (.coefficientWrite p k e sub v) s = .next (s.put p (coefObj k e) sub v) := by
  have hact : ((Instr.coefficientWrite p k e sub v).wf && s.blk.power.on) = true := by simp [Instr.wf, hk, he, hhi, hs.1]
  have hne : sub ≠ 0 := by omega
  show s.act _ _ = _
  rw [State.act_next, if_pos hact, State.put]
  simp only [coefficientCommand, if_neg hne]

/-- With sub 0 it is a write of the bank's tap count. -/
theorem exec_coefficientWrite_tap {s : State} (hs : Safety.Serving s) {k e : Nat} (hk : k < 2) (he : e < 64) (p : Path) (v : Nat) :
    exec (.coefficientWrite p k e 0 v) s = .next (s.put p (0x4600 + e) (9 + k) v) := by
  have hact : ((Instr.coefficientWrite p k e 0 v).wf && s.blk.power.on) = true := by simp [Instr.wf, hk, he, hs.1]
  show s.act _ _ = _
  rw [State.act_next, if_pos hact, State.put]
  simp only [coefficientCommand, if_true]

section

variable {s : State} {p : Path} {k e v : Nat} (hs : Safety.Serving s) (hk : k < 2) (he : e < 64)
  (h : s.blk.engBank e = k ∨ (s.blk.engOn e = true ∧ ∃ f, (s.blk.engine e).fade = some f ∧ f.running = true))
include hs hk he h

/-- The coefficients of a bank in use stay (R129). -/
theorem put_coef_of_inUse {sub : Nat} (hlo : 1 ≤ sub) (hhi : sub ≤ 64) (ha : Safety.Accepts s p (coefObj k e) sub v) :
    (s.put p (coefObj k e) sub v).blk.resp = Resp.plain stSTATE ∧
      Safety.Keeps (fun _ _ => false) s (s.put p (coefObj k e) sub v) := by
  have hpage : coefObj k e / 256 = 0x47 := by have := coefObj_eq hk e; omega
  have hrow : (coefRow sub).chk = .any ∧ (coefRow sub).ty = .i16 ∧ (coefRow sub).acc = .rw := by unfold coefRow; split <;> decide
  obtain ⟨hchk, hty, hacc⟩ := hrow
  have hc := (indigoWrite_coef hk he sub v s.blk.counted).trans (coefWrite_of_locked (bankLocked_counted_of_inUse h) _ _ _)
  exact State.put_of_refused hs ha.1 (dictWrite_indigo ha (odRow?_coef hk he hlo hhi) (.inr hpage) (by simp [hchk]) (by simp [hchk])
    (by simp [hty]) (by simp [hacc]) hc (by decide))

/-- So does its tap count (R129). -/
theorem put_tap_of_inUse (ha : Safety.Accepts s p (0x4600 + e) (9 + k) v) :
    (s.put p (0x4600 + e) (9 + k) v).blk.resp = Resp.plain stSTATE ∧
      Safety.Keeps (fun _ _ => false) s (s.put p (0x4600 + e) (9 + k) v) := by
  have hc := (indigoWrite_tap hk he v s.blk.counted).trans (coefWrite_of_locked (bankLocked_counted_of_inUse h) _ _ _)
  exact State.put_of_refused hs ha.1 (dictWrite_indigo ha (odRow?_tap hk he) (.inl (by omega)) (by simp [tapRow]) (by simp [tapRow])
    (by simp [tapRow]) (by simp [tapRow]) hc (by decide))

end

/-- Settles O19: past the checks of R60 chapter 04 finds the bank locked and refuses the write where it stands (R129). -/
theorem coefficientsOfABankInUseAreLocked : Obligations.CoefficientsOfABankInUseAreLocked := by
  unfold Obligations.CoefficientsOfABankInUseAreLocked
  constructor
  · intro s p k e sub v hs hk he hlo hhi ha h
    exact ⟨_, exec_coefficientWrite_coef hs hk he hlo hhi p v, put_coef_of_inUse hs hk he h hlo hhi ha⟩
  · intro s p k e v hs hk he ha h
    exact ⟨_, exec_coefficientWrite_tap hs hk he p v, put_tap_of_inUse hs hk he h ha⟩

end Sys2Proof.Machine

/-! # Bank requests and fades (R127, R128) -/

namespace Sys2Proof.Machine

/-! ### What the derived registers of an engine leave alone (R139) -/

@[simp] theorem refreshEngine_engine (e k : Nat) (b : Block) : (refreshEngine e b).engine k = b.engine k := rfl

@[simp] theorem Block.engine_wr (b : Block) (idx sub v k : Nat) : (b.wr idx sub v).engine k = b.engine k := rfl

@[simp] theorem refreshEngine_engBank (e : Nat) (b : Block) : (refreshEngine e b).engBank e = b.engBank e := by
  have hne : ∀ r, r < 256 → r ≠ 5 → odKey (eObj e) 5 ≠ odKey (eObj e) r := fun r hr h5 heq =>
    h5 ((odKey_inj (by decide) hr).1 heq).2.symm
  simp only [refreshEngine, Block.engBank, Block.rd_wr_ne _ _ _ _ _ _ (hne 8 (by decide) (by decide)),
    Block.rd_wr_ne _ _ _ _ _ _ (hne 0xB (by decide) (by decide)), Block.rd_wr_ne _ _ _ _ _ _ (hne 0xD (by decide) (by decide))]

@[simp] theorem Block.engBank_setEngine (b : Block) (e k : Nat) (x : Engine) : (b.setEngine k x).engBank e = b.engBank e := rfl

/-! ### The start and the end of a fade -/

@[simp] theorem startFade_engBank (e bank k : Nat) (b : Block) : (startFade e bank b).engBank k = b.engBank k := by
  unfold startFade; split <;> rfl

/-- A request starts a fade of its engine, unless it names the active bank. -/
theorem startFade_engine_self (e bank : Nat) (b : Block) : (startFade e bank b).engine e =
    if bank = b.engBank e then b.engine e else { b.engine e with fade := some { target := bank, done := 0, len := 0 } } := by
  unfold startFade
  split
  · rfl
  · exact Block.engine_setEngine_self ..

theorem startFade_engine_ne {e k : Nat} (h : k ≠ e) (bank : Nat) (b : Block) : (startFade e bank b).engine k = b.engine k := by
  unfold startFade
  split
  · rfl
  · exact Block.engine_setEngine_ne _ _ h

/-- With no fade there is none to end. -/
theorem fadeEnd_of_none {e : Nat} {b : Block} (h : (b.engine e).fade = none) : fadeEnd e b = b := by
  simp [fadeEnd, h]

/-- A fade that is still to make outputs does not end. -/
theorem fadeEnd_of_running {e : Nat} {b : Block} {f : Fade} (h : (b.engine e).fade = some f) (hrun : f.running = true) :
    fadeEnd e b = b := by
  simp [fadeEnd, h, hrun]

/-- An engine whose fade has ended and with no request pending. -/
def Block.unfaded (b : Block) (e : Nat) : Block := b.setEngine e { b.engine e with fade := none, pendBank := none }

@[simp] theorem Block.unfaded_engBank (b : Block) (e k : Nat) : (b.unfaded e).engBank k = b.engBank k := rfl

@[simp] theorem Block.unfaded_engine_self (b : Block) (e : Nat) :
    (b.unfaded e).engine e = { b.engine e with fade := none, pendBank := none } := Block.engine_setEngine_self ..

theorem Block.unfaded_engine_ne (b : Block) {e k : Nat} (h : k ≠ e) : (b.unfaded e).engine k = b.engine k :=
  Block.engine_setEngine_ne _ _ h

/-- A fade that has made its last output ends (R128). -/
theorem fadeEnd_of_done {e : Nat} {b : Block} {f : Fade} (h : (b.engine e).fade = some f) (hdone : f.running = false)
    (hpend : (b.engine e).pendBank = none) : fadeEnd e b = refreshEngine e (b.unfaded e) := by
  simp [fadeEnd, h, hdone, hpend, Block.unfaded]

/-- A pending request is then served as one that arrives with no fade running (R128). -/
theorem fadeEnd_of_done_pending {e p : Nat} {b : Block} {f : Fade} (h : (b.engine e).fade = some f) (hdone : f.running = false)
    (hpend : (b.engine e).pendBank = some p) : fadeEnd e b = refreshEngine e (startFade e p (b.unfaded e)) := by
  simp [fadeEnd, h, hdone, hpend, Block.unfaded]

/-- The end of a fade takes the pending request away, and leaves the other engines alone. -/
theorem fadeEnd_of_done_spec {e : Nat} {b : Block} {f : Fade} (h : (b.engine e).fade = some f) (hdone : f.running = false) :
    ((fadeEnd e b).engine e).pendBank = none ∧ (fadeEnd e b).engBank e = b.engBank e ∧
    ((fadeEnd e b).engine e).fade = (match (b.engine e).pendBank with
      | some p => if p = b.engBank e then none else some { target := p, done := 0, len := 0 }
      | none => none) ∧
    ∀ k, k ≠ e → (fadeEnd e b).engine k = b.engine k := by
  cases hpend : (b.engine e).pendBank with
  | none =>
    rw [fadeEnd_of_done h hdone hpend]
    simp only [refreshEngine_engine, refreshEngine_engBank, Block.unfaded_engine_self, Block.unfaded_engBank, true_and]
    exact fun k hk => b.unfaded_engine_ne hk
  | some p =>
    rw [fadeEnd_of_done_pending h hdone hpend]
    simp only [refreshEngine_engine, refreshEngine_engBank, startFade_engBank, startFade_engine_self, Block.unfaded_engine_self,
      Block.unfaded_engBank, true_and]
    refine ⟨?_, ?_, fun k hk => (startFade_engine_ne hk p _).trans (b.unfaded_engine_ne hk)⟩
    · split <;> rfl
    · split <;> rfl

/-! ### A bank request (R127, R128) -/

/-- On an engine that is off the bank is active at once. -/
theorem bankRequest_of_off {e v : Nat} {b : Block} (hv : v < 2) (hoff : b.engOn e = false) (hfade : (b.engine e).fade = none) :
    (bankRequest e v b).engBank e = v ∧ ((bankRequest e v b).engine e).fade = none ∧
      ((bankRequest e v b).engine e).pendBank = none := by
  have heq : bankRequest e v b = refreshEngine e ((b.unfaded e).wr (eObj e) 5 v) := by
    simp only [bankRequest, fadeEnd_of_none hfade, hoff, Bool.not_false, if_true, Block.unfaded]
  rw [heq]
  refine ⟨?_, ?_, ?_⟩
  · rw [refreshEngine_engBank, Block.engBank, Block.rd_wr_self, Nat.mod_eq_of_lt (by omega)]
  · simp
  · simp

/-- On one that is on and not in a fade, a fade to another bank begins. -/
theorem bankRequest_of_unfaded {e v : Nat} {b : Block} (hon : b.engOn e = true) (hfade : (b.engine e).fade = none)
    (hne : b.engBank e ≠ v) :
    ((bankRequest e v b).engine e).fade = some { target := v, done := 0, len := 0 } ∧
      (bankRequest e v b).engBank e = b.engBank e := by
  have heq : bankRequest e v b = refreshEngine e (startFade e v b) := by simp [bankRequest, fadeEnd_of_none hfade, hon, hfade]
  rw [heq]
  simp [startFade_engine_self, hne.symm]

/-- During a fade the request is pending. -/
theorem bankRequest_of_running {e v : Nat} {b : Block} {f : Fade} (hon : b.engOn e = true) (hfade : (b.engine e).fade = some f)
    (hrun : f.running = true) :
    ((bankRequest e v b).engine e).fade = some f ∧ ((bankRequest e v b).engine e).pendBank = some v ∧
      (bankRequest e v b).engBank e = b.engBank e := by
  have heq : bankRequest e v b = refreshEngine e (b.setEngine e { b.engine e with pendBank := some v }) := by
    simp [bankRequest, fadeEnd_of_running hfade hrun, hon, hfade]
  rw [heq]
  simp [hfade]

/-! ### The request's two ways in -/

/-- An answer leaves the units alone. -/
@[simp] theorem answered_engine (p : Path) (x : Resp) (b : Block) (k : Nat) : (answered p (some x, b)).engine k = b.engine k := by
  unfold answered; dsimp only; split <;> rfl

/-- What a write that a module takes and answers leaves of the engines: those of the served block. -/
theorem State.put_engine_of_dictWrite {s : State} {p : Path} {idx sub v : Nat} {x : Resp} {c : Block} (hs : Safety.Serving s)
    (hh : serverHears s.blk p = true)
    (hw : dictWrite p .path s.mem idx sub (valueData idx sub v) s.blk.counted = (some x, c)) (k : Nat) :
    (s.put p idx sub v).blk.engine k = c.engine k := by
  have hp := (dictPut_of_serving hs hh s.mem idx sub v).trans (congrArg (answered p) hw)
  rw [State.put, State.run_engine, hp, answered_engine]

/-- No command reports in the objects of the engines. -/
theorem reporting_engine {e : Nat} (he : e < 64) (r : Nat) : Safety.reporting (0x4600 + e) r = false := by
  have h1 : 0x4600 + e ≠ 0x8000 ∧ 0x4600 + e ≠ 0x8001 ∧ 0x4600 + e ≠ 0x8002 := by omega
  have h2 : 0x4600 + e ≠ 0x1E20 ∧ 0x4600 + e ≠ 0x2006 := by omega
  simp [Safety.reporting, h1, h2]

theorem State.run_engBank (s : State) (f : List Host.Cell → Block → Block) {e : Nat} (he : e < 64) :
    (s.run f).blk.engBank e = (f s.mem s.blk).engBank e :=
  State.run_rd s f _ _ (by decide) (reporting_engine he 5)

/-- A module that serves takes INDIGO_BANK_REQ at once. -/
theorem barPut_bankRequest {s : State} (hs : Safety.Serving s) (hup : s.blk.barUp = true) {e v : Nat} (he : e < 64) (hv : v < 2)
    (mem : List Host.Cell) : barPut mem 0x31C (e + 256 * (v % 2)) s.blk = bankRequest e v s.blk := by
  obtain ⟨_, hready, hps, hentry, _⟩ := hs
  have hwake : barWake 0x31C (e + 256 * (v % 2)) s.blk = s.blk := by simp [barWake, awake, hps, hentry]
  have hawake : s.blk.asleepInHold = false := by simp [Block.asleepInHold, hps]
  have hengine : bits ((e + 256 * (v % 2)) % 2 ^ 32) 0 6 = e := by simp only [bits]; omega
  have hbank : bits ((e + 256 * (v % 2)) % 2 ^ 32) 8 1 = v := by simp only [bits]; omega
  have hserved : barWrite32 mem 0x31C (e + 256 * (v % 2)) s.blk = bankRequest e v s.blk := by
    simp only [barWrite32, regWrite, hengine, hbank, if_true]
  simp [barPut, barWrite, hup, Block.ready, hready, hwake, hawake, hserved]

/-- BANK_REQUEST while VIN is valid: a write of the register or of the subindex, then the end of every command. -/
theorem exec_bankRequest {s : State} (hs : Safety.Serving s) {e : Nat} (he : e < 64) (w : Via) (v : Nat) :
    exec (.bankRequest w e v) s =
      .next (s.run (fun mem b => viaPut w mem 0x31C (e + 256 * (v % 2)) (0x4600 + e) 6 v b)) := by
  have hact : ((Instr.bankRequest w e v).wf && s.blk.power.on) = true := by simp [Instr.wf, he, hs.1]
  show s.act _ _ = _
  rw [State.act_next, if_pos hact]

theorem indigoWrite_bankRequest {e : Nat} (he : e < 64) (v : Nat) (b : Block) :
    indigoWrite (0x4600 + e) 6 v b = (stOK, bankRequest e v b) := by
  have hsync : 0x4600 + e ≠ 0x4010 := by omega
  have hpage : (0x4600 + e) / 256 = 0x46 := by omega
  simp [indigoWrite, hsync, hpage]

/-- Either way in, a request that reaches the module is answered OK and served by `bankRequest`; the path of the dictionary counts it
first, which concerns no engine. -/
theorem exec_bankRequest_served {s : State} (hs : Safety.Serving s) {w : Via} {e v : Nat} (he : e < 64) (hv : v < 2)
    (hr : Safety.Reaches s w (0x4600 + e) 6 v) :
    ∃ t c, exec (.bankRequest w e v) s = .next t ∧ Safety.Answered w stOK t ∧
      t.blk.engine e = (bankRequest e v c).engine e ∧ t.blk.engBank e = (bankRequest e v c).engBank e ∧
      c.engine e = s.blk.engine e ∧ c.engOn e = s.blk.engOn e ∧ c.engBank e = s.blk.engBank e := by
  obtain ⟨hbar, hdict⟩ := hr
  cases w with
  | bar =>
    have hput := barPut_bankRequest hs (hbar rfl) he hv s.mem
    refine ⟨_, s.blk, exec_bankRequest hs he .bar v, trivial, ?_, ?_, rfl, rfl, rfl⟩
    · rw [State.run_engine, viaPut, hput]
    · rw [State.run_engBank _ _ he, viaPut, hput]
  | dict p =>
    have ha : Safety.Accepts s p (0x4600 + e) 6 v := hdict p (by cases p <;> decide) rfl
    have hw := dictWrite_indigo ha (odRow?_bankRequest he) (.inl (by omega)) (by decide) (by decide) (by decide) (by decide)
      (indigoWrite_bankRequest he v s.blk.counted) (by decide)
    obtain ⟨hresp, hrd⟩ := State.put_of_dictWrite hs ha.1 hw
    exact ⟨s.put p (0x4600 + e) 6 v, s.blk.counted, exec_bankRequest hs he (.dict p) v, hresp,
      State.put_engine_of_dictWrite hs ha.1 hw e, hrd _ _ (by decide) (reporting_engine he 5),
      rfl, Block.counted_engOn .., Block.counted_engBank ..⟩

/-- FADE_END while VIN is valid. -/
theorem exec_fadeEnd {s : State} (hon : s.blk.power.on = true) {e : Nat} (he : e < 64) :
    exec (.fadeEnd e) s = .next (s.run (fun _ b => fadeEnd e b)) := by
  have hact : ((Instr.fadeEnd e).wf && s.blk.power.on) = true := by simp [Instr.wf, he, hon]
  show s.act _ _ = _
  rw [State.act_next, if_pos hact]

/-- Settles O20: either way in, the request comes to `bankRequest`, whose branches are those of R127, and FADE_END to `fadeEnd`, which
serves the pending request (R128). -/
theorem bankRequestsFade : Obligations.BankRequestsFade := by
  unfold Obligations.BankRequestsFade
  refine ⟨?_, ?_, ?_, ?_⟩
  · intro s w e v hs he hv hr hoff hfade
    obtain ⟨t, c, hexec, hok, hengine, hbank, hce, hcon, _⟩ := exec_bankRequest_served hs he hv hr
    rw [← hcon] at hoff
    rw [← hce] at hfade
    refine ⟨t, hexec, hok, ?_⟩
    rw [hengine, hbank]
    exact bankRequest_of_off hv hoff hfade
  · intro s w e v hs he hv hr hon hfade hne
    obtain ⟨t, c, hexec, hok, hengine, hbank, hce, hcon, hcb⟩ := exec_bankRequest_served hs he hv hr
    rw [← hcon] at hon
    rw [← hce] at hfade
    rw [← hcb] at hne
    refine ⟨t, hexec, hok, ?_⟩
    rw [hengine, hbank, ← hcb]
    exact bankRequest_of_unfaded hon hfade hne
  · intro s w e v f hs he hv hr hon hfade hrun
    obtain ⟨t, c, hexec, hok, hengine, hbank, hce, hcon, hcb⟩ := exec_bankRequest_served hs he hv hr
    rw [← hcon] at hon
    rw [← hce] at hfade
    refine ⟨t, hexec, hok, ?_⟩
    rw [hengine, hbank, ← hcb]
    exact bankRequest_of_running hon hfade hrun
  · intro s e f hon he hfade hdone
    refine ⟨_, exec_fadeEnd hon he, ?_⟩
    simp only [State.run_engine, State.run_engBank _ _ he]
    exact fadeEnd_of_done_spec hfade hdone

end Sys2Proof.Machine

/-! # Regions of the capture store (R204, R205, R208, R242, R243) -/

namespace Sys2Proof.Machine

/-! ### The store and the registers after a write of one number -/

/-- What a write that a module takes and answers leaves in the store: the changes that the served block asks for are made. -/
theorem State.put_mem_of_dictWrite {s : State} {p : Path} {idx sub v : Nat} {x : Resp} {c : Block} (hs : Safety.Serving s)
    (hh : serverHears s.blk p = true)
    (hw : dictWrite p .path s.mem idx sub (valueData idx sub v) s.blk.counted = (some x, c)) :
    (s.put p idx sub v).mem = memApply s.mem c.mops := by
  have hp := (dictPut_of_serving hs hh s.mem idx sub v).trans (congrArg (answered p) hw)
  rw [State.put, State.run_mem, hp, answered_mops]

/-- A write whose effect touches no register keeps them all. -/
theorem State.put_keepsRegs_of_dictWrite {s : State} {p : Path} {idx sub v : Nat} {x : Resp} {c : Block} (hs : Safety.Serving s)
    (hh : serverHears s.blk p = true)
    (hw : dictWrite p .path s.mem idx sub (valueData idx sub v) s.blk.counted = (some x, c)) (hc : c.regs = s.blk.counted.regs) :
    Safety.KeepsRegs (fun _ _ => false) s (s.put p idx sub v) := by
  have hp := (dictPut_of_serving hs hh s.mem idx sub v).trans (congrArg (answered p) hw)
  refine ⟨fun i r hr hrep hi _ => ?_, rfl⟩
  rw [State.put, State.run_reg _ _ _ _ hr hrep, hp, answered_reg, Block.reg_of_regs hc, Block.counted_reg _ hr hi]

/-! ### The octets of a region -/

/-- An octet's unit lies in a region (R204). -/
def Block.inRegion (b : Block) (r a : Nat) : Bool :=
  decide (b.regionFirst r ≤ a / unitBytes) && decide (a / unitBytes < b.regionFirst r + b.regionSize r)

theorem Block.inRegion_iff (b : Block) (r a : Nat) :
    b.inRegion r a = true ↔ b.regionFirst r ≤ a / unitBytes ∧ a / unitBytes < b.regionFirst r + b.regionSize r := by
  simp [Block.inRegion]

/-- Where a region lies is a matter of its register alone. -/
theorem Block.inRegion_of_rd {b c : Block} {r : Nat} (h : c.rd 0x6000 (r + 1) = b.rd 0x6000 (r + 1)) (a : Nat) :
    c.inRegion r a = b.inRegion r a := by
  rw [Bool.eq_iff_iff, Block.inRegion_iff, Block.inRegion_iff]
  simp only [Block.regionFirst, Block.regionSize, h]

theorem Block.inRegion_of_regs {b c : Block} (h : c.regs = b.regs) (r a : Nat) : c.inRegion r a = b.inRegion r a :=
  Block.inRegion_of_rd (Block.rd_of_regs h ..) a

/-! ### Clearing (R208) -/

@[simp] theorem clearUnits_regs (lo n : Nat) (b : Block) : (clearUnits lo n b).regs = b.regs := by
  unfold clearUnits
  split <;> rfl

@[simp] theorem clearRegion_regs (r : Nat) (b : Block) : (clearRegion r b).regs = b.regs := clearUnits_regs ..

theorem clearRegions_regs (rs : List Nat) (b : Block) : (forEach rs clearRegion b).regs = b.regs :=
  forEach_keeps Block.regs (fun r _ c => clearRegion_regs r c) b

/-- Every octet of a cleared unit reads 0, the others as before. -/
theorem memRead_clearUnits (mem : List Host.Cell) (lo n : Nat) (b : Block) (a : Nat) :
    memRead (memApply mem (clearUnits lo n b).mops) a =
      if lo ≤ a / unitBytes ∧ a / unitBytes < lo + n then 0 else memRead (memApply mem b.mops) a := by
  have hunit : 0 < unitBytes := by decide
  unfold clearUnits
  split
  case isTrue h0 =>
    rw [if_neg (by omega)]
  case isFalse =>
    rw [memApply_append]
    refine (memRead_memClear ..).trans ?_
    simp only [Nat.le_div_iff_mul_le hunit, Nat.div_lt_iff_lt_mul hunit]

theorem memRead_clearRegion (mem : List Host.Cell) (r : Nat) (b : Block) (a : Nat) :
    memRead (memApply mem (clearRegion r b).mops) a = if b.inRegion r a then 0 else memRead (memApply mem b.mops) a := by
  simp only [clearRegion, memRead_clearUnits, Block.inRegion_iff]

/-- Every octet of one of the cleared regions reads 0, the others as before. -/
theorem memRead_clearRegions (mem : List Host.Cell) (rs : List Nat) (b : Block) (a : Nat) :
    memRead (memApply mem (forEach rs clearRegion b).mops) a =
      if rs.any (fun r => b.inRegion r a) then 0 else memRead (memApply mem b.mops) a := by
  induction rs generalizing b with
  | nil => rfl
  | cons r rs ih =>
    have hregs : ∀ q, (clearRegion r b).inRegion q a = b.inRegion q a := fun q => Block.inRegion_of_regs (clearRegion_regs r b) q a
    refine (ih (clearRegion r b)).trans ?_
    simp only [hregs, memRead_clearRegion, List.any_cons]
    by_cases h : b.inRegion r a = true <;> simp [h]

/-! ### An allocation (R204, R205) -/

/-- The allocation in force is the value written. -/
theorem setRegion_rd_self (r v : Nat) (b : Block) : (setRegion r v b).rd 0x6000 (r + 1) = v % 2 ^ 64 := by
  unfold setRegion
  rw [Block.rd_of_regs (clearRegion_regs ..), Block.rd_wr_self]

/-- A region lies where the value in its register says. -/
theorem Block.region_of_rd {b : Block} {r v : Nat} (hv : v < 2 ^ 32) (h : b.rd 0x6000 (r + 1) = v % 2 ^ 64) :
    b.regionFirst r = bits v 0 16 ∧ b.regionSize r = bits v 16 16 := by
  have h64 : v % 2 ^ 64 = v := Nat.mod_eq_of_lt (by omega)
  simp only [Block.regionFirst, Block.regionSize, h, h64, and_self]

/-- The octets of the region as it was and as it becomes read 0, the others as before. -/
theorem memRead_setRegion (mem : List Host.Cell) (r v : Nat) (b : Block) (a : Nat) :
    memRead (memApply mem (setRegion r v b).mops) a =
      if b.inRegion r a || (setRegion r v b).inRegion r a then 0 else memRead (memApply mem b.mops) a := by
  have hnew : (setRegion r v b).inRegion r a = ((clearRegion r b).wr 0x6000 (r + 1) v).inRegion r a :=
    Block.inRegion_of_regs (clearRegion_regs ..) r a
  rw [hnew, setRegion, memRead_clearRegion, Block.wr_mops, memRead_clearRegion]
  by_cases h : b.inRegion r a = true <;> simp [h]

/-! ### The access rules (R204, R243) -/

/-- A clear that names the region is refused as things stand. -/
def Block.regionHeld (b : Block) (r : Nat) : Bool := if r = 8 then stimulusBusy b else b.armed r

/-- Some armed domain is in PATTERN, RESPOND or WATCH. -/
theorem stimulusBusy_iff (b : Block) :
    stimulusBusy b = true ↔ ∃ d < 8, b.armed d = true ∧ (b.mode d = 0xA ∨ b.mode d = 0xB ∨ b.mode d = 8) := by
  simp [stimulusBusy, Block.armedDoms, or_assoc]

theorem regionWrite_of_free {b : Block} {r v : Nat} (h : regionStatus b r v = stOK) (hfree : r = 8 → stimulusBusy b = false) :
    regionWrite r v b = (stOK, setRegion r v b) := by
  have hst : ¬ (r = 8 ∧ stimulusBusy b = true) := fun ⟨h8, hbusy⟩ => by simp [hfree h8] at hbusy
  have hne : stOK ≠ stRANGE := by decide
  simp [regionWrite, whenOk, h, hst, hne]

/-- The access rule of the stimulus region goes before the check for an overlap. -/
theorem regionWrite_of_busy {b : Block} {v : Nat} (h : regionStatus b 8 v ≠ stRANGE) (hbusy : stimulusBusy b = true) :
    regionWrite 8 v b = (stSTATE, b) := by
  have hne : stSTATE ≠ stOK := by decide
  simp [regionWrite, whenOk, h, hbusy, hne]

theorem regionsClear_of_free {b : Block} {v : Nat} (h : ∀ r ∈ setBits 9 v, b.regionHeld r = false) :
    regionsClear v b = (stOK, forEach (setBits 9 v) clearRegion b) := by
  have hany : (setBits 9 v).any b.regionHeld = false := by simpa using h
  show whenOk (if (setBits 9 v).any b.regionHeld then stSTATE else stOK) _ b = _
  rw [hany]
  rfl

/-- One region that may not be cleared bars the whole request. -/
theorem regionsClear_of_held {b : Block} {r v : Nat} (hr : r ∈ setBits 9 v) (h : b.regionHeld r = true) :
    regionsClear v b = (stSTATE, b) := by
  have hany : (setBits 9 v).any b.regionHeld = true := List.any_eq_true.2 ⟨r, hr, h⟩
  show whenOk (if (setBits 9 v).any b.regionHeld then stSTATE else stOK) _ b = _
  rw [hany]
  rfl

/-! ### In the block that counts the request -/

theorem Block.counted_rd_region (b : Block) (r : Nat) : b.counted.rd 0x6000 (r + 1) = b.rd 0x6000 (r + 1) :=
  Block.rd_wr_ne _ _ _ _ _ _ (by unfold odKey; omega)

@[simp] theorem Block.counted_regionFirst (b : Block) (r : Nat) : b.counted.regionFirst r = b.regionFirst r := by
  rw [Block.regionFirst, Block.counted_rd_region, Block.regionFirst]

@[simp] theorem Block.counted_regionSize (b : Block) (r : Nat) : b.counted.regionSize r = b.regionSize r := by
  rw [Block.regionSize, Block.counted_rd_region, Block.regionSize]

@[simp] theorem Block.counted_inRegion (b : Block) (r a : Nat) : b.counted.inRegion r a = b.inRegion r a :=
  Block.inRegion_of_rd (Block.counted_rd_region ..) a

@[simp] theorem regionStatus_counted (b : Block) (r v : Nat) : regionStatus b.counted r v = regionStatus b r v := by
  have hinst : b.counted.installed = b.installed := rfl
  unfold regionStatus
  rw [hinst]
  simp only [Block.counted_regionFirst, Block.counted_regionSize]

theorem Block.counted_armed (b : Block) {d : Nat} (hd : d < 8) : b.counted.armed d = b.armed d := by
  rw [Block.armed, Block.counted_dstate b hd, Block.armed]

@[simp] theorem stimulusBusy_counted (b : Block) : stimulusBusy b.counted = stimulusBusy b := by
  rw [Bool.eq_iff_iff, stimulusBusy_iff, stimulusBusy_iff]
  refine exists_congr fun d => and_congr_right fun hd => ?_
  rw [Block.counted_armed b hd, Block.counted_mode b hd]

theorem Block.counted_regionHeld (b : Block) {r : Nat} (hr : r < 9) : b.counted.regionHeld r = b.regionHeld r := by
  unfold Block.regionHeld
  split
  case isTrue => exact stimulusBusy_counted b
  case isFalse h8 => exact Block.counted_armed b (by omega)

/-! ### The two objects (R242) -/

/-- The row of a region: only the domains' regions have an owner whose arm bars the write. -/
def regionRow (r : Nat) : OdRow :=
  if r < 8 then ⟨0x6000, 0x6000, 1, 8, .u32, .rws, 0, .form⟩ else ⟨0x6000, 0x6000, 9, 9, .u32, .rw, 0, .form⟩

/-- The row of the region clear. -/
def regionClearRow : OdRow := ⟨0x6001, 0x6001, 6, 6, .u16, .wo, 0, .any⟩

theorem odRow?_region {r : Nat} (hr : r < 9) : odRow? 0x6000 (r + 1) = some (regionRow r) :=
  (by decide : ∀ k < 9, odRow? 0x6000 (k + 1) = some (regionRow k)) r hr

theorem odRow?_regionClear : odRow? 0x6001 6 = some regionClearRow := by decide

@[simp] theorem regionRow_ty (r : Nat) : (regionRow r).ty = .u32 := by
  unfold regionRow
  split <;> rfl

@[simp] theorem regionRow_chk (r : Nat) : (regionRow r).chk = .form := by
  unfold regionRow
  split <;> rfl

/-- An allocation is in range where it lies within the installed units. -/
theorem valueOk_region (b : Block) (r v : Nat) :
    valueOk b (regionRow r) 0x6000 (r + 1) v = (regionStatus b r v != stRANGE) := by
  have hbool : (OdType.u32 != OdType.bool) = true := by decide
  have hreal : (OdType.u32 != OdType.real) = true := by decide
  simp [valueOk, formOk, crossOk, hbool, hreal]

/-- The mask of a clear has nine bits. -/
theorem valueOk_regionClear (b : Block) (v : Nat) : valueOk b regionClearRow 0x6001 6 v = decide (v < 2 ^ 9) := by
  simp [valueOk, regionClearRow, crossOk]

theorem ownerArmed_region (b : Block) (r : Nat) : ownerArmed b (regionRow r) 0x6000 (r + 1) = (decide (r < 8) && b.armed r) := by
  by_cases h : r < 8 <;> simp [ownerArmed, regionRow, owningDomain, h]

theorem ownerArmed_counted_region (b : Block) (r : Nat) :
    ownerArmed b.counted (regionRow r) 0x6000 (r + 1) = ownerArmed b (regionRow r) 0x6000 (r + 1) := by
  rw [ownerArmed_region, ownerArmed_region]
  by_cases h : r < 8
  · rw [Block.counted_armed b h]
  · simp [h]

theorem ownerArmed_regionClear (b : Block) : ownerArmed b regionClearRow 0x6001 6 = false := by
  simp [ownerArmed, regionClearRow]

theorem chapterWrite_region {r : Nat} (hr : r < 9) (p : Path) (mem : List Host.Cell) (v : Nat) (b : Block) :
    chapterWrite p mem 0x6000 (r + 1) v b = regionWrite r v b := by
  have hflag : isFlag 0x6000 (r + 1) = false := by simp [isFlag, odRow?_region hr]
  have hclear : clearedBy 0x6000 (r + 1) = none := by simp [clearedBy, odRow?_region hr]
  simp [chapterWrite, hflag, hclear, storeObjWrite]

theorem chapterWrite_regionClear (p : Path) (mem : List Host.Cell) (v : Nat) (b : Block) :
    chapterWrite p mem 0x6001 6 v b = regionsClear v b := by
  have hflag : isFlag 0x6001 6 = false := by decide
  have hclear : clearedBy 0x6001 6 = none := by decide
  simp [chapterWrite, hflag, hclear, storeObjWrite]

/-- What the checks before the chapter leave of an allocation: its value fits, and it is not out of range. -/
theorem region_of_accepts {s : State} {p : Path} {r v : Nat} (hr : r < 9) (ha : Safety.Accepts s p 0x6000 (r + 1) v) :
    v < 2 ^ 32 ∧ regionStatus s.blk r v ≠ stRANGE ∧ ownerArmed s.blk (regionRow r) 0x6000 (r + 1) = false := by
  obtain ⟨_, _, hrow⟩ := ha
  simpa [odRow?_region hr, valueOk_region, OdType.size, and_assoc] using hrow

/-- Of a clear they leave the regions' mask. -/
theorem regionClear_of_accepts {s : State} {p : Path} {v : Nat} (ha : Safety.Accepts s p 0x6001 6 v) : v < 2 ^ 9 := by
  obtain ⟨_, _, hrow⟩ := ha
  simp only [odRow?_regionClear, Option.any_some, valueOk_regionClear, Bool.and_eq_true, decide_eq_true_eq] at hrow
  obtain ⟨⟨_, hv⟩, _⟩ := hrow
  exact hv

/-! ### The two commands -/

theorem exec_regionAllocationWrite {s : State} (hs : Safety.Serving s) {r : Nat} (hr : r < 9) (p : Path) (v : Nat) :
    exec (.regionAllocationWrite p r v) s = .next (s.put p 0x6000 (r + 1) v) := by
  have hact : ((Instr.regionAllocationWrite p r v).wf && s.blk.power.on) = true := by simp [Instr.wf, hr, hs.1]
  show s.act _ _ = _
  rw [State.act_next, if_pos hact, State.put]

theorem exec_regionClear {s : State} (hs : Safety.Serving s) (p : Path) (v : Nat) :
    exec (.regionClear p v) s = .next (s.put p 0x6001 6 v) := by
  have hact : (true && s.blk.power.on) = true := by simp [hs.1]
  show s.act _ _ = _
  rw [State.act_next, if_pos hact, State.put]

section

variable {s : State} {p : Path} {v : Nat}

/-- Past the checks before the chapter, `regionWrite` gives the answer to a write of an allocation. -/
theorem dictWrite_region {r st : Nat} {c : Block} (hr : r < 9) (ha : Safety.Accepts s p 0x6000 (r + 1) v)
    (hc : regionWrite r v s.blk.counted = (st, c)) (hst : st ≠ stRANGE) :
    dictWrite p .path s.mem 0x6000 (r + 1) (valueData 0x6000 (r + 1) v) s.blk.counted = (some (Resp.plain st), c) := by
  obtain ⟨hv, hrange, howner⟩ := region_of_accepts hr ha
  obtain ⟨_, haccess, _⟩ := ha
  exact dictWrite_of_chapterWrite ((accessCheck_counted ..).trans haccess) (odRow?_region hr)
    (by simpa [OdType.size] using hv) (by simpa [valueOk_region] using hrange) ((ownerArmed_counted_region ..).trans howner)
    ((chapterWrite_region hr ..).trans hc) hst _

/-- So does `regionsClear` for a clear. -/
theorem dictWrite_regionClear {st : Nat} {c : Block} (ha : Safety.Accepts s p 0x6001 6 v)
    (hc : regionsClear v s.blk.counted = (st, c)) (hst : st ≠ stRANGE) :
    dictWrite p .path s.mem 0x6001 6 (valueData 0x6001 6 v) s.blk.counted = (some (Resp.plain st), c) := by
  have hv := regionClear_of_accepts ha
  obtain ⟨_, haccess, _⟩ := ha
  exact dictWrite_of_chapterWrite ((accessCheck_counted ..).trans haccess) odRow?_regionClear
    (show v < 65536 by omega) (by simpa [valueOk_regionClear] using hv) (ownerArmed_regionClear _)
    ((chapterWrite_regionClear ..).trans hc) hst _

variable (hs : Safety.Serving s)
include hs

/-- An allocation that does not overlap another is in force, and the region is clear where it was and where it is (R204, R205). -/
theorem put_region_of_free {r : Nat} (hr : r < 9) (ha : Safety.Accepts s p 0x6000 (r + 1) v) (hm : s.blk.mops = [])
    (hok : regionStatus s.blk r v = stOK) (hfree : r = 8 → stimulusBusy s.blk = false) :
    (s.put p 0x6000 (r + 1) v).blk.resp = Resp.plain stOK ∧
    (s.put p 0x6000 (r + 1) v).blk.regionFirst r = bits v 0 16 ∧ (s.put p 0x6000 (r + 1) v).blk.regionSize r = bits v 16 16 ∧
    ∀ a, memRead (s.put p 0x6000 (r + 1) v).mem a =
      if s.blk.inRegion r a || (s.put p 0x6000 (r + 1) v).blk.inRegion r a then 0 else memRead s.mem a := by
  have hc := regionWrite_of_free (b := s.blk.counted) (r := r) (v := v) (by simpa using hok) (by simpa using hfree)
  have hw := dictWrite_region hr ha hc (by decide)
  obtain ⟨hv, _, _⟩ := region_of_accepts hr ha
  obtain ⟨hresp, hrd⟩ := State.put_of_dictWrite hs ha.1 hw
  have hreg : (s.put p 0x6000 (r + 1) v).blk.rd 0x6000 (r + 1) = (setRegion r v s.blk.counted).rd 0x6000 (r + 1) :=
    hrd _ _ (by omega) rfl
  have hin : ∀ a, (s.put p 0x6000 (r + 1) v).blk.inRegion r a = (setRegion r v s.blk.counted).inRegion r a :=
    Block.inRegion_of_rd hreg
  obtain ⟨hfirst, hsize⟩ := Block.region_of_rd hv (hreg.trans (setRegion_rd_self ..))
  refine ⟨hresp, hfirst, hsize, fun a => ?_⟩
  rw [State.put_mem_of_dictWrite hs ha.1 hw, memRead_setRegion, hin, Block.counted_inRegion, Block.counted_mops, hm, memApply_nil]

/-- A clear whose regions are all free clears them and changes nothing else (R208). -/
theorem put_regionClear_of_free (ha : Safety.Accepts s p 0x6001 6 v) (hm : s.blk.mops = [])
    (hfree : ∀ r ∈ setBits 9 v, s.blk.regionHeld r = false) :
    (s.put p 0x6001 6 v).blk.resp = Resp.plain stOK ∧
    (∀ a, memRead (s.put p 0x6001 6 v).mem a =
      if (setBits 9 v).any (fun r => s.blk.inRegion r a) then 0 else memRead s.mem a) ∧
    Safety.KeepsRegs (fun _ _ => false) s (s.put p 0x6001 6 v) := by
  have hlt : ∀ r ∈ setBits 9 v, r < 9 := fun r hr => List.mem_range.1 (List.mem_filter.1 hr).1
  have hc := regionsClear_of_free (b := s.blk.counted) (fun r hr => (Block.counted_regionHeld _ (hlt r hr)).trans (hfree r hr))
  have hw := dictWrite_regionClear ha hc (by decide)
  obtain ⟨hresp, _⟩ := State.put_of_dictWrite hs ha.1 hw
  refine ⟨hresp, fun a => ?_, State.put_keepsRegs_of_dictWrite hs ha.1 hw (clearRegions_regs ..)⟩
  simp only [State.put_mem_of_dictWrite hs ha.1 hw, memRead_clearRegions, Block.counted_inRegion, Block.counted_mops, hm,
    memApply_nil]

/-- One named region that may not be cleared refuses the clear, which clears nothing (R243). -/
theorem put_regionClear_of_held {r : Nat} (ha : Safety.Accepts s p 0x6001 6 v) (hr : r ∈ setBits 9 v)
    (h : s.blk.regionHeld r = true) :
    (s.put p 0x6001 6 v).blk.resp = Resp.plain stSTATE ∧ Safety.Keeps (fun _ _ => false) s (s.put p 0x6001 6 v) := by
  have hlt : r < 9 := List.mem_range.1 (List.mem_filter.1 hr).1
  have hc := regionsClear_of_held (b := s.blk.counted) hr ((Block.counted_regionHeld _ hlt).trans h)
  exact State.put_of_refused hs ha.1 (dictWrite_regionClear ha hc (by decide))

/-- The stimulus region stays where it is while a domain that uses it is armed (R243). -/
theorem put_stimulusRegion_of_busy (ha : Safety.Accepts s p 0x6000 9 v) (h : stimulusBusy s.blk = true) :
    (s.put p 0x6000 9 v).blk.resp = Resp.plain stSTATE ∧ Safety.Keeps (fun _ _ => false) s (s.put p 0x6000 9 v) := by
  obtain ⟨_, hrange, _⟩ := region_of_accepts (r := 8) (by decide) ha
  have hc := regionWrite_of_busy (b := s.blk.counted) (v := v) (by simpa using hrange) (by simpa using h)
  exact State.put_of_refused hs ha.1 (dictWrite_region (r := 8) (by decide) ha hc (by decide))

end

/-- Settles O22: past the checks of R60 the access rules decide (R243). Where they let the write pass, each region that is cleared is a
run of whole units whose octets read 0 (R208); an allocation clears its region twice, as it was and as it becomes (R205). -/
theorem regionsAreAllocatedAndCleared : Obligations.RegionsAreAllocatedAndCleared := by
  unfold Obligations.RegionsAreAllocatedAndCleared
  refine ⟨?_, ?_, ?_, ?_, ?_⟩
  · intro s p r v hs hr ha hm hok hfree
    obtain ⟨hresp, hfirst, hsize, hmem⟩ := put_region_of_free hs hr ha hm hok hfree
    refine ⟨_, exec_regionAllocationWrite hs hr p v, hresp, hfirst, hsize, fun a => ?_⟩
    simp only [hmem, Bool.or_eq_true, Block.inRegion_iff, hfirst, hsize]
  · intro s p v hs ha hm harmed hbusy
    have hfree : ∀ r ∈ setBits 9 v, s.blk.regionHeld r = false := fun r hr => by
      unfold Block.regionHeld
      split
      case isTrue h8 => exact hbusy (h8 ▸ hr)
      case isFalse h8 => exact (harmed r hr).resolve_left h8
    exact ⟨_, exec_regionClear hs p v, put_regionClear_of_free hs ha hm hfree⟩
  · intro s p v r hs ha hr hlt harmed
    have hheld : s.blk.regionHeld r = true := (if_neg (by omega)).trans harmed
    exact ⟨_, exec_regionClear hs p v, put_regionClear_of_held hs ha hr hheld⟩
  · intro s p v d hs ha hd harmed hmode
    exact ⟨_, exec_regionAllocationWrite (r := 8) hs (by decide) p v,
      put_stimulusRegion_of_busy hs ha ((stimulusBusy_iff _).2 ⟨d, hd, harmed, hmode⟩)⟩
  · intro s p v d hs ha hr hd harmed hmode
    have hheld : s.blk.regionHeld 8 = true := (stimulusBusy_iff _).2 ⟨d, hd, harmed, hmode⟩
    exact ⟨_, exec_regionClear hs p v, put_regionClear_of_held hs ha hr hheld⟩

end Sys2Proof.Machine

/-! # Driver levels (R96, R306)

A write of a pod's VOH and VOL: the range of R306 stands before the arm of the pod's domain, and past both the chapter keeps the value as
it is written and does nothing else. -/

namespace Sys2Proof.Machine

/-! ### A write that an armed owner refuses, and what a write leaves alone -/

/-- A value in range is refused with ERR_STATE where the owning domain is armed, before the owning chapter sees it (R96). -/
theorem dictWrite_of_ownerArmed {b : Block} {p : Path} {idx sub v : Nat} {r : OdRow} (ha : accessCheck b p idx sub true = none)
    (hr : odRow? idx sub = some r) (hv : v < 256 ^ r.ty.size) (hok : valueOk b r idx sub v = true) (hd : ownerArmed b r idx sub = true)
    (back : ReplyTo) (mem : List Host.Cell) :
    dictWrite p back mem idx sub (valueData idx sub v) b = (some (Resp.plain stSTATE), b) := by
  simp [dictWrite, ha, hr, valueData, typeCheck, Nat.mod_eq_of_lt hv, hok, hd]

@[simp] theorem answered_drivers (p : Path) (x : Resp) (b : Block) : (answered p (some x, b)).drivers = b.drivers := by
  unfold answered; dsimp only; split <;> rfl

/-- What a write that a module takes and answers leaves of the drivers: those of the served block. -/
theorem State.put_drivers_of_dictWrite {s : State} {p : Path} {idx sub v : Nat} {x : Resp} {c : Block} (hs : Safety.Serving s)
    (hh : serverHears s.blk p = true)
    (hw : dictWrite p .path s.mem idx sub (valueData idx sub v) s.blk.counted = (some x, c)) :
    (s.put p idx sub v).blk.drivers = c.drivers := by
  have hp := (dictPut_of_serving hs hh s.mem idx sub v).trans (congrArg (answered p) hw)
  rw [State.put, State.run_drivers, hp, answered_drivers]

/-- A write whose effect is that its own subindex holds a value changes no other register, and no octet of the store. -/
theorem State.put_keeps_of_wr {s : State} {p : Path} {idx sub v w : Nat} {x : Resp} (hs : Safety.Serving s)
    (hh : serverHears s.blk p = true) (hsub : sub < 256)
    (hw : dictWrite p .path s.mem idx sub (valueData idx sub v) s.blk.counted = (some x, s.blk.counted.wr idx sub w)) :
    Safety.Keeps (fun i r => i == idx && r == sub) s (s.put p idx sub v) := by
  have hp := (dictPut_of_serving hs hh s.mem idx sub v).trans (congrArg (answered p) hw)
  refine State.run_keeps (fun i r hr hi hne => ?_) ?_
  · have hk : odKey i r ≠ odKey idx sub := fun e => by simp [(odKey_inj hr hsub).1 e] at hne
    rw [hp, answered_reg, Block.reg_wr, if_neg hk, Block.counted_reg _ hr hi]
  · rw [hp, answered_mops, Block.wr_mops, Block.counted_mops]

/-! ### The object (R306, R321) -/

/-- The row of a pod's driver levels. -/
def levelsRow : OdRow := ⟨0x3800, 0x381F, 1, 1, .u32, .rws, 0x19C80000, .any⟩

theorem odRow?_levels {n : Nat} (hn : n < 32) : odRow? (0x3800 + n) 1 = some levelsRow :=
  (by decide : ∀ k < 32, odRow? (0x3800 + k) 1 = some levelsRow) n hn

/-- The three bounds of R306 on VOH in the upper half of the word and VOL in the lower. -/
theorem levelsOk_iff (v : Nat) : levelsOk v = true ↔ -2000 ≤ signed (bits v 0 16) 16 ∧ signed (bits v 16 16) 16 ≤ 10000 ∧
    200 ≤ signed (bits v 16 16) 16 - signed (bits v 0 16) 16 := by
  simp only [levelsOk, Bool.and_eq_true, decide_eq_true_eq, and_assoc]

/-- One bound broken is enough. -/
theorem levelsOk_eq_false_iff (v : Nat) : levelsOk v = false ↔ signed (bits v 0 16) 16 < -2000 ∨ 10000 < signed (bits v 16 16) 16 ∨
    signed (bits v 16 16) 16 - signed (bits v 0 16) 16 < 200 := by
  rw [← Bool.not_eq_true, levelsOk_iff]
  omega

/-- The levels word is in range exactly where R306 accepts it. -/
theorem valueOk_levels (b : Block) {n : Nat} (hn : n < 32) (v : Nat) : valueOk b levelsRow (0x3800 + n) 1 v = levelsOk v := by
  have hpage : (0x3800 + n) / 256 = 0x38 := by omega
  simp [valueOk, levelsRow, crossOk, hpage]

/-- The owner is the pod's domain; a pod of no domain has none. -/
theorem ownerArmed_levels (b : Block) {n : Nat} (hn : n < 32) :
    ownerArmed b levelsRow (0x3800 + n) 1 = (decide (b.podDom n < 8) && b.armed (b.podDom n)) := by
  have howner : owningDomain b (0x3800 + n) 1 = b.podDom n := by
    have hpage : (0x3800 + n) / 256 = 0x38 := by omega
    have hlo : (0x3800 + n) % 256 = n := by omega
    simp [owningDomain, hpage, hlo]
  simp [ownerArmed, levelsRow, howner]

theorem ownerArmed_counted_levels (b : Block) {n : Nat} (hn : n < 32) :
    ownerArmed b.counted levelsRow (0x3800 + n) 1 = ownerArmed b levelsRow (0x3800 + n) 1 := by
  rw [ownerArmed_levels _ hn, ownerArmed_levels _ hn, Block.counted_podDom b hn]
  by_cases h : b.podDom n < 8
  · rw [Block.counted_armed b h]
  · simp [h]

/-- The chapter keeps the word, and no driver follows. -/
theorem chapterWrite_levels {n : Nat} (hn : n < 32) (p : Path) (mem : List Host.Cell) (v : Nat) (b : Block) :
    chapterWrite p mem (0x3800 + n) 1 v b = (stOK, b.wr (0x3800 + n) 1 v) := by
  have hflag : isFlag (0x3800 + n) 1 = false := by rw [isFlag, odRow?_levels hn]; rfl
  have hclear : clearedBy (0x3800 + n) 1 = none := by rw [clearedBy, odRow?_levels hn]; rfl
  have hchapter : (0x3800 + n) / 4096 = 3 := by omega
  have hpage : (0x3800 + n) / 256 = 0x38 := by omega
  have hkeep : keepValue (0x3800 + n) 1 v b = b.wr (0x3800 + n) 1 v := by rw [keepValue, odRow?_levels hn]; rfl
  have hstim : ¬ 0x3800 + n < 0x3800 := by omega
  simp [chapterWrite, hflag, hclear, hchapter, hstim, stimWrite, hpage, plainWrite, hkeep]

/-- No command reports in the objects of the drivers. -/
theorem reporting_levels {n : Nat} (hn : n < 32) : Safety.reporting (0x3800 + n) 1 = false := by
  have h1 : 0x3800 + n ≠ 0x8001 ∧ 0x3800 + n ≠ 0x8002 := by omega
  have h2 : 0x3800 + n ≠ 0x8000 := by omega
  simp [Safety.reporting, h1, h2]

/-! ### The command -/

theorem exec_driverLevelsWrite {s : State} (hs : Safety.Serving s) {n : Nat} (hn : n < 32) (p : Path) (v : Nat) :
    exec (.driverLevelsWrite p n v) s = .next (s.put p (0x3800 + n) 1 v) := by
  have hact : ((Instr.driverLevelsWrite p n v).wf && s.blk.power.on) = true := by simp [Instr.wf, hn, hs.1]
  show s.act _ _ = _
  rw [State.act_next, if_pos hact, State.put]

section

variable {s : State} {p : Path} {n v : Nat} (hs : Safety.Serving s) (hn : n < 32) (hh : serverHears s.blk p = true)
  (ha : accessCheck s.blk p (0x3800 + n) 1 true = none) (hv : v < 2 ^ 32)
include hs hn hh ha hv

/-- Levels in range are in force at once while no arm of the pod's domain bars the write, and no driver changes its state (R306). -/
theorem put_levels_of_unarmed (hok : levelsOk v = true) (harm : s.blk.podDom n < 8 → s.blk.armed (s.blk.podDom n) = false) :
    (s.put p (0x3800 + n) 1 v).blk.resp = Resp.plain stOK ∧ (s.put p (0x3800 + n) 1 v).blk.rd (0x3800 + n) 1 = v ∧
      (s.put p (0x3800 + n) 1 v).blk.drivers = s.blk.drivers ∧
      Safety.Keeps (fun i r => i == 0x3800 + n && r == 1) s (s.put p (0x3800 + n) 1 v) := by
  have howner : ownerArmed s.blk.counted levelsRow (0x3800 + n) 1 = false := by
    rw [ownerArmed_counted_levels _ hn, ownerArmed_levels _ hn]
    simpa using harm
  have hw := dictWrite_of_chapterWrite ((accessCheck_counted ..).trans ha) (odRow?_levels hn) hv ((valueOk_levels _ hn v).trans hok)
    howner (chapterWrite_levels hn p s.mem v _) (by decide) .path (by omega) (by omega) (by omega)
  obtain ⟨hresp, hrd⟩ := State.put_of_dictWrite hs hh hw
  refine ⟨hresp, ?_, ?_, State.put_keeps_of_wr hs hh (by decide) hw⟩
  · rw [hrd _ _ (by decide) (reporting_levels hn), Block.rd_wr_self, Nat.mod_eq_of_lt (by omega)]
  · rw [State.put_drivers_of_dictWrite hs hh hw, Block.wr_drivers, Block.counted, Block.bump_drivers]

/-- The same levels are refused while the pod's domain is armed (R96). -/
theorem put_levels_of_armed (hok : levelsOk v = true) (hd : s.blk.podDom n < 8) (harm : s.blk.armed (s.blk.podDom n) = true) :
    (s.put p (0x3800 + n) 1 v).blk.resp = Resp.plain stSTATE ∧
      Safety.Keeps (fun _ _ => false) s (s.put p (0x3800 + n) 1 v) := by
  have howner : ownerArmed s.blk.counted levelsRow (0x3800 + n) 1 = true := by
    simp [ownerArmed_counted_levels _ hn, ownerArmed_levels _ hn, hd, harm]
  exact State.put_of_refused hs hh (dictWrite_of_ownerArmed ((accessCheck_counted ..).trans ha) (odRow?_levels hn) hv
    ((valueOk_levels _ hn v).trans hok) howner .path s.mem)

/-- Levels out of range are refused whether or not the domain is armed (R306). -/
theorem put_levels_of_out_of_range (hbad : levelsOk v = false) :
    (s.put p (0x3800 + n) 1 v).blk.resp.status = stRANGE ∧ Safety.Keeps (fun _ _ => false) s (s.put p (0x3800 + n) 1 v) := by
  obtain ⟨hresp, hkeeps⟩ := State.put_of_refused hs hh (dictWrite_of_not_valueOk ((accessCheck_counted ..).trans ha)
    (odRow?_levels hn) hv ((valueOk_levels _ hn v).trans hbad) .path s.mem)
  exact ⟨congrArg Resp.status hresp, hkeeps⟩

end

/-- Settles O39: the bounds of R306 decide first, then the arm of the pod's domain (R96); past both the word is kept and nothing else
changes. -/
theorem driverLevelsAreWrittenTogether : Obligations.DriverLevelsAreWrittenTogether := by
  unfold Obligations.DriverLevelsAreWrittenTogether
  refine ⟨?_, ?_, ?_⟩
  · intro s p n v hs hn hh ha hv hlo hhi hgap harm
    exact ⟨_, exec_driverLevelsWrite hs hn p v, put_levels_of_unarmed hs hn hh ha hv ((levelsOk_iff v).2 ⟨hlo, hhi, hgap⟩) harm⟩
  · intro s p n v hs hn hh ha hv hlo hhi hgap hd harm
    exact ⟨_, exec_driverLevelsWrite hs hn p v, put_levels_of_armed hs hn hh ha hv ((levelsOk_iff v).2 ⟨hlo, hhi, hgap⟩) hd harm⟩
  · intro s p n v hs hn hh ha hv hbad
    obtain ⟨hresp, hkeeps⟩ := put_levels_of_out_of_range hs hn hh ha hv ((levelsOk_eq_false_iff v).2 hbad)
    exact ⟨_, exec_driverLevelsWrite hs hn p v, hresp, hkeeps.rd (by decide) (reporting_levels hn) (by omega) rfl, hkeeps⟩

end Sys2Proof.Machine

/-! # The step, the state between commands, and reset -/

namespace Sys2Proof.Machine

/-! ### What a command's outcome is -/

/-- The effect of a well-formed command while VIN is valid is a run. -/
theorem State.act_of_on {s : State} {ok : Bool} (hok : ok = true) (hon : s.blk.power.on = true) (f : List Host.Cell → Block → Block) :
    s.act ok f = .next (s.run f) := by
  rw [State.act_next, hok, hon]
  rfl

/-- Every command ends in a next state, as it was or after a run. -/
theorem exec_eq (c : Instr) (s : State) : exec c s = .next s ∨ ∃ f, exec c s = .next (s.run f) := by
  obtain ⟨f, h⟩ := exec_shape c s
  rw [h]
  split
  · exact .inr ⟨f, rfl⟩
  · exact .inl rfl

/-! ### What the error register and the alert depend on (R522, R525) -/

/-- Whether an object of a run has a bit set is a matter of the objects' registers. -/
theorem anyOn_of_rd {b c : Block} {lo n sub : Nat} (h : ∀ i < n, c.rd (lo + i) sub = b.rd (lo + i) sub) : anyOn c lo n sub = anyOn b lo n sub := by
  rw [Bool.eq_iff_iff]
  simp only [anyOn, List.any_eq_true, List.mem_range]
  exact exists_congr fun i => and_congr_right fun hi => by rw [h i hi]

/-- The error register is a matter of registers that no command reports in, and that count no request. -/
theorem errorRegister_of_rd {b c : Block} (h : ∀ i r, r < 256 → Safety.reporting i r = false → i ≠ 0x1E10 → c.rd i r = b.rd i r) :
    c.errorRegister = b.errorRegister := by
  have hany : ∀ lo n sub, sub < 256 → (∀ i < n, Safety.reporting (lo + i) sub = false) → 0x2000 ≤ lo →
      anyOn c lo n sub = anyOn b lo n sub :=
    fun lo n sub hsub hr hlo => anyOn_of_rd fun i hi => h _ _ hsub (hr i hi) (by omega)
  have hsloe : ∀ p < 4, c.rd (0x2210 + p) 2 = b.rd (0x2210 + p) 2 := fun p hp =>
    h _ _ (by decide) ((by decide : ∀ p < 4, Safety.reporting (0x2210 + p) 2 = false) p hp) (by omega)
  have hrd : ∀ i r, (decide (r < 256) && !Safety.reporting i r && i != 0x1E10) = true → c.rd i r = b.rd i r := fun i r hk => by
    simp only [Bool.and_eq_true, decide_eq_true_eq, Bool.not_eq_true', bne_iff_ne] at hk
    exact h i r hk.1.1 hk.1.2 hk.2
  simp only [Block.errorRegister, Block.on, hany 0x3800 32 5 (by decide) (by decide) (by decide),
    hany 0x3100 32 7 (by decide) (by decide) (by decide),
    hany 0x6840 8 8 (by decide) (by decide) (by decide), List.range_succ, List.range_zero,
    List.any_append, List.nil_append, List.any_cons, List.any_nil, hsloe 0 (by decide), hsloe 1 (by decide), hsloe 2 (by decide), hsloe 3 (by decide),
    hrd 0x2005 1 rfl, hrd 0x1E20 8 rfl, hrd 0x2101 8 rfl,
    hrd 0x2101 11 rfl, hrd 0x2101 14 rfl, hrd 0x7012 4 rfl, hrd 0x7011 4 rfl,
    hrd 0x2001 0 rfl]

/-- So are the enabled alert causes: the mask of 0x2006 is none of them. -/
theorem enabledCauses_of_rd {b c : Block} (h : ∀ i r, r < 256 → Safety.reporting i r = false → i ≠ 0x1E10 → c.rd i r = b.rd i r) :
    c.enabledCauses = b.enabledCauses := by
  have hany : ∀ lo n sub, sub < 256 → (∀ i < n, Safety.reporting (lo + i) sub = false) → 0x2000 ≤ lo →
      anyOn c lo n sub = anyOn b lo n sub :=
    fun lo n sub hsub hr hlo => anyOn_of_rd fun i hi => h _ _ hsub (hr i hi) (by omega)
  have hrd : ∀ i r, (decide (r < 256) && !Safety.reporting i r && i != 0x1E10) = true → c.rd i r = b.rd i r := fun i r hk => by
    simp only [Bool.and_eq_true, decide_eq_true_eq, Bool.not_eq_true', bne_iff_ne] at hk
    exact h i r hk.1.1 hk.1.2 hk.2
  simp only [Block.enabledCauses, Block.alertCauses, Block.on, hany 0x3800 32 7 (by decide) (by decide) (by decide),
    hany 0x3100 32 7 (by decide) (by decide) (by decide), hany 0x2210 4 10 (by decide) (by decide) (by decide),
    hany 0x6840 8 8 (by decide) (by decide) (by decide),
    hrd 0x2005 1 rfl, hrd 0x2005 2 rfl, hrd 0x2005 5 rfl, hrd 0x2005 8 rfl,
    hrd 0x1E20 8 rfl, hrd 0x2101 8 rfl, hrd 0x2101 11 rfl, hrd 0x2101 14 rfl,
    hrd 0x7012 4 rfl, hrd 0x7011 4 rfl, hrd 0x2200 12 rfl, hrd 0x2220 4 rfl,
    hrd 0x2001 0 rfl, hrd 0x2006 1 rfl]

/-- The recovery message is no cause of an alert. -/
theorem recovered_enabledCauses (b : Block) : (recovered b).enabledCauses = b.enabledCauses :=
  enabledCauses_of_rd fun i r hr hi _ => by
    unfold recovered
    split
    · unfold Block.rd
      rw [emcyEvent_reg _ _ _ _ _ _ hr hi]
    · rfl

/-- The reports are settled after every evaluation: what it writes is no cause of error register or alert. -/
theorem monitor_reportsSettled (b : Block) : Safety.reportsSettled (monitor b) :=
  ⟨(errorRegister_of_rd fun _ _ hr hi _ => monitor_rd b _ _ hr hi).symm,
    (recovered_enabledCauses b).trans (enabledCauses_of_rd fun _ _ hr hi _ => monitor_rd b _ _ hr hi).symm⟩

/-- After every run the state is settled, if the store's contents were in canonical form before it. -/
theorem State.run_settled (s : State) (f : List Host.Cell → Block → Block) (h : Memory.wf s.mem = true) :
    Safety.Settled (s.run f) := ⟨State.run_storeSettled s f h, monitor_reportsSettled (f s.mem s.blk)⟩

/-- Settles O4: a command is a run, which ends by settling both, or leaves the state. -/
theorem everyStepKeepsTheStoreAndTheReportsSettled : Obligations.EveryStepKeepsTheStoreAndTheReportsSettled := by
  unfold Obligations.EveryStepKeepsTheStoreAndTheReportsSettled
  intro s t hs h
  unfold step at h
  split at h
  case h_1 => exact Host.Outcome.next.inj h ▸ hs
  case h_2 c rest _ =>
    have hrest : Safety.Settled { s with pending := rest } := hs
    rcases exec_eq c { s with pending := rest } with he | ⟨f, he⟩
    · exact Host.Outcome.next.inj (he.symm.trans h) ▸ hrest
    · exact Host.Outcome.next.inj (he.symm.trans h) ▸ State.run_settled _ f hrest.1.1

/-- Settles O3: a command is a run, which leaves the queue, or leaves the state. -/
theorem everyStepCompletesAndTakesOneCommand : Obligations.EveryStepCompletesAndTakesOneCommand := by
  unfold Obligations.EveryStepCompletesAndTakesOneCommand
  intro s
  unfold step
  split
  case h_1 hp => exact ⟨s, rfl, by rw [hp]; rfl⟩
  case h_2 c rest hp =>
    rcases exec_eq c { s with pending := rest } with he | ⟨f, he⟩
    · exact ⟨_, he, by rw [hp]; rfl⟩
    · exact ⟨_, he, by rw [hp]; rfl⟩

/-- Settles O1: the step's own equation. -/
theorem stepCarriesOutTheFrontCommand : Obligations.StepCarriesOutTheFrontCommand := fun _ _ _ => rfl

/-- Settles O2: the step's equation for an empty queue. -/
theorem emptyQueueIdles : Obligations.EmptyQueueIdles := fun s h => by
  unfold step
  rw [h]

/-- Settles O7: only a well-formed command acts, and without VIN only one of the supply's events. -/
theorem withoutSupplyOrFormNothingHappens : Obligations.WithoutSupplyOrFormNothingHappens := by
  unfold Obligations.WithoutSupplyOrFormNothingHappens
  constructor
  · intro c s hoff hvin hrev
    have hc : Instr.ofSupply c = false := by
      unfold Instr.ofSupply
      split
      case h_1 x => exact absurd rfl (hvin x)
      case h_2 => exact absurd rfl hrev
      case h_3 => rfl
    obtain ⟨f, h⟩ := exec_shape c s
    simp [h, hoff, hc]
  · intro c s hwf
    obtain ⟨f, h⟩ := exec_shape c s
    simp [h, hwf]

/-! ### Reset -/

/-- At reset the lanes' setting words read their default. -/
theorem reset_laneSetting : ∀ n < 32, ∀ m < 16, State.reset.blk.rd (0x3200 + n) (m + 1) = Lane.reset.set := by decide +kernel

/-- Settles O6: every unit that nothing has placed reads as its default. -/
theorem resetLeavesEveryUnitAtItsDefault : Obligations.ResetLeavesEveryUnitAtItsDefault := by
  unfold Obligations.ResetLeavesEveryUnitAtItsDefault
  refine ⟨by decide, by decide, by decide, rfl, by decide, by decide, fun l hl => ?_, fun _ => rfl, rfl, by decide, fun _ => rfl, rfl, rfl⟩
  exact (reset_laneSetting (l / 16) (by omega) (l % 16) (Nat.mod_lt _ (by decide))).symm

/-- Settles O5: the state after reset has an empty store, and no cause of error register or alert. -/
theorem resetIsSettled : Obligations.ResetIsSettled := by
  unfold Obligations.ResetIsSettled
  decide

end Sys2Proof.Machine

/-! # Reads of LO registers (R35) -/

namespace Sys2Proof.Machine

/-! ### What the end of every command leaves of BAR0's own fields -/

theorem bits_lt (w lo len : Nat) : bits w lo len < 2 ^ len := Nat.mod_lt _ (Nat.two_pow_pos len)

theorem Block.bget_of_bar {b c : Block} (h : c.bar = b.bar) (off k : Nat) : c.bget off k = b.bget off k := by
  unfold Block.bget
  rw [h]

theorem linkUse_shape (b : Block) : ∃ l, linkUse b = { b with pcie := { b.pcie with link := l } } := by
  unfold linkUse
  split
  · exact ⟨b.pcie.link, rfl⟩
  · exact ⟨0, rfl⟩

@[simp] theorem linkUse_bar (b : Block) : (linkUse b).bar = b.bar := by
  obtain ⟨l, h⟩ := linkUse_shape b
  rw [h]

theorem sendMsix_bget {off k v : Nat} (h : off * 8 + k ≠ 0x10800 * 8 + v / 32) (b : Block) :
    (sendMsix v b).bget off k = b.bget off k := by
  unfold sendMsix
  split
  · rfl
  · split
    · rw [setPending, Block.bget_bset, if_neg h]
    · exact Block.bget_of_bar ((linkUse_bar _).trans (Block.emit_bar ..)) off k

@[simp] theorem recovered_bar (b : Block) : (recovered b).bar = b.bar := by
  obtain ⟨r, w, e, h⟩ := recovered_shape b
  rw [h]

/-- The evaluation of error register and alert may set a vector pending in the PBA, and changes no other field of BAR0's own. -/
theorem monitor_bget {off k : Nat} (h : off * 8 + k < 0x84000 ∨ 0x84002 ≤ off * 8 + k) (b : Block) :
    (monitor b).bget off k = b.bget off k := by
  have hraise : ∀ c : Block, (raiseAlert c).bget off k = c.bget off k := fun c => by
    have hv := bits_lt ((c.bump 32 0x2006 3 1).bget 0x1814 0) 0 6
    unfold raiseAlert alertMessage
    split
    · split
      · exact (sendMsix_bget (by omega) _).trans (Block.bget_of_bar (Block.bump_bar ..) off k)
      · exact Block.bget_of_bar (Block.bump_bar ..) off k
    · rfl
  exact (hraise (recovered b)).trans (Block.bget_of_bar (recovered_bar b) off k)

theorem State.run_bget (s : State) (f : List Host.Cell → Block → Block) {off k : Nat}
    (h : off * 8 + k < 0x84000 ∨ 0x84002 ≤ off * 8 + k) : (s.run f).blk.bget off k = (f s.mem s.blk).bget off k := monitor_bget h _

/-! ### A read of a register of a module that serves (R441) -/

/-- Nothing wakes a module that serves. -/
theorem wake_of_serving {s : State} (hs : Safety.Serving s) {b : Block} (hrd : b.regs = s.blk.regs) (hp : b.power = s.blk.power)
    (code : Nat) : wake code b = b := by
  obtain ⟨_, _, hps, hentry, _⟩ := hs
  have hps' : b.ps = 0 := (Block.rd_of_regs hrd _ _).trans hps
  have hno : wakeAllowed b 0 code = false := by unfold wakeAllowed; split <;> simp
  simp [wake, hp, hentry, hps', hno]

/-- A read of an aligned register of four octets answers its value and latches what it latches. -/
theorem loRead_of_serving {s : State} (hs : Safety.Serving s) (hup : s.blk.barUp = true) {off : Nat} (hal : off % 4 = 0)
    (hne : off ≠ 0x1420) :
    loRead off s.blk = latchLo off (readAnswer 4 (regView s.blk off) (linkUse s.blk)) := by
  obtain ⟨l, hl⟩ := linkUse_shape s.blk
  have hwake : wake 7 (linkUse s.blk) = linkUse s.blk := wake_of_serving hs (by rw [hl]) (by rw [hl]) 7
  obtain ⟨_, hready, _⟩ := hs
  simp [loRead, barRead, hup, Block.ready, hready, hal, hne, hwake]

/-- The read's own part changes the answer and the link's state alone, and a latch fields of BAR0's own. -/
theorem latchLo_shape (off : Nat) (b : Block) : ∃ m, latchLo off b = { b with bar := m } := by
  unfold latchLo
  split
  · exact ⟨_, rfl⟩
  · exact ⟨_, rfl⟩
  · exact ⟨_, rfl⟩
  · exact ⟨_, rfl⟩
  · split
    · exact ⟨_, rfl⟩
    · split
      · dsimp only
        split
        · exact ⟨_, rfl⟩
        · exact ⟨_, rfl⟩
        · exact ⟨_, rfl⟩
        · exact ⟨_, rfl⟩
        · exact ⟨b.bar, rfl⟩
      · split
        · exact ⟨_, rfl⟩
        · exact ⟨b.bar, rfl⟩

/-- The block that a read of a register of four octets latches from: the answer is given, and the link is in use. -/
def Block.reading (b : Block) (off : Nat) : Block := readAnswer 4 (regView b off) (linkUse b)

@[simp] theorem Block.reading_time (b : Block) (off : Nat) : (b.reading off).time = b.time := by
  obtain ⟨l, hl⟩ := linkUse_shape b
  rw [Block.reading, hl]
  rfl

@[simp] theorem Block.reading_regs (b : Block) (off : Nat) : (b.reading off).regs = b.regs := by
  obtain ⟨l, hl⟩ := linkUse_shape b
  rw [Block.reading, hl]
  rfl

@[simp] theorem Block.reading_mops (b : Block) (off : Nat) : (b.reading off).mops = b.mops := by
  obtain ⟨l, hl⟩ := linkUse_shape b
  rw [Block.reading, hl]
  rfl

@[simp] theorem Block.reading_bget (b : Block) (off o k : Nat) : (b.reading off).bget o k = b.bget o k := by
  obtain ⟨l, hl⟩ := linkUse_shape b
  rw [Block.reading, hl]
  rfl

@[simp] theorem Block.reading_rd (b : Block) (off i r : Nat) : (b.reading off).rd i r = b.rd i r := Block.rd_of_regs (b.reading_regs off) i r

/-- A LO read of a module that serves: the answer, what is latched, and nothing else. -/
theorem run_loRead {s : State} (hs : Safety.Serving s) (hup : s.blk.barUp = true) {off : Nat} (hal : off % 4 = 0) (hne : off ≠ 0x1420) :
    (s.run (fun _ b => loRead off b)).blk.resp.data = toLe 4 (regView s.blk off) ∧
    (∀ o k, o * 8 + k < 0x84000 → (s.run (fun _ b => loRead off b)).blk.bget o k = (latchLo off (s.blk.reading off)).bget o k) ∧
    Safety.Keeps (fun _ _ => false) s (s.run (fun _ b => loRead off b)) := by
  have h : loRead off s.blk = latchLo off (s.blk.reading off) := loRead_of_serving hs hup hal hne
  obtain ⟨m, hm⟩ := latchLo_shape off (s.blk.reading off)
  refine ⟨?_, fun o k ho => ?_, State.run_keeps (fun i r _ _ _ => ?_) ?_⟩
  · rw [State.run_resp, h, hm]
    rfl
  · rw [State.run_bget _ _ (.inl ho), h]
  · rw [h, hm]
    exact Block.reg_of_regs (s.blk.reading_regs off) i r
  · rw [h, hm]
    exact s.blk.reading_mops off

/-! ### What each LO register shows and latches -/

theorem lt_eight_cases {d : Nat} (h : d < 8) : d = 0 ∨ d = 1 ∨ d = 2 ∨ d = 3 ∨ d = 4 ∨ d = 5 ∨ d = 6 ∨ d = 7 := by omega

theorem lt_four_cases {w : Nat} (h : w < 4) : w = 0 ∨ w = 1 ∨ w = 2 ∨ w = 3 := by omega

theorem regView_trigTs (b : Block) : ∀ d < 8, regView b (0x40C + 0x40 * d) = lo32 (b.rd (0x5520 + d) 1) := by
  intro d hd
  rcases lt_eight_cases hd with rfl | rfl | rfl | rfl | rfl | rfl | rfl | rfl <;> rfl

theorem latchLo_trigTs (b : Block) : ∀ d < 8, latchLo (0x40C + 0x40 * d) b =
    (((b.bset (0x410 + 0x40 * d) 0 (hi32 (b.rd (0x5520 + d) 1))).bset (0x414 + 0x40 * d) 0 (b.rd (0x5520 + d) 2)).bset
      (0x418 + 0x40 * d) 0 (lo32 (b.rd (0x5520 + d) 3))).bset (0x41C + 0x40 * d) 0 (hi32 (b.rd (0x5520 + d) 3)) := by
  intro d hd
  rcases lt_eight_cases hd with rfl | rfl | rfl | rfl | rfl | rfl | rfl | rfl <;> rfl

theorem regView_maskTs (b : Block) : ∀ d < 8, regView b (0xC08 + 0x20 * d) = lo32 (b.rd (0x6840 + d) 7) := by
  intro d hd
  rcases lt_eight_cases hd with rfl | rfl | rfl | rfl | rfl | rfl | rfl | rfl <;> rfl

theorem latchLo_maskTs (b : Block) : ∀ d < 8, latchLo (0xC08 + 0x20 * d) b = b.bset (0xC0C + 0x20 * d) 0 (hi32 (b.rd (0x6840 + d) 7)) := by
  intro d hd
  rcases lt_eight_cases hd with rfl | rfl | rfl | rfl | rfl | rfl | rfl | rfl <;> rfl

/-- The values of the store's four LO registers of a domain: fill, peak, and the two of 0x6300 (R249). -/
def storeLoValue (b : Block) (d w : Nat) : Nat :=
  [b.rd (0x6400 + d) 1, b.rd (0x6400 + d) 5, b.rd (0x6300 + d) 3, b.rd (0x6300 + d) 6].getD w 0

theorem regView_storeLo (b : Block) : ∀ w < 4, ∀ d < 8,
    regView b (0x800 + 0x40 * d + [0x10, 0x18, 0x28, 0x30].getD w 0x10) = lo32 (storeLoValue b d w) := by
  intro w hw d hd
  rcases lt_four_cases hw with rfl | rfl | rfl | rfl <;> rcases lt_eight_cases hd with rfl | rfl | rfl | rfl | rfl | rfl | rfl | rfl <;> rfl

theorem latchLo_storeLo (b : Block) : ∀ w < 4, ∀ d < 8, latchLo (0x800 + 0x40 * d + [0x10, 0x18, 0x28, 0x30].getD w 0x10) b =
    b.bset (0x800 + 0x40 * d + [0x14, 0x1C, 0x2C, 0x34].getD w 0) 0 (hi32 (storeLoValue b d w)) := by
  intro w hw d hd
  rcases lt_four_cases hw with rfl | rfl | rfl | rfl <;> rcases lt_eight_cases hd with rfl | rfl | rfl | rfl | rfl | rfl | rfl | rfl <;> rfl

/-! ### The commands -/

theorem bget_bset_off {o off : Nat} (b : Block) (v : Nat) (h : o ≠ off) : (b.bset off 0 v).bget o 0 = b.bget o 0 := by
  rw [Block.bget_bset, if_neg (by omega)]

/-- A LO read while VIN is valid, given what its register shows and latches: the answer, the fields latched, and nothing else. -/
theorem exec_loRead {s : State} (hs : Safety.Serving s) (hup : s.blk.barUp = true) {c : Instr} {off : Nat} {v : Nat}
    (hc : exec c s = s.act true (fun _ b => loRead off b)) (hal : off % 4 = 0) (hne : off ≠ 0x1420) (hv : regView s.blk off = v) :
    ∃ t, exec c s = .next t ∧ t.blk.resp.data = toLe 4 v ∧
      (∀ o k, o * 8 + k < 0x84000 → t.blk.bget o k = (latchLo off (s.blk.reading off)).bget o k) ∧
      Safety.Keeps (fun _ _ => false) s t := by
  obtain ⟨hresp, hbar, hkeeps⟩ := run_loRead hs hup hal hne
  exact ⟨_, hc.trans (State.act_of_on rfl hs.1 _), hv ▸ hresp, hbar, hkeeps⟩

/-- Settles O26: each register shows the low half of its value, and its read latches the rest. -/
theorem loReadsLatchTheirHighHalf : Obligations.LoReadsLatchTheirHighHalf := by
  unfold Obligations.LoReadsLatchTheirHighHalf
  intro s hs hup
  refine ⟨?_, ?_, ?_, ?_, ?_, ?_, ?_⟩
  · obtain ⟨t, he, hr, hb, hk⟩ := exec_loRead hs hup (c := .frameNowLoRead) rfl (by decide) (by decide) rfl
    exact ⟨t, he, hr, by rw [hb _ _ (by decide)]; simp [latchLo], hk⟩
  · intro d hd w hw
    have hwf : (Instr.storeLoRead d w).wf = true := by simp [Instr.wf, hd]; omega
    have hc : exec (.storeLoRead d w) s = s.act true (fun _ b => loRead (0x800 + 0x40 * d + [0x10, 0x18, 0x28, 0x30].getD w 0x10) b) := by
      show s.act _ _ = _
      rw [hwf, Nat.mod_eq_of_lt hw, Nat.div_eq_of_lt hw]
      rfl
    have hoff : (0x800 + 0x40 * d + [0x10, 0x18, 0x28, 0x30].getD w 0x10) % 4 = 0 ∧
        0x800 + 0x40 * d + [0x10, 0x18, 0x28, 0x30].getD w 0x10 ≠ 0x1420 ∧
        (0x800 + 0x40 * d + [0x14, 0x1C, 0x2C, 0x34].getD w 0) * 8 + 0 < 0x84000 := by
      rcases lt_four_cases hw with rfl | rfl | rfl | rfl <;> simp only [List.getD_cons_zero, List.getD_cons_succ] <;> omega
    obtain ⟨hal, hne, hlt⟩ := hoff
    obtain ⟨t, he, hr, hb, hk⟩ := exec_loRead hs hup hc hal hne (regView_storeLo s.blk w hw d hd)
    refine ⟨t, he, hk, hr, ?_⟩
    rw [hb _ _ hlt, latchLo_storeLo _ w hw d hd, Block.bget_bset_self]
    simp [storeLoValue]
  · intro d hd
    have hc : exec (.trigTsLoRead d) s = s.act true (fun _ b => loRead (0x40C + 0x40 * d) b) := by
      show s.act _ _ = _
      simp [Instr.wf, hd]
    obtain ⟨t, he, hr, hb, hk⟩ := exec_loRead hs hup hc (by omega) (by omega) (regView_trigTs s.blk d hd)
    have hb' : ∀ o, o < 0x10800 → t.blk.bget o 0 = _ := fun o ho => (hb o 0 (by omega)).trans (by rw [latchLo_trigTs _ d hd])
    refine ⟨t, he, hr, ?_, ?_, ?_, ?_, hk⟩
    all_goals
      rw [hb' _ (by omega)]
      simp (disch := omega) [bget_bset_off]
  · obtain ⟨t, he, hr, hb, hk⟩ := exec_loRead hs hup (c := .indigoSyncLoRead) rfl (by decide) (by decide) rfl
    exact ⟨t, he, hr, by rw [hb _ _ (by decide)]; simp [latchLo], hk⟩
  · intro d hd
    have hc : exec (.maskTsLoRead d) s = s.act true (fun _ b => loRead (0xC08 + 0x20 * d) b) := by
      show s.act _ _ = _
      simp [Instr.wf, hd]
    obtain ⟨t, he, hr, hb, hk⟩ := exec_loRead hs hup hc (by omega) (by omega) (regView_maskTs s.blk d hd)
    exact ⟨t, he, hr, by rw [hb _ _ (by omega), latchLo_maskTs _ d hd]; simp, hk⟩
  · obtain ⟨t, he, hr, hb, hk⟩ := exec_loRead hs hup (c := .clkJumpLoRead) rfl (by decide) (by decide) rfl
    exact ⟨t, he, hr, by rw [hb _ _ (by decide)]; simp [latchLo], hk⟩
  · obtain ⟨t, he, hr, hb, hk⟩ := exec_loRead hs hup (c := .ptmDevLoRead) rfl (by decide) (by decide) rfl
    refine ⟨t, he, hr, ?_, ?_, ?_, hk⟩
    all_goals
      rw [hb _ _ (by decide)]
      simp [latchLo, ptmDevLo, Block.bget_bset]

end Sys2Proof.Machine

/-! # What the queue manager and the records leave alone (R412 to R436, R236)

A push can wake a bank, serve those who wait, be forwarded and pushed again, and post a record. What all of this changes is a short list
of fields; an observation that none of the single changes touches is as before after any of it. -/

namespace Sys2Proof.Machine

/-- An observation of the block that no single change of the queue manager touches: of a queue, a word, a tag, a bank's request for ON,
of what leaves the module or is relayed, of the replies that Q0 loses, of the count of errors, and the record of a refused push. -/
structure QueueBlind {γ : Type} (g : Block → γ) : Prop where
  queue : ∀ b k q, g (b.setQueue k q) = g b := by intros; rfl
  word : ∀ b k i v, g (b.setWord k i v) = g b := by intros; rfl
  tag : ∀ b k i v, g (b.setTag k i v) = g b := by intros; rfl
  bank : ∀ b k v, g (b.setBank k { b.bank k with want := 0, waking := v }) = g b := by intros; rfl
  emit : ∀ b o, g (b.emit o) = g b := by intros; rfl
  relay : ∀ (b : Block) r h, g { b with chain := { b.chain with relay := r, relayHeld := h } } = g b := by intros; rfl
  lose : ∀ b, g (loseReplies b) = g b := by intros; rfl
  errs : ∀ (b : Block) e, g { b with errs := e } = g b := by intros; rfl
  refused : ∀ b q, g (pushRefused q b) = g b := by intros; rfl

section

variable {γ : Type} {g : Block → γ} (hg : QueueBlind g)
include hg

/-! ### One ring -/

theorem QueueBlind.wakeBank (k : Nat) (b : Block) : g (wakeBank k b) = g b := by
  unfold Machine.wakeBank
  dsimp only
  split
  · split
    · rfl
    · exact hg.bank b k (b.bank k).waking
  · exact hg.bank b k true

theorem QueueBlind.ringWake (key : Nat) (b : Block) : g (ringWake key b) = g b := by
  unfold Machine.ringWake
  split
  · rfl
  · exact hg.wakeBank _ b

theorem QueueBlind.qWrite (key k data tags : Nat) (b : Block) : g (qWrite key k data tags b) = g b := by
  unfold Machine.qWrite
  rw [hg.queue, hg.tag, hg.word]

theorem QueueBlind.qReport (key k n : Nat) (b : Block) : g (qReport key k n b) = g b := by
  unfold Machine.qReport
  dsimp only
  split
  · exact hg.word ..
  · split
    · exact hg.qWrite ..
    · exact hg.queue ..

theorem QueueBlind.qFlush (key k : Nat) (b : Block) : g (qFlush key k b) = g b := by
  unfold Machine.qFlush
  dsimp only
  split
  · split
    · rw [hg.qReport, hg.queue]
    · exact hg.ringWake ..
  · rfl

theorem QueueBlind.countDrop (key : Nat) (b : Block) : g (countDrop key b) = g b := hg.queue ..

theorem QueueBlind.qPushItem (key : Nat) (a : Agent) (prio data : Nat) (e : Bool) (b : Block) :
    g (qPushItem key a prio data e b) = g b := by
  unfold Machine.qPushItem
  dsimp only
  split
  · rw [hg.queue, hg.qWrite, hg.qFlush]
  · rw [hg.qReport, hg.countDrop, hg.queue, hg.qFlush]

theorem QueueBlind.qPop (key : Nat) (b : Block) : g (qPop key b).2 = g b := by
  unfold Machine.qPop
  split
  · rfl
  · dsimp only
    rw [hg.queue]
    split
    · exact hg.tag ..
    · rfl

theorem QueueBlind.qEmpty (key : Nat) (b : Block) : g (qEmpty key b) = g b := hg.queue ..

theorem QueueBlind.qDiscard (key : Nat) (b : Block) : g (qDiscard key b) = g b := by
  unfold Machine.qDiscard
  rw [hg.queue, hg.qEmpty]

theorem QueueBlind.qPushVoid (key : Nat) (a : Agent) (prio : Nat) (e : Bool) (b : Block) : g (qPushVoid key a prio e b) = g b := by
  unfold Machine.qPushVoid
  dsimp only
  split
  · exact hg.queue ..
  · rfl

theorem QueueBlind.qUpset (key k : Nat) (b : Block) : g (qUpset key k b) = g b := hg.queue ..

theorem QueueBlind.qMark (key : Nat) (b : Block) : g (qMark key b) = g b := hg.queue ..

theorem QueueBlind.qRewind (key : Nat) (b : Block) : g (qRewind key b) = g b := hg.queue ..

theorem QueueBlind.qRelease (key : Nat) (b : Block) : g (qRelease key b) = g b := by
  unfold Machine.qRelease
  rw [forEach_keeps g fun k _ b => hg.qFlush key k b, hg.queue]

theorem QueueBlind.qCommand (c key : Nat) (b : Block) : g (qCommand c key b) = g b := by
  unfold Machine.qCommand
  split
  · exact hg.qMark key b
  · exact hg.qRewind key b
  · exact hg.qRelease key b
  · rfl

theorem QueueBlind.popMany (key n : Nat) (b : Block) : g (popMany key n b).2 = g b := by
  induction n generalizing b with
  | zero => rfl
  | succ n ih => exact (ih _).trans (hg.qPop key b)

/-! ### Items on their way to the master (R378) -/

theorem QueueBlind.sendUp (a : Agent) (mq : Nat) (ended : Bool) (ws : List Nat) (b : Block) : g (sendUp a mq ended ws b) = g b := by
  induction ws generalizing b with
  | nil => rfl
  | cons w ws ih => exact (ih _).trans ((hg.emit ..).trans (hg.relay b _ b.chain.relayHeld))

theorem QueueBlind.relayNext (n : Nat) (b : Block) : g (relayNext n b) = g b := by
  induction n generalizing b with
  | zero => rfl
  | succ n ih =>
    unfold Machine.relayNext
    split
    · exact (ih _).trans ((hg.sendUp ..).trans (hg.relay b b.chain.relay _))
    · rfl

theorem QueueBlind.relayItem (a : Agent) (mq data : Nat) (e : Bool) (b : Block) : g (relayItem a mq data e b) = g b := by
  unfold Machine.relayItem
  dsimp only
  split
  · exact hg.relay b b.chain.relay _
  · split
    · rw [hg.relayNext, hg.sendUp]
    · exact hg.sendUp ..

/-! ### Serving those who wait -/

theorem QueueBlind.hostPush (key prio data : Nat) (e : Bool) (b : Block) : g (hostPush key prio data e b) = g b := by
  unfold Machine.hostPush
  dsimp only
  split
  · exact hg.qPushItem ..
  · rw [hg.ringWake, hg.queue]

section

variable {push : Agent → Nat → Nat → Bool → Block → Block} (hp : ∀ a q d e b, g (push a q d e b) = g b)
include hp

theorem QueueBlind.deliver (q : Nat) (a : Agent) (p : Popped) (b : Block) : g (deliver push q a p b) = g b := by
  unfold Machine.deliver
  split
  · dsimp only
    split
    · exact hp ..
    · exact hg.relayItem ..
  · exact hg.emit ..

theorem QueueBlind.serveStalled (key : Nat) (b : Block) : g (serveStalled push key b) = g b := by
  unfold Machine.serveStalled
  dsimp only
  split
  case h_1 a rest _ hs hn =>
    split
    · rfl
    · have hpop := hg.qPop key (b.setQueue key { b.queue key with stalled := rest })
      split
      case h_1 p b' he =>
        rw [he] at hpop
        rw [hg.deliver hp, hpop, hg.queue]
      case h_2 b' he =>
        rw [he] at hpop
        rw [hpop, hg.queue]
  · rfl

theorem QueueBlind.serveOne (key : Nat) (b : Block) : g (serveOne push key b) = g b := by
  unfold Machine.serveOne
  dsimp only
  split
  · rfl
  · split
    · rw [hg.qCommand, hg.queue]
    · rw [hg.serveStalled hp, hg.hostPush, hg.queue]
    · rw [hg.emit, hg.queue]
    · rw [hg.emit, hg.popMany, hg.queue]
    · rw [hg.emit, hg.popMany, hg.queue]
    · split
      · rfl
      · rw [hg.emit, hg.queue]
    · exact hg.serveStalled hp key b
    · rfl

theorem QueueBlind.serveAll (key : Nat) (b : Block) : g (serveAll push key b) = g b :=
  forEach_keeps g (fun _ _ b => hg.serveOne hp key b) b

end

section

variable {serve : Nat → Block → Block} (hs : ∀ k b, g (serve k b) = g b)
include hs

theorem QueueBlind.pushEach (key : Nat) (a : Agent) (prio : Nat) (ended : Bool) (ws : List Nat) (b : Block) :
    g (pushEach serve key a prio ended ws b) = g b := by
  induction ws generalizing b with
  | nil => rfl
  | cons w ws ih => exact (ih _).trans ((hs ..).trans (hg.qPushItem ..))

theorem QueueBlind.admitHost (key : Nat) (p : HeldPush) (b : Block) : g (admitHost serve key p b) = g b := by
  unfold Machine.admitHost
  rw [hs, hg.queue, hg.pushEach hs, hg.queue]

theorem QueueBlind.admitEach (key n : Nat) (b : Block) : g (admitEach serve key n b) = g b := by
  induction n generalizing b with
  | zero => rfl
  | succ n ih =>
    unfold Machine.admitEach
    dsimp only
    split
    · split
      · rfl
      · rw [ih]
        split
        · rw [hg.admitHost hs, hg.queue]
        · rw [hg.pushEach hs, hg.queue]
    · rfl

theorem QueueBlind.pushWith (key : Nat) (a : Agent) (prio : Nat) (ended : Bool) (ws : List Nat) (b : Block) :
    g (pushWith serve key a prio ended ws b) = g b := by
  unfold Machine.pushWith
  dsimp only
  split
  · rw [hg.ringWake, hg.queue]
  · exact hg.pushEach hs ..

end

/-- By the number of moves that a forwarded item may still make. -/
theorem QueueBlind.forwardIn (n : Nat) (a : Agent) (mq data : Nat) (e : Bool) (b : Block) : g (forwardIn n a mq data e b) = g b := by
  induction n generalizing a mq data e b with
  | zero => rfl
  | succ n ih =>
    have hs : ∀ k b, g (Machine.serveAll (Machine.forwardIn n) k b) = g b := hg.serveAll ih
    unfold Machine.forwardIn
    dsimp only
    split
    · exact hg.refused ..
    · split
      · rw [hg.admitEach hs, hg.pushWith hs]
      · exact hg.pushWith hs ..

theorem QueueBlind.serveWaiting (key : Nat) (b : Block) : g (serveWaiting key b) = g b := hg.serveAll (hg.forwardIn 8) key b

theorem QueueBlind.admitHeld (key n : Nat) (b : Block) : g (admitHeld key n b) = g b := hg.admitEach hg.serveWaiting key n b

theorem QueueBlind.pushItems (key : Nat) (a : Agent) (prio : Nat) (ended : Bool) (ws : List Nat) (b : Block) :
    g (pushItems key a prio ended ws b) = g b := hg.pushEach hg.serveWaiting ..

theorem QueueBlind.pushOrHold (key : Nat) (a : Agent) (prio : Nat) (ended : Bool) (ws : List Nat) (b : Block) :
    g (pushOrHold key a prio ended ws b) = g b := hg.pushWith hg.serveWaiting ..

theorem QueueBlind.pushPacketRaw (key : Nat) (a : Agent) (ws : List Nat) (b : Block) : g (pushPacketRaw key a ws b) = g b := by
  unfold Machine.pushPacketRaw
  dsimp only
  split
  · exact hg.refused ..
  · exact hg.pushOrHold ..

theorem QueueBlind.ringsWoken (k : Nat) (b : Block) : g (ringsWoken k b) = g b :=
  forEach_keeps g (fun key _ b => by
    rw [hg.serveWaiting, hg.admitHeld, forEach_keeps g fun k _ b => hg.qFlush key k b]) b

theorem QueueBlind.qCheck (key : Nat) (b : Block) : g (qCheck key b).2 = g b := by
  unfold Machine.qCheck
  split
  · dsimp only
    rw [hg.pushPacketRaw, hg.errs, hg.queue]
    split
    · rw [hg.lose, hg.qEmpty, hg.qEmpty]
    · exact hg.qEmpty ..
  · rfl

theorem QueueBlind.pushPacket (key : Nat) (a : Agent) (ws : List Nat) (b : Block) : g (pushPacket key a ws b) = g b := by
  have hc := hg.qCheck key b
  unfold Machine.pushPacket
  split
  case h_1 c he =>
    rw [he] at hc
    exact hc
  case h_2 c he =>
    rw [he] at hc
    exact (hg.pushPacketRaw ..).trans hc

theorem QueueBlind.toQueue (t : Nat) (ws : List Nat) (b : Block) : g (toQueue t ws b) = g b := by
  unfold Machine.toQueue
  dsimp only
  split
  · rfl
  · exact hg.pushPacket ..

end

/-! ### Records (R236) -/

/-- An observation that sees neither the queue manager nor the report records that wait for a region. -/
structure RecordBlind {γ : Type} (g : Block → γ) : Prop extends QueueBlind g where
  reports : ∀ b t l, g (b.setStore t { b.store t with reports := l }) = g b := by intros; rfl

section

variable {γ : Type} {g : Block → γ} (hg : RecordBlind g)
include hg

theorem RecordBlind.toRegion (a t : Nat) (ws : List Nat) (b : Block) : g (toRegion a t ws b) = g b := by
  unfold Machine.toRegion
  dsimp only
  split
  · exact hg.reports ..
  · rfl

theorem RecordBlind.recordTo (a t kind : Nat) (ws : List Nat) (b : Block) : g (recordTo a t kind ws b) = g b := by
  have hr : g (if b.rd (0x6200 + t) (2 + kind) = 0 || b.rd (0x6200 + t) (2 + kind) = 2 then Machine.toRegion a t ws b else b) = g b := by
    split
    · exact hg.toRegion ..
    · rfl
  unfold Machine.recordTo
  dsimp only
  split
  · exact (hg.toQueueBlind.toQueue ..).trans hr
  · exact hr

theorem RecordBlind.reportAt (a t kind : Nat) (ws : List Nat) (b : Block) : g (reportAt a t kind ws b) = g b := by
  unfold Machine.reportAt
  split
  · rfl
  · exact hg.recordTo ..

theorem RecordBlind.report (t kind : Nat) (ws : List Nat) (b : Block) : g (report t kind ws b) = g b := hg.reportAt ..

theorem RecordBlind.eventRecordAt (a t kind param w : Nat) (more : List Nat) (b : Block) :
    g (eventRecordAt a t kind param w more b) = g b := hg.reportAt ..

theorem RecordBlind.eventRecord (t kind param w : Nat) (more : List Nat) (b : Block) : g (eventRecord t kind param w more b) = g b :=
  hg.reportAt ..

theorem RecordBlind.eventAll (kind param w : Nat) (more : List Nat) (b : Block) : g (eventAll kind param w more b) = g b :=
  forEach_keeps g (fun t _ b => hg.eventRecord t kind param w more b) b

theorem RecordBlind.postError (dom class_ detail resource extra : Nat) (stopped : Bool) (b : Block) :
    g (postError dom class_ detail resource extra stopped b) = g b := by
  unfold Machine.postError
  dsimp only
  rw [hg.pushPacket]
  split
  · rw [hg.report, hg.errs]
  · exact hg.errs ..

end

/-! ### Observations of this kind -/

/-- The registers but those of a refused push (0x7080, R415). -/
theorem recordBlind_reg {i r : Nat} (hr : r < 256) (hi : i ≠ 0x7080 ∨ r ≠ 3 ∧ r ≠ 4 ∧ r ≠ 6) : RecordBlind (fun b => b.reg i r) where
  refused b q := by
    have hk : ∀ k < 256, k = 3 ∨ k = 4 ∨ k = 6 → odKey i r ≠ odKey 0x7080 k := fun k hk hv e => by
      obtain ⟨h1, h2⟩ := (odKey_inj hr hk).1 e
      omega
    simp only [pushRefused, Block.flag, Block.bump, Block.reg_wr, if_neg (hk 3 (by decide) (by decide)),
      if_neg (hk 4 (by decide) (by decide)), if_neg (hk 6 (by decide) (by decide))]

theorem recordBlind_rd {i r : Nat} (hr : r < 256) (hi : i ≠ 0x7080 ∨ r ≠ 3 ∧ r ≠ 4 ∧ r ≠ 6) : RecordBlind (fun b => b.rd i r) where
  refused b q := congrArg BitVec.toNat ((recordBlind_reg hr hi).refused b q)

theorem recordBlind_time : RecordBlind Block.time := {}
theorem recordBlind_mops : RecordBlind Block.mops := {}
theorem recordBlind_doms : RecordBlind Block.doms := {}
theorem recordBlind_power : RecordBlind Block.power := {}
theorem recordBlind_bar : RecordBlind Block.bar := {}

end Sys2Proof.Machine

/-! # Registers after a command (R46, R49), and what a command keeps

Keys of registers are numbers, index times 256 plus subindex: side conditions here are stated of the numbers, so that arithmetic decides
them for every unit at once. -/

namespace Sys2Proof.Machine

/-! ### Counters, flags and signed values -/

theorem ite_lt {p : Prop} [Decidable p] {x y n : Nat} (hx : x < n) (hy : y < n) : (if p then x else y) < n := by
  split
  · exact hx
  · exact hy

theorem satTo_lt {len : Nat} (h : len ≤ 64) (v : Nat) : satTo len v < 2 ^ 64 := by
  have hones : ones len < 2 ^ 64 :=
    Nat.lt_of_lt_of_le (Nat.sub_lt (Nat.two_pow_pos len) (by decide)) (Nat.pow_le_pow_right (by decide) h)
  exact Nat.lt_of_le_of_lt (Nat.min_le_right _ _) hones

section

variable (b : Block) {i s j r : Nat}

theorem Block.rd_wr_of_lt (i s : Nat) {v : Nat} (hv : v < 2 ^ 64) : (b.wr i s v).rd i s = v := by
  rw [Block.rd_wr_self, Nat.mod_eq_of_lt hv]

theorem Block.rd_wr_of_ne (v : Nat) (h : j * 256 + r ≠ i * 256 + s) : (b.wr i s v).rd j r = b.rd j r := Block.rd_wr_ne _ _ _ _ _ _ h

theorem Block.rdI_wr_of_ne (v : Nat) (h : j * 256 + r ≠ i * 256 + s) : (b.wr i s v).rdI j r = b.rdI j r := by
  have hk : odKey j r ≠ odKey i s := h
  unfold Block.rdI
  rw [Block.reg_wr, if_neg hk]

theorem Block.rd_wrI_of_ne (v : Int) (h : j * 256 + r ≠ i * 256 + s) : (b.wrI i s v).rd j r = b.rd j r := by
  have hk : odKey j r ≠ odKey i s := h
  unfold Block.rd
  rw [Block.reg_wrI, if_neg hk]

theorem Block.rdI_wrI_of_ne (v : Int) (h : j * 256 + r ≠ i * 256 + s) : (b.wrI i s v).rdI j r = b.rdI j r := by
  have hk : odKey j r ≠ odKey i s := h
  unfold Block.rdI
  rw [Block.reg_wrI, if_neg hk]

theorem Block.rdI_wrI_self (i s : Nat) {v : Int} (hlo : -2 ^ 63 ≤ v) (hhi : v < 2 ^ 63) : (b.wrI i s v).rdI i s = v := by
  unfold Block.rdI
  rw [Block.reg_wrI, if_pos rfl, BitVec.toInt_ofInt, Int.bmod_eq_of_le (by omega) (by omega)]

theorem Block.rd_bump_self {w : Nat} (i s n : Nat) (hw : w ≤ 64) : (b.bump w i s n).rd i s = satTo w (b.rd i s + n) :=
  Block.rd_wr_of_lt _ _ _ (satTo_lt hw _)

theorem Block.rd_bump_of_ne (w n : Nat) (h : j * 256 + r ≠ i * 256 + s) : (b.bump w i s n).rd j r = b.rd j r := Block.rd_wr_of_ne _ _ h

theorem Block.rdI_bump_of_ne (w n : Nat) (h : j * 256 + r ≠ i * 256 + s) : (b.bump w i s n).rdI j r = b.rdI j r := Block.rdI_wr_of_ne _ _ h

theorem Block.rd_flag_self {c : Nat} (i n : Nat) (h : s ≠ c) : (b.flag i s c n).rd i s = 1 := by
  rw [Block.flag, Block.rd_bump_of_ne _ _ _ (by omega)]
  exact Block.rd_wr_self ..

theorem Block.rd_flag_count {c : Nat} (i n : Nat) (h : s ≠ c) : (b.flag i s c n).rd i c = satTo 32 (b.rd i c + n) := by
  rw [Block.flag, Block.rd_bump_self _ _ _ _ (by decide), Block.rd_wr_of_ne _ _ (by omega)]

theorem Block.rd_flag_of_ne {c : Nat} (n : Nat) (hs : j * 256 + r ≠ i * 256 + s) (hc : j * 256 + r ≠ i * 256 + c) :
    (b.flag i s c n).rd j r = b.rd j r := by
  rw [Block.flag, Block.rd_bump_of_ne _ _ _ hc, Block.rd_wr_of_ne _ _ hs]

theorem Block.rd_wrBit_self (i s k : Nat) (v : Bool) (h : putBit (b.rd i s) k v < 2 ^ 64) :
    (b.wrBit i s k v).rd i s = putBit (b.rd i s) k v := Block.rd_wr_of_lt _ _ _ h

theorem Block.rd_wrBit_of_ne (k : Nat) (v : Bool) (h : j * 256 + r ≠ i * 256 + s) : (b.wrBit i s k v).rd j r = b.rd j r :=
  Block.rd_wr_of_ne _ _ h

end

/-! ### Registers at the end of a command -/

/-- The register is none of those that the end of every command may write (R523 to R525). -/
theorem State.run_rd_of_ne (s : State) (f : List Host.Cell → Block → Block) (i r : Nat)
    (h : r < 256 ∧ i * 256 + r ≠ 0x800001 ∧ i ≠ 0x8001 ∧ i ≠ 0x8002 ∧ i * 256 + r ≠ 0x1E200B ∧ i * 256 + r ≠ 0x200603) :
    (s.run f).blk.rd i r = (f s.mem s.blk).rd i r := by
  obtain ⟨hr, h1, h2, h3, h4, h5⟩ := h
  refine State.run_rd s f i r hr ?_
  simp only [Safety.reporting, Bool.or_eq_false_iff, Bool.and_eq_false_iff, beq_eq_false_iff_ne]
  omega

theorem State.run_rdI_of_ne (s : State) (f : List Host.Cell → Block → Block) (i r : Nat)
    (h : r < 256 ∧ i * 256 + r ≠ 0x800001 ∧ i ≠ 0x8001 ∧ i ≠ 0x8002 ∧ i * 256 + r ≠ 0x1E200B ∧ i * 256 + r ≠ 0x200603) :
    (s.run f).blk.rdI i r = (f s.mem s.blk).rdI i r := by
  obtain ⟨hr, h1, h2, h3, h4, h5⟩ := h
  unfold Block.rdI
  rw [State.run_reg s f i r hr]
  simp only [Safety.reporting, Bool.or_eq_false_iff, Bool.and_eq_false_iff, beq_eq_false_iff_ne]
  omega

/-! ### A block within which only some registers have changed -/

/-- Of the registers none but those of `R`, and the count of requests, has changed, and no change of the store is asked for. -/
structure Block.Within (R : Nat → Nat → Bool) (b c : Block) : Prop where
  reg : ∀ i r, r < 256 → i * 256 + r ≠ 0x1E1001 → R i r = false → c.reg i r = b.reg i r
  mops : c.mops = b.mops

theorem Block.Within.refl (R : Nat → Nat → Bool) (b : Block) : Block.Within R b b := ⟨fun _ _ _ _ _ => rfl, rfl⟩

theorem Block.Within.trans {R : Nat → Nat → Bool} {a b c : Block} (hb : Block.Within R a b) (hc : Block.Within R b c) : Block.Within R a c :=
  ⟨fun i r h1 h2 h3 => (hc.reg i r h1 h2 h3).trans (hb.reg i r h1 h2 h3), hc.mops.trans hb.mops⟩

/-- An effect on other fields. -/
theorem Block.Within.of_regs {R : Nat → Nat → Bool} {a b c : Block} (h : Block.Within R a b) (hr : c.regs = b.regs) (hm : c.mops = b.mops) :
    Block.Within R a c := h.trans ⟨fun i r _ _ _ => Block.reg_of_regs hr i r, hm⟩

section

variable {R : Nat → Nat → Bool} {a b : Block} (h : Block.Within R a b) {i s : Nat}
include h

theorem Block.Within.wr (v : Nat) (hs : s < 256) (hR : R i s = true) : Block.Within R a (b.wr i s v) :=
  h.trans ⟨fun j r hr _ hj => by
    have hk : odKey j r ≠ odKey i s := fun e => by
      obtain ⟨rfl, rfl⟩ := (odKey_inj hr hs).1 e
      simp [hR] at hj
    rw [Block.reg_wr, if_neg hk], rfl⟩

theorem Block.Within.wrI (v : Int) (hs : s < 256) (hR : R i s = true) : Block.Within R a (b.wrI i s v) :=
  h.trans ⟨fun j r hr _ hj => by
    have hk : odKey j r ≠ odKey i s := fun e => by
      obtain ⟨rfl, rfl⟩ := (odKey_inj hr hs).1 e
      simp [hR] at hj
    rw [Block.reg_wrI, if_neg hk], rfl⟩

theorem Block.Within.bump (w n : Nat) (hs : s < 256) (hR : R i s = true) : Block.Within R a (b.bump w i s n) := h.wr _ hs hR

theorem Block.Within.flag {c : Nat} (n : Nat) (hs : s < 256) (hc : c < 256) (hR : R i s = true) (hRc : R i c = true) :
    Block.Within R a (b.flag i s c n) := (h.wr 1 hs hR).bump _ _ hc hRc

theorem Block.Within.wrBit (k : Nat) (v : Bool) (hs : s < 256) (hR : R i s = true) : Block.Within R a (b.wrBit i s k v) := h.wr _ hs hR

/-- A register that has not changed. -/
theorem Block.Within.rd (hs : s < 256) (hi : i * 256 + s ≠ 0x1E1001) (hR : R i s = false) : b.rd i s = a.rd i s :=
  congrArg BitVec.toNat (h.reg i s hs hi hR)

end

/-- A command within whose effect only the registers of `R` have changed keeps everything else. -/
theorem Block.Within.keeps {R : Nat → Nat → Bool} {s : State} {f : List Host.Cell → Block → Block}
    (h : Block.Within R s.blk (f s.mem s.blk)) : Safety.Keeps R s (s.run f) :=
  State.run_keeps (fun i r hr hi hR => h.reg i r hr (fun e => hi (by
    obtain ⟨rfl, rfl⟩ : i = 0x1E10 ∧ r = 1 := by omega
    rfl)) hR) h.mops

end Sys2Proof.Machine

/-! # Requests that a module serves, over BAR0 or over a dictionary path (R60, R441, R474)

A request over a dictionary path is served in the block that counts it, one over BAR0 in the block as it stands. Of both blocks the
owning chapter sees the same: they are alike. -/

namespace Sys2Proof.Machine

/-! ### Blocks alike but for the count of requests -/

/-- The block is as `b` is, but for the count of requests (0x1E10.01). -/
structure Block.Alike (c b : Block) : Prop where
  shape : c = { b with regs := c.regs }
  reg : ∀ i r, i * 256 + r ≠ 0x1E1001 → c.reg i r = b.reg i r

theorem Block.Alike.refl (b : Block) : b.Alike b := ⟨rfl, fun _ _ _ => rfl⟩

theorem Block.counted_alike (b : Block) : b.counted.Alike b :=
  ⟨rfl, fun i r h => by
    have hk : odKey i r ≠ odKey 0x1E10 1 := h
    rw [Block.counted, Block.bump, Block.reg_wr, if_neg hk]⟩

section

variable {b c : Block} (h : c.Alike b)
include h

theorem Block.Alike.rd (i r : Nat) (hk : i * 256 + r ≠ 0x1E1001) : c.rd i r = b.rd i r := congrArg BitVec.toNat (h.reg i r hk)
theorem Block.Alike.rdI (i r : Nat) (hk : i * 256 + r ≠ 0x1E1001) : c.rdI i r = b.rdI i r := congrArg BitVec.toInt (h.reg i r hk)
theorem Block.Alike.time : c.time = b.time := (congrArg Block.time h.shape :)
theorem Block.Alike.doms : c.doms = b.doms := (congrArg Block.doms h.shape :)
theorem Block.Alike.mops : c.mops = b.mops := (congrArg Block.mops h.shape :)
theorem Block.Alike.part : c.part = b.part := (congrArg Block.part h.shape :)

theorem Block.Alike.dstate {d : Nat} (hd : d < 256) : c.dstate d = b.dstate d := h.rd _ _ (by omega)
theorem Block.Alike.mode {d : Nat} (hd : d < 256) : c.mode d = b.mode d := h.rd _ _ (by omega)
theorem Block.Alike.podDom {n : Nat} (hn : n < 256) : c.podDom n = b.podDom n := h.rd _ _ (by omega)
theorem Block.Alike.ptuDom {u : Nat} (hu : u < 256) : c.ptuDom u = b.ptuDom u := h.rd _ _ (by omega)

theorem Block.Alike.armed {d : Nat} (hd : d < 256) : c.armed d = b.armed d := by
  simp only [Block.armed, h.dstate hd]

theorem Block.Alike.regionStatus (r v : Nat) : regionStatus c r v = regionStatus b r v := by
  have hin : c.installed = b.installed := congrArg (fun p => match p with | .h48 => 24576 | .h24 => 12288) h.part
  have hfirst : ∀ q, c.regionFirst q = b.regionFirst q := fun q => congrArg (bits · 0 16) (h.rd _ _ (by omega))
  have hsize : ∀ q, c.regionSize q = b.regionSize q := fun q => congrArg (bits · 16 16) (h.rd _ _ (by omega))
  unfold Machine.regionStatus
  rw [hin]
  simp only [hfirst, hsize]

theorem Block.Alike.clockCfg : c.clockCfg = b.clockCfg := by
  simp [Block.clockCfg, h.rd]

/-- Whether a value is legal does not depend on the count of requests (R56). -/
theorem Block.Alike.valueOk {idx : Nat} (hi : idx ≠ 0x1E10) (r : OdRow) (sub v : Nat) : valueOk c r idx sub v = valueOk b r idx sub v := by
  have hrd : ∀ k < 256, c.rd idx k = b.rd idx k := fun k hk => h.rd _ _ (by omega)
  have hrdI : ∀ k < 256, c.rdI idx k = b.rdI idx k := fun k hk => h.rdI _ _ (by omega)
  have hform : formOk c idx sub v = formOk b idx sub v := by
    simp only [formOk, h.regionStatus, hrd 3 (by decide), hrd 1 (by decide), hrd 5 (by decide)]
  have hcross : crossOk c idx sub v = crossOk b idx sub v := by
    simp only [crossOk, h.clockCfg, hrd 4 (by decide), hrd 6 (by decide), hrdI 1 (by decide), hrdI 2 (by decide), hrdI 3 (by decide)]
  simp only [Machine.valueOk, hform, hcross]

/-- Nor does the owning domain, and whether it is armed (R96). -/
theorem Block.Alike.ownerArmed {idx : Nat} (hi : idx ≠ 0x1E10) (r : OdRow) (sub : Nat) : ownerArmed c r idx sub = ownerArmed b r idx sub := by
  have howner : owningDomain c idx sub = owningDomain b idx sub := by
    have hpod : ∀ n < 256, c.podDom n = b.podDom n := fun n hn => h.podDom hn
    have hptu : ∀ n < 256, c.ptuDom n = b.ptuDom n := fun n hn => h.ptuDom hn
    simp only [owningDomain, hpod (idx % 256) (Nat.mod_lt _ (by decide)), hpod (idx % 256 / 2) (by omega), hptu (idx % 256 % 16) (by omega),
      hpod (idx % 256 - 0x10) (by omega), h.rd idx 1 (by omega)]
  unfold Machine.ownerArmed
  rw [howner]
  by_cases hd : owningDomain b idx sub < 8
  · rw [h.armed (by omega)]
  · simp [hd]

end

theorem Block.Alike.within {b c : Block} (h : c.Alike b) (R : Nat → Nat → Bool) : Block.Within R b c :=
  ⟨fun i r _ hk _ => h.reg i r hk, h.mops⟩

/-! ### The answer -/

/-- What the path of a request changes beside its effect: the answer, BAR0's own fields, and what leaves the module. -/
def Block.reply (b : Block) (x : Resp) (m : List (Nat × Nat)) (o : List Output) : Block := { b with resp := x, bar := m, out := o }

section

variable (b : Block) (x : Resp) (m : List (Nat × Nat)) (o : List Output)

@[simp] theorem Block.reply_resp : (b.reply x m o).resp = x := rfl
@[simp] theorem Block.reply_reg (i r : Nat) : (b.reply x m o).reg i r = b.reg i r := rfl
@[simp] theorem Block.reply_rd (i r : Nat) : (b.reply x m o).rd i r = b.rd i r := rfl
@[simp] theorem Block.reply_rdI (i r : Nat) : (b.reply x m o).rdI i r = b.rdI i r := rfl
@[simp] theorem Block.reply_mops : (b.reply x m o).mops = b.mops := rfl

end

/-- An answer of a dictionary path, and on the CAN path its frame. -/
theorem answered_eq (p : Path) (x : Resp) (b : Block) : ∃ o, answered p (some x, b) = b.reply x b.bar o := by
  unfold answered
  dsimp only
  split
  · exact ⟨_, rfl⟩
  · exact ⟨_, rfl⟩

/-! ### A write over a dictionary path -/

theorem State.run_congr {s : State} {f g : List Host.Cell → Block → Block} (h : f s.mem s.blk = g s.mem s.blk) : s.run f = s.run g := by
  unfold State.run
  rw [h]

section

variable {s : State} {p : Path} {idx sub v : Nat} (hs : Safety.Serving s)
include hs

/-- A write that the server answers at once: the run ends in the served block with its answer. -/
theorem State.put_eq_of_dictWrite {x : Resp} {c : Block} (hh : serverHears s.blk p = true)
    (hw : dictWrite p .path s.mem idx sub (valueData idx sub v) s.blk.counted = (some x, c)) :
    ∃ o, s.put p idx sub v = s.run (fun _ _ => c.reply x c.bar o) := by
  obtain ⟨o, ho⟩ := answered_eq p x c
  exact ⟨o, State.run_congr (((dictPut_of_serving hs hh s.mem idx sub v).trans (congrArg (answered p) hw)).trans ho)⟩

omit hs in
/-- Past the checks of R60 the owning chapter serves the write, in the block that counts it. -/
theorem Safety.Accepts.dictWrite {st : Nat} {c : Block} (ha : Safety.Accepts s p idx sub v) {mem : List Host.Cell}
    (hc : chapterWrite p mem idx sub v s.blk.counted = (st, c)) (hst : st ≠ stRANGE) (hi : idx ≠ 0x1E10) (back : ReplyTo)
    (h10 : idx ≠ 0x1010) (h11 : idx ≠ 0x1011) (h22 : ¬ (idx = 0x2200 ∧ sub = 3)) :
    dictWrite p back mem idx sub (valueData idx sub v) s.blk.counted = (some (Resp.plain st), c) := by
  obtain ⟨_, haccess, hrow⟩ := ha
  have haccess' := (accessCheck_counted s.blk p idx sub true).trans haccess
  obtain ⟨r, hr⟩ : ∃ r, odRow? idx sub = some r := by
    cases hr : odRow? idx sub with
    | none => simp [hr] at hrow
    | some r => exact ⟨r, rfl⟩
  simp only [hr, Option.any_some, Bool.and_eq_true, decide_eq_true_eq, Bool.not_eq_true'] at hrow
  obtain ⟨⟨hv, hok⟩, howner⟩ := hrow
  rw [← s.blk.counted_alike.valueOk hi] at hok
  rw [← s.blk.counted_alike.ownerArmed hi] at howner
  simp [Machine.dictWrite, haccess', hr, valueData, typeCheck, Nat.mod_eq_of_lt hv, hok, howner, h10, h11, hc, hst]
  intro h1 h2
  exact absurd ⟨h1, h2⟩ h22

end

/-- An accepted write that its chapter serves: the run ends in the block after the write, with its answer. -/
theorem State.put_eq {s : State} {p : Path} {idx sub v st : Nat} {c : Block} (hs : Safety.Serving s) (ha : Safety.Accepts s p idx sub v)
    (hc : chapterWrite p s.mem idx sub v s.blk.counted = (st, c)) (hst : st ≠ stRANGE) (hi : idx ≠ 0x1E10 := by omega)
    (h10 : idx ≠ 0x1010 := by omega) (h11 : idx ≠ 0x1011 := by omega) (h22 : ¬ (idx = 0x2200 ∧ sub = 3) := by omega) :
    ∃ o, s.put p idx sub v = s.run (fun _ _ => c.reply (Resp.plain st) c.bar o) :=
  State.put_eq_of_dictWrite hs ha.1 (ha.dictWrite hc hst hi .path h10 h11 h22)

/-- A write whose effect also depends on what the world outside supplies: past the checks of R60 the effect is made, in the block that
counts the write, and its status is the answer. -/
theorem run_dictWith {s : State} {p : Path} {idx sub v st : Nat} {f : Block → Served} {c : Block} (hs : Safety.Serving s)
    (ha : Safety.Accepts s p idx sub v) (hc : f s.blk.counted = (st, c)) (hst : st ≠ stRANGE) (hi : idx ≠ 0x1E10 := by omega) :
    ∃ o, s.run (fun _ b => dictWith p idx sub v f b) = s.run (fun _ _ => c.reply (Resp.plain st) c.bar o) := by
  obtain ⟨hh, haccess, hrow⟩ := ha
  have haccess' := (accessCheck_counted s.blk p idx sub true).trans haccess
  obtain ⟨_, hready, hps, hentry, _⟩ := hs
  have hawake : awake 5 s.blk = s.blk := by simp [awake, hps, hentry]
  obtain ⟨r, hr⟩ : ∃ r, odRow? idx sub = some r := by
    cases hr : odRow? idx sub with
    | none => simp [hr] at hrow
    | some r => exact ⟨r, rfl⟩
  simp only [hr, Option.any_some, Bool.and_eq_true, decide_eq_true_eq, Bool.not_eq_true'] at hrow
  obtain ⟨⟨hv, hok⟩, _⟩ := hrow
  rw [← s.blk.counted_alike.valueOk hi] at hok
  have hwith : dictWith p idx sub v f s.blk = answered p (some (Resp.plain st), c) := by
    have hbump : s.blk.bump 32 0x1E10 1 1 = s.blk.counted := rfl
    simp [dictWith, hh, serve, notServing, hready, hawake, hbump, haccess', hr, valueData, typeCheck, Nat.mod_eq_of_lt hv, hok, hc, hst]
  obtain ⟨o, ho⟩ := answered_eq p (Resp.plain st) c
  exact ⟨o, State.run_congr (hwith.trans ho)⟩

/-! ### A write over BAR0 (R441) -/

/-- A module that serves takes an aligned write of a register at once. -/
theorem barPut_of_serving {s : State} (hs : Safety.Serving s) (hup : s.blk.barUp = true) {off : Nat} (hoff : off < 0x2000000)
    (hal : off % 4 = 0) (mem : List Host.Cell) (v : Nat) : barPut mem off v s.blk = barWrite32 mem off v s.blk := by
  obtain ⟨_, hready, hps, hentry, _⟩ := hs
  have hwake : barWake off v s.blk = s.blk := by simp [barWake, awake, hps, hentry]
  have hawake : s.blk.asleepInHold = false := by simp [Block.asleepInHold, hps]
  have hwin : ¬ 0x4000000 ≤ off := by omega
  have hbank : ¬ 0x2000000 ≤ off := by omega
  simp [barPut, barWrite, hup, hwin, Block.ready, hready, hwake, hawake, hbank, hal]

/-- So is one that its register serves. -/
theorem barPut_of_regWrite {s : State} (hs : Safety.Serving s) (hup : s.blk.barUp = true) {off v : Nat} (hoff : off < 0x2000000)
    (hal : off % 4 = 0) {mem : List Host.Cell} {c : Block} (hc : regWrite mem off (v % 2 ^ 32) s.blk = (stOK, c)) :
    barPut mem off v s.blk = c := by
  rw [barPut_of_serving hs hup hoff hal, barWrite32, hc]
  rfl

/-! ### A write over either -/

/-- A write of a field that BAR0 and the dictionary hold: either way in the same effect `f`, on a block alike. Over a dictionary path the
status is the answer. -/
theorem State.via_eq {s : State} {w : Via} {off word idx sub v st : Nat} {f : Block → Block} (hs : Safety.Serving s)
    (hr : Safety.Reaches s w idx sub v) (hoff : off < 0x2000000) (hal : off % 4 = 0)
    (hbar : ∃ m, regWrite s.mem off (word % 2 ^ 32) s.blk = (stOK, (f s.blk).reply (f s.blk).resp m (f s.blk).out))
    (hdict : ∀ p, w = .dict p → chapterWrite p s.mem idx sub v s.blk.counted = (st, f s.blk.counted)) (hst : st ≠ stRANGE)
    (hi : idx ≠ 0x1E10 := by omega) (h10 : idx ≠ 0x1010 := by omega) (h11 : idx ≠ 0x1011 := by omega)
    (h22 : ¬ (idx = 0x2200 ∧ sub = 3) := by omega) :
    ∃ b x m o, b.Alike s.blk ∧
      s.run (fun mem b => viaPut w mem off word idx sub v b) = s.run (fun _ _ => (f b).reply x m o) ∧
      Safety.Answered w st (s.run (fun _ _ => (f b).reply x m o)) := by
  obtain ⟨hup, hpath⟩ := hr
  cases w with
  | bar =>
    obtain ⟨m, hm⟩ := hbar
    exact ⟨s.blk, _, m, _, .refl _, State.run_congr (barPut_of_regWrite hs (hup rfl) hoff hal hm), trivial⟩
  | dict p =>
    obtain ⟨o, ho⟩ := State.put_eq hs (hpath p (by cases p <;> decide) rfl) (hdict p rfl) hst hi h10 h11 h22
    refine ⟨s.blk.counted, _, _, o, s.blk.counted_alike, ho, ?_⟩
    rw [Safety.Answered, State.run_resp, Block.reply_resp]

end Sys2Proof.Machine

/-! # What the Indigo engines change (R116 to R131), and synchronising resets (R123, R136) -/

namespace Sys2Proof.Machine

/-! ### What an engine's stages leave alone -/

/-- An observation of the block that sees neither the state of engine `e`, nor the registers that show it, nor the work that is to come up. -/
structure EngineBlind {γ : Type} (e : Nat) (g : Block → γ) : Prop where
  engine : ∀ b x, g (b.setEngine e x) = g b := by intros; rfl
  due : ∀ (b : Block) l, g { b with due := l } = g b := by intros; rfl
  wr : ∀ b r v, r = 5 ∨ 8 ≤ r → r < 16 → g (b.wr (eObj e) r v) = g b := by intros; rfl

section

variable {γ : Type} {e : Nat} {g : Block → γ} (hg : EngineBlind e g)
include hg

theorem EngineBlind.refreshEngine (b : Block) : g (refreshEngine e b) = g b := by
  unfold Machine.refreshEngine
  dsimp only
  rw [hg.wr _ _ _ (by decide) (by decide), hg.wr _ _ _ (by decide) (by decide), hg.wr _ _ _ (by decide) (by decide)]

theorem EngineBlind.startFade (bank : Nat) (b : Block) : g (startFade e bank b) = g b := by
  unfold Machine.startFade
  split
  · rfl
  · exact hg.engine ..

theorem EngineBlind.fadeEnd (b : Block) : g (fadeEnd e b) = g b := by
  unfold Machine.fadeEnd
  dsimp only
  split
  · split
    · rfl
    · rw [hg.refreshEngine]
      split
      · rw [hg.startFade, hg.engine]
      · exact hg.engine ..
  · rfl

theorem EngineBlind.rankStage (r k : Nat) (xs : List Int) (ms : List Nat) (a : Nat) (b : Block) : g (rankStage e r k xs ms a b) = g b :=
  (hg.due ..).trans (hg.engine ..)

theorem EngineBlind.decideOutput (r : Nat) (b : Block) : g (decideOutput e r b) = g b := by
  have hw : ∀ (p : Prop) [Decidable p] (c : Block) v, g (if p then c.wr (eObj e) 5 v else c) = g c := fun p _ c v => by
    split
    · exact hg.wr _ _ _ (by decide) (by decide)
    · rfl
  unfold Machine.decideOutput
  dsimp only
  split
  · exact hg.fadeEnd b
  · rw [hg.refreshEngine, hg.wr _ _ _ (by decide) (by decide), hw, hg.engine, hg.engine, hg.fadeEnd]

theorem EngineBlind.firStage (r k : Nat) (zs : List Int) (ms : List Nat) (a : Nat) (b : Block) : g (firStage e r k zs ms a b) = g b := by
  have hd : g (if k = 0 then Machine.decideOutput e r b else b) = g b := by
    split
    · exact hg.decideOutput r b
    · rfl
  unfold Machine.firStage
  dsimp only
  split
  · exact (hg.engine ..).trans hd
  · exact (hg.due ..).trans ((hg.engine ..).trans hd)

theorem EngineBlind.advanceRound (b : Block) : g (advanceRound e b) = g b := by
  unfold Machine.advanceRound
  dsimp only
  refine (forEach_keeps g (fun d hd c => ?_) _).trans (hg.due ..)
  have hround := (List.mem_filter.1 hd).2
  unfold inRound at hround
  dsimp only at hround
  split
  case h_1 e' r k xs ms ht =>
    simp only [ht, Bool.and_eq_true, beq_iff_eq] at hround
    exact hg.rankStage ..
  case h_2 e' r k zs ms ht =>
    simp only [ht, Bool.and_eq_true, beq_iff_eq] at hround
    exact hg.firStage ..
  case h_3 => rfl

theorem EngineBlind.settleEngine (b : Block) : g (settleEngine e b) = g b := by
  unfold Machine.settleEngine
  dsimp only
  rw [hg.refreshEngine, hg.wr _ _ _ (by decide) (by decide), hg.engine, hg.advanceRound, hg.advanceRound]

theorem EngineBlind.syncEngine (b : Block) : g (syncEngine e b) = g b := by
  have hif : ∀ c, g (if c.engOn e then Machine.settleEngine e c else Machine.refreshEngine e c) = g c := fun c => by
    split
    · exact hg.settleEngine c
    · exact hg.refreshEngine c
  unfold Machine.syncEngine
  dsimp only
  rw [hif, hg.wr _ _ _ (by decide) (by decide), hg.engine]

end

/-- Registers outside the engine's object. -/
theorem engineBlind_reg {e i r : Nat} (hr : r < 256) (hi : i ≠ eObj e) : EngineBlind e (fun b => b.reg i r) where
  wr b k v _ hk := by
    have hne : odKey i r ≠ odKey (eObj e) k := fun h => hi ((odKey_inj hr (by omega)).1 h).1
    rw [Block.reg_wr, if_neg hne]

theorem engineBlind_rd {e i r : Nat} (hr : r < 256) (hi : i ≠ eObj e) : EngineBlind e (fun b => b.rd i r) where
  wr b k v hset hk := congrArg BitVec.toNat ((engineBlind_reg hr hi).wr b k v hset hk)

/-- The engine's own settings, and its bank's request: no stage of the engine writes them. -/
theorem engineBlind_setting (e : Nat) {r : Nat} (hr : r < 8) (h5 : r ≠ 5) : EngineBlind e (fun b => b.rd (eObj e) r) where
  wr b k v hset hk := Block.rd_wr_of_ne _ _ (by omega)

theorem engineBlind_time (e : Nat) : EngineBlind e Block.time := {}
theorem engineBlind_syncAbs (e : Nat) : EngineBlind e Block.syncAbs := {}
theorem engineBlind_sync (e : Nat) : EngineBlind e Block.sync := {}

/-! ### The synchronising reset (R123) -/

/-- A reset that is made: all engines restart, which concerns nothing but them, and S, frame number and count are set. -/
theorem syncReset_eq {b : Block} (h : b.syncAbs ≠ b.time.abs) :
    ∃ c, (∀ {γ : Type} (g : Block → γ), (∀ e < 64, EngineBlind e g) → g c = g b) ∧
      syncReset b = (({ c with syncAbs := c.time.abs, due := c.due.filter (fun d => !isFilterTask d) } : Block).wr 0x4010 2
        c.time.frame.toNat).bump 32 0x4010 3 1 := by
  refine ⟨forEach (List.range 64) syncEngine b, fun g hg => ?_, by rw [syncReset, if_neg h]⟩
  exact forEach_keeps g (fun e he c => (hg e (List.mem_range.1 he)).syncEngine c) b

/-- What a synchronising reset leaves alone: what is not the engines', nor its own registers, nor S. -/
theorem syncReset_keeps {γ : Type} {g : Block → γ} (hg : ∀ e < 64, EngineBlind e g)
    (hs : ∀ (b : Block) n, g { b with syncAbs := n } = g b) (hw : ∀ b r v, r < 16 → g (b.wr 0x4010 r v) = g b) (b : Block) :
    g (syncReset b) = g b := by
  by_cases h : b.syncAbs = b.time.abs
  · rw [syncReset, if_pos h]
  · obtain ⟨c, hc, heq⟩ := syncReset_eq h
    rw [heq, Block.bump, hw _ _ _ (by decide), hw _ _ _ (by decide)]
    exact ((hg 0 (by decide)).due { c with syncAbs := c.time.abs } _).trans ((hs c _).trans (hc g hg))

theorem syncReset_time (b : Block) : (syncReset b).time = b.time :=
  syncReset_keeps (fun e _ => engineBlind_time e) (fun _ _ => rfl) (fun _ _ _ _ => rfl) b

theorem syncReset_sync (b : Block) : (syncReset b).sync = b.sync :=
  syncReset_keeps (fun e _ => engineBlind_sync e) (fun _ _ => rfl) (fun _ _ _ _ => rfl) b

/-- S becomes the running frame. -/
theorem syncReset_syncAbs (b : Block) : (syncReset b).syncAbs = b.time.abs := by
  by_cases h : b.syncAbs = b.time.abs
  · rw [syncReset, if_pos h, h]
  · obtain ⟨c, hc, heq⟩ := syncReset_eq h
    rw [heq]
    exact congrArg Time.abs (hc Block.time (fun e _ => engineBlind_time e))

/-- Registers that are neither an engine's nor the reset's own. -/
theorem syncReset_rd (b : Block) {i r : Nat} (hr : r < 256) (h : i < 0x4010 ∨ 0x4640 ≤ i) : (syncReset b).rd i r = b.rd i r :=
  syncReset_keeps (g := fun c => c.rd i r) (fun e he => engineBlind_rd hr (by unfold eObj; omega)) (fun _ _ => rfl)
    (fun b k v hk => Block.rd_wr_of_ne b v (by omega)) b

/-- A reset in another frame than the last shows its frame number and counts. -/
theorem syncReset_counts {b : Block} (h : b.syncAbs ≠ b.time.abs) :
    (syncReset b).rd 0x4010 2 = b.time.frame.toNat ∧ (syncReset b).rd 0x4010 3 = satTo 32 (b.rd 0x4010 3 + 1) := by
  obtain ⟨c, hc, heq⟩ := syncReset_eq h
  have ht : c.time = b.time := hc Block.time (fun e _ => engineBlind_time e)
  have hcount : c.rd 0x4010 3 = b.rd 0x4010 3 := hc (fun c => c.rd 0x4010 3) (fun e he => engineBlind_rd (by decide) (by unfold eObj; omega))
  have hframe : b.time.frame.toNat < 2 ^ 64 := by have := b.time.frame.isLt; omega
  rw [heq, ← hcount, ← ht]
  refine ⟨?_, ?_⟩
  · rw [Block.rd_bump_of_ne _ _ _ (by decide), Block.rd_wr_of_lt _ _ _ (by rwa [ht])]
  · rw [Block.rd_bump_self _ _ _ _ (by decide), Block.rd_wr_of_ne _ _ (by decide)]
    rfl

/-! ### The commands -/

/-- INDIGO_SYNC of BAR0 and 0x4010.01 of the dictionary both request a reset. -/
theorem regWrite_indigoSync (mem : List Host.Cell) (b : Block) : regWrite mem 0x318 1 b = (stOK, requestSync (b.time.abs + 2) b) := rfl

theorem chapterWrite_indigoSync (p : Path) (mem : List Host.Cell) (b : Block) :
    chapterWrite p mem 0x4010 1 1 b = (stOK, requestSync (b.time.abs + 2) b) := by
  have hflag : isFlag 0x4010 1 = false := by decide
  have hclear : clearedBy 0x4010 1 = none := by decide
  simp [chapterWrite, hflag, hclear, indigoWrite, syncRequest]

/-- A request stands for its frame, and is the only change. -/
theorem requestSync_due (a : Nat) (b : Block) :
    (requestSync a b).due.any (fun d => d.task == .indigoSync && d.at_ == a) = true ∧ (requestSync a b).engines = b.engines := by
  unfold requestSync
  split
  case isTrue h => exact ⟨h, rfl⟩
  case isFalse h => exact ⟨by simp [Block.addDue], rfl⟩

/-- Settles O17: either way in, the request is noted for the second frame; the reset sets S and counts. -/
theorem synchronisingResetIsRequestedAndMade : Obligations.SynchronisingResetIsRequestedAndMade := by
  unfold Obligations.SynchronisingResetIsRequestedAndMade
  constructor
  · intro s w hs hr
    obtain ⟨b, x, m, o, hb, hrun, hans⟩ := State.via_eq (f := fun b => requestSync (b.time.abs + 2) b) (off := 0x318) (word := 1) hs hr
      (by decide) (by decide) ⟨_, regWrite_indigoSync ..⟩ (fun p _ => chapterWrite_indigoSync ..) (by decide)
    obtain ⟨hdue, heng⟩ := requestSync_due (b.time.abs + 2) b
    rw [hb.time] at hdue
    refine ⟨_, (State.act_of_on rfl hs.1 _).trans (congrArg _ hrun), hans, ?_, ?_⟩
    · rw [State.run_due, ← hdue, hb.time]
      rfl
    · rw [State.run_engines]
      exact heng.trans (congrArg Block.engines hb.shape :)
  · intro s d rest hon htake hne
    have hreset : indigoSyncReset s.blk = syncReset { s.blk with due := rest } := by simp only [indigoSyncReset, htake]
    obtain ⟨h2, h3⟩ := syncReset_counts (b := { s.blk with due := rest }) hne
    refine ⟨_, State.act_of_on rfl hon _, ?_, ?_, ?_, ?_⟩
    · rw [State.run_syncAbs, hreset, syncReset_syncAbs]
    · rw [State.run_rd _ _ _ _ (by decide) rfl, hreset, h2]
    · rw [State.run_rd _ _ _ _ (by decide) rfl, hreset, h3]
      rfl
    · rw [State.run_time, hreset, syncReset_time]

end Sys2Proof.Machine

/-! # Stops, forced triggers and the ends that a frame brings (R40, R154, R156, R166, R172) -/

namespace Sys2Proof.Machine

/-! ### Stops -/

/-- An observation of the block that sees no domain's stop and not the state that stops of domain `d` set. -/
structure StopBlind {γ : Type} (d : Nat) (g : Block → γ) : Prop where
  stops : ∀ b l, g (b.setDom d { b.dom d with stops := l }) = g b := by intros; rfl
  state : ∀ b v, g (b.wr (0x5100 + d) 2 v) = g b := by intros; rfl
  reason : ∀ b v, g (b.wr (0x5100 + d) 4 v) = g b := by intros; rfl

section

variable {γ : Type} {d : Nat} {g : Block → γ} (hg : StopBlind d g)
include hg

theorem StopBlind.knowStop (b : Block) : g (knowStop d b) = g b := by
  unfold Machine.knowStop
  split
  · split
    · rw [hg.reason, hg.state]
    · rfl
  · rfl

theorem StopBlind.requestStop (pos reason known : Nat) (b : Block) : g (requestStop d pos reason known b) = g b := by
  unfold Machine.requestStop
  split
  · rfl
  · exact (hg.knowStop _).trans (hg.stops ..)

end

/-- Registers other than a domain's state and stop reason. -/
theorem stopBlind_rd {d i r : Nat} (h2 : i * 256 + r ≠ (0x5100 + d) * 256 + 2) (h4 : i * 256 + r ≠ (0x5100 + d) * 256 + 4) :
    StopBlind d (fun b => b.rd i r) where
  state b v := Block.rd_wr_of_ne b v h2
  reason b v := Block.rd_wr_of_ne b v h4

theorem stopBlind_store (d t : Nat) : StopBlind d (fun b => b.store t) := {}
theorem stopBlind_time (d : Nat) : StopBlind d Block.time := {}

/-- What a domain holds beside its stops. -/
theorem stopBlind_dom {γ : Type} (d t : Nat) {f : Dom → γ} (hf : ∀ x l, f { x with stops := l } = f x) :
    StopBlind d (fun b => f (b.dom t)) where
  stops b l := by
    dsimp only
    rw [Block.dom_setDom]
    split
    case isTrue h => rw [h, hf]
    case isFalse => rfl

/-! ### Ends that a frame brings -/

/-- EPOCH counts the wrap, and the EVENT records of the wrap change no register of the timebase. -/
theorem timebaseWrap_of_due {b : Block} (h : b.time.wrapDue = true) :
    (timebaseWrap b).rd 0x2011 1 = satTo 32 (b.rd 0x2011 1 + 1) ∧ (timebaseWrap b).time = { b.time with wrapDue := false } := by
  simp only [timebaseWrap, h, Bool.not_true, if_neg (by decide : ¬ (false = true))]
  refine ⟨?_, ?_⟩
  · refine ((recordBlind_rd (by decide) (.inl (by decide))).eventAll ..).trans ?_
    exact Block.rd_bump_self _ _ _ _ (by decide)
  · exact recordBlind_time.eventAll ..

/-- A timer that has been reached reads EXPIRED; no other timer, no other domain and no register follows. -/
theorem timerExpired_of_reached {b : Block} {d m : Nat} (h : ((b.dom d).timer m).due ≠ 0)
    (hlt : ((b.dom d).timer m).due < (b.dom d).evaluated) :
    (timerExpired d m b).timerState d m = 2 ∧ (∀ k, k ≠ m → ((timerExpired d m b).dom d).timer k = (b.dom d).timer k) ∧
      (∀ e, e ≠ d → (timerExpired d m b).dom e = b.dom e) ∧ (timerExpired d m b).regs = b.regs ∧ (timerExpired d m b).mops = b.mops := by
  cases hx : ((b.dom d).timer m).expired with
  | true =>
    have heq : timerExpired d m b = b := by simp [timerExpired, hx]
    rw [heq]
    exact ⟨by simp [Block.timerState, h, hx], fun _ _ => rfl, fun _ _ => rfl, rfl, rfl⟩
  | false =>
    have heq : timerExpired d m b = b.setDom d { b.dom d with
        timers := place (fun _ => Timer.reset) (b.dom d).timers m { (b.dom d).timer m with expired := true } } := by
      simp [timerExpired, hx, h, hlt]
    rw [heq]
    refine ⟨?_, fun k hk => ?_, fun e he => Block.dom_setDom_ne _ _ he, rfl, rfl⟩
    · simp [Block.timerState, Dom.timer, look_place_self]
      exact h
    · simp [Dom.timer, look_place_ne _ _ _ _ _ hk]

/-- A pulse that has run out ends, and its output keeps what is still to come. -/
theorem pulseEnd_of_over {b : Block} {o q : Nat} (hon : (b.trigOut o).on = true) (hq : (b.trigOut o).stopAt ≤ q) :
    pulseEnd o q b = b.setTrigOut o { b.trigOut o with on := false } := by
  simp [pulseEnd, hon, hq]

/-! ### Forced triggers (R166) -/

theorem forcedEffect_of_stop {b : Block} {d : Nat} {r : StopReq} (h : (b.dom d).stop = some r) :
    forcedEffect d b = b.setDom d { b.dom d with forced := (b.dom d).forced.filter (fun f => decide (f * 32 ≤ r.pos)) } := by
  simp [forcedEffect, h]

/-- The event takes from its domain's list at most what lies behind the domain's stop, and changes nothing else. -/
theorem forcedEffect_shape (d : Nat) (b : Block) : ∃ D l, forcedEffect d b = { b with doms := D } ∧
    (forcedEffect d b).dom d = { b.dom d with forced := l } ∧ (∀ e, e ≠ d → (forcedEffect d b).dom e = b.dom e) ∧
    ∀ f ∈ (b.dom d).forced, b.evaluates d (f * 32) = true → f ∈ l := by
  cases hs : (b.dom d).stop with
  | none =>
    have heq : forcedEffect d b = b := by simp [forcedEffect, hs]
    rw [heq]
    exact ⟨b.doms, (b.dom d).forced, rfl, rfl, fun _ _ => rfl, fun f hf _ => hf⟩
  | some r =>
    rw [forcedEffect_of_stop hs]
    refine ⟨_, _, rfl, Block.dom_setDom_self .., fun e he => Block.dom_setDom_ne _ _ he, fun f hf he => List.mem_filter.2 ⟨hf, ?_⟩⟩
    simp only [Block.evaluates, hs, Bool.and_eq_true, decide_eq_true_eq] at he
    exact decide_eq_true he.2

/-! ### The walk of a sample at which a forced trigger acts -/

section

variable {γ : Type} {d : Nat} {g : Block → γ}

/-- What the store and the mask unit do with a trigger that has been placed. -/
theorem ringTrigger_keeps (hstop : StopBlind d g)
    (hstore : ∀ b a p q, g (b.setStore d { b.store d with trig := a, trigPos := p, postStop := q }) = g b) (j : Nat) (ws : List Nat)
    (b : Block) : g (ringTrigger d j ws b) = g b := by
  unfold ringTrigger
  dsimp only
  split
  · exact hstore ..
  · exact (hstop.requestStop ..).trans (hstore ..)

theorem openAmp_keeps (hmask : ∀ b m, g (b.setMask d m) = g b) (hcount : ∀ b w n, g (b.bump w (maskObj d) 0xE n) = g b) (j : Nat)
    (b : Block) : g (openAmp d j b) = g b := by
  unfold openAmp
  dsimp only
  split
  · rfl
  · split
    · split
      · exact hcount ..
      · exact hmask ..
    · exact hmask ..

end

/-- The trigger stamp set of a domain holds what placed the trigger. -/
theorem stampTrigger_rd (d j : Nat) (x : TrigSrc) (coinc : Nat) (b : Block) :
    (stampTrigger d j x coinc b).2.rd (0x5520 + d) 1 = x.inst.ts % 2 ^ 64 ∧
    (stampTrigger d j x coinc b).2.rd (0x5520 + d) 2 = trigInfo x % 2 ^ 64 ∧
    (stampTrigger d j x coinc b).2.rd (0x5520 + d) 7 = (b.rd (0x5520 + d) 7 + 1) % 2 ^ 32 ∧
    ∀ i r, r < 256 → i ≠ 0x5520 + d → (stampTrigger d j x coinc b).2.rd i r = b.rd i r := by
  have hseq : (b.rd (0x5520 + d) 7 + 1) % 2 ^ 32 < 2 ^ 64 := by omega
  refine ⟨?_, ?_, ?_, fun i r hr hi => ?_⟩
  · simp (disch := omega) only [stampTrigger, Block.rd_wr_of_ne, Block.rd_wr_self]
  · simp (disch := omega) only [stampTrigger, Block.rd_wr_of_ne, Block.rd_wr_self]
  · simp only [stampTrigger, Block.rd_wr_of_lt _ _ _ hseq]
  · simp (disch := omega) only [stampTrigger, Block.rd_wr_of_ne]

@[simp] theorem stampTrigger_dom (d j : Nat) (x : TrigSrc) (coinc : Nat) (b : Block) (t : Nat) :
    (stampTrigger d j x coinc b).2.dom t = b.dom t := rfl
@[simp] theorem stampTrigger_store (d j : Nat) (x : TrigSrc) (coinc : Nat) (b : Block) (t : Nat) :
    (stampTrigger d j x coinc b).2.store t = b.store t := rfl

/-- What a TRIG leaves that places the trigger of a capture that is not segmented. -/
structure Placed (d j : Nat) (x : TrigSrc) (b r : Block) : Prop where
  flag : r.rd (0x5100 + d) 6 = 1
  count : r.rd (0x5100 + d) 7 = satTo 32 (b.rd (0x5100 + d) 7 + 1)
  level : r.rd (0x5100 + d) 3 = b.rd (0x5100 + d) 3
  placed : (r.dom d).placed = true
  forced : (r.dom d).forced = (b.dom d).forced
  seg : (r.store d).seg = (b.store d).seg
  stamp : r.rd (0x5520 + d) 1 = x.inst.ts % 2 ^ 64
  info : r.rd (0x5520 + d) 2 = trigInfo x % 2 ^ 64
  number : r.rd (0x5520 + d) 7 = (b.rd (0x5520 + d) 7 + 1) % 2 ^ 32

theorem trigAction_placed {d j : Nat} {x : TrigSrc} {b : Block} (hd : d < 8) (hseg : segmented (b.mode d) = false)
    (hpl : (b.dom d).placed = false) (coinc : Nat) : Placed d j x b (trigAction d j x coinc b) := by
  have hmode : (b.flag (0x5100 + d) 6 7 1).mode d = b.mode d := Block.rd_flag_of_ne b 1 (by omega) (by omega)
  have hpl' : ((b.flag (0x5100 + d) 6 7 1).dom d).placed = false := hpl
  obtain ⟨h1, h2, h7, hrest⟩ := stampTrigger_rd d j x coinc ((b.flag (0x5100 + d) 6 7 1).setDom d
    { (b.flag (0x5100 + d) 6 7 1).dom d with placed := true })
  unfold trigAction
  simp only [hmode, hseg, hpl', if_false, Bool.false_eq_true]
  have hkeep : ∀ {γ : Type} (g : Block → γ), StopBlind d g →
      (∀ b a p q, g (b.setStore d { b.store d with trig := a, trigPos := p, postStop := q }) = g b) →
      (∀ b m, g (b.setMask d m) = g b) → (∀ b w n, g (b.bump w (maskObj d) 0xE n) = g b) → ∀ (p : Prop) [Decidable p] ws c,
      g (openAmp d j (if p then ringTrigger d j ws c else c)) = g c := fun g hs hst hm hc p _ ws c => by
    rw [openAmp_keeps hm hc]
    split
    · exact ringTrigger_keeps hs hst j ws c
    · rfl
  have hrd : ∀ i r, i * 256 + r ≠ (0x5100 + d) * 256 + 2 → i * 256 + r ≠ (0x5100 + d) * 256 + 4 → i * 256 + r ≠ (0x6840 + d) * 256 + 0xE →
      ∀ (p : Prop) [Decidable p] ws c, (openAmp d j (if p then ringTrigger d j ws c else c)).rd i r = c.rd i r :=
    fun i r h2 h4 he p _ ws c => hkeep (fun b => b.rd i r) (stopBlind_rd h2 h4) (fun _ _ _ _ => rfl) (fun _ _ => rfl)
      (fun b w n => Block.rd_bump_of_ne b w n he) p ws c
  constructor
  · rw [hrd _ _ (by omega) (by omega) (by omega), hrest _ _ (by decide) (by omega)]
    exact Block.rd_flag_self b _ _ (by decide)
  · rw [hrd _ _ (by omega) (by omega) (by omega), hrest _ _ (by decide) (by omega)]
    exact Block.rd_flag_count b _ _ (by decide)
  · rw [hrd _ _ (by omega) (by omega) (by omega), hrest _ _ (by decide) (by omega)]
    exact Block.rd_flag_of_ne b _ (by omega) (by omega)
  · rw [hkeep (fun b => (b.dom d).placed) (stopBlind_dom d d (f := Dom.placed) fun _ _ => rfl) (fun _ _ _ _ => rfl) (fun _ _ => rfl)
      (fun _ _ _ => rfl)]
    simp only [stampTrigger_dom, Block.dom_setDom_self]
  · rw [hkeep (fun b => (b.dom d).forced) (stopBlind_dom d d (f := Dom.forced) fun _ _ => rfl) (fun _ _ _ _ => rfl) (fun _ _ => rfl)
      (fun _ _ _ => rfl)]
    simp only [stampTrigger_dom, Block.dom_setDom_self]
    rfl
  · rw [hkeep (fun b => (b.store d).seg) { } (fun b a p q => by dsimp only; rw [Block.store_setStore_self]) (fun _ _ => rfl)
      (fun _ _ _ => rfl)]
    simp only [stampTrigger_store]
    rfl
  · rw [hrd _ _ (by omega) (by omega) (by omega), h1]
  · rw [hrd _ _ (by omega) (by omega) (by omega), h2]
  · rw [hrd _ _ (by omega) (by omega) (by omega), h7, Block.rd_setDom,
      Block.rd_flag_of_ne b _ (by omega) (by omega)]

/-- What a forced trigger places at a position where no branch is taken: the instant of its sample, as class FORCED, with the current
level. -/
def forcedSrc (b : Block) (d j : Nat) : TrigSrc :=
  { inst := { sampleInst b j with cls := clsFORCED }, level := b.rd (0x5100 + d) 3, forced := true, both := false, branch := 0,
    slot := none, tsA := 0, tsB := 0 }

theorem trigInfo_forcedSrc (b : Block) (d j : Nat) :
    bits (trigInfo (forcedSrc b d j) % 2 ^ 64) 0 4 = clsFORCED ∧ bit (trigInfo (forcedSrc b d j) % 2 ^ 64) 11 = true := by
  have hinfo : trigInfo (forcedSrc b d j) = b.rd (0x5100 + d) 3 * 2 ^ 12 + 2 ^ 11 + 2 ^ 4 + clsFORCED := by
    simp [trigInfo, forcedSrc, b2n, clsFORCED, clsINDIGO]
  have hcls : clsFORCED = 7 := rfl
  rw [hinfo, hcls]
  constructor
  · simp only [bits]; omega
  · simp only [bit, beq_iff_eq]; omega

/-- A sample with a forced trigger and no branch taken: a TRIG, after which the request is gone, and a FOLLOW of the stop vector. -/
theorem walkSample_forced {b : Block} {d f : Nat} {ws : WidthTerms} {m : WalkMode} (hd : d < 8) (hf : f ∈ (b.dom d).forced)
    (he : b.evaluates d (f * 32) = true) (hmode : segmented (b.mode d) = false) (hpl : (b.dom d).placed = false)
    (hseg : (b.store d).seg = none) (hdef : (b.store d).deferred = none)
    (hbr : ∀ br < 2, branchMatch (b.condWord d (b.rd (0x5100 + d) 3) br) (levelTerms b d ws (b.rd (0x5100 + d) 3) (f * 32)) = false) :
    ∃ r, Placed d (f * 32) (forcedSrc b d (f * 32)) b r ∧
      (let c := r.setDom d { r.dom d with forced := (r.dom d).forced.filter (fun x => x != f) }
       walkSample d ws m (f * 32) b = c ∨ walkSample d ws m (f * 32) b = requestStop d (f * 32 / 32 * 32 + 31) srCHAIN (f * 32 / 32 + 5) c) := by
  have hp := trigAction_placed hd hmode hpl (x := forcedSrc b d (f * 32)) (j := f * 32) (coincidenceWord b d ws (f * 32))
  obtain ⟨r, hr⟩ : ∃ r, trigAction d (f * 32) (forcedSrc b d (f * 32)) (coincidenceWord b d ws (f * 32)) b = r := ⟨_, rfl⟩
  rw [hr] at hp
  refine ⟨r, hp, ?_⟩
  obtain ⟨c, hc⟩ : ∃ c, r.setDom d { r.dom d with forced := (r.dom d).forced.filter (fun x => x != f) } = c := ⟨_, rfl⟩
  have hcseg : (c.store d).seg = none := by
    rw [← hc]
    exact hp.seg.trans hseg
  have hsc : settleClose d (f * 32 + 1) c = c := by simp [settleClose, hcseg]
  rw [hc]
  dsimp only [forcedSrc] at hr hc ⊢
  have hdiv : f * 32 / 32 = f := by omega
  have hA := hbr 0 (by decide)
  have hB := hbr 1 (by decide)
  have hclose : fullClose d (f * 32) m b = b := by simp [fullClose, hseg]
  have hsettle : settleSegment d (f * 32) b = b := by simp [settleSegment, settleClose, settleOpen, hseg, hdef]
  have hforced : forcedAt b d (f * 32) = true := by simp [forcedAt, hdiv, hf]
  have hplain : ∀ c, plainActions d (f * 32) 0 c = c := fun c => by simp [plainActions, counterAction, bits, bit]
  have hbit : ∀ k, bit 0 k = false := fun k => by simp [bit]
  simp only [walkSample, hclose, hsettle, he, hdef, hA, hB, hforced, hplain, hbit, Bool.not_true, Bool.false_and, Bool.or_self,
    Bool.and_self, Bool.false_eq_true, if_false, if_true, Bool.true_or, hr, hdiv, hc, hcseg, hsc, ite_self]
  split
  · exact .inr rfl
  · exact .inl rfl

/-- After the walk of such a sample the request is gone, and what does not see it is as the TRIG left it. -/
theorem walkSample_forced_keeps {b : Block} {d f : Nat} {ws : WidthTerms} {m : WalkMode} (hd : d < 8) (hf : f ∈ (b.dom d).forced)
    (he : b.evaluates d (f * 32) = true) (hmode : segmented (b.mode d) = false) (hpl : (b.dom d).placed = false)
    (hseg : (b.store d).seg = none) (hdef : (b.store d).deferred = none)
    (hbr : ∀ br < 2, branchMatch (b.condWord d (b.rd (0x5100 + d) 3) br) (levelTerms b d ws (b.rd (0x5100 + d) 3) (f * 32)) = false) :
    ∃ r, Placed d (f * 32) (forcedSrc b d (f * 32)) b r ∧ f ∉ ((walkSample d ws m (f * 32) b).dom d).forced ∧
      ∀ {γ : Type} (g : Block → γ), StopBlind d g → (∀ b l, g (b.setDom d { b.dom d with forced := l }) = g b) →
        g (walkSample d ws m (f * 32) b) = g r := by
  obtain ⟨r, hr, hw⟩ := walkSample_forced (ws := ws) (m := m) hd hf he hmode hpl hseg hdef hbr
  have hgone : f ∉ ((r.setDom d { r.dom d with forced := (r.dom d).forced.filter (fun x => x != f) }).dom d).forced := by
    rw [Block.dom_setDom_self]
    simp
  refine ⟨r, hr, ?_, fun g hg hl => ?_⟩
  · rcases hw with h | h
    · rw [h]
      exact hgone
    · rw [h, (stopBlind_dom d d (f := Dom.forced) fun _ _ => rfl).requestStop]
      exact hgone
  · rcases hw with h | h
    · rw [h, hl]
    · rw [h, hg.requestStop, hl]

/-! ### The commands -/

/-- Settles O9: each end changes what its event names; the walk of a forced trigger's sample is that of a TRIG of class FORCED. -/
theorem timebaseEventsTakeEffect : Obligations.TimebaseEventsTakeEffect := by
  unfold Obligations.TimebaseEventsTakeEffect
  refine ⟨?_, ?_, ?_, ?_, ?_⟩
  · intro s hon hdue
    obtain ⟨hcount, htime⟩ := timebaseWrap_of_due hdue
    refine ⟨_, State.act_of_on rfl hon _, ?_, ?_, ?_⟩
    · rw [State.run_rd_of_ne _ _ _ _ (by decide), hcount]
    · rw [State.run_time, htime]
    · rw [State.run_time, htime]
  · intro s d m hon hd hm hdue hlt
    obtain ⟨hst, htimer, hdom, hregs, hmops⟩ := timerExpired_of_reached hdue hlt
    refine ⟨_, State.act_of_on (by simp [Instr.wf, hd, hm]) hon _, ?_, fun k hk => ?_, fun e he => ?_, Block.Within.keeps ((Block.Within.refl _ _).of_regs hregs hmops)⟩
    · rw [← hst]
      simp only [Block.timerState, State.run_dom]
    · rw [State.run_dom, htimer k hk]
    · rw [State.run_dom, hdom e he]
  · intro s o e hon ho he hout hstop
    have heq := pulseEnd_of_over hout hstop
    refine ⟨_, State.act_of_on (by simp [Instr.wf, ho, he]) hon _, ?_, ?_, fun q hq => ?_, Block.Within.keeps ?_⟩
    · rw [State.run_trigOut, heq, Block.trigOut_setTrigOut_self]
    · rw [State.run_trigOut, heq, Block.trigOut_setTrigOut_self]
    · rw [State.run_trigOut, heq, Block.trigOut_setTrigOut_ne _ _ hq]
    · rw [heq]
      exact (Block.Within.refl _ _).of_regs rfl rfl
  · intro s d r hon hd hr hall
    have heq := forcedEffect_of_stop hr
    have hnil : (s.blk.dom d).forced.filter (fun f => decide (f * 32 ≤ r.pos)) = [] :=
      List.filter_eq_nil_iff.2 fun f hf => by simpa using hall f hf
    rw [hnil] at heq
    refine ⟨_, State.act_of_on (by simp [Instr.wf, hd]) hon _, ?_, fun e he => ?_, Block.Within.keeps ?_⟩
    · rw [State.run_dom, heq, Block.dom_setDom_self]
    · rw [State.run_dom, heq, Block.dom_setDom_ne _ _ he]
    · rw [heq]
      exact (Block.Within.refl _ _).of_regs rfl rfl
  · intro s d f hon hd hf he hmode hpl hseg hdef
    obtain ⟨D, l, hshape, hdom, hne, hmem⟩ := forcedEffect_shape d s.blk
    obtain ⟨t, ht⟩ : ∃ t, s.run (fun _ b => forcedEffect d b) = t := ⟨_, rfl⟩
    have hrd : ∀ i r, r < 256 → i < 0x1E20 ∨ 0x2006 < i ∧ i < 0x8000 → t.blk.rd i r = s.blk.rd i r := fun i r hr hi => by
      rw [← ht, State.run_rd_of_ne _ _ _ _ (by omega), hshape]
      rfl
    have htdom : t.blk.dom d = { s.blk.dom d with forced := l } := by rw [← ht, State.run_dom, hdom]
    have htstore : t.blk.store d = s.blk.store d := by
      rw [← ht, State.run_store, hshape]
      rfl
    have htforced : f ∈ (t.blk.dom d).forced := by
      rw [htdom]
      exact hmem f hf he
    have hteval : t.blk.evaluates d (f * 32) = true := by
      rw [← he]
      simp only [Block.evaluates, Block.armed, Block.dstate, htdom, hrd (0x5100 + d) 2 (by decide) (by omega)]
      rfl
    have htmode : t.blk.mode d = s.blk.mode d := hrd _ _ (by omega) (by omega)
    refine ⟨t, (State.act_of_on (by simp [Instr.wf, hd]) hon _).trans (congrArg _ ht), htforced, fun e he => ?_, ?_, fun ws m hbr => ?_⟩
    · rw [← ht, State.run_dom, hne e he]
    · rw [← ht]
      refine Block.Within.keeps ?_
      rw [hshape]
      exact (Block.Within.refl _ _).of_regs rfl rfl
    · obtain ⟨r, hr, hgone, hkeep⟩ := walkSample_forced_keeps (m := m) hd htforced hteval (by rw [htmode, hmode]) (by rw [htdom, hpl])
        (by rw [htstore, hseg]) (by rw [htstore, hdef]) hbr
      have hwrd : ∀ i k, i * 256 + k ≠ (0x5100 + d) * 256 + 2 → i * 256 + k ≠ (0x5100 + d) * 256 + 4 →
          (walkSample d ws m (f * 32) t.blk).rd i k = r.rd i k := fun i k h2 h4 =>
        hkeep (fun b => b.rd i k) (stopBlind_rd h2 h4) (fun _ _ => rfl)
      obtain ⟨hcls, hbit⟩ := trigInfo_forcedSrc t.blk d (f * 32)
      refine ⟨?_, ?_, ?_, hgone, ?_, ?_, ?_, ?_, ?_⟩
      · rw [hwrd _ _ (by omega) (by omega), hr.flag]
      · rw [hwrd _ _ (by omega) (by omega), hr.count, hrd _ _ (by decide) (by omega)]
      · rw [← hr.placed]
        exact hkeep (fun b => (b.dom d).placed) (stopBlind_dom d d (f := Dom.placed) fun _ _ => rfl)
          (fun b l => by dsimp only; rw [Block.dom_setDom_self])
      · rw [hwrd _ _ (by omega) (by omega), hr.level, hrd _ _ (by decide) (by omega)]
      · rw [hwrd _ _ (by omega) (by omega), hr.stamp]
        rfl
      · rw [hwrd _ _ (by omega) (by omega), hr.info, hcls]
      · rw [hwrd _ _ (by omega) (by omega), hr.info, hbit]
      · rw [hwrd _ _ (by omega) (by omega), hr.number, hrd _ _ (by decide) (by omega)]

end Sys2Proof.Machine

/-! # STOP, FORCE_TRIGGER and the end of STOPPING (R29, R166, R170, R172) -/

namespace Sys2Proof.Machine

/-! ### Commands of a domain, over SEQ_CMD and over its control object -/

theorem regWrite_seqCmd {d c : Nat} (hd : d < 8) (hc : c < 4) (mem : List Host.Cell) (b : Block) :
    regWrite mem (0x400 + 0x40 * d) (c % 2 ^ 32) b = (stOK, seqCmd mem d c b) := by
  rcases lt_eight_cases hd with rfl | rfl | rfl | rfl | rfl | rfl | rfl | rfl <;> rcases lt_four_cases hc with rfl | rfl | rfl | rfl <;> rfl

theorem odRow?_domainCommand {d : Nat} (hd : d < 8) :
    isFlag (0x5100 + d) 1 = false ∧ clearedBy (0x5100 + d) 1 = none :=
  (by decide : ∀ d < 8, isFlag (0x5100 + d) 1 = false ∧ clearedBy (0x5100 + d) 1 = none) d hd

theorem chapterWrite_domainCommand {d : Nat} (hd : d < 8) (p : Path) (mem : List Host.Cell) (c : Nat) (b : Block) :
    chapterWrite p mem (0x5100 + d) 1 c b = domainCommand mem d c b := by
  obtain ⟨hflag, hclear⟩ := odRow?_domainCommand hd
  have hchapter : (0x5100 + d) / 4096 = 5 := by omega
  have hpage : (0x5100 + d) / 256 = 0x51 := by omega
  have hlt : 0x5100 + d < 0x5800 := by omega
  have hne : 0x5100 + d ≠ 0x5000 ∧ 0x5100 + d ≠ 0x5001 ∧ 0x5100 + d ≠ 0x5540 := by omega
  obtain ⟨h0, h1, h2⟩ := hne
  simp [chapterWrite, hflag, hclear, hchapter, hlt, domainWrite, h0, h1, h2, hpage]

/-- A command of a domain, either way in: it acts on a block alike, and its status is the answer. -/
theorem via_domainCommand {s : State} {w : Via} {d c st : Nat} (hs : Safety.Serving s) (hd : d < 8) (hc : 1 ≤ c) (hc4 : c < 4)
    (hr : Safety.Reaches s w (0x5100 + d) 1 c) (hst : ∀ b : Block, b.Alike s.blk → (domainCommand s.mem d c b).1 = st) (hne : st ≠ stRANGE) :
    ∃ b x m o, b.Alike s.blk ∧
      s.run (fun mem b => viaPut w mem (0x400 + 0x40 * d) c (0x5100 + d) 1 c b) = s.run (fun _ _ => (domainCommand s.mem d c b).2.reply x m o) ∧
      Safety.Answered w st (s.run (fun _ _ => (domainCommand s.mem d c b).2.reply x m o)) := by
  have hbits : bits c 0 2 = c := by simp only [bits]; omega
  have hcne : c ≠ 0 := by omega
  refine State.via_eq (f := fun b => (domainCommand s.mem d c b).2) hs hr (by omega) (by omega) ?_ (fun p _ => ?_) hne
  · refine ⟨((domainCommand s.mem d c s.blk).2.bset (0x404 + 0x40 * d) 0 (domainCommand s.mem d c s.blk).1).bar, ?_⟩
    rw [regWrite_seqCmd hd hc4]
    simp only [seqCmd, hbits, if_neg hcne]
    rfl
  · rw [chapterWrite_domainCommand hd, ← hst _ s.blk.counted_alike]

/-! ### STOP and FORCE_TRIGGER -/

/-- A stop that is requested in an ARMED domain as its first becomes known later. -/
theorem requestStop_first {b : Block} {d pos reason known : Nat} (harm : b.dstate d = 1) (hfirst : (b.dom d).stop = none)
    (hk : b.time.abs < known) : requestStop d pos reason known b =
      b.setDom d { b.dom d with stops := [{ pos := pos, rank := stopRank reason, reason := reason, known := known }] } := by
  have hstops : (b.dom d).stops = [] := Dom.stop_eq_none.1 hfirst
  have harmed : b.armed d = true := by simp [Block.armed, harm]
  have hlate : ¬ known ≤ b.time.abs := by omega
  simp [requestStop, harmed, hstops, knowStop, hlate]

theorem forceTrigger_of_armed {b : Block} {d : Nat} (harm : b.dstate d = 1) : forceTrigger d b =
    (stOK, b.setDom d { b.dom d with forced := (b.dom d).forced.filter (· != b.time.abs + 2) ++ [b.time.abs + 2] }) := by
  simp [forceTrigger, harm]

/-! ### LEAVE_STOPPING -/

/-- A queue that is disabled shows in the registers only where it refuses a push that waits (0x7080, R415). -/
theorem qDisable_rd (key : Nat) (b : Block) {i r : Nat} (hr : r < 256) (hi : i ≠ 0x7080) : (qDisable key b).rd i r = b.rd i r := by
  have hheld : ∀ (h : HeldPush) c, (refuseHeld (keyQueue key) h c).rd i r = c.rd i r := fun h c => by
    unfold refuseHeld
    split
    · exact forEach_keeps (f := fun _ b => queueDenied (keyQueue key) b) (fun c : Block => c.rd i r) (fun _ _ _ => rfl) c
    · exact (recordBlind_rd hr (.inl hi)).refused c _
  have hwait : ∀ (w : HostWait) c, (releaseWait (keyQueue key) w c).rd i r = c.rd i r := fun w c => by cases w <;> rfl
  unfold qDisable
  dsimp only
  rw [forEach_keeps (fun c => c.rd i r) (fun h _ c => hheld h c), forEach_keeps (fun c => c.rd i r) (fun w _ c => hwait w c)]
  exact (recordBlind_rd hr (.inl hi)).qDiscard key b

theorem queuesFlr_rd (b : Block) {i r : Nat} (hr : r < 256) (hi : i ≠ 0x7080) : (queuesFlr b).rd i r = b.rd i r := by
  have hq := recordBlind_rd hr (.inl hi) (i := i)
  unfold queuesFlr
  dsimp only
  rw [Block.rd_setQueue, Block.rd_setQueue, Block.rd_setQueue, hq.lose, hq.qDiscard, hq.qDiscard]
  refine forEach_keeps (fun c => c.rd i r) (fun k _ c => ?_) b
  split
  · exact qDisable_rd k c hr hi
  · rfl

theorem banksFlr_rd (b : Block) (i r : Nat) : (banksFlr b).rd i r = b.rd i r := by
  unfold banksFlr
  dsimp only
  rw [forEach_keeps (fun c : Block => c.rd i r) (fun k _ c => ?_)]
  · rfl
  · split
    · rfl
    · split
      · exact unown_rd k c i r
      · split
        · rfl
        · rfl

theorem clearUnits_rd (lo n : Nat) (b : Block) (i r : Nat) : (clearUnits lo n b).rd i r = b.rd i r := by
  unfold clearUnits
  split <;> rfl

theorem flrEffect_rd (b : Block) (i r : Nat) : (flrEffect b).rd i r = (clearAllUnits (banksFlr (queuesFlr b))).rd i r :=
  Block.rd_of_regs (by rw [flrEffect]) i r

/-- What a function-level reset that waited for the domains does is a matter of banks, queues and the store. -/
theorem settleFlr_rd (b : Block) {i r : Nat} (hr : r < 256) (hi : i ≠ 0x7080) : (settleFlr b).rd i r = b.rd i r := by
  unfold settleFlr
  split
  · rw [flrEffect_rd, clearAllUnits, clearUnits_rd, banksFlr_rd, queuesFlr_rd b hr hi]
  · rfl

theorem leaveStopping_of_ready {mem : List Host.Cell} {b : Block} {d : Nat} (h : leaveReady b d = true) (hd : d < 8) :
    (leaveStopping mem d b).rd (0x5100 + d) 2 = 0 := by
  simp only [leaveStopping, h, Bool.not_true, Bool.false_eq_true, if_false]
  rw [settleFlr_rd _ (by decide) (by omega), Block.rd_wr_self, Nat.zero_mod]

/-- Settles O12: STOP is the domain's first request, and known later; a forced trigger joins the list; the end of STOPPING writes the state. -/
theorem stopsAndForcedTriggersTakeEffect : Obligations.StopsAndForcedTriggersTakeEffect := by
  unfold Obligations.StopsAndForcedTriggersTakeEffect
  refine ⟨?_, ?_, ?_⟩
  · intro s w d hs hd hr harm hstop
    have hcmd : ∀ b : Block, b.Alike s.blk → domainCommand s.mem d 2 b = (stOK, b.setDom d { b.dom d with
        stops := [{ pos := (b.time.abs + 1) * 32 + 31, rank := stopRank srSOFTWARE, reason := srSOFTWARE, known := b.time.abs + 1 }] }) :=
      fun b hb => by
        have harm' := (hb.dstate (by omega)).trans harm
        have hstop' : (b.dom d).stop = none := (congrArg (fun b : Block => (b.dom d).stop) hb.shape).trans hstop
        simp only [domainCommand, stopCommand, harm', requestStop_first harm' hstop' (Nat.lt_succ_self _)]
    obtain ⟨b, x, m, o, hb, hrun, hans⟩ := via_domainCommand hs hd (by decide) (by decide) hr (st := stOK) (fun b hb => by rw [hcmd b hb]) (by decide)
    have hdom : b.dom d = s.blk.dom d := (congrArg (fun b : Block => b.dom d) hb.shape :)
    have hne : ¬ s.blk.time.abs + 1 ≤ s.blk.time.abs := by omega
    rw [hcmd b hb, hb.time, hdom] at hrun hans
    have htdom : ∀ e, (s.run (fun _ _ => (b.setDom d { s.blk.dom d with
        stops := [{ pos := (s.blk.time.abs + 1) * 32 + 31, rank := stopRank srSOFTWARE, reason := srSOFTWARE,
                    known := s.blk.time.abs + 1 }] }).reply x m o)).blk.dom e = _ := fun e => (State.run_dom ..).trans (Block.dom_setDom ..)
    refine ⟨_, (State.act_of_on (by simp [Instr.wf, hd]) hs.1 _).trans (congrArg _ hrun), hans, ?_, ?_, ?_, fun e he => ?_⟩
    · rw [htdom, if_pos rfl]
    · rw [htdom, if_pos rfl]
      rfl
    · refine (State.run_rd_of_ne _ _ _ _ (by omega)).trans (((hb.dstate (by omega)).trans harm) : _)
    · rw [htdom, if_neg he]
      exact (congrArg (fun b : Block => b.dom e) hb.shape :)
  · intro s w d hs hd hr harm
    have hcmd : ∀ b : Block, b.Alike s.blk → domainCommand s.mem d 3 b = (stOK, b.setDom d { b.dom d with
        forced := (b.dom d).forced.filter (· != b.time.abs + 2) ++ [b.time.abs + 2] }) :=
      fun b hb => forceTrigger_of_armed ((hb.dstate (by omega)).trans harm)
    obtain ⟨b, x, m, o, hb, hrun, hans⟩ := via_domainCommand hs hd (by decide) (by decide) hr (st := stOK) (fun b hb => by rw [hcmd b hb]) (by decide)
    have hdom : b.dom d = s.blk.dom d := (congrArg (fun b : Block => b.dom d) hb.shape :)
    rw [hcmd b hb, hb.time, hdom] at hrun hans
    have htdom : ∀ e, (s.run (fun _ _ => (b.setDom d { s.blk.dom d with
        forced := (s.blk.dom d).forced.filter (· != s.blk.time.abs + 2) ++ [s.blk.time.abs + 2] }).reply x m o)).blk.dom e = _ :=
      fun e => (State.run_dom ..).trans (Block.dom_setDom ..)
    refine ⟨_, (State.act_of_on (by simp [Instr.wf, hd]) hs.1 _).trans (congrArg _ hrun), hans, ?_, ?_, fun e he => ?_⟩
    · rw [htdom, if_pos rfl]
    · refine (State.run_rd_of_ne _ _ _ _ (by omega)).trans (((hb.dstate (by omega)).trans harm) : _)
    · rw [htdom, if_neg he]
      exact (congrArg (fun b : Block => b.dom e) hb.shape :)
  · intro s d hon hd hready
    have hst : (s.run (fun mem b => leaveStopping mem d b)).blk.dstate d = 0 := by
      refine (State.run_rd_of_ne _ _ _ _ (by omega)).trans (leaveStopping_of_ready hready hd)
    exact ⟨_, State.act_of_on (by simp [Instr.wf, hd]) hon _, hst, by simp [Block.armed, hst]⟩

end Sys2Proof.Machine

/-! # SRAM banks: handover, power, the host's accesses (R384 to R397, R411) -/

namespace Sys2Proof.Machine

/-! ### What leaves the module, at the end of a command -/

theorem monitor_out_mem {o : Output} {b : Block} (h : o ∈ b.out) : o ∈ (monitor b).out := by
  have hlink : ∀ c : Block, (linkUse c).out = c.out := fun c => by
    obtain ⟨l, hl⟩ := linkUse_shape c
    rw [hl]
  have hmsix : ∀ v (c : Block), o ∈ c.out → o ∈ (sendMsix v c).out := fun v c hc => by
    unfold sendMsix
    split
    · exact hc
    · split
      · exact hc
      · rw [hlink]
        exact List.mem_cons_of_mem _ hc
  have hrec : (recovered b).out = b.out := by
    obtain ⟨r, w, e, hs⟩ := recovered_shape b
    rw [hs]
  have hraise : o ∈ (raiseAlert (recovered b)).out := by
    have hc : o ∈ ((recovered b).bump 32 0x2006 3 1).out := by rwa [Block.bump_out, hrec]
    unfold raiseAlert alertMessage
    split
    · split
      · exact hmsix _ _ hc
      · exact hc
    · rwa [hrec]
  exact hraise

/-- What a command lets out of the module leaves it: the end of the command adds to it. -/
theorem State.run_out_mem {s : State} {f : List Host.Cell → Block → Block} {o : Output} (h : o ∈ (f s.mem s.blk).out) :
    o ∈ (s.run f).blk.out := monitor_out_mem h

/-! ### Rules of the banks' operations -/

theorem setOwner_bank (k o j : Nat) (b : Block) : (setOwner k o b).bank j =
    if j = k then { b.bank k with owner := o, gen := ((b.bank k).gen + 1) % 65536 } else b.bank j := Block.bank_setBank ..

theorem unown_bank (k j : Nat) (b : Block) : (unown k b).bank j =
    if j = k then { b.bank k with owner := owUNOWNED, gen := ((b.bank k).gen + 1) % 65536, clearing := true, keep := false, lender := 0,
                                  borrowed := false }
    else b.bank j := by
  have h : ∀ x, ((setOwner k owUNOWNED b).setBank k x).bank j = if j = k then x else b.bank j := fun x => by
    rw [Block.bank_setBank, setOwner_bank]
    split <;> rfl
  refine (h _).trans ?_
  rw [setOwner_bank, if_pos rfl]

theorem Block.word_zeroBank (b : Block) (k j : Nat) {i : Nat} (hi : i < 65536) :
    (b.zeroBank k).word j i = if j = k then 0 else b.word j i := by
  have hk : wordKey j i / 65536 = j := by unfold wordKey; omega
  unfold Block.word Block.zeroBank
  rw [look_dropKeys, hk]
  simp

theorem unown_word (k j : Nat) {i : Nat} (hi : i < 65536) (b : Block) : (unown k b).word j i = if j = k then 0 else b.word j i :=
  Block.word_zeroBank _ _ _ hi

theorem setOwner_within (k o : Nat) (b : Block) (R : Nat → Nat → Bool) : Block.Within R b (setOwner k o b) := (Block.Within.refl R b).of_regs rfl rfl
theorem unown_within (k : Nat) (b : Block) (R : Nat → Nat → Bool) : Block.Within R b (unown k b) :=
  (Block.Within.refl R b).of_regs (by simp [unown, setOwner]) (by simp [unown, setOwner])

/-! ### Handover -/

/-- The word of a request has its fields (R389). -/
theorem handoverWord_eq {k new gen : Nat} (hk : k < 64) (hn : new < 16) (hg : gen < 65536) (b : Block) :
    handoverWord (k + new * 2 ^ 8 + gen * 2 ^ 16) b = handover k gen new b := by
  have h0 : bits (k + new * 2 ^ 8 + gen * 2 ^ 16) 0 6 = k := by simp only [bits]; omega
  have h1 : bits (k + new * 2 ^ 8 + gen * 2 ^ 16) 16 16 = gen := by simp only [bits]; omega
  have h2 : bits (k + new * 2 ^ 8 + gen * 2 ^ 16) 8 4 = new := by simp only [bits]; omega
  rw [handoverWord, h0, h1, h2]

theorem Block.Alike.handoverStatus {b c : Block} (h : c.Alike b) (k gen new : Nat) : handoverStatus c k gen new = handoverStatus b k gen new :=
  (congrArg (fun b : Block => Machine.handoverStatus b k gen new) h.shape :)

theorem Block.Alike.bank {b c : Block} (h : c.Alike b) (k : Nat) : c.bank k = b.bank k := (congrArg (fun b : Block => b.bank k) h.shape :)
theorem Block.Alike.banks {b c : Block} (h : c.Alike b) : c.banks = b.banks := (congrArg Block.banks h.shape :)
theorem Block.Alike.words {b c : Block} (h : c.Alike b) : c.words = b.words := (congrArg Block.words h.shape :)
theorem Block.Alike.maint {b c : Block} (h : c.Alike b) : c.maint = b.maint := (congrArg Block.maint h.shape :)

/-- A handover request, either way in. -/
theorem via_handover {s : State} {w : Via} {k new gen st : Nat} (hs : Safety.Serving s) (hk : k < 64) (hn : new < 16) (hg : gen < 65536)
    (hr : Safety.Reaches s w 0x7001 1 (k + new * 2 ^ 8 + gen * 2 ^ 16)) (hst : handoverStatus s.blk k gen new = st) (hne : st ≠ stRANGE) :
    ∃ b x m o, b.Alike s.blk ∧
      exec (.handoverRequest w k gen new) s = .next (s.run (fun _ _ => (handover k gen new b).2.reply x m o)) ∧
      Safety.Answered w st (s.run (fun _ _ => (handover k gen new b).2.reply x m o)) := by
  have hmod : (k + new * 2 ^ 8 + gen * 2 ^ 16) % 2 ^ 32 = k + new * 2 ^ 8 + gen * 2 ^ 16 := Nat.mod_eq_of_lt (by omega)
  obtain ⟨b, x, m, o, hb, hrun, hans⟩ := State.via_eq (f := fun b => (handover k gen new b).2) (off := 0x1400)
    (word := k + new * 2 ^ 8 + gen * 2 ^ 16) (st := st) hs hr (by decide) (by decide)
    ⟨((handover k gen new s.blk).2.bset 0x1408 0 _).bar, by
      show (stOK, setBankResult 0 _ (handoverWord _ s.blk).1 (handoverWord _ s.blk).2) = _
      rw [hmod, handoverWord_eq hk hn hg]
      rfl⟩
    (fun p _ => by
      show handoverWord _ s.blk.counted = _
      rw [handoverWord_eq hk hn hg, ← hst, ← s.blk.counted_alike.handoverStatus]
      rfl) hne
  exact ⟨b, x, m, o, hb, (State.act_of_on (by simp [Instr.wf, hk, hg, hn]) hs.1 _).trans (congrArg _ hrun), hans⟩

theorem handover_owned {k gen new : Nat} {b : Block} (hst : handoverStatus b k gen new = stOK) (hne : (b.bank k).owner ≠ new)
    (hn : new ≠ owUNOWNED) : (handover k gen new b).2 = setOwner k new b := by
  simp [handover, hst, hne, hn, stOK, stBUSY]

theorem handover_unowned {k gen : Nat} {b : Block} (hst : handoverStatus b k gen owUNOWNED = stOK) (hne : (b.bank k).owner ≠ owUNOWNED) :
    (handover k gen owUNOWNED b).2 = unown k b := by
  simp [handover, hst, hne, stOK, stBUSY]

theorem handover_stale {k gen new : Nat} {b : Block} (hst : handoverStatus b k gen new = stOWNER) : (handover k gen new b).2 = b := by
  simp [handover, hst, stOWNER, stOK, stBUSY]

theorem handoverStatus_stale {k gen new : Nat} {b : Block} (hn : new < 10 ∨ new = 15) (hg : gen ≠ (b.bank k).gen) :
    handoverStatus b k gen new = stOWNER := by
  have hres : ownerReserved new = false := by simp [ownerReserved]; omega
  simp [handoverStatus, hres, hg]

/-- BANK_RESULT shows the status in its low bits (R411). -/
theorem setBankResult_status (op k st : Nat) (hst : st < 16) (b : Block) : (setBankResult op k st b).bget 0x1408 0 % 16 = st := by
  rw [setBankResult, Block.bget_bset_self]
  omega

/-- Settles O40: the request's word has its fields, and the status decides what becomes of the bank. -/
theorem handoverChangesTheOwner : Obligations.HandoverChangesTheOwner := by
  unfold Obligations.HandoverChangesTheOwner
  refine ⟨?_, ?_, ?_⟩
  · intro s w k new hs hk hn hnu hg hr hst hne
    obtain ⟨b, x, m, o, hb, he, hans⟩ := via_handover hs hk hn hg hr hst (by decide)
    rw [handover_owned ((hb.handoverStatus ..).trans hst) (by rwa [hb.bank]) hnu] at he hans
    have hbank : ∀ j, (s.run (fun _ _ => (setOwner k new b).reply x m o)).blk.bank j = (setOwner k new b).bank j := State.run_bank _ _
    refine ⟨_, he, hans, ?_, ?_, fun j hj => ?_, Block.Within.keeps (((hb.within _).trans (setOwner_within k new b _)).of_regs rfl rfl)⟩
    · rw [hbank, setOwner_bank, if_pos rfl, hb.bank]
    · rw [State.run_words]
      exact hb.words
    · rw [hbank, setOwner_bank, if_neg hj, hb.bank]
  · intro s w k hs hk hg hr hst hne
    have hr' : Safety.Reaches s w 0x7001 1 (k + owUNOWNED * 2 ^ 8 + (s.blk.bank k).gen * 2 ^ 16) := by simpa [owUNOWNED] using hr
    obtain ⟨b, x, m, o, hb, he, hans⟩ := via_handover hs hk (by decide) hg hr' hst (by decide)
    rw [handover_unowned ((hb.handoverStatus ..).trans hst) (by rwa [hb.bank])] at he hans
    have hbank : ∀ j, (s.run (fun _ _ => (unown k b).reply x m o)).blk.bank j = (unown k b).bank j := State.run_bank _ _
    have hself := (hbank k).trans ((unown_bank k k b).trans (if_pos rfl))
    refine ⟨_, he, hans, ?_, ?_, ?_, fun i hi => ?_, fun j hj => ?_,
      Block.Within.keeps (((hb.within _).trans (unown_within k b _)).of_regs rfl rfl)⟩
    · rw [hself]
    · rw [hself]
    · rw [hself, hb.bank]
    · have hword : (s.run (fun _ _ => (unown k b).reply x m o)).blk.word k i = (unown k b).word k i := by
        unfold Block.word
        rw [State.run_words]
        rfl
      rw [hword, unown_word k k hi, if_pos rfl]
    · rw [hbank, unown_bank, if_neg hj, hb.bank]
  · intro s w k gen new hs hk hg hn hne hr
    have hst := handoverStatus_stale (k := k) hn hne
    have hn16 : new < 16 := by omega
    obtain ⟨b, x, m, o, hb, he, hans⟩ := via_handover hs hk hn16 hg hr hst (by decide)
    rw [handover_stale ((hb.handoverStatus ..).trans hst)] at he hans
    refine ⟨_, he, hans, ?_, ?_, ?_, Block.Within.keeps ((hb.within _).of_regs rfl rfl)⟩
    · rintro rfl
      have hmod : (k + new * 2 ^ 8 + gen * 2 ^ 16) % 2 ^ 32 = k + new * 2 ^ 8 + gen * 2 ^ 16 := Nat.mod_eq_of_lt (by omega)
      have hbar : barPut s.mem 0x1400 (k + new * 2 ^ 8 + gen * 2 ^ 16) s.blk =
          setBankResult 0 (bits (k + new * 2 ^ 8 + gen * 2 ^ 16) 0 6) stOWNER s.blk :=
        barPut_of_regWrite hs (hr.1 rfl) (by decide) (by decide) (by
          show (stOK, setBankResult 0 _ (handoverWord _ s.blk).1 (handoverWord _ s.blk).2) = _
          rw [hmod, handoverWord_eq hk hn16 hg, handover_stale hst]
          show (stOK, setBankResult 0 _ (handoverStatus s.blk k gen new) s.blk) = _
          rw [hst])
      have he' : exec (.handoverRequest .bar k gen new) s = .next (s.run (fun mem b => barPut mem 0x1400 (k + new * 2 ^ 8 + gen * 2 ^ 16) b)) :=
        State.act_of_on (by simp [Instr.wf, hk, hg, hn16]) hs.1 _
      rw [he] at he'
      injection he' with he'
      rw [he', State.run_bget _ _ (.inl (by decide)), hbar, setBankResult_status _ _ _ (by decide)]
    · rw [State.run_banks]
      exact hb.banks
    · rw [State.run_words]
      exact hb.words

end Sys2Proof.Machine

namespace Sys2Proof.Machine

/-! ### What serving the host's accesses may change -/

/-- The block is as `b` but for bank words, the accesses that wait, BAR0's own fields, the link and what leaves the module. -/
def Block.OpsOnly (b c : Block) : Prop := ∃ m l o ws ps rs, c =
  { b with bar := m, pcie := { b.pcie with link := l }, out := o, words := ws, maint := { b.maint with ops := ps, oldReads := rs } }

theorem Block.OpsOnly.refl (b : Block) : Block.OpsOnly b b := ⟨b.bar, b.pcie.link, b.out, b.words, b.maint.ops, b.maint.oldReads, rfl⟩

theorem Block.OpsOnly.trans {a b c : Block} (hb : Block.OpsOnly a b) (hc : Block.OpsOnly b c) : Block.OpsOnly a c := by
  obtain ⟨m, l, o, ws, ps, rs, rfl⟩ := hb
  obtain ⟨m', l', o', ws', ps', rs', rfl⟩ := hc
  exact ⟨m', l', o', ws', ps', rs', rfl⟩

theorem Block.OpsOnly.forEach {α : Type} {xs : List α} {f : α → Block → Block} (h : ∀ x b, Block.OpsOnly b (f x b)) (b : Block) :
    Block.OpsOnly b (forEach xs f b) :=
  List.foldlRecOn xs (fun b x => f x b) (motive := fun c => Block.OpsOnly b c) (.refl b) (fun c hc x _ => hc.trans (h x c))

section

variable {b c : Block} (h : Block.OpsOnly b c)
include h

theorem Block.OpsOnly.banks : c.banks = b.banks := by obtain ⟨m, l, o, ws, ps, rs, rfl⟩ := h; rfl
theorem Block.OpsOnly.bank (k : Nat) : c.bank k = b.bank k := by obtain ⟨m, l, o, ws, ps, rs, rfl⟩ := h; rfl
theorem Block.OpsOnly.queues : c.queues = b.queues := by obtain ⟨m, l, o, ws, ps, rs, rfl⟩ := h; rfl
theorem Block.OpsOnly.queue (k : Nat) : c.queue k = b.queue k := by obtain ⟨m, l, o, ws, ps, rs, rfl⟩ := h; rfl
theorem Block.OpsOnly.regs : c.regs = b.regs := by obtain ⟨m, l, o, ws, ps, rs, rfl⟩ := h; rfl
theorem Block.OpsOnly.mops : c.mops = b.mops := by obtain ⟨m, l, o, ws, ps, rs, rfl⟩ := h; rfl
theorem Block.OpsOnly.power : c.power = b.power := by obtain ⟨m, l, o, ws, ps, rs, rfl⟩ := h; rfl
theorem Block.OpsOnly.test : c.maint.test = b.maint.test := by obtain ⟨m, l, o, ws, ps, rs, rfl⟩ := h; rfl
theorem Block.OpsOnly.flash : c.flash = b.flash := by obtain ⟨m, l, o, ws, ps, rs, rfl⟩ := h; rfl
theorem Block.OpsOnly.within (R : Nat → Nat → Bool) : Block.Within R b c := (Block.Within.refl R b).of_regs h.regs h.mops

end

theorem linkUse_opsOnly (b : Block) : Block.OpsOnly b (linkUse b) := by
  obtain ⟨l, hl⟩ := linkUse_shape b
  exact ⟨b.bar, l, b.out, b.words, b.maint.ops, b.maint.oldReads, hl⟩

theorem emit_opsOnly (o : Output) (b : Block) : Block.OpsOnly b (b.emit o) := ⟨b.bar, b.pcie.link, _, b.words, b.maint.ops, b.maint.oldReads, rfl⟩
theorem bset_opsOnly (off k v : Nat) (b : Block) : Block.OpsOnly b (b.bset off k v) := ⟨_, b.pcie.link, b.out, b.words, b.maint.ops, b.maint.oldReads, rfl⟩
theorem setWord_opsOnly (k i : Nat) (v : Word) (b : Block) : Block.OpsOnly b (b.setWord k i v) := ⟨b.bar, b.pcie.link, b.out, _, b.maint.ops, b.maint.oldReads, rfl⟩
theorem waits_opsOnly (ps : List BankOp) (rs : List Nat) (b : Block) :
    Block.OpsOnly b { b with maint := { b.maint with ops := ps, oldReads := rs } } := ⟨b.bar, b.pcie.link, b.out, b.words, ps, rs, rfl⟩

theorem bankDenied_opsOnly (k : Nat) (b : Block) : Block.OpsOnly b (bankDenied k b) := bset_opsOnly ..
theorem setBankResult_opsOnly (op k st : Nat) (b : Block) : Block.OpsOnly b (setBankResult op k st b) := bset_opsOnly ..

theorem giveOld_opsOnly (k i n : Nat) (b : Block) : Block.OpsOnly b (giveOld k i n b) :=
  (bset_opsOnly _ _ _ b).trans ((emit_opsOnly _ _).trans (linkUse_opsOnly _))

theorem answerOldReads_opsOnly (k i : Nat) (b : Block) : Block.OpsOnly b (answerOldReads k i b) :=
  (waits_opsOnly _ _ b).trans (.forEach (fun n c => giveOld_opsOnly k i n c) _)

theorem serveBankOp_opsOnly (o : BankOp) (b : Block) : Block.OpsOnly b (serveBankOp o b) := by
  unfold serveBankOp
  dsimp only
  split
  · exact (emit_opsOnly _ b).trans (linkUse_opsOnly _)
  · exact setWord_opsOnly ..
  · exact ((setWord_opsOnly _ _ _ b).trans ((bset_opsOnly _ _ _ _).trans ((bset_opsOnly _ _ _ _).trans (setBankResult_opsOnly _ _ _ _)))).trans
      (answerOldReads_opsOnly ..)

theorem refuseBankOp_opsOnly (o : BankOp) (b : Block) : Block.OpsOnly b (refuseBankOp o b) := by
  unfold refuseBankOp
  split
  · exact ((bankDenied_opsOnly _ b).trans (emit_opsOnly _ _)).trans (linkUse_opsOnly _)
  · exact bankDenied_opsOnly ..
  · exact (setBankResult_opsOnly _ _ _ b).trans (answerOldReads_opsOnly ..)

/-- The accesses that waited on a bank that is ON are served. -/
theorem serveWaitingOps_opsOnly {k : Nat} {b : Block} (hon : (b.bank k).power = 0) : Block.OpsOnly b (serveWaitingOps k b) := by
  unfold serveWaitingOps
  dsimp only
  split
  · exact .refl b
  · rw [if_neg (by simp [hon])]
    exact (waits_opsOnly _ _ b).trans (.forEach (fun o c => by
      split
      · exact serveBankOp_opsOnly o c
      · exact refuseBankOp_opsOnly o c) _)

/-! ### Power and KEEP (R396, R397) -/

theorem wakeBank_bank (k j : Nat) (b : Block) : (wakeBank k b).bank j =
    if j = k then { b.bank k with want := 0, waking := (b.bank k).waking || (b.bank k).power != 0 } else b.bank j := by
  unfold wakeBank
  dsimp only
  by_cases hp : (b.bank k).power = 0
  · rw [if_pos hp]
    by_cases hw : (b.bank k).want = 0
    · have hw' : { b.bank k with want := 0 } = b.bank k := by rw [← hw]
      rw [if_pos hw]
      split
      · next h =>
        rw [h]
        conv => lhs; rw [← hw']
        simp [hp]
      · rfl
    · rw [if_neg hw, Block.bank_setBank]
      simp [hp]
  · have hbne : ((b.bank k).power != 0) = true := by simpa using hp
    rw [if_neg hp, Block.bank_setBank, hbne, Bool.or_true]

theorem wakeBank_within (k : Nat) (b : Block) (R : Nat → Nat → Bool) : Block.Within R b (wakeBank k b) := by
  unfold wakeBank
  dsimp only
  split
  · split
    · exact .refl R b
    · exact (Block.Within.refl R b).of_regs rfl rfl
  · exact (Block.Within.refl R b).of_regs rfl rfl

theorem setPower_within (k p : Nat) (b : Block) (R : Nat → Nat → Bool) : Block.Within R b (setPower k p b) := by
  unfold setPower
  dsimp only
  split
  · exact wakeBank_within k b R
  · split
    · exact (Block.Within.refl R b).of_regs rfl rfl
    · split
      · exact (Block.Within.refl R b).of_regs rfl rfl
      · exact (Block.Within.refl R b).of_regs rfl rfl

/-- RETENTION and OFF are reached at once where no access waits on the bank. -/
theorem setPower_bank {k p : Nat} (hp : p ≠ 0) {b : Block} (hops : ∀ o ∈ b.maint.ops, o.bank ≠ k) (j : Nat) : (setPower k p b).bank j =
    if j = k then { b.bank k with want := p, power := p, waking := false } else b.bank j := by
  have hany : b.maint.ops.any (fun o => o.bank == k) = false := by simpa using hops
  simp only [setPower, hp, if_false, hany, Bool.false_eq_true]
  split
  · exact Block.bank_setBank ..
  · exact Block.bank_setBank ..

theorem setPower_off_word {k : Nat} {b : Block} (hops : ∀ o ∈ b.maint.ops, o.bank ≠ k) {i : Nat} (hi : i < 65536) :
    (setPower k 2 b).word k i = 0 := by
  have hany : b.maint.ops.any (fun o => o.bank == k) = false := by simpa using hops
  simp only [setPower, hany, Bool.false_eq_true, if_false, if_true, (by decide : ¬ (2 = 0))]
  rw [Block.word_zeroBank _ _ _ hi, if_pos rfl]

/-! ### Control requests, either way in -/

/-- A control request that its checks let pass. -/
theorem via_bankControl {s : State} {w : Via} {word : Nat} (hs : Safety.Serving s) (hlt : word < 2 ^ 14) (hres : bits word 6 2 = 0)
    (hr : Safety.Reaches s w 0x7001 2 word) (hst : (bankControl word s.blk).1 = stOK) :
    ∃ b x m o, b.Alike s.blk ∧
      s.run (fun mem b => viaPut w mem 0x1404 word 0x7001 2 word b) = s.run (fun _ _ => (bankControl word b).2.reply x m o) ∧
      Safety.Answered w stOK (s.run (fun _ _ => (bankControl word b).2.reply x m o)) := by
  have hmod : word % 2 ^ 32 = word := Nat.mod_eq_of_lt (by omega)
  have hhigh : bits word 14 18 = 0 := by simp only [bits]; omega
  have hst' : (bankControl word s.blk.counted).1 = stOK :=
    (congrArg (fun b : Block => (bankControl word b).1) s.blk.counted_alike.shape :).trans hst
  refine State.via_eq (f := fun b => (bankControl word b).2) hs hr (by decide) (by decide)
    ⟨(setBankResult 1 (bits word 0 6) (bankControl word s.blk).1 (bankControl word s.blk).2).bar, by rw [hmod]; rfl⟩ (fun p _ => ?_) (by decide)
  show selectedWrite _ (bankControl word s.blk.counted) s.blk.counted = _
  simp only [selectedWrite, hres, hhigh, bne_self_eq_false, Bool.or_self, Bool.false_and, Bool.false_eq_true, if_false]
  rw [← hst']

theorem bankControl_power {w k v : Nat} {b : Block} (hk : bits w 0 6 = k) (hv : bits w 12 2 = v) (hpower : bit w 11 = true)
    (hkeep : bit w 9 = false) (hreclaim : bit w 8 = false) (hst : bankCtrlStatus b k w = stOK) : bankControl w b = (stOK, setPower k v b) := by
  simp [bankControl, whenOk, hk, hv, hpower, hkeep, hreclaim, hst]

theorem bankControl_keep {w k : Nat} {b : Block} (hk : bits w 0 6 = k) (hpower : bit w 11 = false) (hkeep : bit w 9 = true)
    (hreclaim : bit w 8 = false) (hst : bankCtrlStatus b k w = stOK) : bankControl w b = (stOK, setKeep k (bit w 10) b) := by
  simp [bankControl, whenOk, hk, hpower, hkeep, hreclaim, hst]

/-- The fields of a request of a power state. -/
theorem powerWord_fields {k v : Nat} (hk : k < 64) (hv : v < 3) :
    bits (k + 2 ^ 11 + v * 2 ^ 12) 0 6 = k ∧ bits (k + 2 ^ 11 + v * 2 ^ 12) 12 2 = v ∧ bit (k + 2 ^ 11 + v * 2 ^ 12) 11 = true ∧
    bit (k + 2 ^ 11 + v * 2 ^ 12) 9 = false ∧ bit (k + 2 ^ 11 + v * 2 ^ 12) 8 = false := by
  simp only [bits, bit, beq_iff_eq, beq_eq_false_iff_ne]
  omega

/-- The fields of a request of the KEEP bit. -/
theorem keepWord_fields {k : Nat} (hk : k < 64) (keep : Bool) :
    bits (k + 2 ^ 9 + b2n keep * 2 ^ 10) 0 6 = k ∧ bit (k + 2 ^ 9 + b2n keep * 2 ^ 10) 11 = false ∧
    bit (k + 2 ^ 9 + b2n keep * 2 ^ 10) 9 = true ∧ bit (k + 2 ^ 9 + b2n keep * 2 ^ 10) 8 = false ∧
    bit (k + 2 ^ 9 + b2n keep * 2 ^ 10) 10 = keep := by
  cases keep <;> simp [bits, bit, b2n] <;> omega

theorem Block.Alike.bankCtrlStatus {b c : Block} (h : c.Alike b) (k w : Nat) : bankCtrlStatus c k w = bankCtrlStatus b k w :=
  (congrArg (fun b : Block => Machine.bankCtrlStatus b k w) h.shape :)

/-! ### The end of a wake -/

/-- A bank on which no ring lies wakes no ring. -/
theorem ringsWoken_of_none {k : Nat} {b : Block} (h : ∀ key ∈ [0, q0Response, 1] ++ b.queues.map Prod.fst, (b.queue key).bank ≠ k) :
    ringsWoken k b = b := by
  unfold ringsWoken
  have hnil : ([0, q0Response, 1] ++ b.queues.map Prod.fst).eraseDups.filter
      (fun key => (b.queue key).enabled && (b.queue key).bank == k && b.ringOn key) = [] := by
    rw [List.filter_eq_nil_iff]
    intro key hkey
    simp [h key (List.mem_eraseDups.1 hkey)]
  rw [hnil]
  rfl

/-- A bank that is to stay ON has woken: nothing but the accesses that waited on it is served. -/
theorem bankWakeComplete_opsOnly {k : Nat} {b : Block} (hw : (b.bank k).waking = true) (hwant : (b.bank k).want = 0) :
    Block.OpsOnly (b.setBank k { b.bank k with power := 0, waking := false }) (bankWakeComplete k b) := by
  simp only [bankWakeComplete, hw, Bool.not_true, Bool.false_eq_true, if_false, bankOn, hwant, if_true]
  exact serveWaitingOps_opsOnly (by rw [Block.bank_setBank_self])

/-- Settles O41: each request changes the bank that it names, and a wake serves what waited. -/
theorem bankPowerAndClearing : Obligations.BankPowerAndClearing := by
  unfold Obligations.BankPowerAndClearing
  refine ⟨?_, ?_, ?_, ?_⟩
  · intro s w k v hs hk hv hr hst hops
    have hctl : ∀ b : Block, b.Alike s.blk → bankControl (k + 2 ^ 11 + v * 2 ^ 12) b = (stOK, setPower k v b) :=
      fun b hb => by
        obtain ⟨h0, h12, h11, h9, h8⟩ := powerWord_fields hk hv
        exact bankControl_power h0 h12 h11 h9 h8 ((hb.bankCtrlStatus ..).trans hst)
    obtain ⟨b, x, m, o, hb, hrun, hans⟩ := via_bankControl hs (by omega) (by simp only [bits]; omega) hr (by rw [hctl _ (.refl _)])
    rw [hctl b hb] at hrun hans
    have hops' : ∀ o ∈ b.maint.ops, o.bank ≠ k := by rwa [hb.maint]
    have hbank : ∀ j, (s.run (fun _ _ => (setPower k v b).reply x m o)).blk.bank j = (setPower k v b).bank j := State.run_bank _ _
    have hself : (s.run (fun _ _ => (setPower k v b).reply x m o)).blk.bank k = if v = 0 then
        { s.blk.bank k with want := 0, waking := (s.blk.bank k).waking || (s.blk.bank k).power != 0 }
        else { s.blk.bank k with want := v, power := v, waking := false } := by
      rw [hbank, ← hb.bank]
      split
      · next h => rw [h, setPower, if_pos rfl, wakeBank_bank, if_pos rfl]
      · next h => rw [setPower_bank h hops', if_pos rfl]
    refine ⟨_, (State.act_of_on (by simp [Instr.wf, hk]; omega) hs.1 _).trans (congrArg _ hrun), hans, ?_, fun h => ?_, fun h hp => ?_,
      fun h i hi => ?_, fun j hj => ?_, Block.Within.keeps (((hb.within _).trans (setPower_within k v b _)).of_regs rfl rfl)⟩
    · rw [hself]
      split
      · next h => exact h.symm
      · rfl
    · rw [hself, if_neg h]
    · rw [hself, if_pos h]
      simp [hp]
    · have hword : (s.run (fun _ _ => (setPower k v b).reply x m o)).blk.word k i = (setPower k v b).word k i := by
        unfold Block.word
        rw [State.run_words]
        rfl
      rw [hword, h, setPower_off_word hops' hi]
    · rw [hbank, ← hb.bank]
      by_cases h : v = 0
      · rw [h, setPower, if_pos rfl, wakeBank_bank, if_neg hj]
      · rw [setPower_bank h hops', if_neg hj]
  · intro s w k keep hs hk hr hst
    have hb2 : b2n keep < 2 := by cases keep <;> decide
    have hctl : ∀ b : Block, b.Alike s.blk → bankControl (k + 2 ^ 9 + b2n keep * 2 ^ 10) b = (stOK, setKeep k keep b) :=
      fun b hb => by
        obtain ⟨h0, h11, h9, h8, h10⟩ := keepWord_fields hk keep
        exact (bankControl_keep h0 h11 h9 h8 ((hb.bankCtrlStatus ..).trans hst)).trans (by rw [h10])
    obtain ⟨b, x, m, o, hb, hrun, hans⟩ := via_bankControl hs (by omega) (by simp only [bits]; omega) hr (by rw [hctl _ (.refl _)])
    rw [hctl b hb] at hrun hans
    have hbank : ∀ j, (s.run (fun _ _ => (setKeep k keep b).reply x m o)).blk.bank j =
        if j = k then { b.bank k with keep := keep } else b.bank j := fun j => (State.run_bank ..).trans (Block.bank_setBank ..)
    refine ⟨_, (State.act_of_on (by simp [Instr.wf, hk]) hs.1 _).trans (congrArg _ hrun), hans, ?_, fun j hj => ?_, ?_,
      Block.Within.keeps ((hb.within _).of_regs rfl rfl)⟩
    · rw [hbank, if_pos rfl, hb.bank]
    · rw [hbank, if_neg hj, hb.bank]
    · rw [State.run_words]
      exact hb.words
  · intro s k hon hk hw hwant hkeys
    have hops := bankWakeComplete_opsOnly hw hwant
    have hrings : ringsWoken k (bankWakeComplete k s.blk) = bankWakeComplete k s.blk := ringsWoken_of_none (by
      rw [hops.queues]
      exact fun key hkey => (congrArg Queue.bank (hops.queue key)) ▸ hkeys key hkey)
    have hbank : ∀ j, (s.run (fun _ b => ringsWoken k (bankWakeComplete k b))).blk.bank j =
        if j = k then { s.blk.bank k with power := 0, waking := false } else s.blk.bank j := fun j => by
      rw [State.run_bank, hrings, hops.bank, Block.bank_setBank]
    exact ⟨_, State.act_of_on (by simp [Instr.wf, hk]) hon _, (hbank k).trans (if_pos rfl), fun j hj => (hbank j).trans (if_neg hj)⟩
  · intro s k hon hk hc
    have hend : clearingEnd k s.blk = s.blk.setBank k { s.blk.bank k with clearing := false } := by rw [clearingEnd, if_pos hc]
    have hbank : ∀ j, (s.run (fun _ b => clearingEnd k b)).blk.bank j =
        if j = k then { s.blk.bank k with clearing := false } else s.blk.bank j := fun j => by
      rw [State.run_bank, hend, Block.bank_setBank]
    refine ⟨_, State.act_of_on (by simp [Instr.wf, hk]) hon _, (hbank k).trans (if_pos rfl), fun j hj => (hbank j).trans (if_neg hj), ?_,
      Block.Within.keeps ?_⟩
    · rw [State.run_words, hend]
      rfl
    · rw [hend]
      exact (Block.Within.refl _ _).of_regs rfl rfl

end Sys2Proof.Machine

/-! # The host's accesses of the SRAM banks (R385, R394, R395, R411) -/

namespace Sys2Proof.Machine

/-! ### Words and fields of BAR0 after an operation -/

theorem giveOld_words (k i n : Nat) (b : Block) : (giveOld k i n b).words = b.words := by
  obtain ⟨l, hl⟩ := linkUse_shape ((b.bset 0x1424 0 (b.bget 0x1420 1)).emit
    (.bankData k i (b.bget 0x1420 0 + if n = 8 then b.bget 0x1420 1 * 2 ^ 32 else 0)))
  exact (congrArg Block.words hl).trans rfl

theorem giveOld_bget (k i n : Nat) (b : Block) (off j : Nat) :
    (giveOld k i n b).bget off j = if off * 8 + j = 0x1424 * 8 then b.bget 0x1420 1 else b.bget off j :=
  (Block.bget_of_bar ((linkUse_bar _).trans (Block.emit_bar ..)) off j).trans (Block.bget_bset ..)

theorem answerOldReads_words (k i : Nat) (b : Block) : (answerOldReads k i b).words = b.words :=
  forEach_keeps Block.words (fun n _ c => giveOld_words k i n c) { b with maint := { b.maint with oldReads := [] } }

theorem answerOldReads_bget (k i : Nat) (b : Block) {off j : Nat} (h : off * 8 + j ≠ 0x1424 * 8) :
    (answerOldReads k i b).bget off j = b.bget off j :=
  forEach_keeps (fun c : Block => c.bget off j) (fun n _ c => (giveOld_bget k i n c off j).trans (if_neg h))
    { b with maint := { b.maint with oldReads := [] } }

/-! ### An access of a bank that lies ready -/

/-- The host has used the bank: its idle time begins anew (R401). -/
def Block.usedBank (b : Block) (k : Nat) : Block := b.setBank k { b.bank k with used := some b.time.abs }

@[simp] theorem Block.usedBank_word (b : Block) (k j i : Nat) : (b.usedBank k).word j i = b.word j i := rfl
@[simp] theorem Block.usedBank_words (b : Block) (k : Nat) : (b.usedBank k).words = b.words := rfl

theorem Block.usedBank_within (b : Block) (k : Nat) (R : Nat → Nat → Bool) : Block.Within R b (b.usedBank k) := (Block.Within.refl R b).of_regs rfl rfl

theorem hostBankOp_of_ready {o : BankOp} {b : Block} (hp : (b.bank o.bank).power = 0) (hb : (b.bank o.bank).borrowed = false) :
    hostBankOp o b = serveBankOp o (b.usedBank o.bank) := by
  simp [hostBankOp, hp, hb, Block.usedBank]

theorem hostOwns_of_owner {b : Block} {k : Nat} (h : (b.bank k).owner = owHOST) : hostOwns b k = true := by simp [hostOwns, h]

theorem serveBankOp_within (o : BankOp) (b : Block) (R : Nat → Nat → Bool) : Block.Within R b (serveBankOp o b) := (serveBankOp_opsOnly o b).within R

/-- An operation of BANK_ATOMIC_CMD on a bank that lies ready: the word takes the result, the old word is shown, BANK_RESULT says OK. -/
theorem serveBankOp_atomic {o : BankOp} (hk : 2 ≤ o.kind) (b : Block) :
    (serveBankOp o b).words = (b.setWord o.bank o.word (BitVec.ofNat 64 (atomicResult o.kind (b.word o.bank o.word).toNat o.data))).words ∧
    (serveBankOp o b).bget 0x1420 0 = bits (b.word o.bank o.word).toNat 0 32 ∧
    (serveBankOp o b).bget 0x1420 1 = bits (b.word o.bank o.word).toNat 32 32 ∧ (serveBankOp o b).bget 0x1408 0 % 16 = stOK := by
  obtain ⟨bank, kind, word, half, data⟩ := o
  match kind, hk with
  | kind + 2, _ =>
    refine ⟨answerOldReads_words .., ?_, ?_, ?_⟩
    · refine (answerOldReads_bget _ _ _ (by decide)).trans ?_
      simp [setBankResult, Block.bget_bset]
    · refine (answerOldReads_bget _ _ _ (by decide)).trans ?_
      simp [setBankResult, Block.bget_bset]
    · exact (congrArg (· % 16) (answerOldReads_bget _ _ _ (by decide))).trans (setBankResult_status _ _ _ (by decide) _)

/-- The access that a write of BANK_ATOMIC_CMD asks for (R395). -/
def Block.atomicOp (b : Block) (kind k i : Nat) : BankOp :=
  { bank := k, kind := kind, word := i, half := 2, data := b.bget 0x1418 0 + b.bget 0x141C 0 * 2 ^ 32 }

/-- BANK_ATOMIC_CMD of a module that serves, on a bank that lies ready. -/
theorem bankAtomic_of_ready {b : Block} {k i : Nat} (ha : b.bget 0x1410 0 = k * 65536 + i) (hk : k < 64) (hi : i < 65536)
    (ho : (b.bank k).owner = owHOST) (hp : (b.bank k).power = 0) (hb : (b.bank k).borrowed = false) (kind : Nat) :
    bankAtomic kind b = serveBankOp (b.atomicOp kind k i) (b.usedBank k) := by
  have h16 : bits (k * 65536 + i) 16 6 = k := by simp only [bits]; omega
  have h0 : bits (k * 65536 + i) 0 16 = i := by simp only [bits]; omega
  simp only [bankAtomic, ha, h16, h0, hostOwns_of_owner ho, Bool.not_true, Bool.false_eq_true, if_false]
  exact hostBankOp_of_ready hp hb

/-- The word's addresses keep words apart. -/
theorem wordKey_ne {j m k i : Nat} (hm : m < 65536) (hi : i < 65536) (h : (j, m) ≠ (k, i)) : wordKey j m ≠ wordKey k i := fun e => h (by
  obtain ⟨rfl, rfl⟩ : j = k ∧ m = i := by unfold wordKey at e; omega
  rfl)

theorem State.run_word (s : State) (f : List Host.Cell → Block → Block) (k i : Nat) : (s.run f).blk.word k i = (f s.mem s.blk).word k i := by
  unfold Block.word
  rw [State.run_words]

/-- A write of BANK_ATOMIC_CMD with an operation, on a bank of Host that lies ready. -/
theorem run_atomic {s : State} (hs : Safety.Serving s) (hup : s.blk.barUp = true) {k i : Nat} (hk : k < 64) (hi : i < 65536)
    (ha : s.blk.bget 0x1410 0 = k * 65536 + i) (hbank : Safety.HostBank s k) {v : Nat} (hv : v = 1 ∨ v = 2 ∨ v = 3) {new : Word}
    (hnew : BitVec.ofNat 64 (atomicResult (v + 1) (s.blk.word k i).toNat (s.blk.bget 0x1418 0 + s.blk.bget 0x141C 0 * 2 ^ 32)) = new) :
    let t := s.run (fun mem b => barPut mem 0x1414 v b)
    t.blk.word k i = new ∧ t.blk.bget 0x1420 0 = bits (s.blk.word k i).toNat 0 32 ∧ t.blk.bget 0x1420 1 = bits (s.blk.word k i).toNat 32 32 ∧
      t.blk.bget 0x1408 0 % 16 = stOK ∧ (∀ j m, m < 65536 → (j, m) ≠ (k, i) → t.blk.word j m = s.blk.word j m) ∧
      Safety.Keeps (fun _ _ => false) s t := by
  obtain ⟨ho, hp, hb⟩ := hbank
  have hput : barPut s.mem 0x1414 v s.blk = serveBankOp (s.blk.atomicOp (v + 1) k i) (s.blk.usedBank k) := by
    rw [barPut_of_regWrite hs hup (by decide) (by decide) (c := bankAtomic (v + 1) s.blk) (by rcases hv with rfl | rfl | rfl <;> rfl)]
    exact bankAtomic_of_ready ha hk hi ho hp hb _
  obtain ⟨hwords, hlo, hhi, hres⟩ := serveBankOp_atomic (o := s.blk.atomicOp (v + 1) k i) (by show 2 ≤ v + 1; omega) (s.blk.usedBank k)
  have hword : ∀ j m, (barPut s.mem 0x1414 v s.blk).word j m = (s.blk.setWord k i new).word j m := fun j m => by
    rw [hput, ← hnew]
    exact congrArg (fun ws => look (fun _ => 0) ws (wordKey j m)) hwords
  refine ⟨?_, ?_, ?_, ?_, fun j m hm hjm => ?_, Block.Within.keeps ?_⟩
  · rw [State.run_word, hword, Block.word_setWord_self]
  · rw [State.run_bget _ _ (.inl (by decide)), hput]
    exact hlo
  · rw [State.run_bget _ _ (.inl (by decide)), hput]
    exact hhi
  · rw [State.run_bget _ _ (.inl (by decide)), hput, hres]
  · rw [State.run_word, hword, Block.word_setWord_ne _ _ _ _ _ _ (wordKey_ne hm hi hjm)]
  · rw [hput]
    exact (s.blk.usedBank_within k _).trans (serveBankOp_within ..)

/-! ### The results (R385) -/

theorem atomicResult_add64 (old : Word) (op : Nat) : BitVec.ofNat 64 (atomicResult 2 old.toNat op) = old + BitVec.ofNat 64 op :=
  BitVec.eq_of_toNat_eq (by simp [atomicResult])

theorem atomicResult_add32x2 (old : Word) (op : Nat) : BitVec.ofNat 64 (atomicResult 3 old.toNat op) =
    (old.extractLsb' 32 32 + (BitVec.ofNat 64 op).extractLsb' 32 32) ++ (old.extractLsb' 0 32 + (BitVec.ofNat 64 op).extractLsb' 0 32) := by
  have hlow : (old.extractLsb' 0 32 + (BitVec.ofNat 64 op).extractLsb' 0 32).toNat = (old.toNat % 2 ^ 32 + op % 2 ^ 32) % 2 ^ 32 := by
    simp
  have hhigh : (old.extractLsb' 32 32 + (BitVec.ofNat 64 op).extractLsb' 32 32).toNat = (old.toNat / 2 ^ 32 + op / 2 ^ 32) % 2 ^ 32 := by
    simp [Nat.shiftRight_eq_div_pow]
    omega
  apply BitVec.eq_of_toNat_eq
  rw [BitVec.toNat_append, hlow, hhigh, ← Nat.shiftLeft_add_eq_or_of_lt (Nat.mod_lt _ (by decide)), Nat.shiftLeft_eq]
  simp only [atomicResult, BitVec.toNat_ofNat]
  omega

theorem atomicResult_swap64 (old op : Nat) : BitVec.ofNat 64 (atomicResult 4 old op) = BitVec.ofNat 64 op :=
  BitVec.eq_of_toNat_eq (by simp [atomicResult])

/-! ### The bank window -/

/-- A write of 8 octets through the bank window, of a module that serves. -/
theorem bankAccess_write {s : State} (hs : Safety.Serving s) (hup : s.blk.barUp = true) {off : Nat} (hoff : off < 0x2000000) (mem : List Host.Cell)
    (len v : Nat) : bankAccess mem true off len v s.blk = bankWindow true off len v s.blk := by
  obtain ⟨_, hready, hps, hentry, _⟩ := hs
  have hawake : awake s.blk.requestCode s.blk = s.blk := by simp [awake, hps, hentry]
  have hhold : s.blk.asleepInHold = false := by simp [Block.asleepInHold, hps]
  have h40 : ¬ 0x2000000 + off = 0x40 := by omega
  have hwin : ¬ 0x4000000 ≤ 0x2000000 + off := by omega
  simp [bankAccess, barWrite, barWake, hup, Block.ready, hready, hawake, hhold, h40, hwin]

/-- A read through the bank window, of a module that serves. -/
theorem bankAccess_read {s : State} (hs : Safety.Serving s) (hup : s.blk.barUp = true) (mem : List Host.Cell) (off len v : Nat) :
    bankAccess mem false off len v s.blk = bankWindow false off len v (linkUse s.blk) := by
  have hops := linkUse_opsOnly s.blk
  have hwake : wake 7 (linkUse s.blk) = linkUse s.blk := wake_of_serving hs hops.regs hops.power 7
  obtain ⟨_, hready, _⟩ := hs
  simp [bankAccess, hup, Block.ready, hready, hwake]

theorem bankWindow_denied {b : Block} {off : Nat} (hoff : off < 0x2000000) (h : hostOwns b (off / 0x80000) = false) (write : Bool) (len v : Nat) :
    bankWindow write off len v b = if write then bankDenied (off / 0x80000) b
      else (bankDenied (off / 0x80000) b).emit (.bankData (off / 0x80000) (off % 0x80000 / 8) 0) := by
  have hmod : off / 0x80000 % 64 = off / 0x80000 := Nat.mod_eq_of_lt (by omega)
  simp [bankWindow, hmod, h]

theorem bankDenied_shows {b : Block} {k : Nat} (hk : k < 64) : bit ((bankDenied k b).bget 0x140C 0) 0 = true ∧
    bits ((bankDenied k b).bget 0x140C 0) 2 6 = k ∧
    bits ((bankDenied k b).bget 0x140C 0) 16 16 = satTo 16 (bits (b.bget 0x140C 0) 16 16 + 1) := by
  have hsat : satTo 16 (bits (b.bget 0x140C 0) 16 16 + 1) < 65536 := Nat.lt_of_le_of_lt (Nat.min_le_right ..) (by decide)
  simp only [bankDenied, Block.bget_bset_self]
  generalize satTo 16 (bits (b.bget 0x140C 0) 16 16 + 1) = x at hsat ⊢
  simp only [bits, bit, beq_iff_eq]
  omega

/-- An access of a word of a bank of Host that lies ready. -/
theorem bankWindow_ready {b : Block} {k i : Nat} (hk : k < 64) (hi : i < 65536) (ho : (b.bank k).owner = owHOST) (hp : (b.bank k).power = 0)
    (hb : (b.bank k).borrowed = false) (write : Bool) (v : Nat) : bankWindow write (k * 0x80000 + i * 8) 8 v b =
      serveBankOp { bank := k, kind := if write then 1 else 0, word := i, half := 2, data := v } (b.usedBank k) := by
  have h1 : (k * 0x80000 + i * 8) / 0x80000 % 64 = k := by omega
  have h2 : (k * 0x80000 + i * 8) % 0x80000 / 8 = i := by omega
  have h3 : (k * 0x80000 + i * 8) % 8 = 0 := by omega
  simp only [bankWindow, h1, h2, h3, hostOwns_of_owner ho, Bool.not_true, beq_self_eq_true, Bool.or_true, bne_self_eq_false, Bool.or_self,
    Bool.false_eq_true, if_false, if_true]
  exact hostBankOp_of_ready hp hb

/-- Settles O42: what is served at once, what is denied, and what the operations leave in the word. -/
theorem hostBanksAreReadWrittenAndOperatedOn : Obligations.HostBanksAreReadWrittenAndOperatedOn := by
  unfold Obligations.HostBanksAreReadWrittenAndOperatedOn
  refine ⟨?_, ?_, ?_, ?_, ?_⟩
  · intro s k i hs hup hk hi ⟨ho, hp, hb⟩
    have hops := linkUse_opsOnly s.blk
    obtain ⟨l, hl⟩ := linkUse_shape s.blk
    have hacc : bankAccess s.mem false (k * 0x80000 + i * 8) 8 0 s.blk =
        linkUse (((linkUse s.blk).usedBank k).emit (.bankData k i (s.blk.word k i).toNat)) := by
      rw [bankAccess_read hs hup, bankWindow_ready hk hi ((congrArg Bank.owner (hops.bank k)).trans ho)
        ((congrArg Bank.power (hops.bank k)).trans hp) ((congrArg Bank.borrowed (hops.bank k)).trans hb), hl]
      rfl
    have hops2 := linkUse_shape (((linkUse s.blk).usedBank k).emit (.bankData k i (s.blk.word k i).toNat))
    obtain ⟨l2, hl2⟩ := hops2
    refine ⟨_, State.act_of_on (by simp [Instr.wf]; omega) hs.1 _, State.run_out_mem ?_, ?_, Block.Within.keeps ?_⟩
    · rw [hacc, hl2]
      exact List.mem_cons_self
    · rw [State.run_words, hacc, hl2]
      show (linkUse s.blk).words = _
      rw [hl]
    · rw [hacc]
      exact ((hops.within _).trans (Block.usedBank_within ..)).trans (((emit_opsOnly ..).trans (linkUse_opsOnly _)).within _)
  · intro s k i v hs hup hk hi hv ⟨ho, hp, hb⟩
    have hacc : bankAccess s.mem true (k * 0x80000 + i * 8) 8 v s.blk = (s.blk.usedBank k).setWord k i (BitVec.ofNat 64 (v % 2 ^ 64)) := by
      rw [bankAccess_write hs hup (by omega), bankWindow_ready hk hi ho hp hb]
      rfl
    have hword : ∀ j m, (s.run (fun mem b => bankAccess mem true (k * 0x80000 + i * 8) 8 v b)).blk.word j m =
        ((s.blk.usedBank k).setWord k i (BitVec.ofNat 64 (v % 2 ^ 64))).word j m := fun j m => by rw [State.run_word, hacc]
    refine ⟨_, State.act_of_on (by simp [Instr.wf]; omega) hs.1 _, ?_, fun j m hm hjm => ?_, Block.Within.keeps ?_⟩
    · rw [hword, Block.word_setWord_self, BitVec.toNat_ofNat, Nat.mod_mod, Nat.mod_eq_of_lt hv]
    · rw [hword, Block.word_setWord_ne _ _ _ _ _ _ (wordKey_ne hm hi hjm), Block.usedBank_word]
    · rw [hacc]
      exact (s.blk.usedBank_within k _).trans ((setWord_opsOnly ..).within _)
  · intro s write off len v hs hup hoff how
    obtain ⟨l, hl⟩ := linkUse_shape s.blk
    obtain ⟨c, hc, hbar, hops⟩ : ∃ c, bankAccess s.mem write off len v s.blk = c ∧
        (∀ o j, c.bget o j = (bankDenied (off / 0x80000) s.blk).bget o j) ∧ Block.OpsOnly s.blk c ∧ c.words = s.blk.words := by
      cases write with
      | true =>
        refine ⟨_, (bankAccess_write hs hup hoff _ _ _).trans ((bankWindow_denied hoff how _ _ _).trans (if_pos rfl)), fun _ _ => rfl,
          bankDenied_opsOnly _ _, rfl⟩
      | false =>
        have how' : hostOwns (linkUse s.blk) (off / 0x80000) = false := by
          unfold hostOwns
          rw [(linkUse_opsOnly s.blk).bank]
          exact how
        refine ⟨_, (bankAccess_read hs hup _ _ _ _).trans ((bankWindow_denied hoff how' _ _ _).trans (if_neg (by decide))), fun _ _ => ?_,
          ((linkUse_opsOnly _).trans (bankDenied_opsOnly _ _)).trans (emit_opsOnly _ _), ?_⟩
        · rw [hl]
          rfl
        · rw [hl]
          rfl
    obtain ⟨hops, hwords⟩ := hops
    obtain ⟨h0, h2, h16⟩ := bankDenied_shows (b := s.blk) (k := off / 0x80000) (by omega)
    have hbget : (s.run (fun mem b => bankAccess mem write off len v b)).blk.bget 0x140C 0 =
        (bankDenied (off / 0x80000) s.blk).bget 0x140C 0 := by rw [State.run_bget _ _ (.inl (by decide)), hc, hbar]
    refine ⟨_, State.act_of_on (by simp [Instr.wf, hoff]) hs.1 _, ?_, ?_, ?_, ?_, Block.Within.keeps ?_⟩
    · rw [State.run_words, hc, hwords]
    · rw [hbget, h0]
    · rw [hbget, h2]
    · rw [hbget, h16]
    · rw [hc]
      exact hops.within _
  · intro s k i hs hup hk hi ha hlo hhi hbank
    exact ⟨⟨_, State.act_of_on rfl hs.1 _, run_atomic hs hup hk hi ha hbank (.inl rfl) (atomicResult_add64 ..)⟩,
      ⟨_, State.act_of_on rfl hs.1 _, run_atomic hs hup hk hi ha hbank (.inr (.inl rfl)) (atomicResult_add32x2 ..)⟩,
      ⟨_, State.act_of_on rfl hs.1 _, run_atomic hs hup hk hi ha hbank (.inr (.inr rfl)) (atomicResult_swap64 ..)⟩⟩
  · intro s hs hup hkinds
    obtain ⟨l, hl⟩ := linkUse_shape s.blk
    have hwake : wake 7 (linkUse s.blk) = linkUse s.blk := wake_of_serving hs (linkUse_opsOnly _).regs (linkUse_opsOnly _).power 7
    have hnone : (linkUse s.blk).atomicWaits = false := by
      rw [hl]
      simpa [Block.atomicWaits] using fun o ho => hkinds o ho
    have hread : oldLoRead s.blk = giveOld (bits (s.blk.bget 0x1410 0) 16 6) (bits (s.blk.bget 0x1410 0) 0 16) 4 (linkUse s.blk) := by
      obtain ⟨_, hready, _⟩ := hs
      simp only [oldLoRead, hup, Block.ready, hready, hwake, atomicOldLoRead, atomicOldRead, hnone]
      simp [Block.bget_of_bar (linkUse_bar s.blk)]
    have hbget := Block.bget_of_bar (linkUse_bar s.blk)
    obtain ⟨l2, hl2⟩ := linkUse_shape (((linkUse s.blk).bset 0x1424 0 (s.blk.bget 0x1420 1)).emit
      (.bankData (bits (s.blk.bget 0x1410 0) 16 6) (bits (s.blk.bget 0x1410 0) 0 16) (s.blk.bget 0x1420 0)))
    refine ⟨_, State.act_of_on rfl hs.1 _, ?_, State.run_out_mem ?_, ?_, Block.Within.keeps ?_⟩
    · rw [State.run_bget _ _ (.inl (by decide)), hread, giveOld_bget, if_pos rfl, hbget]
    · rw [hread]
      simp only [giveOld, hbget, Nat.reduceEqDiff, if_false, Nat.add_zero]
      rw [hl2]
      exact List.mem_cons_self
    · rw [State.run_words, hread, giveOld_words, hl]
    · rw [hread]
      exact ((linkUse_opsOnly _).trans (giveOld_opsOnly ..)).within _

end Sys2Proof.Machine

/-! # The maintenance engine: bank tests, the patrol scrub, the verify of the band table (R400 to R406, R410) -/

namespace Sys2Proof.Machine

/-! ### A bit that is set -/

theorem bit_putBit_true (w i : Nat) : bit (putBit w i true) i = true := by
  unfold putBit
  split
  · next h => exact beq_iff_eq.1 h
  · next h =>
    have hdiv : (w + 2 ^ i * 1) / 2 ^ i = w / 2 ^ i + 1 := Nat.add_mul_div_left _ _ (Nat.two_pow_pos i)
    have h0 : w / 2 ^ i % 2 ≠ 1 := by simpa [bit] using h
    rw [Nat.mul_one] at hdiv
    simp only [if_true, bit, beq_iff_eq, hdiv]
    omega

theorem putBit_lt {w i n : Nat} (hw : w < 2 ^ n) (hi : i < n) (v : Bool) : putBit w i v < 2 ^ n := by
  unfold putBit
  split
  · exact hw
  · next h =>
    split
    · next hv =>
      have h0 : w / 2 ^ i % 2 ≠ 1 := by simpa [bit, hv] using h
      have hn : 2 ^ n = 2 ^ (n - i - 1) * 2 * 2 ^ i := by rw [← Nat.pow_succ, ← Nat.pow_add]; congr 1; omega
      have hq : w / 2 ^ i < 2 ^ (n - i - 1) * 2 := Nat.div_lt_of_lt_mul (by rwa [Nat.mul_comm, ← hn])
      rw [hn]
      refine Nat.lt_mul_of_div_lt ?_ (Nat.two_pow_pos i)
      rw [Nat.add_div_right _ (Nat.two_pow_pos i)]
      omega
    · exact Nat.lt_of_le_of_lt (Nat.sub_le ..) hw

theorem Block.bit_wrBit_true (b : Block) (i s : Nat) {k : Nat} (hk : k < 64) : bit ((b.wrBit i s k true).rd i s) k = true := by
  rw [Block.rd_wrBit_self _ _ _ _ _ (putBit_lt (b.rd_lt i s) hk true), bit_putBit_true]

/-! ### What is shown of the activities (R409) -/

section

variable (b : Block)

theorem showActivities_rd {i r : Nat} (h : i * 256 + r ≠ 0x701002 ∧ i * 256 + r ≠ 0x701003) : (showActivities b).rd i r = b.rd i r := by
  rw [showActivities, Block.rd_wr_of_ne _ _ h.2, Block.rd_wr_of_ne _ _ h.1]

@[simp] theorem showActivities_bank (k : Nat) : (showActivities b).bank k = b.bank k := rfl
@[simp] theorem showActivities_banks : (showActivities b).banks = b.banks := rfl
@[simp] theorem showActivities_maint : (showActivities b).maint = b.maint := rfl
@[simp] theorem showActivities_flash : (showActivities b).flash = b.flash := rfl

end

/-! ### The accesses that waited for a bank -/

/-- A bank that is not ON is woken, and otherwise what waited on it is served. -/
theorem serveWaitingOps_cases (k : Nat) (b : Block) : serveWaitingOps k b = wakeBank k b ∨ Block.OpsOnly b (serveWaitingOps k b) := by
  by_cases hp : (b.bank k).power = 0
  · exact .inr (serveWaitingOps_opsOnly hp)
  · unfold serveWaitingOps
    dsimp only
    split
    · exact .inr (.refl b)
    · exact .inl (if_pos (by simpa using hp))

/-- Either leaves a bank with its owner, generation and lender. -/
theorem serveWaitingOps_bank (k j : Nat) (b : Block) : ∃ w v, (serveWaitingOps k b).bank j = { b.bank j with want := w, waking := v } := by
  rcases serveWaitingOps_cases k b with h | h
  · rw [h, wakeBank_bank]
    split
    · next hj => exact ⟨_, _, by rw [hj]⟩
    · exact ⟨(b.bank j).want, (b.bank j).waking, rfl⟩
  · exact ⟨(b.bank j).want, (b.bank j).waking, h.bank j⟩

theorem wakeBank_shape (k : Nat) (b : Block) : ∃ bs, wakeBank k b = { b with banks := bs } := by
  unfold wakeBank
  dsimp only
  split
  · split
    · exact ⟨b.banks, rfl⟩
    · exact ⟨_, rfl⟩
  · exact ⟨_, rfl⟩

theorem serveWaitingOps_test (k : Nat) (b : Block) : (serveWaitingOps k b).maint.test = b.maint.test := by
  rcases serveWaitingOps_cases k b with h | h
  · obtain ⟨bs, hw⟩ := wakeBank_shape k b
    rw [h, hw]
  · exact h.test

theorem serveWaitingOps_flash (k : Nat) (b : Block) : (serveWaitingOps k b).flash = b.flash := by
  rcases serveWaitingOps_cases k b with h | h
  · obtain ⟨bs, hw⟩ := wakeBank_shape k b
    rw [h, hw]
  · exact h.flash

theorem serveWaitingOps_rd (k : Nat) (b : Block) (i r : Nat) : (serveWaitingOps k b).rd i r = b.rd i r := by
  rcases serveWaitingOps_cases k b with h | h
  · obtain ⟨bs, hw⟩ := wakeBank_shape k b
    rw [h, hw]
    rfl
  · exact Block.rd_of_regs h.regs i r

/-! ### A target that returns (R402, R403) -/

/-- What the end of a test does with the target: to nobody, or to its lender. -/
def returnOwner (x : BankTest) (b : Block) : Block :=
  if x.lender = owUNOWNED then unown x.target b
  else (setOwner x.target x.lender b).setBank x.target { (setOwner x.target x.lender b).bank x.target with lender := 0, borrowed := false }

theorem returnOwner_bank (x : BankTest) (b : Block) (j : Nat) : ∃ c p, (returnOwner x b).bank j = if j = x.target then
    { b.bank x.target with owner := x.lender, gen := ((b.bank x.target).gen + 1) % 65536, clearing := c, keep := p, lender := 0,
                           borrowed := false } else b.bank j := by
  unfold returnOwner
  split
  · next h => exact ⟨true, false, by rw [unown_bank, h]⟩
  · refine ⟨(b.bank x.target).clearing, (b.bank x.target).keep, ?_⟩
    rw [Block.bank_setBank, setOwner_bank, if_pos rfl]
    split
    · rfl
    · next h => rw [setOwner_bank, if_neg h]

/-- The spare of a test is released. -/
def releaseSpare (x : BankTest) (b : Block) : Block := match x.spare with | some s => unown s b | none => b

theorem releaseSpare_bank (x : BankTest) (b : Block) {j : Nat} (h : x.spare ≠ some j) : (releaseSpare x b).bank j = b.bank j := by
  unfold releaseSpare
  split
  · next s hs => rw [unown_bank, if_neg (fun e => h (by rw [hs, e]))]
  · rfl

theorem returnTarget_eq (x : BankTest) (b : Block) : returnTarget x b =
    showActivities (serveWaitingOps x.target { releaseSpare x (returnOwner x b) with
      maint := { (releaseSpare x (returnOwner x b)).maint with test := none } }) := rfl

theorem returnTarget_bank (x : BankTest) (b : Block) (j : Nat) : ∃ w v, (returnTarget x b).bank j =
    { (releaseSpare x (returnOwner x b)).bank j with want := w, waking := v } := by
  rw [returnTarget_eq, showActivities_bank]
  exact serveWaitingOps_bank _ _ _

theorem returnTarget_test (x : BankTest) (b : Block) : (returnTarget x b).maint.test = none := by
  rw [returnTarget_eq, showActivities_maint, serveWaitingOps_test]

/-- The target goes to its lender with a new generation, and is no longer borrowed. -/
theorem returnTarget_target {x : BankTest} (hx : x.spare ≠ some x.target) (b : Block) :
    ((returnTarget x b).bank x.target).owner = x.lender ∧ ((returnTarget x b).bank x.target).borrowed = false ∧
    ((returnTarget x b).bank x.target).gen = ((b.bank x.target).gen + 1) % 65536 := by
  obtain ⟨w, v, h⟩ := returnTarget_bank x b x.target
  obtain ⟨c, p, ho⟩ := returnOwner_bank x b x.target
  rw [h, releaseSpare_bank x _ hx, ho, if_pos rfl]
  exact ⟨rfl, rfl, rfl⟩

theorem returnTarget_spare {x : BankTest} {sp : Nat} (h : x.spare = some sp) (b : Block) : ((returnTarget x b).bank sp).owner = owUNOWNED := by
  obtain ⟨w, v, hb⟩ := returnTarget_bank x b sp
  rw [hb, releaseSpare, h]
  show ((unown sp _).bank sp).owner = _
  rw [unown_bank, if_pos rfl]

/-- Any other bank keeps its owner. -/
theorem returnTarget_other {x : BankTest} {j : Nat} (ht : j ≠ x.target) (hs : x.spare ≠ some j) (b : Block) :
    ((returnTarget x b).bank j).owner = (b.bank j).owner := by
  obtain ⟨w, v, h⟩ := returnTarget_bank x b j
  obtain ⟨c, p, ho⟩ := returnOwner_bank x b j
  rw [h, releaseSpare_bank x _ hs, ho, if_neg ht]

theorem returnTarget_flash (x : BankTest) (b : Block) : (returnTarget x b).flash = b.flash := by
  have hr : (returnOwner x b).flash = b.flash := by unfold returnOwner; split <;> simp [unown, setOwner]
  have hs : (releaseSpare x (returnOwner x b)).flash = b.flash := by
    rw [← hr]
    unfold releaseSpare
    split
    · simp [unown, setOwner]
    · rfl
  rw [returnTarget_eq, showActivities_flash, serveWaitingOps_flash]
  exact hs

theorem returnTarget_rd (x : BankTest) (b : Block) {i r : Nat} (h : i * 256 + r ≠ 0x701002 ∧ i * 256 + r ≠ 0x701003) :
    (returnTarget x b).rd i r = b.rd i r := by
  have hr : (returnOwner x b).rd i r = b.rd i r := by unfold returnOwner; split <;> simp [unown_rd, setOwner]
  have hs : (releaseSpare x (returnOwner x b)).rd i r = b.rd i r := by
    rw [← hr]
    unfold releaseSpare
    split
    · exact unown_rd ..
    · rfl
  rw [returnTarget_eq, showActivities_rd _ h, serveWaitingOps_rd]
  exact hs

/-! ### A bank that is retired (R402) -/

/-- The bank is Retired, its words are 0, and the map in flash names it. -/
def deadBank (k : Nat) (b : Block) : Block :=
  let b := setOwner k owRETIRED b
  let b := (b.setBank k { b.bank k with borrowed := false, lender := 0 }).zeroBank k
  { b with flash := { b.flash with retired := putBit b.flash.retired k true } }

/-- The block in which the failure of a bank is reported. -/
def failedBank (k : Nat) (b : Block) : Block := ((deadBank k b).flag 0x7012 4 5 1).wr 0x7012 7 k

theorem retireBank_eq (k owner : Nat) (b : Block) : retireBank k owner b =
    emcyEvent 0xFF50 6 (toLe 1 k ++ toLe 1 owner ++ toLe 3 0) (postError 0xF 0x03 owner k 0 false (failedBank k b)) := rfl

/-- What neither a record nor an emergency message touches is as in the block in which the failure is reported. -/
theorem retireBank_of_blind {γ : Type} {g : Block → γ} (hg : RecordBlind g) (he : ∀ (b : Block) r w e, g { b with regs := r, logWait := w, emcy := e } = g b)
    (k owner : Nat) (b : Block) : g (retireBank k owner b) = g (failedBank k b) := by
  obtain ⟨r, w, e, h⟩ := emcyEvent_shape 0xFF50 6 (toLe 1 k ++ toLe 1 owner ++ toLe 3 0) (postError 0xF 0x03 owner k 0 false (failedBank k b))
  rw [retireBank_eq, h, he, hg.postError]

theorem recordBlind_maint : RecordBlind Block.maint := {}
theorem recordBlind_flash : RecordBlind Block.flash := {}
theorem recordBlind_owner (k : Nat) : RecordBlind (fun b => (b.bank k).owner) where
  bank b j v := by
    rw [Block.bank_setBank]
    split
    · next h => rw [h]
    · rfl

theorem failedBank_maint (k : Nat) (b : Block) : (failedBank k b).maint = b.maint := by simp [failedBank, deadBank, setOwner]

theorem failedBank_retired (k : Nat) (b : Block) : (failedBank k b).flash.retired = putBit b.flash.retired k true := by
  simp [failedBank, deadBank, setOwner]

theorem failedBank_owner (k j : Nat) (b : Block) : ((failedBank k b).bank j).owner = if j = k then owRETIRED else (b.bank j).owner := by
  have h : (failedBank k b).bank j =
      ((setOwner k owRETIRED b).setBank k { (setOwner k owRETIRED b).bank k with borrowed := false, lender := 0 }).bank j := by
    simp [failedBank, deadBank, Block.bank]
  rw [h, Block.bank_setBank]
  split
  · rw [setOwner_bank, if_pos rfl]
  · next h => rw [setOwner_bank, if_neg h]

theorem retireBank_owner (k owner j : Nat) (b : Block) :
    ((retireBank k owner b).bank j).owner = if j = k then owRETIRED else (b.bank j).owner :=
  (retireBank_of_blind (g := fun b => (b.bank j).owner) (recordBlind_owner j) (fun _ _ _ _ => rfl) k owner b).trans (failedBank_owner k j b)

theorem retireBank_maint (k owner : Nat) (b : Block) : (retireBank k owner b).maint = b.maint :=
  (retireBank_of_blind (g := Block.maint) recordBlind_maint (fun _ _ _ _ => rfl) k owner b).trans (failedBank_maint k b)

theorem retireBank_flash (k owner : Nat) (b : Block) : bit (retireBank k owner b).flash.retired k = true := by
  rw [retireBank_of_blind (g := Block.flash) recordBlind_flash (fun _ _ _ _ => rfl), failedBank_retired, bit_putBit_true]

theorem emcyEvent_rd (c g : Nat) (x : List Byte) (b : Block) {i r : Nat} (hr : r < 256) (h : Safety.reporting i r = false) :
    (emcyEvent c g x b).rd i r = b.rd i r := congrArg BitVec.toNat (emcyEvent_reg c g x b i r hr h)

theorem retireBank_rd {r : Nat} (hr : r < 256) (k owner : Nat) (b : Block) :
    (retireBank k owner b).rd 0x7012 r = (failedBank k b).rd 0x7012 r := by
  rw [retireBank_eq, emcyEvent_rd _ _ _ _ hr (by simp [Safety.reporting]), (recordBlind_rd hr (.inl (by decide))).postError]

theorem retireBank_failed (k owner : Nat) (b : Block) : (retireBank k owner b).rd 0x7012 4 = 1 := by
  rw [retireBank_rd (by decide), failedBank, Block.rd_wr_of_ne _ _ (by decide), Block.rd_flag_self _ _ _ (by decide)]

theorem retireBank_last {k : Nat} (hk : k < 2 ^ 64) (owner : Nat) (b : Block) : (retireBank k owner b).rd 0x7012 7 = k := by
  rw [retireBank_rd (by decide), failedBank, Block.rd_wr_of_lt _ _ _ hk]

/-! ### The patrol scrub (R404) -/

/-- The scrub reads a unit. -/
def Block.scrubs (b : Block) (u : Nat) : Block :=
  ({ b with maint := { b.maint with scrubbing := true, scrubAt := some u } } : Block).wr 0x7011 8 u

theorem Block.scrubs_rd (b : Block) (u : Nat) {r : Nat} (h : r ≠ 8) : (b.scrubs u).rd 0x7011 r = b.rd 0x7011 r :=
  Block.rd_wr_of_ne _ _ (by omega)

theorem Block.scrubs_within (b : Block) (u : Nat) {R : Nat → Nat → Bool} (h : R 0x7011 8 = true) : Block.Within R b (b.scrubs u) := by
  have hm : Block.Within R b { b with maint := { b.maint with scrubbing := true, scrubAt := some u } } := (Block.Within.refl R b).of_regs rfl rfl
  exact hm.wr _ (by decide) h

/-- A read in the order of the scrub, that does not end the pass: the unit is shown, and what was found is reported. -/
theorem scrubRead_of_next {b : Block} {a : Nat} (hbit : bit (b.rd 0x7010 1) 0 = true) (hnext : b.scrubNext (a / unitBytes) = true) (kind : Nat)
    (late : Bool) : scrubRead a kind false late b = scrubFound a kind
      (b.scrubs (a / unitBytes)) := by
  have hn : b.scrubNext (a / 2097152) = true := hnext
  simp only [scrubRead, hn, hbit, Bool.or_true, Bool.true_or, Bool.not_true, Bool.false_and, Bool.or_self, Bool.false_eq_true, if_false]
  rfl

theorem scrubFound_uncorrectable {b : Block} {a : Nat} (ha : a < 2 ^ 64) : (scrubFound a 2 b).rd 0x7011 4 = 1 ∧
    (scrubFound a 2 b).rd 0x7011 5 = satTo 32 (b.rd 0x7011 5 + 1) ∧ (scrubFound a 2 b).rd 0x7011 7 = a ∧
    a ∈ (scrubFound a 2 b).maint.scrubSeen := by
  obtain ⟨c, hc⟩ : ∃ c, (b.flag 0x7011 4 5 1).wr 0x7011 7 a = c := ⟨_, rfl⟩
  have h4 : c.rd 0x7011 4 = 1 := by rw [← hc, Block.rd_wr_of_ne _ _ (by decide), Block.rd_flag_self _ _ _ (by decide)]
  have h5 : c.rd 0x7011 5 = satTo 32 (b.rd 0x7011 5 + 1) := by
    rw [← hc, Block.rd_wr_of_ne _ _ (by decide), Block.rd_flag_count _ _ _ (by decide)]
  have h7 : c.rd 0x7011 7 = a := by rw [← hc, Block.rd_wr_of_lt _ _ _ ha]
  simp only [scrubFound, hc]
  split
  · next h => exact ⟨h4, h5, h7, List.contains_iff_mem.1 h⟩
  · obtain ⟨d, hd⟩ : ∃ d, ({ c with maint := { c.maint with scrubSeen := a :: c.maint.scrubSeen } } : Block) = d := ⟨_, rfl⟩
    have hregs : ∀ r, d.rd 0x7011 r = c.rd 0x7011 r := fun r => by rw [← hd]; rfl
    have hmaint : a ∈ d.maint.scrubSeen := by rw [← hd]; exact List.mem_cons_self
    rw [hd]
    have hrd : ∀ r < 256, (emcyEvent 0xFF51 6 (toLe 2 (a / 2097152) ++ toLe 3 0) (postError 0xF 0x05 0 (a / 2097152) a false d)).rd 0x7011 r =
        c.rd 0x7011 r := fun r hr => by
      rw [emcyEvent_rd _ _ _ _ hr (by simp [Safety.reporting]), (recordBlind_rd hr (.inl (by decide))).postError, hregs]
    refine ⟨(hrd 4 (by decide)).trans h4, (hrd 5 (by decide)).trans h5, (hrd 7 (by decide)).trans h7, ?_⟩
    obtain ⟨r, w, e, hs⟩ := emcyEvent_shape 0xFF51 6 (toLe 2 (a / 2097152) ++ toLe 3 0) (postError 0xF 0x05 0 (a / 2097152) a false d)
    rw [hs]
    show a ∈ (postError 0xF 0x05 0 (a / 2097152) a false d).maint.scrubSeen
    rwa [recordBlind_maint.postError]

/-- A read of the pass's last unit that ends the pass, late. -/
theorem scrubRead_last {b : Block} {a : Nat} (hbit : bit (b.rd 0x7010 1) 0 = true) (hnext : b.scrubNext (a / unitBytes) = true)
    (hlast : b.unitIn (a / unitBytes + 1) 65536 = false) : scrubRead a 0 true true b = scrubOver true
      (b.scrubs (a / unitBytes)) := by
  have hn : b.scrubNext (a / 2097152) = true := hnext
  have hl : (b.scrubs (a / unitBytes)).scrubLast = true := congrArg (!·) hlast
  simp only [scrubRead, scrubFound, hn, hbit, Bool.not_true, Bool.false_and, Bool.true_or, Bool.or_false, Bool.or_true,
    Bool.false_eq_true, if_false, Bool.true_and]
  exact if_pos hl

theorem scrubOver_shows (b : Block) : (scrubOver true b).rd 0x7011 1 = satTo 32 (b.rd 0x7011 1 + 1) ∧
    (scrubOver true b).rd 0x7011 2 = satTo 32 (b.rd 0x7011 2 + 1) ∧ (scrubOver true b).maint.scrubSeen = [] := by
  obtain ⟨c, hc, h1, h2, hseen⟩ : ∃ c : Block,
      ({ b.bump 32 0x7011 1 1 with maint := { b.maint with scrubSeen := [], scrubAt := none, scrubbing := false } } : Block) = c ∧
      c.rd 0x7011 1 = satTo 32 (b.rd 0x7011 1 + 1) ∧ c.rd 0x7011 2 = b.rd 0x7011 2 ∧ c.maint.scrubSeen = [] :=
    ⟨_, rfl, (Block.rd_of_regs (b := b.bump 32 0x7011 1 1) rfl _ _).trans (Block.rd_bump_self _ _ _ _ (by decide)),
      (Block.rd_of_regs (b := b.bump 32 0x7011 1 1) rfl _ _).trans (Block.rd_bump_of_ne _ _ _ (by decide)), rfl⟩
  have hover : scrubOver true b = (showActivities c).bump 32 0x7011 2 1 := by rw [← hc]; rfl
  rw [hover]
  refine ⟨?_, ?_, ?_⟩
  · rw [Block.rd_bump_of_ne _ _ _ (by decide), showActivities_rd _ (by decide), h1]
  · rw [Block.rd_bump_self _ _ _ _ (by decide), showActivities_rd _ (by decide), h2]
  · rw [Block.bump_maint, showActivities_maint, hseen]

/-! ### The verify of the band table (R406) -/

theorem look_upsert {α : Type} (d : Nat → α) (m : List (Nat × α)) (k j : Nat) (x : α) :
    look d (upsert m k x) j = if j = k then x else look d m j := by
  have hfilter : ∀ m : List (Nat × α), j ≠ k → look d (m.filter (fun e => e.1 != k)) j = look d m j := fun m hj => by
    induction m with
    | nil => rfl
    | cons e m ih =>
      obtain ⟨a, v⟩ := e
      by_cases ha : a = k
      · have haj : a ≠ j := fun e => hj (e.symm.trans ha)
        rw [List.filter_cons_of_neg (by simp [ha]), ih, look_cons, if_neg haj]
      · rw [List.filter_cons_of_pos (by simp [ha]), look_cons, look_cons, ih]
  rw [upsert, look_cons]
  by_cases hj : j = k
  · rw [if_pos hj.symm, if_pos hj]
  · rw [if_neg (fun e => hj e.symm), if_neg hj, hfilter m hj]

/-- The comparison of the table with its shadow begins, an entry of it upset. -/
def verifying (i : Nat) (x : Band) (b : Block) : Block :=
  ({ b with clk := { b.clk with bands := upsert b.clk.bands i x },
            maint := { b.maint with verifyEnd := b.time.abs + 32 } } : Block).wrBit 0x7010 2 3 true

theorem verifying_within (i : Nat) (x : Band) (b : Block) {R : Nat → Nat → Bool} (h : R 0x7010 2 = true) : Block.Within R b (verifying i x b) := by
  have hm : Block.Within R b { b with clk := { b.clk with bands := upsert b.clk.bands i x },
                                      maint := { b.maint with verifyEnd := b.time.abs + 32 } } := (Block.Within.refl R b).of_regs rfl rfl
  exact hm.wrBit _ _ (by decide) h

/-- One entry that differs is reported, and nothing else. -/
theorem bandVerify_single {b : Block} {i v : Nat} (hi : i < 128) (hbit : bit (b.rd 0x7010 1) 3 = true) (heq : ∀ j < 128, b.band j = b.bandShadow j)
    (hne : bandOf v ≠ b.bandShadow i) : bandVerify [(i, v)] b = ((bandMargin (verifying i (bandOf v) b)).bump 32 0x7010 9 1).wr 0x7010 10 i := by
  have hband : ∀ j, (verifying i (bandOf v) b).band j = if j = i then bandOf v else b.band j := fun j => look_upsert ..
  have hshadow : ∀ j, (verifying i (bandOf v) b).bandShadow j = b.bandShadow j := fun _ => rfl
  have hdiff : (List.range 128).filter (fun j => (verifying i (bandOf v) b).band j != (verifying i (bandOf v) b).bandShadow j) = [i] := by
    have hpred : (List.range 128).filter (fun j => (verifying i (bandOf v) b).band j != (verifying i (bandOf v) b).bandShadow j) =
        (List.range 128).filter (fun j => j == i) := List.filter_congr fun j hj => by
      rw [hband, hshadow]
      by_cases hji : j = i
      · simpa [hji] using hne
      · simp [hji, heq j (List.mem_range.1 hj)]
    rw [hpred, List.filter_beq, List.nodup_range.count, if_pos (List.mem_range.2 hi)]
    rfl
  have hb : bandVerify [(i, v)] b = forEach ((List.range 128).filter (fun j => (verifying i (bandOf v) b).band j !=
      (verifying i (bandOf v) b).bandShadow j)) (fun i b => ((bandMargin b).bump 32 0x7010 9 1).wr 0x7010 10 i) (verifying i (bandOf v) b) := by
    simp only [bandVerify, List.foldl_cons, List.foldl_nil, hi, if_true]
    rw [if_neg]
    · rfl
    · show ¬ (!bit (b.rd 0x7010 1) 3) = true
      rw [hbit]
      decide
  rw [hb, hdiff]
  rfl

/-- Settles O44: what is found at the unit read, and at the one entry that differs, is shown in the registers of its kind. -/
theorem scrubAndVerifyReportWhatTheyFind : Obligations.ScrubAndVerifyReportWhatTheyFind := by
  unfold Obligations.ScrubAndVerifyReportWhatTheyFind
  refine ⟨?_, ?_, ?_, ?_⟩
  · intro s a late hon hbit ha hnext
    have heq : scrubRead a 1 false late s.blk = (s.blk.scrubs (a / unitBytes)).bump 32 0x7011 3 1 := scrubRead_of_next hbit hnext 1 late
    refine ⟨_, State.act_of_on rfl hon _, ?_, ?_, ?_, Block.Within.keeps ?_⟩
    · rw [State.run_rd_of_ne _ _ _ _ (by decide), heq, Block.rd_bump_of_ne _ _ _ (by decide), Block.scrubs, Block.rd_wr_of_lt _ _ _ (by omega)]
    · rw [State.run_rd_of_ne _ _ _ _ (by decide), heq, Block.rd_bump_self _ _ _ _ (by decide), Block.scrubs_rd _ _ (by decide)]
    · rw [State.run_units, heq]
      rfl
    · rw [heq]
      exact (s.blk.scrubs_within _ rfl).bump _ _ (by decide) rfl
  · intro s a late hon hbit ha hnext
    have heq : scrubRead a 2 false late s.blk = scrubFound a 2 (s.blk.scrubs (a / unitBytes)) := scrubRead_of_next hbit hnext 2 late
    obtain ⟨h4, h5, h7, hseen⟩ := scrubFound_uncorrectable (a := a) (b := s.blk.scrubs (a / unitBytes)) (by unfold unitBytes at ha; omega)
    refine ⟨_, State.act_of_on rfl hon _, ?_, ?_, ?_, ?_⟩
    · rw [State.run_rd_of_ne _ _ _ _ (by decide), heq, h4]
    · rw [State.run_rd_of_ne _ _ _ _ (by decide), heq, h5, Block.scrubs_rd _ _ (by decide)]
    · rw [State.run_rd_of_ne _ _ _ _ (by decide), heq, h7]
    · rw [State.run_maint, heq]
      exact hseen
  · intro s a hon hbit hnext hlast
    have heq := scrubRead_last hbit hnext hlast
    obtain ⟨h1, h2, hseen⟩ := scrubOver_shows (s.blk.scrubs (a / unitBytes))
    refine ⟨_, State.act_of_on rfl hon _, ?_, ?_, ?_⟩
    · rw [State.run_rd_of_ne _ _ _ _ (by decide), heq, h1, Block.scrubs_rd _ _ (by decide)]
    · rw [State.run_rd_of_ne _ _ _ _ (by decide), heq, h2, Block.scrubs_rd _ _ (by decide)]
    · rw [State.run_maint, heq, hseen]
  · intro s i v hon hi hbit heq hne
    have hv := bandVerify_single hi hbit heq hne
    refine ⟨_, State.act_of_on rfl hon _, ?_, ?_, ?_, ?_, ?_, ?_, Block.Within.keeps ?_⟩
    · rw [State.run_rd_of_ne _ _ _ _ (by decide), hv, Block.rd_wr_of_ne _ _ (by decide), Block.rd_bump_of_ne _ _ _ (by decide), bandMargin,
        Block.rd_flag_self _ _ _ (by decide)]
    · rw [State.run_rd_of_ne _ _ _ _ (by decide), hv, Block.rd_wr_of_lt _ _ _ (by omega)]
    · rw [State.run_rd_of_ne _ _ _ _ (by decide), hv, Block.rd_wr_of_ne _ _ (by decide), Block.rd_bump_self _ _ _ _ (by decide), bandMargin,
        Block.rd_flag_of_ne _ _ (by decide) (by decide), verifying, Block.rd_wrBit_of_ne _ _ _ (by decide)]
      rfl
    · unfold Block.band
      rw [State.run_clk, hv]
      exact (look_upsert ..).trans (if_pos rfl)
    · unfold Block.bandShadow
      rw [State.run_clk, hv]
      rfl
    · rw [State.run_rd_of_ne _ _ _ _ (by decide), hv, Block.rd_wr_of_ne _ _ (by decide), Block.rd_bump_of_ne _ _ _ (by decide), bandMargin,
        Block.rd_flag_of_ne _ _ (by decide) (by decide), verifying, Block.bit_wrBit_true _ _ _ (by decide)]
    · rw [hv, bandMargin]
      exact (((verifying_within i _ s.blk rfl).flag _ (by decide) (by decide) rfl rfl).bump _ _ (by decide) rfl).wr _ (by decide) rfl

end Sys2Proof.Machine

namespace Sys2Proof.Machine

/-! ### Requests of a test, and the interval (R401) -/

theorem Block.Alike.borrowable {b c : Block} (h : c.Alike b) (k : Nat) (idle : Bool) : borrowable c k idle = borrowable b k idle := by
  have hidle : c.bankIdle k = b.bankIdle k := by
    simp only [Block.bankIdle, h.bank, h.time, h.rd 0x7010 5 (by decide), h.rd 0x2100 8 (by decide)]
  simp only [Machine.borrowable, h.bank, hidle, h.rd 0x7010 6 (by decide)]

/-- The bank that a take picks is Unowned. -/
theorem owner_of_pickBank {b : Block} {k : Nat} (h : pickBank b = some k) : (b.bank k).owner = owUNOWNED := by
  have hq : ∀ j ∈ (List.range 64).filter (qualifies b), (b.bank j).owner = owUNOWNED := fun j hj => by
    have := (List.mem_filter.1 hj).2
    simp only [qualifies, Bool.and_eq_true, beq_iff_eq] at this
    exact this.1.1
  unfold pickBank at h
  dsimp only at h
  split at h
  · next x hx =>
    cases h
    exact hq _ (List.mem_of_find?_eq_some hx)
  · split at h
    · next x hx =>
      cases h
      exact hq _ (List.mem_of_find?_eq_some hx)
    · exact hq _ (List.mem_of_head? h)

/-- The bank under test: Maintenance's, with a generation of its own, borrowed from its owner and woken. -/
def borrowed (x : Bank) : Bank :=
  { x with owner := owMAINT, gen := (x.gen + 1) % 65536, lender := x.owner, borrowed := true, want := 0, waking := x.waking || x.power != 0 }

/-- A target is borrowed, without its spare. -/
def borrowTarget (k : Nat) (b : Block) : Block :=
  (wakeBank k (setOwner k owMAINT b)).setBank k
    { (wakeBank k (setOwner k owMAINT b)).bank k with lender := (b.bank k).owner, borrowed := true }

theorem borrowTarget_bank (k j : Nat) (b : Block) : (borrowTarget k b).bank j = if j = k then borrowed (b.bank k) else b.bank j := by
  rw [borrowTarget, Block.bank_setBank]
  split
  · rw [wakeBank_bank, if_pos rfl, setOwner_bank, if_pos rfl]
    rfl
  · next h => rw [wakeBank_bank, if_neg h, setOwner_bank, if_neg h]

/-- The running test. -/
def Block.setTest (b : Block) (x : Option BankTest) : Block := { b with maint := { b.maint with test := x } }

@[simp] theorem Block.setTest_test (b : Block) (x : Option BankTest) : (b.setTest x).maint.test = x := rfl
@[simp] theorem Block.setTest_testReqs (b : Block) (x : Option BankTest) : (b.setTest x).maint.testReqs = b.maint.testReqs := rfl
@[simp] theorem Block.setTest_bank (b : Block) (x : Option BankTest) (k : Nat) : (b.setTest x).bank k = b.bank k := rfl

theorem borrow_unowned {b : Block} {k : Nat} (h : (b.bank k).owner = owUNOWNED) : borrow k b = showActivities
    ((borrowTarget k b).setTest (some { target := k, lender := owUNOWNED, spare := none, aborted := false })) := by
  simp only [borrow, h, if_true, bne_self_eq_false, Bool.false_and, Bool.false_eq_true, if_false, borrowTarget, Block.setTest]

theorem borrow_lent {b : Block} {k o sp : Nat} (h : (b.bank k).owner = o) (ho : o ≠ owUNOWNED) (hp : pickBank b = some sp) :
    borrow k b = showActivities
      ((wakeBank sp (setOwner sp owMAINT (borrowTarget k b))).setTest
        (some { target := k, lender := o, spare := some sp, aborted := false })) := by
  simp only [borrow, h, if_neg ho, hp, Option.isNone_some, Bool.and_false, Bool.false_eq_true, if_false, borrowTarget, Block.setTest]

theorem borrowTarget_testReqs (k : Nat) (b : Block) : (borrowTarget k b).maint.testReqs = b.maint.testReqs := by
  obtain ⟨bs, h⟩ := wakeBank_shape k (setOwner k owMAINT b)
  rw [borrowTarget, h]
  rfl

/-- The first requested bank is borrowed where it may be. -/
theorem bankTestInterval_request {b : Block} {k : Nat} {idle rest : List Nat} (htest : b.maint.test = none) (hbit : bit (b.rd 0x7010 1) 1 = true)
    (hreq : b.maint.testReqs = k :: rest) (hok : borrowable b k (idle.contains k) = true) :
    bankTestInterval idle b = borrow k { b with maint := { b.maint with testReqs := rest } } := by
  have hfirst : ∀ o : Option Nat, (some k <|> o) = some k := fun _ => rfl
  simp only [bankTestInterval, htest, hbit, hreq, Option.isSome_none, Bool.not_true, Bool.or_self, Bool.false_eq_true, if_false,
    List.find?_cons, hok, hfirst, List.erase_cons_head]

/-! ### The end of a test that fails (R402) -/

theorem Block.setTest_shape (b : Block) (x : Option BankTest) : ∃ m, b.setTest x = { b with maint := m } := ⟨_, rfl⟩

/-- What the end of a failed test does for the target's lender: it receives the spare, or the spare is released. -/
def giveSpare (o sp : Nat) (b : Block) : Block := if o = owUNOWNED then unown sp b else setOwner sp o b

theorem giveSpare_owner (o sp j : Nat) (b : Block) : ((giveSpare o sp b).bank j).owner = if j = sp then o else (b.bank j).owner := by
  unfold giveSpare
  split
  · next h =>
    rw [unown_bank]
    split
    · exact h.symm
    · rfl
  · rw [setOwner_bank]
    split
    · rfl
    · rfl

theorem giveSpare_flash (o sp : Nat) (b : Block) : (giveSpare o sp b).flash = b.flash := by unfold giveSpare; split <;> simp [unown, setOwner]
theorem giveSpare_rd (o sp : Nat) (b : Block) (i r : Nat) : (giveSpare o sp b).rd i r = b.rd i r := by
  unfold giveSpare
  split
  · exact unown_rd ..
  · rfl

theorem bump_owner (b : Block) (w i s n k : Nat) : ((b.bump w i s n).bank k).owner = (b.bank k).owner := rfl
theorem wr_owner (b : Block) (i s v k : Nat) : ((b.wr i s v).bank k).owner = (b.bank k).owner := rfl

/-- The march fails: the target is retired, and its lender receives the spare. -/
theorem bankTestEnd_failed {b : Block} {x : BankTest} (hx : b.maint.test = some x) (hna : x.aborted = false) (ht : x.target < 64)
    (hsp : x.spare ≠ some x.target) :
    (bankTestEnd 2 b).maint.test = none ∧ ((bankTestEnd 2 b).bank x.target).owner = owRETIRED ∧
    bit (bankTestEnd 2 b).flash.retired x.target = true ∧ (bankTestEnd 2 b).rd 0x7012 4 = 1 ∧ (bankTestEnd 2 b).rd 0x7012 7 = x.target ∧
    (∀ sp, x.spare = some sp → ((bankTestEnd 2 b).bank sp).owner = x.lender) := by
  obtain ⟨target, lender, spare, aborted⟩ := x
  subst hna
  cases spare with
  | none =>
    obtain ⟨c, hc⟩ : ∃ c, (b.bump 32 0x7012 1 1).wr 0x7012 3 target = c := ⟨_, rfl⟩
    have he : bankTestEnd 2 b = showActivities ((retireBank target owMAINT c).setTest none) := by
      simp only [bankTestEnd, hx, Bool.false_eq_true, if_false, hc, Block.setTest]
    obtain ⟨m, hm⟩ := Block.setTest_shape (retireBank target owMAINT c) none
    have hrd : ∀ r, ((retireBank target owMAINT c).setTest none).rd 0x7012 r = (retireBank target owMAINT c).rd 0x7012 r := fun r => by
      rw [hm]
      rfl
    rw [he]
    refine ⟨Block.setTest_test .., ?_, ?_, ?_, ?_, fun sp h => nomatch h⟩
    · rw [showActivities_bank, Block.setTest_bank, retireBank_owner, if_pos rfl]
    · rw [showActivities_flash, hm]
      exact retireBank_flash ..
    · rw [showActivities_rd _ (by decide), hrd, retireBank_failed]
    · rw [showActivities_rd _ (by decide), hrd, retireBank_last (by simp only at ht; omega)]
  | some s =>
    have hne : target ≠ s := fun e => hsp (by rw [e])
    obtain ⟨c, hc⟩ : ∃ c, copyWords target s ((b.bump 32 0x7012 1 1).wr 0x7012 3 target) = c := ⟨_, rfl⟩
    obtain ⟨d, hd⟩ : ∃ d, (giveSpare lender s (retireBank target owMAINT c)).wr 0x7012 8 s = d := ⟨_, rfl⟩
    have hdbank : ∀ j, (d.bank j).owner = if j = s then lender else ((retireBank target owMAINT c).bank j).owner := fun j => by
      rw [← hd, wr_owner, giveSpare_owner]
    have hdrd : ∀ r ≠ 8, d.rd 0x7012 r = (retireBank target owMAINT c).rd 0x7012 r := fun r hr => by
      rw [← hd, Block.rd_wr_of_ne _ _ (by omega), giveSpare_rd]
    have hdflash : d.flash = (retireBank target owMAINT c).flash := by rw [← hd, Block.wr_flash, giveSpare_flash]
    obtain ⟨ops, he⟩ : ∃ ops, bankTestEnd 2 b =
        showActivities (serveWaitingOps s { d with maint := { d.maint with test := none, ops := ops } }) := by
      simp only [bankTestEnd, hx, Bool.false_eq_true, if_false, hc]
      exact ⟨_, by rw [← hd]; rfl⟩
    obtain ⟨e, hE, hebank, herd, heflash, hetest⟩ : ∃ e : Block, { d with maint := { d.maint with test := none, ops := ops } } = e ∧
        (∀ j, e.bank j = d.bank j) ∧ (∀ i r, e.rd i r = d.rd i r) ∧ e.flash = d.flash ∧ e.maint.test = none :=
      ⟨_, rfl, fun _ => rfl, fun _ _ => rfl, rfl, rfl⟩
    have howner : ∀ j, ((bankTestEnd 2 b).bank j).owner = (d.bank j).owner := fun j => by
      obtain ⟨w, v, h⟩ := serveWaitingOps_bank s j e
      rw [he, hE, showActivities_bank, h, ← hebank]
    have hrd : ∀ r ≠ 8, (bankTestEnd 2 b).rd 0x7012 r = (retireBank target owMAINT c).rd 0x7012 r := fun r hr => by
      rw [he, hE, showActivities_rd _ (by omega), serveWaitingOps_rd, herd, hdrd r hr]
    refine ⟨?_, ?_, ?_, ?_, ?_, fun sp h => ?_⟩
    · rw [he, hE, showActivities_maint, serveWaitingOps_test, hetest]
    · rw [howner, hdbank, if_neg hne, retireBank_owner, if_pos rfl]
    · rw [he, hE, showActivities_flash, serveWaitingOps_flash, heflash, hdflash]
      exact retireBank_flash ..
    · rw [hrd 4 (by decide), retireBank_failed]
    · rw [hrd 7 (by decide), retireBank_last (by simp only at ht; omega)]
    · cases h
      rw [howner, hdbank, if_pos rfl]

/-- The read-back of the spare fails: it is retired. -/
theorem bankTestEnd_spareFailed {b : Block} {x : BankTest} {sp : Nat} (hx : b.maint.test = some x) (hna : x.aborted = false)
    (hs : x.spare = some sp) (hsp : sp < 64) (ht : x.target ≠ sp) :
    ((bankTestEnd 1 b).bank sp).owner = owRETIRED ∧ bit (bankTestEnd 1 b).flash.retired sp = true ∧ (bankTestEnd 1 b).rd 0x7012 4 = 1 ∧
    (bankTestEnd 1 b).rd 0x7012 7 = sp := by
  obtain ⟨c, hc⟩ : ∃ c, retireBank sp owMAINT b = c := ⟨_, rfl⟩
  have hret : (c.bank sp).owner = owRETIRED := by rw [← hc, retireBank_owner, if_pos rfl]
  have hflash : bit c.flash.retired sp = true := by rw [← hc]; exact retireBank_flash ..
  have h4 : c.rd 0x7012 4 = 1 := by rw [← hc, retireBank_failed]
  have h7 : c.rd 0x7012 7 = sp := by rw [← hc, retireBank_last (by omega)]
  cases hp : pickBank c with
  | some s' =>
    have hne : sp ≠ s' := fun e => by
      have := owner_of_pickBank hp
      rw [← e, hret] at this
      exact absurd this (by decide)
    obtain ⟨m, he⟩ : ∃ m, bankTestEnd 1 b = { wakeBank s' (setOwner s' owMAINT c) with maint := m } := by
      simp only [bankTestEnd, hx, hna, Bool.false_eq_true, if_false, hs, hc, hp]
      exact ⟨_, rfl⟩
    have hbank : (bankTestEnd 1 b).bank sp = (wakeBank s' (setOwner s' owMAINT c)).bank sp := by rw [he]; rfl
    obtain ⟨bs, hw⟩ := wakeBank_shape s' (setOwner s' owMAINT c)
    refine ⟨?_, ?_, ?_, ?_⟩
    · rw [hbank, wakeBank_bank, if_neg hne, setOwner_bank, if_neg hne, hret]
    · rw [he, hw]
      exact hflash
    · rw [he, hw]
      exact h4
    · rw [he, hw]
      exact h7
  | none =>
    have he : bankTestEnd 1 b = (returnTarget { x with spare := none } c).bump 32 0x7012 0xB 1 := by
      simp only [bankTestEnd, hx, hna, Bool.false_eq_true, if_false, hs, hc, hp]
    rw [he]
    refine ⟨?_, ?_, ?_, ?_⟩
    · rw [bump_owner, returnTarget_other (x := { x with spare := none }) ht.symm (fun h => nomatch h), hret]
    · rw [Block.bump_flash, returnTarget_flash, hflash]
    · rw [Block.rd_bump_of_ne _ _ _ (by decide), returnTarget_rd _ _ (by decide), h4]
    · rw [Block.rd_bump_of_ne _ _ _ (by decide), returnTarget_rd _ _ (by decide), h7]

/-! ### Reclaim (R403) -/

/-- The fields of a request of a reclaim. -/
theorem reclaimWord_fields {k : Nat} (hk : k < 64) : bits (k + 2 ^ 8) 0 6 = k ∧ bits (k + 2 ^ 8) 12 2 = 0 ∧ bit (k + 2 ^ 8) 11 = false ∧
    bit (k + 2 ^ 8) 9 = false ∧ bit (k + 2 ^ 8) 8 = true := by
  simp only [bits, bit, beq_iff_eq, beq_eq_false_iff_ne]
  omega

/-- The running test of a bank is aborted. -/
def abortTest (x : BankTest) (b : Block) : Block :=
  { b.bump 32 0x7012 2 1 with maint := { b.maint with test := some { x with aborted := true } } }

theorem reclaim_running {b : Block} {x : BankTest} (ht : b.maint.test = some x) (ha : x.aborted = false) :
    reclaim x.target b = abortTest x b := by
  simp only [reclaim, ht, ha]
  rw [if_pos (by simp)]
  rfl

theorem bankControl_reclaim {k : Nat} {b : Block} (hk : k < 64) (hb : (b.bank k).borrowed = true) (hl : (b.bank k).lender = owHOST) :
    bankControl (k + 2 ^ 8) b = (stOK, reclaim k b) := by
  obtain ⟨h0, h12, h11, h9, h8⟩ := reclaimWord_fields hk
  generalize k + 2 ^ 8 = w at h0 h12 h11 h9 h8
  simp [bankControl, bankCtrlStatus, reclaimStatus, whenOk, h0, h12, h11, h9, h8, hb, hl]

/-- Settles O43: each clause is what one operation on the running test leaves of the bank, its spare and the counters. -/
theorem bankTestsBorrowAndReturn : Obligations.BankTestsBorrowAndReturn := by
  unfold Obligations.BankTestsBorrowAndReturn
  refine ⟨?_, ?_, ?_, ?_, ?_, ?_, ?_, ?_, ?_⟩
  · intro s p k idle hs hk ha hb
    have hb' := (s.blk.counted_alike.borrowable k idle).trans hb
    have hreq : bankTestRequest k idle s.blk.counted = (stOK, showActivities { s.blk.counted with
        maint := { s.blk.counted.maint with testReqs := s.blk.counted.maint.testReqs ++ [k] } }) := by
      simp [bankTestRequest, Nat.not_le.2 hk, hb', whenOk]
    obtain ⟨o, ho⟩ := run_dictWith hs ha hreq (by decide)
    refine ⟨_, (State.act_of_on rfl hs.1 _).trans (congrArg _ ho), ?_, ?_, ?_⟩
    · rw [State.run_resp, Block.reply_resp]
    · rw [State.run_maint]
      rfl
    · rw [State.run_banks]
      rfl
  · intro s idle k rest hon hk htest hbit hreq hok howner
    obtain ⟨b, hb⟩ : ∃ b : Block, { s.blk with maint := { s.blk.maint with testReqs := rest } } = b := ⟨_, rfl⟩
    have hbb : ∀ j, b.bank j = s.blk.bank j := fun j => by rw [← hb]; rfl
    have hrest : b.maint.testReqs = rest := by rw [← hb]
    have hi : bankTestInterval idle s.blk = _ := (bankTestInterval_request htest hbit hreq hok).trans
      ((congrArg (borrow k) hb).trans (borrow_unowned ((congrArg Bank.owner (hbb k)).trans howner)))
    have hbank : ∀ j, (bankTestInterval idle s.blk).bank j = if j = k then borrowed (s.blk.bank k) else s.blk.bank j := fun j => by
      rw [hi, showActivities_bank, Block.setTest_bank, borrowTarget_bank, hbb, hbb]
    refine ⟨_, State.act_of_on rfl hon _, ?_, ?_, ?_, fun j hj => ?_⟩
    · rw [State.run_maint, hi, showActivities_maint, Block.setTest_testReqs, borrowTarget_testReqs, hrest]
    · rw [State.run_maint, hi, showActivities_maint, Block.setTest_test]
    · rw [State.run_bank, hbank, if_pos rfl, borrowed, howner]
    · rw [State.run_bank, hbank, if_neg hj]
  · intro s idle k sp rest hon hk htest hbit hreq hok howner hpick
    have hsp : sp ≠ k := fun e => by
      have := owner_of_pickBank hpick
      rw [e, howner] at this
      exact absurd this (by decide)
    obtain ⟨b, hb⟩ : ∃ b : Block, { s.blk with maint := { s.blk.maint with testReqs := rest } } = b := ⟨_, rfl⟩
    have hbb : ∀ j, b.bank j = s.blk.bank j := fun j => by rw [← hb]; rfl
    have hrest : b.maint.testReqs = rest := by rw [← hb]
    have hpick' : pickBank b = some sp := by rw [← hb]; exact hpick
    have hi : bankTestInterval idle s.blk = _ := (bankTestInterval_request htest hbit hreq hok).trans
      ((congrArg (borrow k) hb).trans (borrow_lent ((congrArg Bank.owner (hbb k)).trans howner) (by decide) hpick'))
    have hbank : ∀ j, (bankTestInterval idle s.blk).bank j = (wakeBank sp (setOwner sp owMAINT (borrowTarget k b))).bank j := fun j => by
      rw [hi, showActivities_bank, Block.setTest_bank]
    have hk' : (bankTestInterval idle s.blk).bank k = borrowed (s.blk.bank k) := by
      rw [hbank, wakeBank_bank, if_neg hsp.symm, setOwner_bank, if_neg hsp.symm, borrowTarget_bank, if_pos rfl, hbb]
    obtain ⟨bs, hw⟩ := wakeBank_shape sp (setOwner sp owMAINT (borrowTarget k b))
    refine ⟨_, State.act_of_on rfl hon _, ?_, ?_, ?_, ?_, ?_, ?_, fun j hj hjs => ?_⟩
    · rw [State.run_maint, hi, showActivities_maint, Block.setTest_testReqs, hw]
      exact (borrowTarget_testReqs k b).trans hrest
    · rw [State.run_maint, hi, showActivities_maint, Block.setTest_test]
    · rw [State.run_bank, hk']
      rfl
    · rw [State.run_bank, hk']
      exact howner
    · rw [State.run_bank, hk']
      rfl
    · rw [State.run_bank, hbank, wakeBank_bank, if_pos rfl, setOwner_bank, if_pos rfl]
    · rw [State.run_bank, hbank, wakeBank_bank, if_neg hjs, setOwner_bank, if_neg hjs, borrowTarget_bank, if_neg hj, hbb]
  · intro s x hon hx hna ht hsp
    have he : bankTestEnd 0 s.blk = returnTarget x ((s.blk.bump 32 0x7012 1 1).wr 0x7012 3 x.target) := by
      simp [bankTestEnd, hx, hna]
    obtain ⟨ho, hbor, hgen⟩ := returnTarget_target hsp ((s.blk.bump 32 0x7012 1 1).wr 0x7012 3 x.target)
    refine ⟨_, State.act_of_on rfl hon _, ?_, ?_, ?_, ?_, ?_, ?_⟩
    · rw [State.run_maint, he, returnTarget_test]
    · rw [State.run_bank, he, ho]
    · rw [State.run_bank, he, hbor]
    · rw [State.run_bank, he, hgen]
      rfl
    · rw [State.run_rd_of_ne _ _ _ _ (by decide), he, returnTarget_rd _ _ (by decide), Block.rd_wr_of_ne _ _ (by decide),
        Block.rd_bump_self _ _ _ _ (by decide)]
    · rw [State.run_rd_of_ne _ _ _ _ (by decide), he, returnTarget_rd _ _ (by decide), Block.rd_wr_of_lt _ _ _ (by omega)]
  · intro s x hon hx hna ht hsp
    obtain ⟨h1, h2, h3, h4, h5, h6⟩ := bankTestEnd_failed hx hna ht hsp
    exact ⟨_, State.act_of_on rfl hon _, (congrArg Maint.test (State.run_maint ..)).trans h1, (congrArg Bank.owner (State.run_bank ..)).trans h2,
      (congrArg (fun f : Flash => bit f.retired x.target) (State.run_flash ..)).trans h3, (State.run_rd_of_ne _ _ _ _ (by decide)).trans h4,
      (State.run_rd_of_ne _ _ _ _ (by decide)).trans h5, fun sp hs => (congrArg Bank.owner (State.run_bank ..)).trans (h6 sp hs)⟩
  · intro s x sp hon hx hna hs hsp ht
    obtain ⟨h2, h3, h4, h5⟩ := bankTestEnd_spareFailed hx hna hs hsp ht
    exact ⟨_, State.act_of_on rfl hon _, (congrArg Bank.owner (State.run_bank ..)).trans h2,
      (congrArg (fun f : Flash => bit f.retired sp) (State.run_flash ..)).trans h3, (State.run_rd_of_ne _ _ _ _ (by decide)).trans h4,
      (State.run_rd_of_ne _ _ _ _ (by decide)).trans h5⟩
  · intro s w k x hs hk hr hb hl ht hx ha
    have hctl : ∀ b : Block, b.Alike s.blk → bankControl (k + 2 ^ 8) b = (stOK, abortTest x b) := fun b h =>
      (bankControl_reclaim hk ((congrArg Bank.borrowed (h.bank k)).trans hb) ((congrArg Bank.lender (h.bank k)).trans hl)).trans
        (congrArg _ (hx ▸ reclaim_running ((congrArg Maint.test h.maint).trans ht) ha))
    obtain ⟨b, y, m, o, hal, hrun, hans⟩ := via_bankControl hs (by omega) (by simp only [bits]; omega) hr (by rw [hctl _ (.refl _)])
    rw [hctl b hal] at hrun hans
    have hwithin : Block.Within (fun i r => i == 0x7012 && r == 2) b (abortTest x b) :=
      ((Block.Within.refl _ b).bump 32 1 (by decide) rfl).of_regs rfl rfl
    refine ⟨_, (State.act_of_on (by simp [Instr.wf, hk]) hs.1 _).trans (congrArg _ hrun), hans, ?_, ?_, ?_,
      Block.Within.keeps (((hal.within _).trans hwithin).of_regs rfl rfl)⟩
    · rw [State.run_maint]
      rfl
    · rw [State.run_rd_of_ne _ _ _ _ (by decide), Block.reply_rd, ← hal.rd 0x7012 2 (by decide)]
      exact Block.rd_bump_self b 0x7012 2 1 (by decide)
    · rw [State.run_banks]
      exact hal.banks
  · intro s x hon hx hab hsp
    have he : reclaimComplete s.blk = returnTarget x s.blk := by simp [reclaimComplete, hx, hab]
    obtain ⟨ho, hbor, _⟩ := returnTarget_target hsp s.blk
    refine ⟨_, State.act_of_on rfl hon _, ?_, ?_, ?_, fun sp hs => ?_⟩
    · rw [State.run_maint, he, returnTarget_test]
    · rw [State.run_bank, he, ho]
    · rw [State.run_bank, he, hbor]
    · rw [State.run_bank, he, returnTarget_spare hs]
  · intro s p hs ha
    have hc : chapterWrite p s.mem 0x7012 9 1 s.blk.counted =
        (stOK, { s.blk.counted with flash := { s.blk.counted.flash with retired := 0 } }) := rfl
    obtain ⟨o, ho⟩ := State.put_eq hs ha hc (by decide)
    refine ⟨_, (State.act_of_on rfl hs.1 _).trans (congrArg _ ho), ?_, ?_, ?_, Block.Within.keeps ?_⟩
    · rw [State.run_resp, Block.reply_resp]
    · rw [State.run_flash]
      rfl
    · rw [State.run_banks]
      rfl
    · exact (s.blk.counted_alike.within _).of_regs rfl rfl

end Sys2Proof.Machine

/-! # Hardware queues: commands of the consumer, configuration (R413 to R422, R432 to R434) -/

namespace Sys2Proof.Machine

/-! ### Configuration (R417, R418, R434) -/

/-- The registers of a queue's page. -/
theorem regWrite_queue {q r : Nat} (hq : q < 4096) (hr : r = 0 ∨ r = 4) (mem : List Host.Cell) (v : Nat) (b : Block) :
    regWrite mem (0x20000 + r + 0x20 * q) v b =
      if r = 0 then (stOK, queueResult q (qcfgWrite q v b).1 (qcfgWrite q v b).2)
      else (stOK, queueResult q (qendWrite q v b).1 (qendWrite q v b).2) := by
  have hoff : 0x20000 ≤ 0x20000 + r + 0x20 * q := by omega
  have hq' : queueOf (0x20000 + r + 0x20 * q) = q := by unfold queueOf; omega
  have hin : inQueues (0x20000 + r + 0x20 * q) = true := by unfold inQueues; simp; omega
  have hmod : (0x20000 + r + 0x20 * q) % 0x20 = r := by omega
  unfold regWrite
  split
  all_goals try (exfalso; omega)
  rw [if_neg (by simp; omega), if_neg (by simp; omega), if_neg (by simp; omega), if_neg (by simp; omega), if_neg (by simp; omega),
    if_neg (by simp; omega), if_neg (by simp; omega), if_pos hin]
  rcases hr with rfl | rfl
  · simp only [hq', hmod, if_true]
  · simp only [hq', hmod]
    rfl

/-- Words without reserved bits pass the dictionary's check of them. -/
theorem qcfgFields_reserved {v : Nat} (h : qcfgFields v = v) : (bits v 29 1 != 0 || bits v 22 2 != 0) = false := by
  simp only [qcfgFields, bits] at h
  simp only [bits, Bool.or_eq_false_iff, bne_eq_false_iff_eq]
  omega

theorem qendFields_reserved {v : Nat} (h : qendFields v = v) :
    (bits v 27 5 != 0 || bits v 21 3 != 0 || bits v 9 3 != 0) = false := by
  simp only [qendFields, bits] at h
  simp only [bits, Bool.or_eq_false_iff, bne_eq_false_iff_eq]
  omega

theorem Block.Alike.queue {b c : Block} (h : c.Alike b) (k : Nat) : c.queue k = b.queue k := (congrArg (fun b : Block => b.queue k) h.shape :)
theorem Block.Alike.queues {b c : Block} (h : c.Alike b) : c.queues = b.queues := (congrArg Block.queues h.shape :)
theorem Block.Alike.chan {b c : Block} (h : c.Alike b) (k : Nat) : c.chan k = b.chan k := (congrArg (fun b : Block => b.chan k) h.shape :)

theorem any_congr_mem {α : Type} {xs : List α} {f g : α → Bool} (h : ∀ x ∈ xs, f x = g x) : xs.any f = xs.any g := by
  induction xs with
  | nil => rfl
  | cons x xs ih =>
    rw [List.any_cons, List.any_cons, h x List.mem_cons_self, ih (fun y hy => h y (List.mem_cons_of_mem _ hy))]

theorem Block.Alike.armedDoms {b c : Block} (h : c.Alike b) : c.armedDoms = b.armedDoms :=
  List.filter_congr fun d hd => h.armed (by have := List.mem_range.1 hd; omega)

theorem Block.Alike.qBound {b c : Block} (h : c.Alike b) (q : Nat) : qBound c q = qBound b q := by
  have hchan : chanNames c q = chanNames b q := by simp only [chanNames, h.chan]
  have hmaster : c.isMaster = b.isMaster := by simp only [Block.isMaster, h.rd 0x2200 2 (by decide)]
  have hdoms : b.armedDoms.any (fun t => c.rd (0x6200 + t) 1 == q) = b.armedDoms.any (fun t => b.rd (0x6200 + t) 1 == q) :=
    any_congr_mem fun t ht => by
      have := List.mem_range.1 (List.mem_filter.1 ht).1
      rw [h.rd _ _ (by omega)]
  simp only [Machine.qBound, h.armedDoms, hdoms, hchan, hmaster]
  congr 1
  refine any_congr_mem fun i hi => ?_
  have := List.mem_range.1 hi
  rw [h.rd _ _ (by omega)]

theorem Block.Alike.qcfgStatus {b c : Block} (h : c.Alike b) (q w : Nat) : qcfgStatus c q w = qcfgStatus b q w := by
  simp only [Machine.qcfgStatus, h.queue, h.queues, h.bank, h.qBound]

theorem Block.Alike.qendStatus {b c : Block} (h : c.Alike b) (q w : Nat) : qendStatus c q w = qendStatus b q w := by
  simp only [Machine.qendStatus, h.queue]

/-- What an accepted configuration word does (R417, R418). -/
def configured (q v : Nat) (b : Block) : Block :=
  if (b.queue q).enabled then (if bit v 31 then b else qDisable q b)
  else b.setQueue q { b.queue q with cfg := v, rings := [], open_ := none, prio := 0, dropping := false, reading := none,
                                     mReading := none, fReading := none }

theorem qcfgWrite_ok {q v : Nat} {b : Block} (hv : qcfgFields v = v) (hst : qcfgStatus b q v = stOK) : qcfgWrite q v b = (stOK, configured q v b) := by
  simp only [qcfgWrite, hst, hv, configured]
  rfl

theorem qendWrite_ok {q v : Nat} {b : Block} (hv : qendFields v = v) (hst : qendStatus b q v = stOK) :
    qendWrite q v b = (stOK, b.setQueue q { b.queue q with ends := v }) := by
  simp only [qendWrite, hst, hv]
  rfl

/-- Releasing those who wait on a queue changes no queue and no word. -/
theorem releaseWaiting_keeps {γ : Type} {g : Block → γ} (hemit : ∀ b o, g (b.emit o) = g b) (hdeny : ∀ b q, g (queueDenied q b) = g b)
    (hrefuse : ∀ b q, g (pushRefused q b) = g b) (q : Nat) (held : List HeldPush) (reads : List HostWait) (b : Block) :
    g (forEach held (refuseHeld q) (forEach reads (releaseWait q) b)) = g b := by
  rw [forEach_keeps g (fun h _ c => ?_), forEach_keeps g (fun w _ c => ?_)]
  · cases w with
    | read n => exact hemit ..
    | poll n => exact hemit ..
    | command c => rfl
    | push p d e => exact hdeny ..
    | count => exact hemit ..
  · unfold refuseHeld
    split
    · exact forEach_keeps g (fun _ _ c => hdeny ..) c
    · exact hrefuse ..

/-- A queue that is discarded. -/
theorem qDiscard_queue (q k : Nat) (b : Block) : (qDiscard q b).queue k = if k = q then
    { b.queue q with rings := [], reading := none, mReading := none, fReading := none, open_ := none, dropping := false } else b.queue k := by
  simp only [qDiscard, qEmpty, Block.queue_setQueue, if_true]
  split
  · rfl
  · rfl

/-- A queue that is disabled is empty, and nobody waits on it. -/
theorem qDisable_queue (q k : Nat) (b : Block) : (qDisable q b).queue k = if k = q then
    { b.queue q with cfg := bits (b.queue q).cfg 0 31, rings := [], reading := none, mReading := none, fReading := none, open_ := none,
                     dropping := false, held := [], hostReads := [], stalled := [] } else b.queue k := by
  unfold qDisable
  dsimp only
  rw [releaseWaiting_keeps (g := fun b => b.queue k) (fun _ _ => rfl) (fun _ _ => rfl) (fun _ _ => rfl), Block.queue_setQueue, qDiscard_queue,
    qDiscard_queue, if_pos rfl]
  split
  · rfl
  · rfl

theorem qDisable_words (q : Nat) (b : Block) : (qDisable q b).words = b.words := by
  unfold qDisable
  dsimp only
  rw [releaseWaiting_keeps (g := Block.words) (fun _ _ => rfl) (fun _ _ => rfl) (fun _ _ => rfl)]
  rfl

theorem bit_bits_high (w n : Nat) : bit (bits w 0 n) n = false := by
  have h : bits w 0 n / 2 ^ n = 0 := Nat.div_eq_of_lt (bits_lt w 0 n)
  simp [bit, h]

theorem configured_queue_ne {q k : Nat} (h : k ≠ q) (v : Nat) (b : Block) : (configured q v b).queue k = b.queue k := by
  unfold configured
  split
  · split
    · rfl
    · rw [qDisable_queue, if_neg h]
  · rw [Block.queue_setQueue_ne _ _ h]

theorem configured_words (q v : Nat) (b : Block) : (configured q v b).words = b.words := by
  unfold configured
  split
  · split
    · rfl
    · rw [qDisable_words]
  · rfl

/-- Settles O48: the word reaches the queue's own configuration, and disabling empties its rings. -/
theorem queueConfigurationTakesEffect : Obligations.QueueConfigurationTakesEffect := by
  unfold Obligations.QueueConfigurationTakesEffect
  refine ⟨?_, ?_⟩
  · intro s w q v hs hq2 hq hv hfields hr hsel hst
    have hcfg : ∀ b : Block, b.Alike s.blk → qcfgWrite q v b = (stOK, configured q v b) := fun b hb =>
      qcfgWrite_ok hfields ((hb.qcfgStatus q v).trans hst)
    obtain ⟨b, x, m, o, hb, hrun, hans⟩ := State.via_eq (f := configured q v) (off := 0x20000 + 0 + 0x20 * q) (word := v) (st := stOK) hs hr
      (by omega) (by omega) ⟨((configured q v s.blk).bset 0x1700 0 (q * 2 ^ 16 + stOK)).bar, by
        rw [Nat.mod_eq_of_lt hv, regWrite_queue hq (.inl rfl), if_pos rfl, hcfg _ (.refl _)]
        rfl⟩
      (fun p hp => by
        show selectedWrite _ (qcfgWrite (s.blk.selected p) v s.blk.counted) s.blk.counted = _
        rw [hsel p hp, hcfg _ s.blk.counted_alike, qcfgFields_reserved hfields]
        rfl) (by decide)
    have hqueue : ∀ k, (s.run (fun _ _ => (configured q v b).reply x m o)).blk.queue k = (configured q v b).queue k := State.run_queue _ _
    refine ⟨_, (State.act_of_on (by simp [Instr.wf, hq]) hs.1 _).trans (congrArg _ hrun), hans, fun hoff => ?_, fun hon hbit => ?_, ?_, ?_,
      fun k hk => ?_⟩
    · rw [hqueue, configured, hb.queue, hoff, if_neg (by decide), Block.queue_setQueue_self]
      exact ⟨rfl, rfl⟩
    · rw [hqueue, configured, hb.queue, hon, hbit, if_pos rfl, if_neg (by decide), qDisable_queue, if_pos rfl]
      exact ⟨bit_bits_high _ 31, rfl⟩
    · rw [hqueue, configured, hb.queue]
      split
      · split
        · rw [hb.queue]
        · rw [qDisable_queue, if_pos rfl, hb.queue]
      · rw [Block.queue_setQueue_self]
    · rw [State.run_words]
      exact (configured_words q v b).trans hb.words
    · rw [hqueue, configured_queue_ne hk, hb.queue]
  · intro s w q v hs hq2 hq hv hfields hr hsel hst
    have hend : ∀ b : Block, b.Alike s.blk → qendWrite q v b = (stOK, b.setQueue q { b.queue q with ends := v }) := fun b hb =>
      qendWrite_ok hfields ((hb.qendStatus q v).trans hst)
    obtain ⟨b, x, m, o, hb, hrun, hans⟩ := State.via_eq (f := fun b => b.setQueue q { b.queue q with ends := v }) (off := 0x20000 + 4 + 0x20 * q)
      (word := v) (st := stOK) hs hr (by omega) (by omega)
      ⟨((s.blk.setQueue q { s.blk.queue q with ends := v }).bset 0x1700 0 (q * 2 ^ 16 + stOK)).bar, by
        rw [Nat.mod_eq_of_lt hv, regWrite_queue hq (.inr rfl), if_neg (by decide), hend _ (.refl _)]
        rfl⟩
      (fun p hp => by
        show selectedWrite _ (qendWrite (s.blk.selected p) v s.blk.counted) s.blk.counted = _
        rw [hsel p hp, hend _ s.blk.counted_alike, qendFields_reserved hfields]
        rfl) (by decide)
    have hqueue : ∀ k, (s.run (fun _ _ => (b.setQueue q { b.queue q with ends := v }).reply x m o)).blk.queue k =
        if k = q then { b.queue q with ends := v } else b.queue k := fun k => (State.run_queue ..).trans (Block.queue_setQueue ..)
    refine ⟨_, (State.act_of_on (by simp [Instr.wf, hq]) hs.1 _).trans (congrArg _ hrun), hans, ?_, ?_, fun k hk => ?_,
      Block.Within.keeps ((hb.within _).of_regs rfl rfl)⟩
    · rw [hqueue, if_pos rfl, hb.queue]
    · rw [State.run_words]
      exact hb.words
    · rw [hqueue, if_neg hk, hb.queue]

end Sys2Proof.Machine

/-! # Hardware queues: pushes, pops and the consumer's commands (R415 to R426, R432) -/

namespace Sys2Proof.Machine

/-! ### An agent's use of the queues -/

/-- The block with the link in some state. -/
def Block.linked (b : Block) (l : Nat) : Block := { b with pcie := { b.pcie with link := l } }

@[simp] theorem Block.linked_queue (b : Block) (l k : Nat) : (b.linked l).queue k = b.queue k := rfl
@[simp] theorem Block.linked_queues (b : Block) (l : Nat) : (b.linked l).queues = b.queues := rfl
@[simp] theorem Block.linked_words (b : Block) (l : Nat) : (b.linked l).words = b.words := rfl
@[simp] theorem Block.linked_word (b : Block) (l k i : Nat) : (b.linked l).word k i = b.word k i := rfl
@[simp] theorem Block.linked_rd (b : Block) (l i r : Nat) : (b.linked l).rd i r = b.rd i r := rfl
@[simp] theorem Block.linked_server (b : Block) (l : Nat) : (b.linked l).server = b.server := rfl
@[simp] theorem Block.linked_ringOn (b : Block) (l key : Nat) : (b.linked l).ringOn key = b.ringOn key := rfl
@[simp] theorem Block.linked_qBroken (b : Block) (l key : Nat) : qBroken (b.linked l) key = qBroken b key := rfl

theorem Block.linked_within (b : Block) (l : Nat) (R : Nat → Nat → Bool) : Block.Within R b (b.linked l) := (Block.Within.refl R b).of_regs rfl rfl

theorem flushResponses_of_none {b : Block} (h : b.server.wait = []) : flushResponses b = b := by
  have hb : { b with server := { b.server with wait := [] } } = b := by rw [← h]
  rw [flushResponses, h, hb]
  rfl

/-- A use of the queues that reaches them, where no response waits for room. -/
theorem queueWindow_reaches {s : State} {a : Agent} (h : Safety.ReachesQueues s a) (pop : Option (Nat × Nat)) {f : Block → Block}
    (hf : ∀ l, (f (s.blk.linked l)).server.wait = []) : ∃ l, queueWindow a pop f s.blk = f (s.blk.linked l) := by
  obtain ⟨_, _, hhost⟩ := h
  by_cases ha : a.cls = .host
  · obtain ⟨hs, hup⟩ := hhost ha
    obtain ⟨l, hl⟩ : ∃ l, (if pop.isSome then linkUse s.blk else s.blk) = s.blk.linked l := by
      obtain ⟨l, hl⟩ := linkUse_shape s.blk
      split
      · exact ⟨l, hl⟩
      · exact ⟨s.blk.pcie.link, rfl⟩
    have hwake : wake 7 (s.blk.linked l) = s.blk.linked l := wake_of_serving hs (b := s.blk.linked l) rfl rfl 7
    have hready : s.blk.ready = true := by simp [Block.ready, hs.2.1]
    refine ⟨l, ?_⟩
    simp only [queueWindow, ha, hup, hready, hl, hwake, flushResponses_of_none (hf l)]
    rfl
  · refine ⟨s.blk.pcie.link, ?_⟩
    have hne : (a.cls != .host) = true := by simpa using ha
    simp only [queueWindow, hne, if_true]
    exact flushResponses_of_none (hf s.blk.pcie.link)

/-! ### Rings and waits -/

@[simp] theorem Queue.ring_setRing_self (q : Queue) (k : Nat) (r : Ring) : (q.setRing k r).ring k = r := look_place_self ..

/-- The pointers agree: the operation goes on. -/
theorem qUse_of_sane {key : Nat} {b : Block} (h : qBroken b key = false) (h0 : key = 0 → qBroken b q0Response = false)
    (hr : key = q0Response → qBroken b 0 = false) : qUse key false b = (true, b) := by
  have hcond : (qBroken b key || (decide (key = 0) && qBroken b q0Response) || (decide (key = q0Response) && qBroken b 0)) = false := by
    simp only [h, Bool.false_or, Bool.or_eq_false_iff, Bool.and_eq_false_imp, decide_eq_true_eq]
    exact ⟨h0, hr⟩
  simp only [qUse, qCheck, Bool.false_eq_true, if_false, hcond]

/-- Nobody waits on the queue: nobody is served. -/
theorem serveWaiting_of_none {key : Nat} {b : Block} (hr : (b.queue key).hostReads = []) (hs : (b.queue key).stalled = []) :
    serveWaiting key b = b := by
  simp only [serveWaiting, serveAll, hr, hs, List.length_nil, Nat.add_zero]
  rfl

theorem Queue.ringNos_single {q : Queue} (h : q.priority = false) : q.ringNos = [0] := by rw [Queue.ringNos, h]; rfl

theorem hostHolds_of_none {b : Block} {q : Nat} (h : (b.queue q).held = []) : hostHolds b q = false := by simp [hostHolds, h]

theorem keyQueue_of_lt {q : Nat} (h : q < 4096) : keyQueue q = q := if_neg (by unfold q0Response; omega)
theorem popKey_of_pos {q : Nat} (h : 1 ≤ q) : popKey q = q := if_neg (by omega)

/-! ### MARK, REWIND, RELEASE (R422) -/

/-- A queue after a command, one that is not split by priority. -/
def commanded (c : Nat) (q : Queue) : Queue :=
  match c with
  | 1 => { q.setRing 0 ((q.ring 0).setM (q.ring 0).r) with mReading := q.reading }
  | 2 => { q.setRing 0 ((q.ring 0).setR (if (q.ring 0).mOk then (q.ring 0).m else (q.ring 0).f)) with
           reading := if (q.ring 0).mOk then q.mReading else q.fReading }
  | _ => { q.setRing 0 { (q.ring 0).setF (q.ring 0).r with mOk := false } with fReading := q.reading }

theorem qFlush_of_none {key k : Nat} {b : Block} (h : ((b.queue key).ring k).pend = 0) : qFlush key k b = b := by
  simp [qFlush, h]

theorem qCommand_eq {c key : Nat} {b : Block} (hc : c = 1 ∨ c = 2 ∨ c = 3) (hp : (b.queue key).priority = false)
    (hpend : ((b.queue key).ring 0).pend = 0) : qCommand c key b = b.setQueue key (commanded c (b.queue key)) := by
  have hnos := Queue.ringNos_single hp
  rcases hc with rfl | rfl | rfl
  · simp only [qCommand, qMark, hnos]
    rfl
  · simp only [qCommand, qRewind, hnos]
    rfl
  · simp only [qCommand, qRelease, hnos]
    refine qFlush_of_none ?_
    rw [Block.queue_setQueue_self]
    exact (congrArg Ring.pend (Queue.ring_setRing_self ..)).trans hpend

theorem commanded_waits (c : Nat) (q : Queue) : (commanded c q).hostReads = q.hostReads ∧ (commanded c q).stalled = q.stalled := by
  unfold commanded
  split <;> exact ⟨rfl, rfl⟩

/-- A command of the consumer on a calm ring is carried out, and nobody else is served. -/
theorem queueCommand_calm {s : State} {c q l : Nat} {a : Agent} (hc : c = 1 ∨ c = 2 ∨ c = 3) (hq1 : 1 ≤ q) (hq : q < 4096)
    (hcalm : Safety.Calm s q) (hpop : (s.blk.queue q).mayPop a = true) :
    queueCommand c a q false (s.blk.linked l) = (s.blk.linked l).setQueue q (commanded c (s.blk.queue q)) := by
  obtain ⟨hp, _, hsane, hreads, hstalled, hheld, hpend⟩ := hcalm
  obtain ⟨b, hb⟩ : ∃ b, s.blk.linked l = b := ⟨_, rfl⟩
  have hqueue : b.queue q = s.blk.queue q := by rw [← hb, Block.linked_queue]
  have hsane' : qBroken b q = false := by rw [← hb, Block.linked_qBroken, hsane]
  have hkey : (if (a.cls = .controlCore && q = 0) = true then 0 else popKey q) = q := by
    rw [if_neg (by simp; omega), popKey_of_pos hq1]
  have huse := qUse_of_sane hsane' (fun h => absurd h (by omega)) (fun h => absurd h (by unfold q0Response; omega))
  have hlt : ¬ 4096 ≤ q := by omega
  obtain ⟨hr', hs'⟩ := commanded_waits c (s.blk.queue q)
  have hserve : serveWaiting q (b.setQueue q (commanded c (s.blk.queue q))) = b.setQueue q (commanded c (s.blk.queue q)) :=
    serveWaiting_of_none (by rw [Block.queue_setQueue_self, hr', hreads]) (by rw [Block.queue_setQueue_self, hs', hstalled])
  have hcmd : qCommand c q b = b.setQueue q (commanded c (s.blk.queue q)) := by
    rw [qCommand_eq hc (by rw [hqueue, hp]) (by rw [hqueue, hpend]), hqueue]
  have hholds : hostHolds b q = false := hostHolds_of_none (by rw [hqueue, hheld])
  rw [hb]
  simp only [queueCommand, hkey, hlt, if_false, hqueue, hpop, Bool.not_true, Bool.false_eq_true, huse, hreads, hholds,
    List.isEmpty_nil, Bool.or_self, Bool.and_false, hcmd, hserve]

/-- One by the host behind an access that waits, waits. -/
theorem queueCommand_waits {s : State} {c q l : Nat} (hq1 : 1 ≤ q) (hq : q < 4096) (hsane : qBroken s.blk q = false)
    (hpop : (s.blk.queue q).mayPop hostAgent = true) (hws : (s.blk.queue q).hostReads ≠ []) :
    queueCommand c hostAgent q false (s.blk.linked l) =
      (s.blk.linked l).setQueue q { s.blk.queue q with hostReads := (s.blk.queue q).hostReads ++ [.command c] } := by
  obtain ⟨b, hb⟩ : ∃ b, s.blk.linked l = b := ⟨_, rfl⟩
  have hqueue : b.queue q = s.blk.queue q := by rw [← hb, Block.linked_queue]
  have hsane' : qBroken b q = false := by rw [← hb, Block.linked_qBroken, hsane]
  have huse := qUse_of_sane hsane' (fun h => absurd h (by omega)) (fun h => absurd h (by unfold q0Response; omega))
  have hlt : ¬ 4096 ≤ q := by omega
  have hempty : (s.blk.queue q).hostReads.isEmpty = false := by simpa using hws
  have hcls : hostAgent.cls = .host := rfl
  have hkey : (if (QClass.host = .controlCore && q = 0) = true then 0 else popKey q) = q := by
    rw [if_neg (by simp), popKey_of_pos hq1]
  rw [hb]
  simp only [queueCommand, hkey, hlt, if_false, hqueue, hpop, Bool.not_true, Bool.false_eq_true, huse, hempty, hcls, Bool.not_false,
    Bool.true_or, Bool.and_true, decide_true, if_true]

/-- The run of a command of the consumer through the window. -/
theorem run_queueCommand {s : State} {c q : Nat} {a : Agent} (hr : Safety.ReachesQueues s a) {x : Queue}
    (h : ∀ l, queueCommand c a q false (s.blk.linked l) = (s.blk.linked l).setQueue q x) :
    ∃ l, s.run (fun _ b => queueWindow a none (queueCommand c a q false) b) = s.run (fun _ _ => (s.blk.linked l).setQueue q x) := by
  obtain ⟨l, hl⟩ := queueWindow_reaches hr none (f := queueCommand c a q false) (fun l => by rw [h]; exact hr.2.1)
  exact ⟨l, State.run_congr (hl.trans (h l))⟩

/-- What a run that ends in a changed queue leaves. -/
theorem run_setQueue {s t : State} {q l : Nat} {x : Queue} (h : t = s.run (fun _ _ => (s.blk.linked l).setQueue q x)) :
    t.blk.queue q = x ∧ t.blk.words = s.blk.words ∧ ∀ k, k ≠ q → t.blk.queue k = s.blk.queue k := by
  subst h
  refine ⟨?_, ?_, fun k hk => ?_⟩
  · rw [State.run_queue, Block.queue_setQueue_self]
  · rw [State.run_words]
    rfl
  · rw [State.run_queue, Block.queue_setQueue_ne _ _ hk, Block.linked_queue]

/-- Settles O47: on a calm ring each command moves the pointers that it names; behind an access that waits it waits too. -/
theorem markRewindAndRelease : Obligations.MarkRewindAndRelease := by
  unfold Obligations.MarkRewindAndRelease
  refine ⟨?_, ?_⟩
  · intro s a q hr hq1 hq hcalm hpop
    have hrun : ∀ c, c = 1 ∨ c = 2 ∨ c = 3 → ∃ t, s.run (fun _ b => queueWindow a none (queueCommand c a q false) b) = t ∧
        t.blk.queue q = commanded c (s.blk.queue q) ∧ t.blk.words = s.blk.words ∧ ∀ k, k ≠ q → t.blk.queue k = s.blk.queue k := fun c hc => by
      obtain ⟨l, hl⟩ := run_queueCommand (c := c) (q := q) hr (fun l => queueCommand_calm hc hq1 hq hcalm hpop)
      exact ⟨_, rfl, run_setQueue hl⟩
    refine ⟨?_, ?_, ?_⟩
    · obtain ⟨t, ht, hqueue, hrest⟩ := hrun 1 (.inl rfl)
      exact ⟨t, (State.act_of_on (by simp [Instr.wf, hq]) hr.1 _).trans (congrArg _ ht), by rw [hqueue]; exact Queue.ring_setRing_self .., hrest⟩
    · obtain ⟨t, ht, hqueue, hrest⟩ := hrun 2 (.inr (.inl rfl))
      exact ⟨t, (State.act_of_on (by simp [Instr.wf, hq]) hr.1 _).trans (congrArg _ ht), by rw [hqueue]; exact Queue.ring_setRing_self .., hrest⟩
    · obtain ⟨t, ht, hqueue, hrest⟩ := hrun 3 (.inr (.inr rfl))
      exact ⟨t, (State.act_of_on (by simp [Instr.wf, hq]) hr.1 _).trans (congrArg _ ht), by rw [hqueue]; exact Queue.ring_setRing_self .., hrest⟩
  · intro s q ws hr hq1 hq hsane hpop hws hne
    have hrun : ∀ c, ∃ t, s.run (fun _ b => queueWindow hostAgent none (queueCommand c hostAgent q false) b) = t ∧
        t.blk.queue q = { s.blk.queue q with hostReads := ws ++ [.command c] } := fun c => by
      obtain ⟨l, hl⟩ := run_queueCommand (c := c) (q := q) hr (fun l => queueCommand_waits hq1 hq hsane hpop (hws ▸ hne))
      refine ⟨_, rfl, ?_⟩
      rw [(run_setQueue hl).1, hws]
    obtain ⟨t1, h1, hq1'⟩ := hrun 1
    obtain ⟨t2, h2, hq2'⟩ := hrun 2
    obtain ⟨t3, h3, hq3'⟩ := hrun 3
    exact ⟨⟨t1, (State.act_of_on (by simp [Instr.wf, hq]) hr.1 _).trans (congrArg _ h1), hq1'⟩,
      ⟨t2, (State.act_of_on (by simp [Instr.wf, hq]) hr.1 _).trans (congrArg _ h2), hq2'⟩,
      ⟨t3, (State.act_of_on (by simp [Instr.wf, hq]) hr.1 _).trans (congrArg _ h3), hq3'⟩⟩

end Sys2Proof.Machine

namespace Sys2Proof.Machine

/-! ### Pops (R420, R423, R424) -/

/-- The item at R of a ring that is not split by priority. -/
def itemAt (b : Block) (key : Nat) : Popped :=
  { data := (b.word (b.queue key).bank ((b.queue key).slot 0 ((b.queue key).ring 0).r)).toNat,
    tags := b.tag (b.queue key).bank ((b.queue key).slot 0 ((b.queue key).ring 0).r), ring := 0 }

/-- The queue once that item has been read. -/
def Queue.readOn (q : Queue) : Queue := { q.setRing 0 ((q.ring 0).setR ((q.ring 0).r + 1)) with reading := none }

theorem Queue.readOn_ring (q : Queue) : q.readOn.ring 0 = (q.ring 0).setR ((q.ring 0).r + 1) := Queue.ring_setRing_self ..

theorem qReadable_single {b : Block} {key : Nat} (hp : (b.queue key).priority = false) :
    qReadable b key = if 0 < ((b.queue key).ring 0).unread then some 0 else none := by
  simp only [qReadable, hp, Bool.false_eq_true, if_false]

theorem qNext_single {b : Block} {key : Nat} (hp : (b.queue key).priority = false) (hon : b.ringOn key = true) :
    qNext b key = if 0 < ((b.queue key).ring 0).unread then some 0 else none := by
  rw [qNext, if_pos hon, qReadable_single hp]

/-- A pop of a ring with an unread item: the item, and but for a marker's tag nothing changes beside R. -/
theorem qPop_single {b : Block} {key : Nat} (hp : (b.queue key).priority = false) (hon : b.ringOn key = true)
    (hu : 0 < ((b.queue key).ring 0).unread) :
    ∃ tags, qPop key b = (some (itemAt b key), { b with tags := tags }.setQueue key (b.queue key).readOn) := by
  have hnext : qNext b key = some 0 := by rw [qNext_single hp hon, if_pos hu]
  simp only [qPop, hnext, hp, Bool.false_and, Bool.false_eq_true, if_false]
  split
  · exact ⟨_, rfl⟩
  · exact ⟨b.tags, rfl⟩

theorem qPop_words (key : Nat) (b : Block) : (qPop key b).2.words = b.words := by
  unfold qPop
  split
  · rfl
  · dsimp only
    split
    · rfl
    · rfl

theorem qPop_server (key : Nat) (b : Block) : (qPop key b).2.server = b.server := by
  unfold qPop
  split
  · rfl
  · dsimp only
    split
    · rfl
    · rfl

theorem popMany_server (key n : Nat) (b : Block) : (popMany key n b).2.server = b.server := by
  induction n generalizing b with
  | zero => rfl
  | succ n ih => exact (ih _).trans (qPop_server key b)

theorem popMany_length (key n : Nat) (b : Block) : (popMany key n b).1.length = 2 * n := by
  induction n generalizing b with
  | zero => rfl
  | succ n ih =>
    rw [popMany]
    simp only [List.length_cons, ih]
    omega

/-- The status of an item says that there is one. -/
theorem itemStatus_item {b : Block} {key : Nat} (hp : (b.queue key).priority = false) (p : Popped) :
    bit (itemStatus b key (some p)) 0 = true := by
  simp only [itemStatus, hp, Bool.false_eq_true, if_false, bit, beq_iff_eq]
  omega

/-- A host read that finds an item on a ring that is ON, with nobody before it. -/
theorem hostPop_item {b : Block} {q n : Nat} (hq : q < 4096) (hp : (b.queue q).priority = false) (hon : b.ringOn q = true)
    (hreads : (b.queue q).hostReads = []) (hheld : (b.queue q).held = []) (hu : 0 < ((b.queue q).ring 0).unread) :
    hostPop q n b = (popMany q n b).2.emit (.popped q (popMany q n b).1) := by
  have hwake : ringWake q b = b := if_pos hon
  have hnext : qNext b q = some 0 := by rw [qNext_single hp hon, if_pos hu]
  simp only [hostPop, hwake, hreads, keyQueue_of_lt hq, hostHolds_of_none hheld, hnext, List.isEmpty_nil, Bool.not_false, Bool.and_self]

/-- One that finds none: empty tokens at once where the wait is 0, and otherwise it waits. -/
theorem hostPop_empty {b : Block} {q n : Nat} (hq : q < 4096) (hp : (b.queue q).priority = false) (hon : b.ringOn q = true)
    (hreads : (b.queue q).hostReads = []) (hheld : (b.queue q).held = []) (hu : ((b.queue q).ring 0).unread = 0) :
    hostPop q n b = if b.rd 0x7080 1 = 0 then b.emit (.popped q (emptyTokens n))
      else b.setQueue q { b.queue q with hostReads := [.read n] } := by
  have hwake : ringWake q b = b := if_pos hon
  have hnext : qNext b q = none := by rw [qNext_single hp hon, if_neg (by omega)]
  have hreadable : qReadable b q = none := by rw [qReadable_single hp, if_neg (by omega)]
  simp only [hostPop, hwake, hreads, keyQueue_of_lt hq, hostHolds_of_none hheld, hnext, hreadable, List.isEmpty_nil, Bool.not_false,
    Bool.and_self, Option.isNone_none, List.nil_append, if_true]
  by_cases h : b.rd 0x7080 1 = 0
  · simp [h]
  · simp [h]

/-- The facts of a calm ring, in the block that the window serves. -/
theorem Block.linked_calm {s : State} {q l : Nat} (hcalm : Safety.Calm s q) {b : Block} (hb : s.blk.linked l = b) :
    b.queue q = s.blk.queue q ∧ (b.queue q).priority = false ∧ b.ringOn q = true ∧ qBroken b q = false ∧ (b.queue q).hostReads = [] ∧
    (b.queue q).held = [] := by
  obtain ⟨hp, hon, hsane, hreads, _, hheld, _⟩ := hcalm
  subst hb
  exact ⟨rfl, hp, hon, hsane, hreads, hheld⟩

/-- The host's pop through the window of a calm ring. -/
theorem queuePop_host {s : State} {q l : Nat} (hq1 : 1 ≤ q) (hq : q < 4096) (hcalm : Safety.Calm s q)
    (hpop : (s.blk.queue q).mayPop hostAgent = true) : queuePop hostAgent q false (s.blk.linked l) = hostPop q 1 (s.blk.linked l) := by
  obtain ⟨b, hb⟩ : ∃ b, s.blk.linked l = b := ⟨_, rfl⟩
  obtain ⟨hqueue, _, _, hsane, _⟩ := Block.linked_calm hcalm hb
  have huse := qUse_of_sane hsane (fun h => absurd h (by omega)) (fun h => absurd h (by unfold q0Response; omega))
  have hlt : ¬ 4096 ≤ q := by omega
  have hcls : hostAgent.cls = .host := rfl
  rw [hb]
  simp only [queuePop, popKey_of_pos hq1, hlt, if_false, hcls, if_true, hqueue, hpop, Bool.not_true, Bool.false_eq_true, huse]

/-- A burst through the window of a calm ring counts as its items. -/
theorem popBurst_host {s : State} {q n l : Nat} (hq1 : 1 ≤ q) (hq : q < 4096) (hn : 1 ≤ n) (hn' : n ≤ 256) (hcalm : Safety.Calm s q)
    (hpop : (s.blk.queue q).mayPop hostAgent = true) : popBurst q (16 * n) false (s.blk.linked l) = hostPop q n (s.blk.linked l) := by
  obtain ⟨b, hb⟩ : ∃ b, s.blk.linked l = b := ⟨_, rfl⟩
  obtain ⟨hqueue, _, _, hsane, _⟩ := Block.linked_calm hcalm hb
  have huse := qUse_of_sane hsane (fun h => absurd h (by omega)) (fun h => absurd h (by unfold q0Response; omega))
  have hlt : ¬ 4096 ≤ q := by omega
  have h8 : 16 * n ≠ 8 := by omega
  have hbad : (!(b.queue q).mayPop hostAgent || (16 * n != 8 && decide (16 * n < 16)) || decide (4096 < 16 * n) ||
      (16 * n != 8 && 16 * n % 16 != 0)) = false := by
    rw [hqueue, hpop]
    simp
    omega
  have hdiv : 16 * n / 16 = n := by omega
  rw [hb]
  simp only [popBurst, popKey_of_pos hq1, hlt, if_false, hbad, Bool.false_eq_true, h8, huse, hdiv]

theorem hostPop_server {b : Block} {q n : Nat} (hq : q < 4096) (hp : (b.queue q).priority = false) (hon : b.ringOn q = true)
    (hreads : (b.queue q).hostReads = []) (hheld : (b.queue q).held = []) : (hostPop q n b).server = b.server := by
  by_cases hu : 0 < ((b.queue q).ring 0).unread
  · rw [hostPop_item hq hp hon hreads hheld hu]
    exact popMany_server q n b
  · rw [hostPop_empty hq hp hon hreads hheld (by omega)]
    split
    · rfl
    · rfl

/-- The run of the host's pop, or of a burst, on a calm ring. -/
theorem run_hostPop {s : State} {q n : Nat} (hr : Safety.ReachesQueues s hostAgent) (hq : q < 4096) (hcalm : Safety.Calm s q)
    (pop : Option (Nat × Nat)) {f : Block → Block} (hf : ∀ l, f (s.blk.linked l) = hostPop q n (s.blk.linked l)) :
    ∃ l, s.run (fun _ b => queueWindow hostAgent pop f b) = s.run (fun _ _ => hostPop q n (s.blk.linked l)) := by
  obtain ⟨l, hl⟩ := queueWindow_reaches hr pop (f := f) (fun l => by
    obtain ⟨_, hp, hon, _, hreads, hheld⟩ := Block.linked_calm hcalm (l := l) rfl
    rw [hf, hostPop_server hq hp hon hreads hheld]
    exact hr.2.1)
  exact ⟨l, State.run_congr (hl.trans (hf l))⟩

/-! ### The end of a wait (R423) -/

/-- Where nothing is readable and only reads wait, nobody is served. -/
theorem serveOne_reads {push : Agent → Nat → Nat → Bool → Block → Block} {key : Nat} {b : Block} (hnone : qReadable b key = none)
    (hreads : (b.queue key).hostReads.all HostWait.isRead = true) : serveOne push key b = b := by
  have hnext : qNext b key = none := by rw [qNext, hnone]; split <;> rfl
  unfold serveOne
  dsimp only
  split
  · rfl
  · rw [hnext]
    cases hr : (b.queue key).hostReads with
    | nil => rfl
    | cons w rest =>
      cases w with
      | read n => rfl
      | _ => simp [hr, HostWait.isRead] at hreads

theorem serveWaiting_reads {key : Nat} {b : Block} (hnone : qReadable b key = none)
    (hreads : (b.queue key).hostReads.all HostWait.isRead = true) : serveWaiting key b = b := by
  unfold serveWaiting serveAll
  exact List.foldlRecOn _ _ (motive := fun c => c = b) rfl (fun c hc _ _ => by
    subst hc
    exact serveOne_reads hnone hreads)

theorem endsFrom_waits (b c : Block) (htags : c.tags = b.tags) (q : Queue) (ws : List HostWait) (k ptr n : Nat) :
    endsFrom c { q with hostReads := ws } k ptr n = endsFrom b q k ptr n := by
  have htag : ∀ k i, c.tag k i = b.tag k i := fun k i => by unfold Block.tag; rw [htags]
  induction n generalizing ptr with
  | zero => rfl
  | succ n ih =>
    rw [endsFrom, endsFrom, ih, htag]
    rfl

/-- Whether an item is readable does not depend on who waits. -/
theorem qReadable_waits {b c : Block} {key : Nat} {ws : List HostWait} (htags : c.tags = b.tags)
    (hqueue : c.queue key = { b.queue key with hostReads := ws }) : qReadable c key = qReadable b key := by
  have hcomplete : completeIn c { b.queue key with hostReads := ws } = completeIn b (b.queue key) := funext fun k => by
    unfold completeIn
    have h := endsFrom_waits b c htags (b.queue key) ws k (((b.queue key).ring k).r) (((b.queue key).ring k).unread)
    exact congrArg (fun n => decide (0 < n)) h
  unfold qReadable
  rw [hqueue]
  dsimp only
  rw [hcomplete]
  rfl

/-- What the queue is, and what has left, after a host read of one item or of several. -/
theorem hostPop_readOn {b : Block} {q : Nat} (hq : q < 4096) (hp : (b.queue q).priority = false) (hon : b.ringOn q = true)
    (hreads : (b.queue q).hostReads = []) (hheld : (b.queue q).held = []) (hu : 0 < ((b.queue q).ring 0).unread) :
    (∃ st, .popped q [(itemAt b q).data, st] ∈ (hostPop q 1 b).out ∧ bit st 0 = true) ∧ (hostPop q 1 b).queue q = (b.queue q).readOn ∧
    (hostPop q 1 b).words = b.words := by
  obtain ⟨tags, hpop⟩ := qPop_single hp hon hu
  have hmany : popMany q 1 b = ([(itemAt b q).data, itemStatus ({ b with tags := tags }.setQueue q (b.queue q).readOn) q (some (itemAt b q))],
      { b with tags := tags }.setQueue q (b.queue q).readOn) := by simp only [popMany, hpop]
  rw [hostPop_item hq hp hon hreads hheld hu, hmany]
  refine ⟨⟨_, List.mem_cons_self, itemStatus_item ?_ _⟩, Block.queue_setQueue_self .., rfl⟩
  rw [Block.queue_setQueue_self]
  exact hp

/-- Settles O46: on a calm ring the item at R leaves; where there is none the read waits or gets empty tokens. -/
theorem popsTakeTheOldestItem : Obligations.PopsTakeTheOldestItem := by
  unfold Obligations.PopsTakeTheOldestItem
  refine ⟨?_, ?_, ?_, ?_, ?_⟩
  · intro s q hr hq1 hq hcalm hpop hu
    obtain ⟨l, hl⟩ := run_hostPop (n := 1) hr hq hcalm (some (q, 2)) (fun l => queuePop_host hq1 hq hcalm hpop)
    obtain ⟨_, hp, hon, _, hreads, hheld⟩ := Block.linked_calm hcalm (l := l) rfl
    obtain ⟨⟨st, hout, hst⟩, hqueue, hwords⟩ := hostPop_readOn hq hp hon hreads hheld hu
    refine ⟨_, (State.act_of_on (by simp [Instr.wf, hq]) hr.1 _).trans (congrArg _ hl), ⟨st, State.run_out_mem hout, hst⟩, ?_, ?_, ?_⟩
    · rw [State.run_queue, hqueue, Queue.readOn_ring]
      rfl
    · rw [State.run_queue, hqueue, Queue.readOn_ring]
      rfl
    · rw [State.run_words, hwords]
      rfl
  · intro s a q hr hq1 hq hcalm ha hen hpop hu
    have hhost : a.cls ≠ .host := by rcases ha with h | h <;> simp [h]
    have hfwd : (a.cls != .sloeFwd) = true := by rcases ha with h | h <;> simp [h]
    have heq : ∀ l, ∃ tags, queuePop a q false (s.blk.linked l) = ({ s.blk.linked l with tags := tags }.setQueue q (s.blk.queue q).readOn).emit
        (.delivered q a (itemAt s.blk q).data (itemAt s.blk q).tags) := fun l => by
      obtain ⟨b, hb⟩ : ∃ b, s.blk.linked l = b := ⟨_, rfl⟩
      obtain ⟨hqueue, hp, hon, hsane, hreads, hheld⟩ := Block.linked_calm hcalm hb
      have huse := qUse_of_sane hsane (fun h => absurd h (by omega)) (fun h => absurd h (by unfold q0Response; omega))
      have hlt : ¬ 4096 ≤ q := by omega
      have hkey : (if (a.cls = .controlCore && q = 0) = true then 0 else popKey q) = q := by
        rw [if_neg (by simp; omega), popKey_of_pos hq1]
      have hserve : mayServe b q a = true := by simp [mayServe, hfwd]
      obtain ⟨tags, hone⟩ := qPop_single hp hon (by rw [hqueue]; exact hu)
      have hwake : ringWake q b = b := if_pos hon
      have hitem : itemAt b q = itemAt s.blk q := by rw [← hb]; rfl
      refine ⟨tags, ?_⟩
      rw [hb]
      simp only [queuePop, hlt, hhost, if_false, hkey, hqueue, hen, hpop, hserve, Bool.not_true, Bool.or_self, Bool.false_eq_true, huse, hwake,
        hone, hitem]
      rcases ha with h | h
      · simp only [deliver, h]
      · simp only [deliver, h]
    obtain ⟨l, hl⟩ := queueWindow_reaches hr (some (q, 2)) (f := queuePop a q false) (fun l => by
      obtain ⟨tags, h⟩ := heq l
      rw [h]
      exact hr.2.1)
    obtain ⟨tags, htags⟩ := heq l
    refine ⟨_, (State.act_of_on (by simp [Instr.wf, hq]) hr.1 _).trans (congrArg _ (State.run_congr (hl.trans htags) :
      _ = s.run (fun _ _ => ({ s.blk.linked l with tags := tags }.setQueue q (s.blk.queue q).readOn).emit
        (.delivered q a (itemAt s.blk q).data (itemAt s.blk q).tags)))), ⟨_, State.run_out_mem List.mem_cons_self⟩, ?_⟩
    have hqueue : (({ s.blk.linked l with tags := tags }.setQueue q (s.blk.queue q).readOn).emit
        (.delivered q a (itemAt s.blk q).data (itemAt s.blk q).tags)).queue q = (s.blk.queue q).readOn := Block.queue_setQueue_self ..
    rw [State.run_queue, hqueue, Queue.readOn_ring]
    rfl
  · intro s q hr hq1 hq hcalm hpop hu
    obtain ⟨l, hl⟩ := run_hostPop (n := 1) hr hq hcalm (some (q, 2)) (fun l => queuePop_host hq1 hq hcalm hpop)
    obtain ⟨_, hp, hon, _, hreads, hheld⟩ := Block.linked_calm hcalm (l := l) rfl
    have he := hostPop_empty (n := 1) hq hp hon hreads hheld hu
    refine ⟨_, (State.act_of_on (by simp [Instr.wf, hq]) hr.1 _).trans (congrArg _ hl), ?_⟩
    split
    · next h =>
      have hemit := he.trans (if_pos h)
      refine ⟨State.run_out_mem ?_, ?_⟩
      · rw [hemit]
        exact List.mem_cons_self
      · rw [State.run_queue, hemit]
        exact hreads
    · next h =>
      rw [State.run_queue, he.trans (if_neg h), Block.queue_setQueue_self]
  · intro s q n hr hq1 hq hn hn' hcalm hpop
    obtain ⟨l, hl⟩ := run_hostPop (n := n) hr hq hcalm (some (q, 16 * n / 8)) (fun l => popBurst_host hq1 hq hn hn' hcalm hpop)
    obtain ⟨_, hp, hon, _, hreads, hheld⟩ := Block.linked_calm hcalm (l := l) rfl
    refine ⟨_, (State.act_of_on (by simp [Instr.wf, hq]; omega) hr.1 _).trans (congrArg _ hl), fun hu => ?_, fun hu h => ?_⟩
    · obtain ⟨m, rfl⟩ : ∃ m, n = m + 1 := ⟨n - 1, by omega⟩
      obtain ⟨tags, hone⟩ := qPop_single hp hon hu
      refine ⟨(popMany q (m + 1) (s.blk.linked l)).1, State.run_out_mem ?_, popMany_length .., ?_⟩
      · rw [hostPop_item hq hp hon hreads hheld hu]
        exact List.mem_cons_self
      · simp only [popMany, hone]
        rfl
    · rw [State.run_queue, (hostPop_empty (n := n) hq hp hon hreads hheld hu).trans (if_neg h), Block.queue_setQueue_self]
  · intro s q n rest hon hq hreads hnone hall
    obtain ⟨b, hb⟩ : ∃ b, (s.blk.setQueue (popKey q) { s.blk.queue (popKey q) with hostReads := rest }).emit
        (.popped q (emptyTokens n)) = b := ⟨_, rfl⟩
    have hqueue : b.queue (popKey q) = { s.blk.queue (popKey q) with hostReads := rest } := by
      rw [← hb]
      exact Block.queue_setQueue_self ..
    have hread : qReadable b (popKey q) = none := (qReadable_waits (b := s.blk) (by rw [← hb]; rfl) hqueue).trans hnone
    have heq : hostPopTimeout q s.blk = b := by
      simp only [hostPopTimeout, hreads, hnone, Option.isSome_none, Bool.false_eq_true, if_false, hb]
      exact serveWaiting_reads hread (by rw [hqueue]; exact hall)
    refine ⟨_, State.act_of_on (by simp [Instr.wf, hq]) hon _, ?_, State.run_out_mem ?_, Block.Within.keeps ?_⟩
    · rw [State.run_queue, heq, hqueue]
    · rw [heq, ← hb]
      exact List.mem_cons_self
    · rw [heq, ← hb]
      exact (Block.Within.refl _ _).of_regs rfl rfl

end Sys2Proof.Machine

namespace Sys2Proof.Machine

/-! ### Pushes (R415, R416, R419, R425, R426) -/

/-- The priority with which an agent's item enters. -/
def pushPrio (a : Agent) (prio : Nat) (x : Queue) : Nat := if a.cls = .host then prio else x.hwPrio

/-- What follows once a push has entered, been dropped or been held: at the packet's end those that waited for it enter. -/
def afterPush (key : Nat) (ended : Bool) (b : Block) : Block := if ended then admitHeld key (b.queue key).held.length b else b

/-- A push by the producer's class on a whole ring, with nobody before it on its window. -/
theorem queuePush_enters {b : Block} {a : Agent} {q prio data : Nat} {ended : Bool} (hq : q < 4096) (hprio : prio < 8)
    (hrx : a.cls = .sloeRx → b.isMember = false) (hsane : qBroken b (pushKey a q) = false)
    (h0 : q = 0 → qBroken b 0 = false ∧ qBroken b q0Response = false) (hreads : (b.queue (popKey q)).hostReads = [])
    (hmay : (b.queue (pushKey a q)).mayPush a = true) :
    queuePush a q prio data ended false b = afterPush (pushKey a q) ended
      (pushOrHold (pushKey a q) a (pushPrio a prio (b.queue (pushKey a q))) ended [data] b) := by
  have hlt : ¬ 4096 ≤ q := by omega
  have hmem : (decide (a.cls = .sloeRx) && b.isMember) = false := by
    by_cases h : a.cls = .sloeRx
    · simp [hrx h]
    · simp [h]
  have hlow : (decide (a.cls = .host) && decide (8 ≤ prio)) = false := by
    have : ¬ 8 ≤ prio := by omega
    simp [this]
  have hkey0 : pushKey a q = 0 → q = 0 := by unfold pushKey q0Response; split <;> omega
  have hkeyR : pushKey a q = q0Response → q = 0 := by
    unfold pushKey q0Response
    split
    · next h => exact fun _ => by simpa using (Bool.and_eq_true_iff.1 h).2
    · omega
  have huse := qUse_of_sane hsane (fun h => (h0 (hkey0 h)).2) (fun h => (h0 (hkeyR h)).1)
  simp only [queuePush, hlt, if_false, hmem, Bool.false_eq_true, hlow, hmay, Bool.not_true, huse, hreads, List.isEmpty_nil, Bool.and_false,
    afterPush, pushPrio]

/-- On a ring that is ON, behind no other producer's packet, the item enters at once. -/
theorem pushOrHold_at_once {b : Block} {key prio data : Nat} {a : Agent} {ended : Bool} (hon : b.ringOn key = true)
    (hopen : (b.queue key).open_ = none ∨ (b.queue key).open_ = some a) :
    pushOrHold key a prio ended [data] b = serveWaiting key (qPushItem key a prio data ended b) := by
  have hcond : (!b.ringOn key || ((b.queue key).open_.isSome && (b.queue key).open_ != some a)) = false := by
    rw [hon]
    rcases hopen with h | h <;> simp [h]
  simp only [pushOrHold, pushWith, hcond, Bool.false_eq_true, if_false, pushEach, List.isEmpty_nil, Bool.true_and]

/-- The queue that an item enters, with room for it. -/
def Queue.entered (x : Queue) (a : Agent) (k : Nat) (ended : Bool) : Queue :=
  { x.setRing k { (x.ring k).setW ((x.ring k).w + 1) with lastEnd := bit (if ended then tagEnd else 0) 0 } with
    open_ := if ended then none else some a, prio := k }

/-- An item that finds room: its word and its END tag lie at W, and W moves on. -/
theorem qPushItem_room {b : Block} {key prio data : Nat} {a : Agent} {ended : Bool} {x : Queue} (hx : b.queue key = x)
    (hpend : (x.ring (x.target prio)).pend = 0) (hdrop : x.dropping = false) (hroom : (x.ring (x.target prio)).occ + 2 ≤ x.slots) :
    ∃ y, qPushItem key a prio data ended b =
      (((b.setWord x.bank (x.slot (x.target prio) (x.ring (x.target prio)).w) (BitVec.ofNat 64 data)).setTag x.bank
        (x.slot (x.target prio) (x.ring (x.target prio)).w) (b2n ended)).setQueue key y).setQueue key (x.entered a (x.target prio) ended) := by
  have hflush : qFlush key (x.target prio) b = b := qFlush_of_none (by rw [hx, hpend])
  simp only [qPushItem, hx, hflush, hdrop, Bool.not_false, Bool.true_and, decide_eq_true_eq, if_pos hroom, qWrite, Block.queue_setQueue_self]
  exact ⟨_, rfl⟩

/-- The rings alone of a queue change by a report of drops. -/
theorem qReport_queue (key k n j : Nat) (b : Block) : ∃ rs, (qReport key k n b).queue j = { b.queue j with rings := rs } := by
  have hset : ∀ (c : Block) (r : Ring), c.queues = b.queues →
      ∃ rs, (c.setQueue key ((b.queue key).setRing k r)).queue j = { b.queue j with rings := rs } := fun c r hc => by
    rw [Block.queue_setQueue]
    split
    · next h => exact ⟨_, by rw [h]; rfl⟩
    · exact ⟨(b.queue j).rings, by unfold Block.queue; rw [hc]⟩
  unfold qReport
  dsimp only
  split
  · exact ⟨(b.queue j).rings, rfl⟩
  · split
    · exact hset _ _ rfl
    · exact hset _ _ rfl

theorem qReport_server (key k n : Nat) (b : Block) : (qReport key k n b).server = b.server := by
  unfold qReport
  dsimp only
  split
  · rfl
  · split
    · rfl
    · rfl

theorem countDrop_queue (key j : Nat) (b : Block) : (countDrop key b).queue j =
    if j = keyQueue key then { b.queue (keyQueue key) with gap := true, drops := satTo 32 ((b.queue (keyQueue key)).drops + 1) }
    else b.queue j := Block.queue_setQueue ..

/-- The queue of an item that is dropped: the rest of its packet is dropped too. -/
def Queue.droppedFrom (x : Queue) (a : Agent) (k : Nat) (ended : Bool) : Queue :=
  { x with open_ := if ended then none else some a, prio := k, dropping := !ended }

/-- An item that finds no room is dropped and counted. -/
theorem qPushItem_full {b : Block} {key prio data : Nat} {a : Agent} {ended : Bool} {x : Queue} (hx : b.queue key = x)
    (hpend : (x.ring (x.target prio)).pend = 0) (hfull : x.slots < (x.ring (x.target prio)).occ + 2) :
    qPushItem key a prio data ended b = qReport key (x.target prio) 1 (countDrop key (b.setQueue key
      (x.droppedFrom a (x.target prio) ended))) := by
  have hflush : qFlush key (x.target prio) b = b := qFlush_of_none (by rw [hx, hpend])
  have hno : ¬ (x.ring (x.target prio)).occ + 2 ≤ x.slots := by omega
  simp only [qPushItem, hx, hflush, hno, decide_false, Bool.and_false, Bool.false_eq_true, if_false]
  rfl

/-- Where nobody waits on the queue, nothing more follows an item that entered or was dropped. -/
theorem afterPush_of_calm {key : Nat} {ended : Bool} {c : Block} (hr : (c.queue key).hostReads = []) (hs : (c.queue key).stalled = [])
    (hh : (c.queue key).held = []) : afterPush key ended (serveWaiting key c) = c := by
  rw [serveWaiting_of_none hr hs, afterPush, hh]
  split
  · rfl
  · rfl

/-- What holds of the queues that a push meets, in the block that the window serves. -/
theorem Safety.Takes.linked {s : State} {q key k : Nat} (h : Safety.Takes s q key k) (l : Nat) :
    (s.blk.linked l).ringOn key = true ∧ qBroken (s.blk.linked l) key = false ∧
    (q = 0 → qBroken (s.blk.linked l) 0 = false ∧ qBroken (s.blk.linked l) q0Response = false) ∧
    ((s.blk.linked l).queue (popKey q)).hostReads = [] := ⟨h.1, h.2.1, h.2.2.1, h.2.2.2.1⟩

/-- A push onto a calm ring: the item is accepted or dropped, and nothing more follows. -/
theorem run_queuePush {s : State} {a : Agent} {q prio data : Nat} {ended : Bool} {key k : Nat} {x : Queue} (hkey : key = pushKey a q) (hr : Safety.ReachesQueues s a)
    (hq : q < 4096) (hprio : prio < 8) (hrx : a.cls = .sloeRx → s.blk.isMember = false) (hx : s.blk.queue key = x)
    (htakes : Safety.Takes s q key k) (hmay : x.mayPush a = true) (hopen : x.open_ = none ∨ x.open_ = some a)
    (hcalm : ∀ l, ((qPushItem key a (pushPrio a prio x) data ended (s.blk.linked l)).queue key).hostReads = [] ∧
      ((qPushItem key a (pushPrio a prio x) data ended (s.blk.linked l)).queue key).stalled = [] ∧
      ((qPushItem key a (pushPrio a prio x) data ended (s.blk.linked l)).queue key).held = [] ∧
      (qPushItem key a (pushPrio a prio x) data ended (s.blk.linked l)).server.wait = []) :
    ∃ l, s.run (fun _ b => queueWindow a none (queuePush a q prio data ended false) b) =
      s.run (fun _ _ => qPushItem key a (pushPrio a prio x) data ended (s.blk.linked l)) := by
  subst hkey
  have heq : ∀ l, queuePush a q prio data ended false (s.blk.linked l) =
      qPushItem (pushKey a q) a (pushPrio a prio x) data ended (s.blk.linked l) := fun l => by
    obtain ⟨hon, hsane, h0, hreads⟩ := htakes.linked l
    obtain ⟨h1, h2, h3, _⟩ := hcalm l
    obtain ⟨b, hb⟩ : ∃ b, s.blk.linked l = b := ⟨_, rfl⟩
    have hxb : b.queue (pushKey a q) = x := by rw [← hb]; exact hx
    have hmem : a.cls = .sloeRx → b.isMember = false := fun h => by rw [← hb]; exact hrx h
    rw [hb] at hon hsane h0 hreads h1 h2 h3 ⊢
    rw [queuePush_enters hq hprio hmem hsane h0 hreads (by rw [hxb, hmay]), hxb,
      pushOrHold_at_once hon (by rw [hxb]; exact hopen)]
    exact afterPush_of_calm h1 h2 h3
  obtain ⟨l, hl⟩ := queueWindow_reaches hr none (f := queuePush a q prio data ended false) (fun l => by
    rw [heq]
    exact (hcalm l).2.2.2)
  exact ⟨l, State.run_congr (hl.trans (heq l))⟩

/-! ### Pushes that do not enter (R396, R415, R416, R432) -/

/-- A push that is denied, refused or held: the run ends in the block that `f` leaves. -/
theorem run_queuePush_eq {s : State} {a : Agent} {q prio data : Nat} {ended : Bool} (hr : Safety.ReachesQueues s a) {f : Block → Block}
    (hf : ∀ l, queuePush a q prio data ended false (s.blk.linked l) = f (s.blk.linked l)) (hserver : ∀ l, (f (s.blk.linked l)).server = s.blk.server) :
    ∃ l, s.run (fun _ b => queueWindow a none (queuePush a q prio data ended false) b) = s.run (fun _ _ => f (s.blk.linked l)) := by
  obtain ⟨l, hl⟩ := queueWindow_reaches hr none (f := queuePush a q prio data ended false) (fun l => by
    rw [hf, hserver]
    exact hr.2.1)
  exact ⟨l, State.run_congr (hl.trans (hf l))⟩

theorem queueDenied_shows {b : Block} {q : Nat} (hq : q < 4096) : (queueDenied q b).bget 0x1704 0 = 1 ∧ (queueDenied q b).bget 0x1704 2 = q ∧
    (queueDenied q b).bget 0x1704 1 = satTo 16 (b.bget 0x1704 1 + 1) := by
  simp [queueDenied, Block.bget_bset, Nat.mod_eq_of_lt hq]

theorem pushKey_host {a : Agent} (h : a.cls = .host) (q : Nat) : pushKey a q = q := by simp [pushKey, h]

/-- The host may not push so: the access is denied. -/
theorem queuePush_denied {b : Block} {a : Agent} {q prio data : Nat} {ended : Bool} (ha : a.cls = .host) (hq : q < 4096)
    (h : 8 ≤ prio ∨ (b.queue q).mayPush a = false) : queuePush a q prio data ended false b = queueDenied q b := by
  have hlt : ¬ 4096 ≤ q := by omega
  by_cases hp : 8 ≤ prio
  · simp [queuePush, hlt, ha, hp]
  · have hm : (b.queue q).mayPush a = false := h.resolve_left hp
    simp [queuePush, hlt, ha, hp, pushKey_host ha, hm]

/-- An on-chip agent may not push so: the push is refused. -/
theorem queuePush_refused {b : Block} {a : Agent} {q prio data : Nat} {ended : Bool} (ha : a.cls ≠ .host) (hq : q < 4096)
    (hrx : a.cls = .sloeRx → b.isMember = false) (h : (b.queue (pushKey a q)).mayPush a = false) :
    queuePush a q prio data ended false b = pushRefused q b := by
  have hlt : ¬ 4096 ≤ q := by omega
  by_cases hr : a.cls = .sloeRx
  · simp [queuePush, hlt, hrx hr, ha, h]
  · simp [queuePush, hlt, hr, ha, h]

/-- On a member an item for the master goes on along the tree. -/
theorem queuePush_forwarded {b : Block} {a : Agent} {q prio data : Nat} {ended : Bool} (ha : a.cls = .sloeRx) (hq : q < 4096)
    (hm : b.isMember = true) : queuePush a q prio data ended false b = if b.forwards then relayItem a q data ended b else b := by
  have hlt : ¬ 4096 ≤ q := by omega
  simp [queuePush, hlt, ha, hm]

/-- What relaying changes: the packets under way, and what leaves the module; what has left stays. -/
def Block.Relayed (b c : Block) : Prop := ∃ ch o, c = { b with chain := ch, out := o } ∧ ∀ x ∈ b.out, x ∈ o

theorem Block.Relayed.trans {a b c : Block} (hb : Block.Relayed a b) (hc : Block.Relayed b c) : Block.Relayed a c := by
  obtain ⟨ch, o, rfl, ho⟩ := hb
  obtain ⟨ch', o', rfl, ho'⟩ := hc
  exact ⟨ch', o', rfl, fun x hx => ho' x (ho x hx)⟩

theorem sendUp_relayed (a : Agent) (mq : Nat) (ended : Bool) (ws : List Nat) (b : Block) : Block.Relayed b (sendUp a mq ended ws b) := by
  induction ws generalizing b with
  | nil => exact ⟨b.chain, b.out, rfl, fun _ h => h⟩
  | cons w ws ih => exact Block.Relayed.trans ⟨_, _, rfl, fun _ h => List.mem_cons_of_mem _ h⟩ (ih _)

theorem relayNext_relayed (n : Nat) (b : Block) : Block.Relayed b (relayNext n b) := by
  induction n generalizing b with
  | zero => exact ⟨b.chain, b.out, rfl, fun _ h => h⟩
  | succ n ih =>
    unfold relayNext
    split
    · exact Block.Relayed.trans (Block.Relayed.trans ⟨_, b.out, rfl, fun _ h => h⟩ (sendUp_relayed ..)) (ih _)
    · exact ⟨b.chain, b.out, rfl, fun _ h => h⟩

/-- Behind no other packet the item leaves. -/
theorem relayItem_sends {b : Block} {a : Agent} {mq data : Nat} {ended : Bool} (h : b.chain.relay = none ∨ b.chain.relay = some a) :
    Block.Relayed b (relayItem a mq data ended b) ∧ .forwarded (b.rd 0x2200 9) mq data ended ∈ (relayItem a mq data ended b).out := by
  have hcond : (b.chain.relay.isSome && b.chain.relay != some a) = false := by rcases h with h | h <;> simp [h]
  have hsend := sendUp_relayed a mq ended [data] b
  have hout : .forwarded (b.rd 0x2200 9) mq data ended ∈ (sendUp a mq ended [data] b).out := by
    simp only [sendUp, List.isEmpty_nil, Bool.true_and]
    exact List.mem_cons_self
  simp only [relayItem, hcond, Bool.false_eq_true, if_false]
  split
  · obtain ⟨ch, o, ho, hmem⟩ := relayNext_relayed (sendUp a mq ended [data] b).chain.relayHeld.length (sendUp a mq ended [data] b)
    exact ⟨hsend.trans ⟨ch, o, ho, hmem⟩, by rw [ho]; exact hmem _ hout⟩
  · exact ⟨hsend, hout⟩

theorem relayItem_waits {b : Block} {a : Agent} {mq data : Nat} {ended : Bool} (h : b.chain.relay ≠ none) (ha : b.chain.relay ≠ some a) :
    relayItem a mq data ended b = { b with chain := { b.chain with relayHeld := holdPush a mq [data] ended b.chain.relayHeld } } := by
  have hcond : (b.chain.relay.isSome && b.chain.relay != some a) = true := by
    simp [Option.isSome_iff_ne_none, h, ha]
  simp only [relayItem, hcond, if_true]

/-- A push to a ring whose bank is not ON, or behind another producer's open packet, is held. -/
theorem pushOrHold_held {b : Block} {key prio data : Nat} {a : Agent} {ended : Bool} (hheld : (b.queue key).held = [])
    (h : b.ringOn key = false ∨ (b.queue key).open_ ≠ none ∧ (b.queue key).open_ ≠ some a) :
    pushOrHold key a prio ended [data] b = ringWake key (b.setQueue key
      { b.queue key with held := [{ by_ := a, prio := prio, words := [data], ended := ended }] }) := by
  have hcond : (!b.ringOn key || ((b.queue key).open_.isSome && (b.queue key).open_ != some a)) = true := by
    rcases h with h | ⟨h1, h2⟩
    · simp [h]
    · simp [Option.isSome_iff_ne_none, h1, h2]
  simp only [pushOrHold, pushWith, hcond, if_true, hheld, holdPush]

/-- A ring's wake changes its bank alone. -/
theorem ringWake_shape (key : Nat) (b : Block) : ∃ bs, ringWake key b = { b with banks := bs } := by
  unfold ringWake
  split
  · exact ⟨b.banks, rfl⟩
  · exact wakeBank_shape _ _

/-- A ring that is not ON is still not ON once its bank has begun to wake. -/
theorem ringWake_off {key : Nat} {b : Block} (h : b.ringOn key = false) :
    (ringWake key b).ringOn key = false ∧ ((ringWake key b).bank (b.queue key).bank).waking = true := by
  have hp : ((b.bank (b.queue key).bank).power != 0) = true := by simpa [Block.ringOn] using h
  obtain ⟨bs, hbs⟩ := ringWake_shape key b
  have hqueue : (ringWake key b).queue key = b.queue key := by rw [hbs]; rfl
  have hbank : (ringWake key b).bank (b.queue key).bank = { b.bank (b.queue key).bank with
      want := 0, waking := (b.bank (b.queue key).bank).waking || (b.bank (b.queue key).bank).power != 0 } := by
    rw [ringWake, h, if_neg (by decide), wakeBank_bank, if_pos rfl]
  refine ⟨?_, ?_⟩
  · rw [Block.ringOn, hqueue, hbank]
    simpa using hp
  · rw [hbank, hp, Bool.or_true]

/-- A packet that is held does not enter while its ring is not ON, or behind another's packet. -/
theorem admitHeld_held {c : Block} {key n : Nat} {p : HeldPush} (hheld : (c.queue key).held = [p])
    (h : c.ringOn key = false ∨ (c.queue key).open_ ≠ none ∧ (c.queue key).open_ ≠ some p.by_) : admitHeld key n c = c := by
  cases n with
  | zero => rfl
  | succ n =>
    by_cases hopen : (c.queue key).open_ = none ∨ (c.queue key).open_ = some p.by_
    · have hoff : c.ringOn key = false := h.resolve_right fun ⟨h1, h2⟩ => hopen.elim h1 h2
      have htake : takeHeld (c.queue key).open_ [p] = some (p, []) := by simp [takeHeld, hopen]
      simp only [admitHeld, admitEach, hheld, htake, hoff, Bool.not_false, if_true]
    · have htake : takeHeld (c.queue key).open_ [p] = none := by simp [takeHeld, not_or.1 hopen]
      simp only [admitHeld, admitEach, hheld, htake]

theorem State.run_tag (s : State) (f : List Host.Cell → Block → Block) (k i : Nat) : (s.run f).blk.tag k i = (f s.mem s.blk).tag k i := by
  unfold Block.tag
  rw [State.run_tags]

theorem Block.tag_setQueue (b : Block) (key : Nat) (x : Queue) (k i : Nat) : (b.setQueue key x).tag k i = b.tag k i := rfl
theorem Block.word_setQueue (b : Block) (key : Nat) (x : Queue) (k i : Nat) : (b.setQueue key x).word k i = b.word k i := rfl
theorem Block.word_setTag (b : Block) (k i v j m : Nat) : (b.setTag k i v).word j m = b.word j m := rfl
theorem Block.tag_setTag_self (b : Block) (k i v : Nat) : (b.setTag k i v).tag k i = v := look_place_self ..

/-- Settles O45: where the push enters, and why one that does not is dropped, denied, refused, relayed or held. -/
theorem pushesEnterOrAreDropped : Obligations.PushesEnterOrAreDropped := by
  unfold Obligations.PushesEnterOrAreDropped
  refine ⟨?_, ?_, ?_, ?_, ?_, ?_⟩
  · intro s a q prio data ended key k x hr hq hprio hdata hrx hkey hx hk htakes hmay hopen hdrop hroom
    have hk' : k = x.target (pushPrio a prio x) := hk
    obtain ⟨_, _, _, _, hreads, hstalled, hheld, hpend⟩ := id htakes
    rw [← hx] at hreads hstalled hheld hpend
    have hitem : ∀ l, ∃ y, qPushItem key a (pushPrio a prio x) data ended (s.blk.linked l) =
        ((((s.blk.linked l).setWord x.bank (x.slot k (x.ring k).w) (BitVec.ofNat 64 data)).setTag x.bank (x.slot k (x.ring k).w) (b2n ended)).setQueue
          key y).setQueue key (x.entered a k ended) := fun l => by
      rw [hk'] at hpend hroom ⊢
      exact qPushItem_room hx.symm hpend hdrop hroom
    obtain ⟨l, hl⟩ := run_queuePush (data := data) (ended := ended) hkey hr hq hprio hrx hx.symm htakes hmay hopen (fun l => by
      obtain ⟨y, hy⟩ := hitem l
      rw [hy, Block.queue_setQueue_self]
      exact ⟨hreads, hstalled, hheld, hr.2.1⟩)
    obtain ⟨y, hy⟩ := hitem l
    rw [hy] at hl
    refine ⟨_, (State.act_of_on (by simp [Instr.wf, hq]; omega) hr.1 _).trans (congrArg _ hl), ?_, ?_, ?_, ?_, ?_, fun j hj => ?_⟩
    · rw [State.run_queue, Block.queue_setQueue_self]
      exact congrArg Ring.w (Queue.ring_setRing_self ..)
    · rw [State.run_word, Block.word_setQueue, Block.word_setQueue, Block.word_setTag, Block.word_setWord_self, BitVec.toNat_ofNat,
        Nat.mod_eq_of_lt hdata]
    · rw [State.run_tag, Block.tag_setQueue, Block.tag_setQueue, Block.tag_setTag_self]
    · rw [State.run_queue, Block.queue_setQueue_self]
      rfl
    · rw [State.run_queue, Block.queue_setQueue_self]
      rfl
    · rw [State.run_queue, Block.queue_setQueue_ne _ _ hj, Block.queue_setQueue_ne _ _ hj]
      rfl
  · intro s a q prio data ended key k x hr hq hprio hdata hrx hkey hx hk htakes hmay hopen hfull
    have hk' : k = x.target (pushPrio a prio x) := hk
    obtain ⟨_, _, _, _, hreads, hstalled, hheld, hpend⟩ := id htakes
    rw [← hx] at hreads hstalled hheld hpend
    have hkq : keyQueue key = q := by
      rw [hkey]
      unfold pushKey keyQueue q0Response
      split
      · next h => simpa using (by simpa using h : a.cls = .controlCore ∧ q = 0).2.symm
      · rw [if_neg (by omega)]
    have hitem : ∀ l, qPushItem key a (pushPrio a prio x) data ended (s.blk.linked l) = qReport key k 1
        (countDrop key ((s.blk.linked l).setQueue key (x.droppedFrom a k ended))) := fun l => by
      rw [hk'] at hpend hfull ⊢
      exact qPushItem_full hx.symm hpend hfull
    have hqueue : ∀ l j, ∃ rs, (qPushItem key a (pushPrio a prio x) data ended (s.blk.linked l)).queue j = { (countDrop key
        ((s.blk.linked l).setQueue key (x.droppedFrom a k ended))).queue j
        with rings := rs } := fun l j => by
      rw [hitem]
      exact qReport_queue ..
    obtain ⟨l, hl⟩ := run_queuePush (data := data) (ended := ended) hkey hr hq hprio hrx hx.symm htakes hmay hopen (fun l => by
      obtain ⟨rs, h⟩ := hqueue l key
      rw [h, hitem, qReport_server, countDrop_queue, hkq]
      split
      · next he =>
        subst he
        rw [Block.queue_setQueue_self]
        exact ⟨hreads, hstalled, hheld, hr.2.1⟩
      · rw [Block.queue_setQueue_self]
        exact ⟨hreads, hstalled, hheld, hr.2.1⟩)
    obtain ⟨rs, hself⟩ := hqueue l q
    obtain ⟨rs', hkey⟩ := hqueue l key
    have hdrops : (((s.blk.linked l).setQueue key (x.droppedFrom a k ended)).queue q).drops = (s.blk.queue q).drops := by
      rw [Block.queue_setQueue]
      split
      · next he => rw [he, hx]; rfl
      · rfl
    refine ⟨_, (State.act_of_on (by simp [Instr.wf, hq]; omega) hr.1 _).trans (congrArg _ hl), ?_, ?_, ?_⟩
    · rw [State.run_queue, hself, countDrop_queue, hkq, if_pos rfl]
      dsimp only
      rw [hdrops]
    · rw [State.run_queue, hself, countDrop_queue, hkq, if_pos rfl]
    · rw [State.run_queue, hkey, countDrop_queue, hkq]
      split
      · next he =>
        subst he
        rw [Block.queue_setQueue_self]
        rfl
      · rw [Block.queue_setQueue_self]
        rfl
  · intro s a q prio data ended hr ha hq hdata hno
    obtain ⟨l, hl⟩ := run_queuePush_eq (data := data) (ended := ended) hr (f := queueDenied q)
      (fun l => queuePush_denied ha hq (b := s.blk.linked l) hno) (fun _ => rfl)
    obtain ⟨h0, h2, h1⟩ := queueDenied_shows (b := s.blk.linked l) hq
    refine ⟨_, (State.act_of_on (by simp [Instr.wf, hq]; omega) hr.1 _).trans (congrArg _ hl), ?_, ?_, ?_, ?_, ?_, Block.Within.keeps ?_⟩
    · rw [State.run_bget _ _ (.inl (by decide)), h0]
    · rw [State.run_bget _ _ (.inl (by decide)), h2]
    · rw [State.run_bget _ _ (.inl (by decide)), h1]
      rfl
    · rw [State.run_queues]
      rfl
    · rw [State.run_words]
      rfl
    · exact (Block.Within.refl _ s.blk).of_regs rfl rfl
  · intro s a q prio data ended hr ha hm hq hdata
    have hf : ∀ l, queuePush a q prio data ended false (s.blk.linked l) = if s.blk.forwards then relayItem a q data ended (s.blk.linked l)
        else s.blk.linked l := fun l => queuePush_forwarded (b := s.blk.linked l) ha hq hm
    have hrelay : ∀ l, ∃ ch o, (if s.blk.forwards then relayItem a q data ended (s.blk.linked l) else s.blk.linked l) =
        { s.blk.linked l with chain := ch, out := o } := fun l => by
      split
      · by_cases hopen : s.blk.chain.relay = none ∨ s.blk.chain.relay = some a
        · obtain ⟨⟨ch, o, h, _⟩, _⟩ := relayItem_sends (b := s.blk.linked l) (mq := q) (data := data) (ended := ended) hopen
          exact ⟨ch, o, h⟩
        · exact ⟨_, s.blk.out, relayItem_waits (b := s.blk.linked l) (not_or.1 hopen).1 (not_or.1 hopen).2⟩
      · exact ⟨s.blk.chain, s.blk.out, rfl⟩
    obtain ⟨l, hl⟩ := run_queuePush_eq (data := data) (ended := ended) hr
      (f := fun b => if s.blk.forwards then relayItem a q data ended b else b) hf (fun l => by
        obtain ⟨ch, o, h⟩ := hrelay l
        exact (congrArg Block.server h).trans rfl)
    obtain ⟨ch, o, hs⟩ := hrelay l
    refine ⟨_, (State.act_of_on (by simp [Instr.wf, hq]; omega) hr.1 _).trans (congrArg _ hl), ?_, ?_, fun hno => ?_, fun hfw hopen => ?_,
      fun hfw h1 h2 => ?_, Block.Within.keeps ?_⟩
    · rw [State.run_queues, hs]
      rfl
    · rw [State.run_words, hs]
      rfl
    · rw [State.run_chain, hno]
      rfl
    · refine State.run_out_mem ?_
      rw [hfw, if_pos rfl]
      exact (relayItem_sends (b := s.blk.linked l) hopen).2
    · rw [State.run_chain, hfw, if_pos rfl, relayItem_waits (b := s.blk.linked l) h1 h2]
      rfl
    · rw [hs]
      exact (Block.Within.refl _ s.blk).of_regs rfl rfl
  · intro s a q prio data ended hr ha hq hdata hrx hno
    obtain ⟨l, hl⟩ := run_queuePush_eq (prio := prio) (data := data) (ended := ended) hr (f := pushRefused q)
      (fun l => queuePush_refused ha hq (b := s.blk.linked l) hrx hno) (fun _ => rfl)
    refine ⟨_, (State.act_of_on (by simp [Instr.wf, hq]; omega) hr.1 _).trans (congrArg _ hl), ?_, ?_, ?_, ?_, ?_, Block.Within.keeps ?_⟩
    · rw [State.run_rd_of_ne _ _ _ _ (by decide), pushRefused, Block.rd_wr_of_ne _ _ (by decide), Block.rd_flag_self _ _ _ (by decide)]
    · rw [State.run_rd_of_ne _ _ _ _ (by decide), pushRefused, Block.rd_wr_of_lt _ _ _ (by omega)]
    · rw [State.run_rd_of_ne _ _ _ _ (by decide), pushRefused, Block.rd_wr_of_ne _ _ (by decide), Block.rd_flag_count _ _ _ (by decide)]
      rfl
    · rw [State.run_queues]
      rfl
    · rw [State.run_words]
      rfl
    · exact ((s.blk.linked_within l _).flag _ (by decide) (by decide) rfl rfl).wr _ (by decide) rfl
  · intro s a q prio data ended key x hr hq hprio hdata hrx hkey hx hsane h0 hreads hheld hmay hno
    obtain ⟨y, hy⟩ : ∃ y, { x with held := [{ by_ := a, prio := pushPrio a prio x, words := [data], ended := ended }] } = y := ⟨_, rfl⟩
    have hheldy : y.held = [{ by_ := a, prio := pushPrio a prio x, words := [data], ended := ended }] := by rw [← hy]
    have hopeny : y.open_ = x.open_ := by rw [← hy]
    have hbanky : y.bank = x.bank := by rw [← hy]; rfl
    have hpush : ∀ l, pushOrHold key a (pushPrio a prio x) ended [data] (s.blk.linked l) = ringWake key ((s.blk.linked l).setQueue key y) :=
      fun l => by
        have hxl : (s.blk.linked l).queue key = x := hx.symm
        rw [pushOrHold_held (b := s.blk.linked l) (by rw [hxl, hheld]) (by rw [hxl]; exact hno), hxl, hy]
    have hringOn : ∀ l, ((s.blk.linked l).setQueue key y).ringOn key = s.blk.ringOn key := fun l => by
      rw [Block.ringOn, Block.queue_setQueue_self, hbanky, hx]
      rfl
    have hqueue : ∀ l j, (ringWake key ((s.blk.linked l).setQueue key y)).queue j = if j = key then y else s.blk.queue j := fun l j => by
      obtain ⟨bs, hbs⟩ := ringWake_shape key ((s.blk.linked l).setQueue key y)
      rw [hbs]
      exact Block.queue_setQueue ..
    have heq : ∀ l, queuePush a q prio data ended false (s.blk.linked l) = ringWake key ((s.blk.linked l).setQueue key y) := fun l => by
      have hsane' : qBroken (s.blk.linked l) (pushKey a q) = false := by rw [← hkey]; exact hsane
      have hmay' : ((s.blk.linked l).queue (pushKey a q)).mayPush a = true := by rw [← hkey, Block.linked_queue, ← hx, hmay]
      rw [queuePush_enters (b := s.blk.linked l) hq hprio hrx hsane' h0 hreads hmay', ← hkey, Block.linked_queue, ← hx, hpush, afterPush]
      split
      · have hself := (hqueue l key).trans (if_pos rfl)
        refine admitHeld_held (by rw [hself, hheldy]) ?_
        rw [hself, hopeny]
        rcases hno with hoff | hbusy
        · exact .inl (ringWake_off (by rw [hringOn, hoff])).1
        · exact .inr hbusy
      · rfl
    obtain ⟨l, hl⟩ := run_queuePush_eq (prio := prio) (data := data) (ended := ended) hr (f := fun b => ringWake key (b.setQueue key y)) heq
      (fun l => by
        obtain ⟨bs, hbs⟩ := ringWake_shape key ((s.blk.linked l).setQueue key y)
        rw [hbs]
        rfl)
    obtain ⟨bs, hbs⟩ := ringWake_shape key ((s.blk.linked l).setQueue key y)
    refine ⟨_, (State.act_of_on (by simp [Instr.wf, hq]; omega) hr.1 _).trans (congrArg _ hl), ?_, fun j hj => ?_, ?_, fun hoff => ?_,
      Block.Within.keeps ?_⟩
    · rw [State.run_queue, hqueue, if_pos rfl, ← hy]
      rfl
    · rw [State.run_queue, hqueue, if_neg hj]
    · rw [State.run_words, hbs]
      rfl
    · have h := (ringWake_off (key := key) (b := (s.blk.linked l).setQueue key y) (by rw [hringOn, hoff])).2
      rw [Block.queue_setQueue_self, hbanky] at h
      rw [State.run_bank, h]
    · rw [hbs]
      exact (Block.Within.refl _ s.blk).of_regs rfl rfl

end Sys2Proof.Machine

/-! # The PCI Express function: windows and Precision Time Measurement (R445, R446, R458) -/

namespace Sys2Proof.Machine

/-! ### What the evaluation of error register and alert leaves of the function's state -/

theorem State.run_win (s : State) (f : List Host.Cell → Block → Block) (k : Nat) : (s.run f).blk.win k = (f s.mem s.blk).win k :=
  monitor_keeps (Block.win · k) (by intros; rfl) _

theorem State.run_wins (s : State) (f : List Host.Cell → Block → Block) : (s.run f).blk.pcie.wins = (f s.mem s.blk).pcie.wins :=
  monitor_keeps (fun b : Block => b.pcie.wins) (by intros; rfl) _

theorem State.run_drain (s : State) (f : List Host.Cell → Block → Block) : (s.run f).blk.pcie.drain = (f s.mem s.blk).pcie.drain :=
  monitor_keeps (fun b : Block => b.pcie.drain) (by intros; rfl) _

theorem State.run_ptm (s : State) (f : List Host.Cell → Block → Block) : (s.run f).blk.pcie.ptm = (f s.mem s.blk).pcie.ptm :=
  monitor_keeps (fun b : Block => b.pcie.ptm) (by intros; rfl) _

theorem State.run_ptmWant (s : State) (f : List Host.Cell → Block → Block) : (s.run f).blk.pcie.ptmWant = (f s.mem s.blk).pcie.ptmWant :=
  monitor_keeps (fun b : Block => b.pcie.ptmWant) (by intros; rfl) _

/-! ### Windows -/

theorem Block.win_eq (k : Nat) (b : Block) :
    b.win k = ((b.pcie.wins.find? (fun x => x.1 == k)).map Prod.snd).getD (winDefault b k, winDefault b k) := by
  unfold Block.win
  cases b.pcie.wins.find? (fun x => x.1 == k) <;> rfl

theorem find?_upsert {α : Type} (xs : List (Nat × α)) (w k : Nat) (v : α) :
    (upsert xs w v).find? (fun x => x.1 == k) = if k = w then some (w, v) else xs.find? (fun x => x.1 == k) := by
  unfold upsert
  by_cases hk : k = w
  · simp [hk]
  · have hwk : (w == k) = false := by simp [Ne.symm hk]
    simp only [List.find?_cons, hwk, if_neg hk, List.find?_filter]
    congr 1
    funext x
    by_cases hx : x.1 = k
    · simp [hx, hk]
    · simp [hx]

theorem win_setWin (w base staged k : Nat) (b : Block) :
    (setWin w base staged b).win k = if k = w then (base, staged) else b.win k := by
  have hwins : (setWin w base staged b).pcie.wins = upsert b.pcie.wins w (base, staged) := rfl
  have hdef : winDefault (setWin w base staged b) k = winDefault b k := rfl
  rw [Block.win_eq, hwins, hdef, find?_upsert]
  split
  · rfl
  · exact (Block.win_eq k b).symm

theorem setWin_within (R : Nat → Nat → Bool) (w base staged : Nat) (b : Block) : Block.Within R b (setWin w base staged b) :=
  (Block.Within.refl R b).of_regs rfl rfl

/-- The windows of a list take their staged bases. -/
def commitWins (ws : List Nat) (b : Block) : Block := forEach ws (fun w b => setWin w (b.win w).2 (b.win w).2 b) b

theorem win_commitWins (ws : List Nat) (k : Nat) (b : Block) :
    (commitWins ws b).win k = (if k ∈ ws then (b.win k).2 else (b.win k).1, (b.win k).2) := by
  induction ws generalizing b with
  | nil => rfl
  | cons w ws ih =>
    rw [show commitWins (w :: ws) b = commitWins ws (setWin w (b.win w).2 (b.win w).2 b) from rfl, ih, win_setWin]
    by_cases hk : k = w
    · subst hk
      simp
    · simp [hk]

theorem commitWins_within (R : Nat → Nat → Bool) (ws : List Nat) (b : Block) : Block.Within R b (commitWins ws b) := by
  induction ws generalizing b with
  | nil => exact .refl R b
  | cons w ws ih => exact (setWin_within R w _ _ b).trans (ih _)

/-! ### Registers -/

/-- The staged base of a window (R470). -/
theorem regWrite_staged {w v : Nat} (hw : w < 8) (mem : List Host.Cell) (b : Block) : regWrite mem (0x1820 + 4 * w) v b =
    whenOk (stagedStatus b (bits v 0 15)) (setWin w (b.win w).1 (bits v 0 15)) b := by
  obtain rfl | rfl | rfl | rfl | rfl | rfl | rfl | rfl : w = 0 ∨ w = 1 ∨ w = 2 ∨ w = 3 ∨ w = 4 ∨ w = 5 ∨ w = 6 ∨ w = 7 := by omega
  all_goals rfl

theorem regWrite_winCommit (mem : List Host.Cell) (v : Nat) (b : Block) : regWrite mem 0x1818 v b = (stOK, winCommit (bits v 0 8) b) := rfl

theorem bits_all {w n : Nat} (h : w < 2 ^ n) : bits w 0 n = w := by rw [bits, Nat.pow_zero, Nat.div_one, Nat.mod_eq_of_lt h]

/-! ### Precision Time Measurement -/

/-- A dialog of a function that may hold one begins, and the time of its first message is noted. -/
theorem ptmStart_idle {off : Nat} {b : Block} (hup : b.barUp = true) (hen : b.pcie.cfg.ptm = true) (hidle : b.pcie.ptm = false) :
    ptmStart off b = linkUse { b.bset 0x1848 6 (stampAdd b.tsNow (min off 2047)) with pcie := { b.pcie with ptm := true } } := by
  simp [ptmStart, hup, hen, hidle]

/-- While one runs the next waits. -/
theorem ptmStart_busy {off : Nat} {b : Block} (hup : b.barUp = true) (hen : b.pcie.cfg.ptm = true) (hrun : b.pcie.ptm = true) :
    ptmStart off b = { b with pcie := { b.pcie with ptmWant := b.pcie.ptmWant + 1 } } := by
  simp [ptmStart, hup, hen, hrun]

theorem ptmStart_ptm {off : Nat} {b : Block} (hidle : b.pcie.ptm = false) :
    (ptmStart off b).pcie.ptm = (b.barUp && b.pcie.cfg.ptm) := by
  cases hup : b.barUp with
  | false => simp [ptmStart, hup, hidle]
  | true =>
    cases hen : b.pcie.cfg.ptm with
    | false => simp [ptmStart, hen, hidle]
    | true =>
      obtain ⟨l, hl⟩ := linkUse_shape { b.bset 0x1848 6 (stampAdd b.tsNow (min off 2047)) with pcie := { b.pcie with ptm := true } }
      rw [ptmStart_idle hup hen hidle, hl]
      rfl

theorem ptmStart_ptmWant {off : Nat} {b : Block} (hidle : b.pcie.ptm = false) : (ptmStart off b).pcie.ptmWant = b.pcie.ptmWant := by
  unfold ptmStart
  split
  · rfl
  · rw [if_neg (by simp [hidle])]
    obtain ⟨l, hl⟩ := linkUse_shape { b.bset 0x1848 6 (stampAdd b.tsNow (min off 2047)) with pcie := { b.pcie with ptm := true } }
    rw [hl]

theorem ptmStart_bget {off o k : Nat} (h : o * 8 + k ≠ 0x1848 * 8 + 6) (b : Block) : (ptmStart off b).bget o k = b.bget o k := by
  unfold ptmStart
  split
  · rfl
  · split
    · rfl
    · rw [Block.bget_of_bar (linkUse_bar _)]
      exact (Block.bget_bset ..).trans (if_neg h)

theorem ptmStart_within (R : Nat → Nat → Bool) (off : Nat) (b : Block) : Block.Within R b (ptmStart off b) := by
  unfold ptmStart
  split
  · exact .refl R b
  · split
    · exact (Block.Within.refl R b).of_regs rfl rfl
    · obtain ⟨l, hl⟩ := linkUse_shape { b.bset 0x1848 6 (stampAdd b.tsNow (min off 2047)) with pcie := { b.pcie with ptm := true } }
      exact (Block.Within.refl R b).of_regs (by rw [hl]; rfl) (by rw [hl]; rfl)

theorem ptmAnywhere_within (R : Nat → Nat → Bool) (b : Block) : Block.Within R b (ptmAnywhere ptmStart b) :=
  (show Block.Within R b b.fresh.2 from (Block.Within.refl R b).of_regs rfl rfl).trans (ptmStart_within R _ _)

/-- A request of a module that serves is carried out at once. -/
theorem ptmCommand_of_serving {s : State} (hs : Safety.Serving s) (asked : Bool) (off : Nat) :
    ptmCommand asked off s.blk = ptmRequest asked off s.blk := by
  obtain ⟨_, hready, hps, hentry, _⟩ := hs
  have hwake : barWake 0x1840 0 s.blk = s.blk := by simp [barWake, awake, hps, hentry]
  have hawake : s.blk.asleepInHold = false := by simp [Block.asleepInHold, hps]
  simp [ptmCommand, Block.ready, hready, hwake, hawake]

/-- With AUTO written, the interval is the one written. -/
theorem ptmDue_of_auto {b : Block} (hauto : bit (b.bget 0x1840 0) 7 = true)
    (hend : b.time.frame.toNat % 2 ^ bits (b.bget 0x1840 0) 0 5 = 0) (honce : b.pcie.ptmAt ≠ some b.time.abs) : ptmDue b = true := by
  have hne : b.bget 0x1840 0 ≠ 0 := fun h => by simp [h, bit] at hauto
  simp [ptmDue, ptmCtrl, hne, hauto, hend, honce]

/-- What a dialog that begins at `off` SSU into the frame leaves. -/
theorem run_ptmStart {s : State} {off : Nat} {b : Block} (hoff : off < 2048) (hregs : b.regs = s.blk.regs) (hmops : b.mops = s.blk.mops)
    (htime : b.time = s.blk.time) (hup : b.barUp = true) (hen : b.pcie.cfg.ptm = true) (hidle : b.pcie.ptm = false) :
    (s.run fun _ _ => ptmStart off b).blk.pcie.ptm = true ∧
      (s.run fun _ _ => ptmStart off b).blk.bget 0x1848 6 = stampAdd s.blk.tsNow off ∧
      Safety.Keeps (fun _ _ => false) s (s.run fun _ _ => ptmStart off b) := by
  refine ⟨?_, ?_, Block.Within.keeps (((Block.Within.refl _ s.blk).of_regs hregs hmops).trans (ptmStart_within _ _ _))⟩
  · rw [State.run_ptm, ptmStart_ptm hidle, hup, hen]
    rfl
  · have hnow : b.tsNow = s.blk.tsNow := by simp only [Block.tsNow, htime]
    rw [State.run_bget _ _ (.inl (by decide)), ptmStart_idle hup hen hidle, Block.bget_of_bar (linkUse_bar _), hnow, show min (off : Int) 2047 = off by omega]
    exact Block.bget_bset_self ..

/-- The pair of a dialog that ended, with its count (R458). -/
def ptmPair (th : Nat) (b : Block) : Block :=
  ((({ b with pcie := { b.pcie with ptm := false } } : Block).bset 0x1848 0 (b.bget 0x1848 6)).bset 0x1848 1 (th % 2 ^ 64)).bset 0x1848 2
    ((b.bget 0x1848 2 + 1) % 2 ^ 32)

theorem ptmComplete_eq {th : Nat} {b : Block} (h : b.pcie.ptm = true) : ptmComplete th b =
    if b.pcie.ptmWant = 0 then ptmPair th b
    else ptmAnywhere ptmStart { ptmPair th b with pcie := { (ptmPair th b).pcie with ptmWant := b.pcie.ptmWant - 1 } } := by
  simp only [ptmComplete, h]
  rfl

theorem bget_ptmPair {th : Nat} (hth : th < 2 ^ 64) (b : Block) : (ptmPair th b).bget 0x1848 0 = b.bget 0x1848 6 ∧
    (ptmPair th b).bget 0x1848 1 = th ∧ (ptmPair th b).bget 0x1848 2 = (b.bget 0x1848 2 + 1) % 2 ^ 32 := by
  refine ⟨?_, ?_, ?_⟩
  · simp [ptmPair, Block.bget_bset]
  · rw [ptmPair, Block.bget_bset, if_neg (by decide), Block.bget_bset_self, Nat.mod_eq_of_lt hth]
  · rw [ptmPair, Block.bget_bset_self]

/-- Settles O50: the windows and the dialogs are fields of their own, and nothing else of the command touches them. -/
theorem windowsAndTimeMeasurement : Obligations.WindowsAndTimeMeasurement := by
  unfold Obligations.WindowsAndTimeMeasurement
  refine ⟨?_, ?_, ?_, ?_, ?_, ?_, ?_⟩
  · intro s w v hs hup hw hv hinst
    have hbits : bits (v % 2 ^ 32) 0 15 = v := by rw [Nat.mod_eq_of_lt (by omega), bits_all hv]
    have hst : stagedStatus s.blk v = stOK := by
      unfold stagedStatus
      rw [if_neg (by omega)]
    have hput : barPut s.mem (0x1820 + 4 * w) v s.blk = setWin w (s.blk.win w).1 v s.blk :=
      barPut_of_regWrite hs hup (by omega) (by omega) (by rw [regWrite_staged hw, hbits, hst]; rfl)
    have hwin : ∀ k, (s.run (fun mem b => barPut mem (0x1820 + 4 * w) v b)).blk.win k = if k = w then ((s.blk.win w).1, v) else s.blk.win k :=
      fun k => by rw [State.run_win, hput, win_setWin]
    refine ⟨_, State.act_of_on (by simp [Instr.wf, hw]) hs.1 _, (hwin w).trans (if_pos rfl), fun k hk => (hwin k).trans (if_neg hk), ?_⟩
    exact Block.Within.keeps (by rw [hput]; exact setWin_within _ _ _ _ _)
  · intro s mask hs hup hm hdrain
    have hput : barPut s.mem 0x1818 mask s.blk =
        { (commitWins (setBits 8 mask) s.blk).bset 0x181C 0 stOK with
          pcie := { (commitWins (setBits 8 mask) s.blk).pcie with drain := true } } :=
      barPut_of_regWrite hs hup (by decide) (by decide) (by
        rw [Nat.mod_eq_of_lt (by omega), regWrite_winCommit, bits_all hm, winCommit, hdrain]
        rfl)
    refine ⟨_, State.act_of_on rfl hs.1 _, ?_, ?_, fun w hw => ?_, Block.Within.keeps ?_⟩
    · rw [State.run_bget _ _ (.inl (by decide)), hput]
      exact (Block.bget_of_bar (b := (commitWins (setBits 8 mask) s.blk).bset 0x181C 0 stOK) rfl _ _).trans (Block.bget_bset_self ..)
    · rw [State.run_drain, hput]
    · have hmem : w ∈ setBits 8 mask ↔ bit mask w = true := by simp [setBits, hw]
      rw [State.run_win, hput]
      refine (win_commitWins (setBits 8 mask) w s.blk).trans ?_
      simp only [hmem]
    · rw [hput]
      exact (commitWins_within _ _ _).of_regs rfl rfl
  · intro s mask hs hup hm hdrain
    have hput : barPut s.mem 0x1818 mask s.blk = s.blk.bset 0x181C 0 stBUSY :=
      barPut_of_regWrite hs hup (by decide) (by decide) (by
        rw [Nat.mod_eq_of_lt (by omega), regWrite_winCommit, winCommit, hdrain]
        rfl)
    refine ⟨_, State.act_of_on rfl hs.1 _, ?_, ?_, Block.Within.keeps ?_⟩
    · rw [State.run_bget _ _ (.inl (by decide)), hput, Block.bget_bset_self]
    · rw [State.run_wins, hput]
      rfl
    · rw [hput]
      exact (Block.Within.refl _ _).of_regs rfl rfl
  · intro s hon
    refine ⟨_, State.act_of_on rfl hon _, ?_, ?_, Block.Within.keeps ((Block.Within.refl _ _).of_regs rfl rfl)⟩
    · rw [State.run_drain]
      rfl
    · rw [State.run_wins]
      rfl
  · intro s asked off hs hup hoff hen hidle hask
    have hcmd := ptmCommand_of_serving hs asked off
    cases asked with
    | true =>
      exact ⟨_, (State.act_of_on (by simp [Instr.wf, hoff]) hs.1 _).trans (congrArg _ (State.run_congr hcmd)),
        run_ptmStart hoff rfl rfl rfl hup hen hidle⟩
    | false =>
      obtain ⟨hauto, hend, honce⟩ := hask.resolve_left (by decide)
      obtain ⟨c, hc⟩ : ∃ c : Block, c = { s.blk with pcie := { s.blk.pcie with ptmAt := some s.blk.time.abs } } := ⟨_, rfl⟩
      have hdue : ptmRequest false off s.blk = ptmStart off c := by
        rw [hc, ptmRequest, ptmDue_of_auto hauto hend honce]
        rfl
      exact ⟨_, (State.act_of_on (by simp [Instr.wf, hoff]) hs.1 _).trans
        (congrArg _ (State.run_congr (g := fun _ _ => ptmStart off c) (hcmd.trans hdue))),
        run_ptmStart hoff (by rw [hc]) (by rw [hc]) (by rw [hc]) (by rw [hc]; exact hup) (by rw [hc]; exact hen) (by rw [hc]; exact hidle)⟩
  · intro s off hs hup hoff hen hrun
    have hcmd : ptmCommand true off s.blk = { s.blk with pcie := { s.blk.pcie with ptmWant := s.blk.pcie.ptmWant + 1 } } :=
      (ptmCommand_of_serving hs true off).trans (ptmStart_busy hup hen hrun)
    refine ⟨_, State.act_of_on (by simp [Instr.wf, hoff]) hs.1 _, ?_, ?_, ?_, Block.Within.keeps ?_⟩
    · rw [State.run_ptm, hcmd]
      exact hrun
    · rw [State.run_ptmWant, hcmd]
    · rw [State.run_bget _ _ (.inl (by decide)), hcmd]
      rfl
    · rw [hcmd]
      exact (Block.Within.refl _ _).of_regs rfl rfl
  · intro s th hon hth hrun
    obtain ⟨h0, h1, h2⟩ := bget_ptmPair hth s.blk
    have hpair : Block.Within (fun _ _ => false) s.blk (ptmPair th s.blk) := (Block.Within.refl _ _).of_regs rfl rfl
    have hdone := ptmComplete_eq (th := th) hrun
    by_cases hwant : s.blk.pcie.ptmWant = 0
    · rw [if_pos hwant] at hdone
      refine ⟨_, State.act_of_on (by simpa [Instr.wf] using hth) hon _, ?_, ?_, ?_, ?_, ?_, Block.Within.keeps ?_⟩
      · rw [State.run_ptm, hdone]
        exact ⟨fun h => absurd h (by simp [ptmPair]), fun h => absurd hwant h.1⟩
      · rw [State.run_ptmWant, hdone, hwant]
        exact hwant
      · rw [State.run_bget _ _ (.inl (by decide)), hdone, h0]
      · rw [State.run_bget _ _ (.inl (by decide)), hdone, h1]
      · rw [State.run_bget _ _ (.inl (by decide)), hdone, h2]
      · rw [hdone]
        exact hpair
    · rw [if_neg hwant] at hdone
      obtain ⟨c, hc⟩ : ∃ c, c = ({ ptmPair th s.blk with pcie := { (ptmPair th s.blk).pcie with ptmWant := s.blk.pcie.ptmWant - 1 } } : Block).fresh := ⟨_, rfl⟩
      replace hdone : ptmComplete th s.blk = ptmStart (c.1.toNat % 2048) c.2 := by rw [hdone, ptmAnywhere, hc]
      have hidle : c.2.pcie.ptm = false := by rw [hc]; rfl
      have hwants : c.2.pcie.ptmWant = s.blk.pcie.ptmWant - 1 := by rw [hc]; rfl
      have hup : (c.2.barUp && c.2.pcie.cfg.ptm) = (s.blk.barUp && s.blk.pcie.cfg.ptm) := by rw [hc]; rfl
      have hget : ∀ k, c.2.bget 0x1848 k = (ptmPair th s.blk).bget 0x1848 k := fun k => by rw [hc]; rfl
      have hkeep : Block.Within (fun _ _ => false) (ptmPair th s.blk) c.2 := (Block.Within.refl _ _).of_regs (by rw [hc]; rfl) (by rw [hc]; rfl)
      refine ⟨_, State.act_of_on (by simpa [Instr.wf] using hth) hon _, ?_, ?_, ?_, ?_, ?_, Block.Within.keeps ?_⟩
      · rw [State.run_ptm, hdone, ptmStart_ptm hidle, hup]
        simp [hwant]
      · rw [State.run_ptmWant, hdone, ptmStart_ptmWant hidle, hwants]
      · rw [State.run_bget _ _ (.inl (by decide)), hdone, ptmStart_bget (by decide), hget, h0]
      · rw [State.run_bget _ _ (.inl (by decide)), hdone, ptmStart_bget (by decide), hget, h1]
      · rw [State.run_bget _ _ (.inl (by decide)), hdone, ptmStart_bget (by decide), hget, h2]
      · rw [hdone]
        exact hpair.trans (hkeep.trans (ptmStart_within _ _ _))

end Sys2Proof.Machine

/-! # The DMA channels: enable, abort and tail (R442, R447, R459, R460, R471) -/

namespace Sys2Proof.Machine

/-! ### What serving descriptors leaves alone -/

/-- A channel without the progress of the descriptor in service. -/
def Dma.atRest (x : Dma) : Dma := { x with cur := none, asked := 0, got := [], sent := 0, dry := false }

/-- Channels have gone on serving, and nothing else of them has changed, no register and no octet of the store. -/
structure Block.Serves (b c : Block) : Prop where
  regs : c.regs = b.regs
  mops : c.mops = b.mops
  chan : ∀ k, (c.chan k).atRest = (b.chan k).atRest

namespace Block.Serves

variable {a b c : Block}

theorem refl (b : Block) : b.Serves b := ⟨rfl, rfl, fun _ => rfl⟩

theorem trans (h : a.Serves b) (g : b.Serves c) : a.Serves c :=
  ⟨g.regs.trans h.regs, g.mops.trans h.mops, fun k => (g.chan k).trans (h.chan k)⟩

theorem forEach {α : Type} {xs : List α} {f : α → Block → Block} (h : ∀ x b, Block.Serves b (f x b)) (b : Block) : b.Serves (forEach xs f b) :=
  List.foldlRecOn xs (fun b x => f x b) (motive := fun c => b.Serves c) (refl b) (fun c hc x _ => hc.trans (h x c))

theorem within (h : b.Serves c) (R : Nat → Nat → Bool) : Block.Within R b c := (Block.Within.refl R b).of_regs h.regs h.mops

variable (h : b.Serves c) (k : Nat)
include h

theorem ctrl : (c.chan k).ctrl = (b.chan k).ctrl := (congrArg Dma.ctrl (h.chan k) :)
theorem enabled : (c.chan k).enabled = (b.chan k).enabled := congrArg (bit · 31) (h.ctrl k)
theorem ring : (c.chan k).ring = (b.chan k).ring := (congrArg Dma.ring (h.chan k) :)
theorem tail : (c.chan k).tail = (b.chan k).tail := (congrArg Dma.tail (h.chan k) :)
theorem head : (c.chan k).head = (b.chan k).head := (congrArg Dma.head (h.chan k) :)
theorem aborted : (c.chan k).aborted = (b.chan k).aborted := (congrArg Dma.aborted (h.chan k) :)
theorem st : (c.chan k).st = (b.chan k).st := (congrArg Dma.st (h.chan k) :)
theorem cause : (c.chan k).cause = (b.chan k).cause := (congrArg Dma.cause (h.chan k) :)
theorem fetched : (c.chan k).fetched = (b.chan k).fetched := (congrArg Dma.fetched (h.chan k) :)
theorem early : (c.chan k).early = (b.chan k).early := (congrArg Dma.early (h.chan k) :)

end Block.Serves

/-- A channel takes up the progress of a descriptor. -/
theorem setChan_serves {c : Nat} {x : Dma} {b : Block} (h : x.atRest = (b.chan c).atRest) : b.Serves (b.setChan c x) :=
  ⟨rfl, rfl, fun k => by
    rw [Block.chan_setChan]
    split
    · next hk => rw [hk, h]
    · rfl⟩

theorem wakeBank_serves (k : Nat) (b : Block) : b.Serves (wakeBank k b) := by
  obtain ⟨bs, h⟩ := wakeBank_shape k b
  rw [h]
  exact ⟨rfl, rfl, fun _ => rfl⟩

theorem beginService_serves (c : Nat) (b : Block) : b.Serves (beginService c b) := by
  unfold beginService
  dsimp only
  split
  · split
    · have hset : b.Serves (b.setChan c { b.chan c with
          cur := some (descStatus b c ‹_›), asked := 0, got := [], sent := 0, dry := false }) := setChan_serves rfl
      split
      · exact hset.trans (wakeBank_serves _ _)
      · exact hset
    · exact .refl b
  · exact .refl b

theorem issueRead_serves (c : Nat) (fetch : Bool) (pos addr len : Nat) (b : Block) : b.Serves (issueRead c fetch pos addr len b) :=
  ⟨rfl, rfl, fun _ => rfl⟩

theorem takeTurn_serves (c : Nat) (q : Bool × Nat × Nat × Nat) (b : Block) : b.Serves (takeTurn c q b) := by
  obtain ⟨fetch, pos, addr, len⟩ := q
  have hturn : ∀ x : Block, x.Serves { x with pcie := { x.pcie with turn := (c + 1) % 32 } } := fun _ => ⟨rfl, rfl, fun _ => rfl⟩
  cases fetch with
  | true => exact (hturn b).trans (issueRead_serves ..)
  | false =>
    exact ((setChan_serves (c := c) (x := { b.chan c with asked := (b.chan c).asked + len }) rfl).trans (hturn _)).trans (issueRead_serves ..)

theorem turns_serves (n : Nat) (b : Block) : b.Serves (turns n b) := by
  induction n generalizing b with
  | zero => exact .refl b
  | succ n ih =>
    unfold turns
    split
    · exact .refl b
    · exact (takeTurn_serves ..).trans (ih _)

theorem pumpAll_serves (b : Block) : b.Serves (pumpAll b) := (Block.Serves.forEach beginService_serves b).trans (turns_serves 1024 _)

theorem linked_serves (b : Block) (l : Nat) : b.Serves (b.linked l) := ⟨rfl, rfl, fun _ => rfl⟩

theorem hostPut_serves (addr : Nat) (data : List Byte) (b : Block) : b.Serves (hostPut addr data [] b) :=
  .trans (b := forEach (payloads b.pcie.cfg.maxPayload (data.length + 1) addr data) (fun q b => b.emit (.hostWrite q.1 q.2 false)) b)
    (.forEach (fun (q : Nat × List Byte) (c : Block) => (⟨rfl, rfl, fun _ => rfl⟩ : c.Serves (c.emit (.hostWrite q.1 q.2 false)))) b) (linked_serves _ 0)

theorem statusWrite_serves (c : Nat) (b : Block) : b.Serves (statusWrite c b) := by
  unfold statusWrite
  dsimp only
  split
  · exact .refl b
  · exact hostPut_serves ..

theorem reportLatency_serves (b : Block) : b.Serves (reportLatency b) := by
  unfold reportLatency
  split
  · obtain ⟨l, h⟩ := linkUse_shape (b.emit (.latency (if b.channelsOn = 0 then 20 else 1)))
    rw [h]
    exact ⟨rfl, rfl, fun _ => rfl⟩
  · exact .refl b

theorem writeCtrl_serves (c w : Nat) (b : Block) : (setCtrl c w b).Serves (writeCtrl c w b) := by
  unfold writeCtrl
  dsimp only
  split
  · exact .refl _
  · exact reportLatency_serves _

/-- The evaluation of error register and alert changes no channel. -/
theorem State.run_chan (s : State) (f : List Host.Cell → Block → Block) (k : Nat) : (s.run f).blk.chan k = (f s.mem s.blk).chan k :=
  monitor_keeps (Block.chan · k) (by intros; rfl) _

/-! ### A channel that stops -/

/-- What is left of a channel that stops (R454, R459). -/
def Dma.stopped (x : Dma) (st cause : Nat) : Dma := { x.atRest with st := st, cause := cause, fetched := [], early := [] }

theorem stopChan_chan (c st cause k : Nat) (b : Block) :
    (stopChan c st cause b).chan k = if k = c then (b.chan c).stopped st cause else b.chan k := by
  unfold stopChan
  dsimp only
  rw [Block.chan_setChan]
  split
  · rfl
  · split <;> rfl

theorem stopChan_within (R : Nat → Nat → Bool) (c st cause : Nat) (b : Block) : Block.Within R b (stopChan c st cause b) := by
  unfold stopChan
  dsimp only
  split
  · exact (Block.Within.refl R b).of_regs rfl rfl
  · exact (Block.Within.refl R b).of_regs rfl rfl

theorem setChan_within (R : Nat → Nat → Bool) (c : Nat) (x : Dma) (b : Block) : Block.Within R b (b.setChan c x) :=
  (Block.Within.refl R b).of_regs rfl rfl

/-- A RUNNING channel that halts counts what it gives up (R459). -/
theorem haltChan_chan {c : Nat} {b : Block} (hrun : (b.chan c).st = 1) (cause : Nat) : (haltChan cause c b).chan c =
    { (b.chan c).stopped 2 cause with aborted := satTo 32 ((b.chan c).aborted + (b.chan c).fetched.length + (b.chan c).early.length) } := by
  unfold haltChan
  dsimp only
  rw [if_neg (by simp [hrun]), stopChan_chan, if_pos rfl, Block.chan_setChan_self]
  rfl

theorem haltChan_within (R : Nat → Nat → Bool) (cause c : Nat) (b : Block) : Block.Within R b (haltChan cause c b) := by
  unfold haltChan
  dsimp only
  split
  · exact .refl R b
  · exact (setChan_within R _ _ _).trans (stopChan_within R _ _ _ _)

/-- An abort reports what had been fetched, and halts the channel. -/
theorem abortChan_eq {c : Nat} {b : Block} (hrun : (b.chan c).st = 1) : ∃ r, b.Serves r ∧ abortChan c b = haltChan 1 c r := by
  unfold abortChan
  dsimp only
  rw [if_neg (by simp [hrun])]
  split
  · exact ⟨b, .refl b, rfl⟩
  · exact ⟨_, (Block.Serves.forEach (fun _ _ => hostPut_serves ..) b).trans (statusWrite_serves ..), rfl⟩

/-! ### The registers of a channel (R471) -/

theorem whenOk_ok (f : Block → Block) (b : Block) : whenOk stOK f b = (stOK, f b) := rfl

theorem regWrite_dma {c r : Nat} (hc : c < 32) (hr : r < 0x40) (mem : List Host.Cell) (v : Nat) (b : Block) :
    regWrite mem (0x2000 + r + 0x40 * c) v b = dmaRegWrite c r v b := by
  have hflag : (flagPlaces (0x2000 + r + 0x40 * c)).isEmpty = true ∨ ¬ (0x2000 + r + 0x40 * c) < 0x1400 := .inr (by omega)
  unfold regWrite
  split
  all_goals try (exfalso; omega)
  rw [if_neg (by simp; omega), if_neg (by simp; omega), if_neg (by simp; omega), if_neg (by simp; omega), if_neg (by simp; omega),
    if_pos (by simp; omega), show (0x2000 + r + 0x40 * c - 0x2000) / 0x40 = c by omega, show (0x2000 + r + 0x40 * c) % 0x40 = r by omega]

/-- The control word of an accepted write: its ENABLE bit. -/
theorem bit_ctrlWord (w : Nat) : bit (bits w 3 22 * 8 + b2n (bit w 31) * 2 ^ 31) 31 = bit w 31 := by
  have h := bits_lt w 3 22
  obtain ⟨m, hm⟩ : ∃ m, bits w 3 22 = m := ⟨_, rfl⟩
  rw [hm] at h ⊢
  cases bit w 31
  · simp only [bit, b2n, Bool.false_eq_true, if_false, beq_eq_false_iff_ne]
    omega
  · simp only [bit, b2n, if_true, beq_iff_eq]
    omega

/-- An accepted control word: what the channel holds but for the progress of its descriptor. -/
theorem setCtrl_on {c w : Nat} {b : Block} (hw : bit w 31 = true) (hoff : (b.chan c).enabled = false) :
    ∃ x : Dma, x.enabled = true ∧ x.st = 1 ∧ x.cause = 0 ∧ x.ring = (b.chan c).ring ∧ setCtrl c w b = pumpAll (b.setChan c x) := by
  unfold setCtrl
  dsimp only
  rw [if_pos hw, if_neg (by simp [hoff])]
  refine ⟨_, ?_, ?_, ?_, ?_, rfl⟩
  · exact (bit_ctrlWord w).trans hw
  · rfl
  · rfl
  · rfl

theorem setCtrl_off {c w : Nat} {b : Block} (hw : bit w 31 = false) : ∃ x : Dma, x.enabled = false ∧ x.st = 0 ∧ x.fetched = [] ∧
    setCtrl c w b = (stopChan c 0 0 b).setChan c x := by
  unfold setCtrl
  dsimp only
  rw [if_neg (by simp [hw]), stopChan_chan, if_pos rfl]
  refine ⟨_, ?_, ?_, ?_, rfl⟩
  · exact (bit_ctrlWord w).trans hw
  · rfl
  · rfl

/-- Of a channel that is enabled only the control word changes. -/
theorem setCtrl_enabled {c w : Nat} {b : Block} (hw : bit w 31 = true) (hon : (b.chan c).enabled = true) :
    ∃ n, setCtrl c w b = b.setChan c { b.chan c with ctrl := n } := by
  unfold setCtrl
  dsimp only
  rw [if_pos hw, if_pos hon]
  exact ⟨_, rfl⟩

/-- Settles O51: what follows an accepted write is service of descriptors, which leaves rings, states and pointers alone. -/
theorem dmaChannelsRunAndAbort : Obligations.DmaChannelsRunAndAbort := by
  unfold Obligations.DmaChannelsRunAndAbort
  refine ⟨?_, ?_, ?_, ?_⟩
  · intro s c v hs hup hc hv hon hab hoff hst
    obtain ⟨x, hen, hxst, hcause, hring, hset⟩ := setCtrl_on (c := c) (w := v) (b := s.blk) hon hoff
    have hput : barPut s.mem (0x2000 + 0x40 * c) v s.blk = writeCtrl c v s.blk := barPut_of_regWrite hs hup (by omega) (by omega) (by
      rw [Nat.mod_eq_of_lt hv, regWrite_dma hc (r := 0) (by decide), dmaRegWrite, hst, hab]
      rfl)
    have hserve : (s.blk.setChan c x).Serves (writeCtrl c v s.blk) := (pumpAll_serves _).trans (hset ▸ writeCtrl_serves c v s.blk)
    have hchan : (s.blk.setChan c x).chan c = x := Block.chan_setChan_self ..
    refine ⟨_, State.act_of_on (by simp [Instr.wf, hc]) hs.1 _, ?_, ?_, ?_, ?_, Block.Within.keeps ?_⟩
    · rw [State.run_chan, hput, hserve.enabled, hchan, hen]
    · rw [State.run_chan, hput, hserve.st, hchan, hxst]
    · rw [State.run_chan, hput, hserve.cause, hchan, hcause]
    · rw [State.run_chan, hput, hserve.ring, hchan, hring]
    · rw [hput]
      exact (setChan_within _ _ _ _).trans (hserve.within _)
  · intro s c v hs hup hc hv hab hst
    have hoff : bit v 31 = false := by
      simp only [bit, beq_eq_false_iff_ne]
      omega
    have hput : barPut s.mem (0x2000 + 0x40 * c) v s.blk = writeCtrl c v s.blk := barPut_of_regWrite hs hup (by omega) (by omega) (by
      rw [Nat.mod_eq_of_lt (by omega), regWrite_dma hc (r := 0) (by decide), dmaRegWrite, hst, hab]
      rfl)
    obtain ⟨x, hen, hxst, hfetched, hset⟩ := setCtrl_off (c := c) (b := s.blk) hoff
    have hserve : ((stopChan c 0 0 s.blk).setChan c x).Serves (writeCtrl c v s.blk) := hset ▸ writeCtrl_serves c v s.blk
    have hchan : ((stopChan c 0 0 s.blk).setChan c x).chan c = x := Block.chan_setChan_self ..
    refine ⟨_, State.act_of_on (by simp [Instr.wf, hc]) hs.1 _, ?_, ?_, ?_, Block.Within.keeps ?_⟩
    · rw [State.run_chan, hput, hserve.enabled, hchan, hen]
    · rw [State.run_chan, hput, hserve.st, hchan, hxst]
    · rw [State.run_chan, hput, hserve.fetched, hchan, hfetched]
    · rw [hput]
      exact (stopChan_within _ _ _ _ _).trans ((setChan_within _ _ _ _).trans (hserve.within _))
  · intro s c hs hup hc hrun hen hctrl hab hst
    obtain ⟨v, hv⟩ : ∃ v, (s.blk.chan c).ctrl + 2 ^ 30 = v := ⟨_, rfl⟩
    have hbits : v < 2 ^ 32 ∧ bit v 31 = true ∧ bit v 30 = true := by
      have hon : bit (s.blk.chan c).ctrl 31 = true := hen
      simp only [bit, beq_eq_false_iff_ne, beq_iff_eq] at hab hon ⊢
      omega
    rw [hv] at hst
    obtain ⟨hlt, hon, habort⟩ := hbits
    obtain ⟨r, hr, habr⟩ := abortChan_eq hrun
    have hput : barPut s.mem (0x2000 + 0x40 * c) v s.blk = writeCtrl c v (abortChan c s.blk) :=
      barPut_of_regWrite hs hup (by omega) (by omega) (by
        rw [Nat.mod_eq_of_lt hlt, regWrite_dma hc (r := 0) (by decide), dmaRegWrite, hst, habort]
        rfl)
    have hhalt : (abortChan c s.blk).chan c = { (r.chan c).stopped 2 1 with
        aborted := satTo 32 ((r.chan c).aborted + (r.chan c).fetched.length + (r.chan c).early.length) } := by
      rw [habr, haltChan_chan ((hr.st c).trans hrun)]
    obtain ⟨n, hset⟩ := setCtrl_enabled (c := c) (w := v) (b := abortChan c s.blk) hon (by
      rw [hhalt]
      exact (hr.enabled c).trans hen)
    have hserve : ((abortChan c s.blk).setChan c { (abortChan c s.blk).chan c with ctrl := n }).Serves (writeCtrl c v (abortChan c s.blk)) :=
      hset ▸ writeCtrl_serves c v (abortChan c s.blk)
    have hchan : ((abortChan c s.blk).setChan c { (abortChan c s.blk).chan c with ctrl := n }).chan c =
      { (abortChan c s.blk).chan c with ctrl := n } := Block.chan_setChan_self ..
    refine ⟨_, (State.act_of_on (by simp [Instr.wf, hc]) hs.1 _).trans (congrArg _ (State.run_congr
      (g := fun _ _ => writeCtrl c v (abortChan c s.blk)) (by rw [hv, hput]))), ?_, ?_, ?_, ?_, ?_, Block.Within.keeps ?_⟩
    · rw [State.run_chan, hserve.st, hchan, hhalt]
      rfl
    · rw [State.run_chan, hserve.cause, hchan, hhalt]
      rfl
    · rw [State.run_chan, hserve.fetched, hchan, hhalt]
      rfl
    · rw [State.run_chan, hserve.aborted, hchan, hhalt]
      simp only [hr.aborted, hr.fetched, hr.early]
    · rw [State.run_chan, hserve.head, hchan, hhalt]
      exact hr.head c
    · refine (hr.within _).trans (.trans ?_ ((setChan_within _ _ _ _).trans (hserve.within _)))
      rw [habr]
      exact haltChan_within _ _ _ _
  · intro s c v hs hup hc hv hst
    have hput : barPut s.mem (0x2018 + 0x40 * c) v s.blk = setTail c v s.blk := barPut_of_regWrite hs hup (by omega) (by omega) (by
      rw [Nat.mod_eq_of_lt (by omega), show 0x2018 + 0x40 * c = 0x2000 + 0x18 + 0x40 * c by omega, regWrite_dma hc (by decide), dmaRegWrite,
        bits_all hv, hst]
      exact whenOk_ok _ _)
    have hserve : (s.blk.setChan c { s.blk.chan c with tail := v % 2 ^ 17 }).Serves (setTail c v s.blk) := pumpAll_serves _
    have hchan : (s.blk.setChan c { s.blk.chan c with tail := v % 2 ^ 17 }).chan c = { s.blk.chan c with tail := v % 2 ^ 17 } :=
      Block.chan_setChan_self ..
    refine ⟨_, State.act_of_on (by simp [Instr.wf, hc]) hs.1 _, ?_, ?_, Block.Within.keeps ?_⟩
    · rw [State.run_chan, hput, hserve.tail, hchan, Nat.mod_eq_of_lt hv]
    · rw [State.run_chan, hput, hserve.head, hchan]
    · rw [hput]
      exact (setChan_within _ _ _ _).trans (hserve.within _)

end Sys2Proof.Machine

/-! # The CAN FD port (R490 to R494, R502, R521) -/

namespace Sys2Proof.Machine

/-! ### What every command may change -/

/-- What every command may report need not be named. -/
theorem Safety.Keeps.of_reporting {R : Nat → Nat → Bool} {s t : State} (h : Safety.Keeps (fun i r => R i r || Safety.reporting i r) s t) :
    Safety.Keeps R s t :=
  ⟨⟨fun i r hr hi hne hR => h.1.1 i r hr hi hne (by simp [hR, hi]), h.1.2⟩, h.2⟩

theorem Block.Within.emcyEvent {R : Nat → Nat → Bool} {a b : Block} (h : Block.Within (fun i r => R i r || Safety.reporting i r) a b)
    (code group : Nat) (bytes : List Byte) : Block.Within (fun i r => R i r || Safety.reporting i r) a (emcyEvent code group bytes b) := by
  refine ⟨fun i r hr hi hR => (emcyEvent_reg _ _ _ _ _ _ hr ?_).trans (h.reg i r hr hi hR), ?_⟩
  · simp only [Bool.or_eq_false_iff] at hR
    exact hR.2
  · obtain ⟨r, w, e, hs⟩ := emcyEvent_shape code group bytes b
    rw [hs]
    exact h.mops

/-- Where the reports were settled and no cause of them changes, no emergency message is added at the end of a command. -/
theorem State.run_emcy {s : State} {f : List Host.Cell → Block → Block} (hset : Safety.reportsSettled s.blk)
    (hregs : (f s.mem s.blk).regs = s.blk.regs) (hlast : (f s.mem s.blk).lastErr = s.blk.lastErr) :
    (s.run f).blk.emcy = (f s.mem s.blk).emcy := by
  obtain ⟨c, hc⟩ : ∃ c, f s.mem s.blk = c := ⟨_, rfl⟩
  rw [hc] at hregs hlast
  have herr : c.errorRegister = c.lastErr := by
    rw [hlast, hset.1]
    exact errorRegister_of_rd fun _ _ _ _ _ => Block.rd_of_regs hregs _ _
  have hrec : recovered c = c := by
    unfold recovered
    rw [if_neg (by simp [herr])]
  obtain ⟨r, m, l, o, hraise⟩ := raiseAlert_shape c
  show (monitor (f s.mem s.blk)).emcy = _
  rw [hc, monitor, hrec, hraise]

/-! ### NMT commands (R492) -/

/-- A request that reaches a module in PS0 notes at most its wake source. -/
theorem awake_ps0 {b : Block} (hps : b.ps = 0) (code : Nat) :
    ∃ p, awake code b = { b with power := p } ∧ p.straps = b.power.straps := by
  unfold awake wake
  rw [if_neg (by omega), if_pos hps]
  cases hentry : b.power.entry with
  | none => exact ⟨b.power, rfl, rfl⟩
  | some x =>
    simp only [Option.isSome_some, if_true]
    split
    · exact ⟨b.power, rfl, rfl⟩
    · split
      · exact ⟨_, rfl, rfl⟩
      · exact ⟨b.power, rfl, rfl⟩

/-- A command to a node that runs is carried out. -/
theorem nmtCommand_runs {f : Block → Block} {b : Block} (hps : b.ps = 0) (hon : b.rd 0x1E20 1 ≠ 0) (hst : b.rd 0x1E20 7 ≠ 0) :
    ∃ p, nmtCommand f b = f { b with power := p } ∧ p.straps = b.power.straps := by
  obtain ⟨p, hp, hs⟩ := awake_ps0 hps 5
  refine ⟨p, ?_, hs⟩
  rw [nmtCommand, if_neg (by simp [Block.canRuns, hps, hon, hst]), hp]

/-- A reload of the communication group changes registers of that group alone. -/
theorem reloadComm_shape (b : Block) : ∃ rs, reloadComm b = { b with regs := rs } ∧ ∀ k, commKey k = false → look odDefault rs k = look odDefault b.regs k := by
  unfold reloadComm
  dsimp only
  refine List.foldlRecOn _ _ (motive := fun c => ∃ rs, c = { b with regs := rs } ∧ ∀ k, commKey k = false → look odDefault rs k = look odDefault b.regs k)
    ⟨_, rfl, fun k hk => look_dropKeys_of_not_mem _ _ _ ?_ _⟩ ?_
  · split
    · simp [hk]
    · rfl
  · rintro c ⟨rs, rfl, hrs⟩ x _
    dsimp only
    split
    · next hx =>
      refine ⟨_, rfl, fun k hk => (look_place_ne _ _ _ _ _ fun e => ?_).trans (hrs k hk)⟩
      rw [← e] at hx
      split at hx
      · simp [hk] at hx
      · exact absurd hx (by decide)
    · exact ⟨rs, rfl, hrs⟩

theorem bootUp_shape (b : Block) : ∃ o x, bootUp b = { b.wr 0x1E20 7 0x7F with out := o, canPort := { b.canPort with bootSent := x } } := by
  unfold bootUp
  dsimp only
  split
  · exact ⟨_, true, rfl⟩
  · exact ⟨b.out, false, rfl⟩

/-- After a reset: the state is PRE-OPERATIONAL, the node ID is that of the straps, and what was written before is in force. -/
theorem nmtReset_state {b : Block} (hs : b.power.straps ≠ 0) (hlt : b.power.straps < 128) :
    (nmtReset b).rd 0x1E20 7 = 0x7F ∧ (nmtReset b).rd 0x1E01 1 = b.power.straps ∧
      (nmtReset b).canPort.timing = { b.writtenTiming with termination := (nmtReset b).rd 0x1E20 6 != 0 } ∧
      (nmtReset b).canPort.mode = b.rd 0x2005 9 := by
  obtain ⟨rs, hc, hrs⟩ := reloadComm_shape b
  obtain ⟨c, hcc⟩ : ∃ c, c = reloadComm b := ⟨_, rfl⟩
  have hmode : c.rd 0x2005 9 = b.rd 0x2005 9 := by
    rw [hcc, hc]
    exact congrArg BitVec.toNat (hrs _ (by decide))
  have hnode : nodeIdNow b = b.power.straps := if_neg hs
  obtain ⟨d, hd⟩ : ∃ d, d = takeComm b c := ⟨_, rfl⟩
  have hdregs : d.regs = (c.wr 0x1E01 1 b.power.straps).regs := by rw [hd, takeComm, hnode]
  have hdrd : ∀ i r, d.rd i r = (c.wr 0x1E01 1 b.power.straps).rd i r := Block.rd_of_regs hdregs
  have htiming : d.canPort.timing = { b.writtenTiming with termination := d.rd 0x1E20 6 != 0 } := by
    rw [hdrd, hd, takeComm, hnode]
    rfl
  obtain ⟨e, he⟩ : ∃ e, e = polarityReset d := ⟨_, rfl⟩
  have hpol : e.canPort.timing = d.canPort.timing ∧ e.canPort.mode = d.rd 0x2005 9 ∧
      ∀ i r, i * 256 + r ≠ 0x2005 * 256 + 10 → e.rd i r = d.rd i r := by
    rw [he, polarityReset]
    dsimp only
    split
    · exact ⟨rfl, rfl, fun i r h => Block.rd_wr_of_ne _ _ h⟩
    · exact ⟨rfl, rfl, fun i r _ => rfl⟩
  obtain ⟨htim, hmod, hrd⟩ := hpol
  obtain ⟨o, x, hboot⟩ := bootUp_shape e
  have hreset : nmtReset b = { e.wr 0x1E20 7 0x7F with out := o, canPort := { e.canPort with bootSent := x, sessions := [] } } := by
    rw [nmtReset, ← hcc, ← hd, ← he, hboot]
  have hregs : ∀ i r, (nmtReset b).rd i r = (e.wr 0x1E20 7 0x7F).rd i r := Block.rd_of_regs (by rw [hreset])
  refine ⟨?_, ?_, ?_, ?_⟩
  · rw [hregs, Block.rd_wr_of_lt _ _ _ (by decide)]
  · rw [hregs, Block.rd_wr_of_ne _ _ (by decide), hrd _ _ (by decide), hdrd, Block.rd_wr_of_lt _ _ _ (by omega)]
  · rw [hregs, Block.rd_wr_of_ne _ _ (by decide), hrd _ _ (by decide), ← htiming, ← htim, hreset]
  · rw [hreset]
    exact hmod.trans ((hdrd _ _).trans ((Block.rd_wr_of_ne _ _ (by decide)).trans hmode))

/-! ### Polarity and bus state (R502, R521) -/

/-- What a late boot-up message leaves. -/
theorem lateBootUp_shape (b : Block) : ∃ o x, lateBootUp b = { b with out := o, canPort := { b.canPort with bootSent := x } } := by
  unfold lateBootUp
  split
  · exact ⟨_, true, rfl⟩
  · exact ⟨b.out, b.canPort.bootSent, rfl⟩

theorem polarityMeasure_of_auto {mv : Int} {b : Block} (hps : b.ps < 4) (hmode : b.canPort.mode = 0) (hst : b.rd 0x1E20 7 ≠ 0) :
    polarityMeasure mv b =
      (let n := if 900 ≤ mv then min 8 (b.canPort.normal + 1) else 0
       let s := if mv ≤ -900 then min 8 (b.canPort.swapped + 1) else 0
       let c := { b with canPort := { b.canPort with normal := n, swapped := s } }
       if n = 8 then establish 1 c else if s = 8 then establish 2 c else c) := by
  unfold polarityMeasure
  rw [if_neg (by simp [hmode, Block.canRuns, hps, hst])]

/-- An established polarity is in force; the counts of the frames stand. -/
theorem establish_normal (b : Block) : (establish 1 b).rd 0x2005 0xA = 1 ∧ (establish 1 b).canPort.normal = b.canPort.normal ∧
    (establish 1 b).canPort.swapped = b.canPort.swapped := by
  unfold establish
  split
  · next h => exact ⟨h, rfl, rfl⟩
  · dsimp only
    rw [if_neg (by decide)]
    obtain ⟨o, x, h⟩ := lateBootUp_shape (b.wr 0x2005 0xA 1)
    rw [h]
    exact ⟨(Block.rd_wr_of_lt (v := 1) b 0x2005 0xA (by decide) :), rfl, rfl⟩

theorem establish_swapped {b : Block} (hne : b.rd 0x2005 0xA ≠ 2) :
    (establish 2 b).rd 0x2005 0xA = 2 ∧ (establish 2 b).rd 0x2005 0xB = satTo 32 (b.rd 0x2005 0xB + 1) := by
  unfold establish
  dsimp only
  rw [if_neg hne, if_pos rfl]
  obtain ⟨c, hc⟩ : ∃ c, c = emcyEvent 0x8100 7 [1, 0, 0, 0, 0] ((b.wr 0x2005 0xA 2).bump 32 0x2005 0xB 1) := ⟨_, rfl⟩
  obtain ⟨o, x, h⟩ := lateBootUp_shape c
  have hrd : ∀ r, r < 256 → c.rd 0x2005 r = ((b.wr 0x2005 0xA 2).bump 32 0x2005 0xB 1).rd 0x2005 r := fun r hr => by
    rw [hc, emcyEvent_rd _ _ _ _ hr (by simp [Safety.reporting])]
  rw [← hc, h]
  constructor
  · exact (hrd 0xA (by decide)).trans ((Block.rd_bump_of_ne _ _ _ (by decide)).trans (Block.rd_wr_of_lt _ _ _ (show 2 < 2 ^ 64 by decide)))
  · refine (hrd 0xB (by decide)).trans ((Block.rd_bump_self _ _ _ _ (by decide)).trans ?_)
    rw [Block.rd_wr_of_ne _ _ (by decide)]

/-- The bus state with its counters, and the emergency messages that a change of it gives. -/
theorem busState_rd {x : Nat} (hx : x < 3) (tx rx : Nat) {b : Block} (hps : b.ps < 4) :
    (busState x tx rx b).rd 0x1E20 8 = x ∧ (busState x tx rx b).rd 0x1E20 9 = satTo 8 tx ∧ (busState x tx rx b).rd 0x1E20 0xA = satTo 8 rx ∧
      Block.Within (fun i r => (i == 0x1E20 && (r == 8 || r == 9 || r == 0xA)) || Safety.reporting i r) b (busState x tx rx b) := by
  obtain ⟨c, hc⟩ : ∃ c, c = ((b.wr 0x1E20 8 x).wr 0x1E20 9 (satTo 8 tx)).wr 0x1E20 0xA (satTo 8 rx) := ⟨_, rfl⟩
  have hw : Block.Within (fun i r => (i == 0x1E20 && (r == 8 || r == 9 || r == 0xA)) || Safety.reporting i r) b c := by
    rw [hc]
    exact (((Block.Within.refl _ b).wr _ (by decide) (by decide)).wr _ (by decide) (by decide)).wr _ (by decide) (by decide)
  have h8 : c.rd 0x1E20 8 = x := by
    rw [hc, Block.rd_wr_of_ne _ _ (by decide), Block.rd_wr_of_ne _ _ (by decide), Block.rd_wr_of_lt _ _ _ (by omega)]
  have h9 : c.rd 0x1E20 9 = satTo 8 tx := by
    rw [hc, Block.rd_wr_of_ne _ _ (by decide), Block.rd_wr_of_lt _ _ _ (satTo_lt (by decide) _)]
  have hA : c.rd 0x1E20 0xA = satTo 8 rx := by
    rw [hc, Block.rd_wr_of_lt _ _ _ (satTo_lt (by decide) _)]
  have hcases : ∃ d, busState x tx rx b = d ∧ (d = c ∨ ∃ code bytes, d = emcyEvent code 7 bytes c) := by
    unfold busState
    rw [if_neg (by simp [Block.canRuns, hps]; omega)]
    dsimp only
    rw [← hc]
    split
    · exact ⟨_, rfl, .inr ⟨_, _, rfl⟩⟩
    · split
      · exact ⟨_, rfl, .inr ⟨_, _, rfl⟩⟩
      · exact ⟨_, rfl, .inl rfl⟩
  obtain ⟨d, hd, rfl | ⟨code, bytes, rfl⟩⟩ := hcases
  · rw [hd]
    exact ⟨h8, h9, hA, hw⟩
  · rw [hd, emcyEvent_rd _ _ _ _ (by decide) rfl, emcyEvent_rd _ _ _ _ (by decide) rfl, emcyEvent_rd _ _ _ _ (by decide) rfl]
    exact ⟨h8, h9, hA, hw.emcyEvent _ _ _⟩

/-- An NMT command that sets the state. -/
theorem nmtState_next {c : Instr} {v : Nat} (hv : v < 2 ^ 64) {s : State} (hon : s.blk.power.on = true) (hps : s.blk.ps = 0)
    (hport : s.blk.rd 0x1E20 1 ≠ 0) (hst : s.blk.rd 0x1E20 7 ≠ 0)
    (hexec : exec c s = s.act true (fun _ b => nmtCommand (fun b => b.wr 0x1E20 7 v) b)) :
    ∃ t, exec c s = .next t ∧ t.blk.rd 0x1E20 7 = v ∧ Safety.Keeps (fun i r => i == 0x1E20 && r == 7) s t := by
  obtain ⟨p, hp, _⟩ := nmtCommand_runs (f := fun b => b.wr 0x1E20 7 v) hps hport hst
  have hcmd : nmtCommand (fun b => b.wr 0x1E20 7 v) s.blk = { s.blk with power := p }.wr 0x1E20 7 v := hp
  refine ⟨_, hexec.trans (State.act_of_on rfl hon _), ?_, Block.Within.keeps ?_⟩
  · rw [State.run_rd _ _ _ _ (by decide) rfl, hcmd, Block.rd_wr_of_lt _ _ _ hv]
  · rw [hcmd]
    have hm : Block.Within (fun i r => i == 0x1E20 && r == 7) s.blk { s.blk with power := p } := (Block.Within.refl _ _).of_regs rfl rfl
    exact hm.wr _ (by decide) rfl

/-- A reset by NMT. -/
theorem nmtReset_next {c : Instr} {s : State} (hon : s.blk.power.on = true) (hps : s.blk.ps = 0) (hport : s.blk.rd 0x1E20 1 ≠ 0)
    (hst : s.blk.rd 0x1E20 7 ≠ 0) (hne : s.blk.power.straps ≠ 0) (hlt : s.blk.power.straps < 128)
    (hexec : exec c s = s.act true (fun _ b => nmtCommand nmtReset b)) :
    ∃ t, exec c s = .next t ∧ t.blk.rd 0x1E20 7 = 0x7F ∧ t.blk.rd 0x1E01 1 = s.blk.power.straps ∧
      t.blk.canPort.timing = { s.blk.writtenTiming with termination := t.blk.rd 0x1E20 6 != 0 } ∧ t.blk.canPort.mode = s.blk.rd 0x2005 9 := by
  obtain ⟨p, hp, hs⟩ := nmtCommand_runs (f := nmtReset) hps hport hst
  obtain ⟨h7, h1, ht, hm⟩ := nmtReset_state (b := { s.blk with power := p }) (by rw [hs]; exact hne) (by rw [hs]; exact hlt)
  refine ⟨_, hexec.trans (State.act_of_on rfl hon _), ?_, ?_, ?_, ?_⟩
  · rw [State.run_rd _ _ _ _ (by decide) rfl, hp, h7]
  · rw [State.run_rd _ _ _ _ (by decide) rfl, hp, h1, hs]
  · rw [State.run_canPort, State.run_rd _ _ _ _ (by decide) rfl, hp, ht]
    rfl
  · rw [State.run_canPort, hp, hm]
    rfl

/-- Settles O57: what the port does in each of its commands. -/
theorem theCanPortFollowsItsBus : Obligations.TheCanPortFollowsItsBus := by
  unfold Obligations.TheCanPortFollowsItsBus
  refine ⟨?_, ?_, ?_, ?_, ?_, ?_⟩
  · intro s hon hps hport hst
    exact ⟨nmtState_next (by decide) hon hps hport hst rfl, nmtState_next (by decide) hon hps hport hst rfl,
      nmtState_next (by decide) hon hps hport hst rfl, fun hne hlt => ⟨nmtReset_next hon hps hport hst hne hlt rfl,
        nmtReset_next hon hps hport hst hne hlt rfl⟩⟩
  · intro s hon hps htime hst hsend
    have hbeat : heartbeat s.blk = s.blk.emit (.can (0x700 + s.blk.nodeId) [BitVec.ofNat 8 (s.blk.rd 0x1E20 7)]) := by
      rw [heartbeat, if_neg (by simp [htime, hst, hsend, Block.canRuns, hps])]
    refine ⟨_, State.act_of_on rfl hon _, State.run_out_mem ?_, Block.Within.keeps ?_⟩
    · rw [hbeat]
      simp [Block.emit]
    · rw [hbeat]
      exact (Block.Within.refl _ _).of_regs rfl rfl
  · intro s m rest hon hset hps hq hsend h4 h0
    obtain ⟨o, ho⟩ : ∃ o, o = Output.can (0x80 + s.blk.nodeId)
        (toLe 2 m.code ++ toLe 1 m.err ++ m.bytes.take 5 ++ List.replicate Config.emcyFurther.toNat 0) := ⟨_, rfl⟩
    have hsent : emcyTransmit s.blk = ({ s.blk with emcy := rest } : Block).emit o := by
      rw [emcyTransmit, hq, ho]
      dsimp only
      rw [if_neg (by simp [hsend, h4, h0, Block.canRuns, hps])]
    rw [← ho]
    refine ⟨_, State.act_of_on rfl hon _, ?_, State.run_out_mem ?_, Block.Within.keeps ?_⟩
    · rw [State.run_emcy hset (by rw [hsent]; rfl) (by rw [hsent]; rfl), hsent]
      rfl
    · rw [hsent]
      simp [Block.emit]
    · rw [hsent]
      exact (Block.Within.refl _ _).of_regs rfl rfl
  · intro s mv hon hps hmode hst hmv
    have hmeas := polarityMeasure_of_auto (mv := mv) hps hmode hst
    dsimp only at hmeas
    rw [if_pos hmv, if_neg (show ¬ mv ≤ -900 by omega)] at hmeas
    by_cases hn : 7 ≤ s.blk.canPort.normal
    · rw [if_pos (by omega)] at hmeas
      obtain ⟨hA, hnor, hswa⟩ := establish_normal { s.blk with canPort := { s.blk.canPort with normal := min 8 (s.blk.canPort.normal + 1), swapped := 0 } }
      refine ⟨_, State.act_of_on rfl hon _, ?_, ?_, fun _ => ?_, fun h => absurd h (by omega)⟩
      · rw [State.run_canPort, hmeas, hnor]
      · rw [State.run_canPort, hmeas, hswa]
      · rw [State.run_rd _ _ _ _ (by decide) rfl, hmeas, hA]
    · rw [if_neg (by omega), if_neg (by decide)] at hmeas
      refine ⟨_, State.act_of_on rfl hon _, ?_, ?_, fun h => absurd h hn, fun _ => ?_⟩
      · rw [State.run_canPort, hmeas]
      · rw [State.run_canPort, hmeas]
      · rw [State.run_rd _ _ _ _ (by decide) rfl, hmeas]
        rfl
  · intro s mv hon hps hmode hst hmv hsw hne
    have hmeas := polarityMeasure_of_auto (mv := mv) hps hmode hst
    dsimp only at hmeas
    rw [if_neg (show ¬ 900 ≤ mv by omega), if_pos hmv, if_neg (by decide), if_pos (by omega)] at hmeas
    obtain ⟨hA, hB⟩ := establish_swapped (b := { s.blk with canPort := { s.blk.canPort with
      normal := 0, swapped := min 8 (s.blk.canPort.swapped + 1) } }) hne
    refine ⟨_, State.act_of_on rfl hon _, ?_, ?_⟩
    · rw [State.run_rd _ _ _ _ (by decide) rfl, hmeas, hA]
    · rw [State.run_rd _ _ _ _ (by decide) rfl, hmeas, hB]
      rfl
  · intro s x tx rx hon hps hx
    obtain ⟨h8, h9, hA, hw⟩ := busState_rd hx tx rx hps
    refine ⟨_, State.act_of_on (by simp [Instr.wf, hx]) hon _, ?_, ?_, ?_, (Block.Within.keeps hw).of_reporting⟩
    · rw [State.run_rd _ _ _ _ (by decide) rfl, h8]
    · rw [State.run_rd _ _ _ _ (by decide) rfl, h9]
    · rw [State.run_rd _ _ _ _ (by decide) rfl, hA]

end Sys2Proof.Machine

/-! # The system's own objects (0x2000 to 0x2005), and what leaves them alone

Entering and leaving a power state, and a fault stop, reach into most units of the module. Of the registers of what the module measures
and of its power state (R527), of power, time base and flash, the units change nothing. -/

namespace Sys2Proof.Machine

/-- The registers of supply, temperature, start-up and power state; those of the CAN polarity are the port's. -/
def isSystem (i r : Nat) : Bool := decide (0x2000 ≤ i) && decide (i < 0x2006) && !(i == 0x2005 && decide (9 ≤ r))

/-- As far as the system's objects, power, time base and flash are concerned, `c` is as `b`. -/
structure Block.SameSystem (b c : Block) : Prop where
  reg : ∀ i r, r < 256 → isSystem i r = true → c.reg i r = b.reg i r
  power : c.power = b.power
  time : c.time = b.time
  flash : c.flash = b.flash

namespace Block.SameSystem

variable {a b c : Block}

theorem refl (b : Block) : b.SameSystem b := ⟨fun _ _ _ _ => rfl, rfl, rfl, rfl⟩

theorem trans (h : a.SameSystem b) (g : b.SameSystem c) : a.SameSystem c :=
  ⟨fun i r hr hi => (g.reg i r hr hi).trans (h.reg i r hr hi), g.power.trans h.power, g.time.trans h.time, g.flash.trans h.flash⟩

theorem forEach {α : Type} {xs : List α} {f : α → Block → Block} (h : ∀ x ∈ xs, ∀ b, Block.SameSystem b (f x b)) (b : Block) :
    b.SameSystem (forEach xs f b) :=
  List.foldlRecOn xs (fun b x => f x b) (motive := fun c => b.SameSystem c) (refl b) (fun c hc x hx => hc.trans (h x hx c))

/-- Other fields do not matter. -/
theorem of_regs (hr : c.regs = b.regs) (hp : c.power = b.power) (ht : c.time = b.time) (hf : c.flash = b.flash) : b.SameSystem c :=
  ⟨fun i r _ _ => Block.reg_of_regs hr i r, hp, ht, hf⟩

/-- So it is after any change of other fields. -/
theorem fields (h : a.SameSystem b) (hr : c.regs = b.regs) (hp : c.power = b.power) (ht : c.time = b.time) (hf : c.flash = b.flash) :
    a.SameSystem c := h.trans (of_regs hr hp ht hf)

theorem wr (h : a.SameSystem b) {i s : Nat} (v : Nat) (hs : s < 256) (hi : isSystem i s = false) : a.SameSystem (b.wr i s v) :=
  ⟨fun j r hr hj => by
    rw [Block.reg_wr, if_neg fun e => ?_, h.reg j r hr hj]
    obtain ⟨rfl, rfl⟩ := (odKey_inj hr hs).1 e
    rw [hi] at hj
    exact absurd hj (by decide), h.power, h.time, h.flash⟩

theorem wrI (h : a.SameSystem b) {i s : Nat} (v : Int) (hs : s < 256) (hi : isSystem i s = false) : a.SameSystem (b.wrI i s v) :=
  ⟨fun j r hr hj => by
    rw [Block.reg_wrI, if_neg fun e => ?_, h.reg j r hr hj]
    obtain ⟨rfl, rfl⟩ := (odKey_inj hr hs).1 e
    rw [hi] at hj
    exact absurd hj (by decide), h.power, h.time, h.flash⟩

theorem bump (h : a.SameSystem b) {i s : Nat} (w n : Nat) (hs : s < 256) (hi : isSystem i s = false) : a.SameSystem (b.bump w i s n) :=
  h.wr _ hs hi

theorem flag (h : a.SameSystem b) {i s c : Nat} (n : Nat) (hs : s < 256) (hc : c < 256) (hi : isSystem i s = false)
    (hic : isSystem i c = false) : a.SameSystem (b.flag i s c n) := (h.wr _ hs hi).bump _ _ hc hic

theorem wrBit (h : a.SameSystem b) {i s : Nat} (k : Nat) (v : Bool) (hs : s < 256) (hi : isSystem i s = false) :
    a.SameSystem (b.wrBit i s k v) := h.wr _ hs hi

/-- What no observer of records and queues sees changes no system. -/
theorem of_recordBlind (h : ∀ {γ : Type} (g : Block → γ), RecordBlind g → g c = g b) (hf : c.flash = b.flash) : b.SameSystem c :=
  ⟨fun _ _ hr hi => h _ (recordBlind_reg hr (.inl (by simp [isSystem] at hi; omega))), h _ recordBlind_power, h _ recordBlind_time, hf⟩

theorem setBank (h : a.SameSystem b) (k : Nat) (x : Bank) : a.SameSystem (b.setBank k x) := h.fields rfl rfl rfl rfl
theorem zeroBank (h : a.SameSystem b) (k : Nat) : a.SameSystem (b.zeroBank k) := h.fields rfl rfl rfl rfl
theorem setQueue (h : a.SameSystem b) (k : Nat) (x : Queue) : a.SameSystem (b.setQueue k x) := h.fields rfl rfl rfl rfl

variable (h : b.SameSystem c)
include h

theorem rd {i r : Nat} (hr : r < 256) (hi : isSystem i r = true) : c.rd i r = b.rd i r := congrArg BitVec.toNat (h.reg i r hr hi)
theorem rdI {i r : Nat} (hr : r < 256) (hi : isSystem i r = true) : c.rdI i r = b.rdI i r := congrArg BitVec.toInt (h.reg i r hr hi)
theorem ps : c.ps = b.ps := h.rd (by decide) rfl
theorem thermalHold : c.thermalHold = b.thermalHold := congrArg (bit · 2) (h.rd (by decide) rfl)

end Block.SameSystem

theorem isSystem_of_ge {i : Nat} (h : 0x2006 ≤ i) (r : Nat) : isSystem i r = false := by
  have : ¬ i < 0x2006 := by omega
  simp [isSystem, this]

theorem isSystem_of_lt {i : Nat} (h : i < 0x2000) (r : Nat) : isSystem i r = false := by
  have : ¬ 0x2000 ≤ i := by omega
  simp [isSystem, this]

/-! ### Drivers, ports, engines, clock -/

theorem refreshDrivers_sameSystem (n : Nat) (b : Block) : b.SameSystem (refreshDrivers n b) := by
  have hdrive : isSystem (driveObj n) 4 = false := isSystem_of_ge (by unfold driveObj; omega) 4
  unfold refreshDrivers
  dsimp only
  obtain ⟨new, hnew⟩ : ∃ new, new = (if b.driveMode (b.podDom n) && b.rd 0x2002 2 < 2 && !bit (b.rd 0x2005 1) 2 then
      maskOf ((setBits 16 (b.rd (driveObj n) 2)).filter (fun m => !bit (b.rd (driveObj n) 5) m)) else 0) := ⟨_, rfl⟩
  rw [← hnew]
  have hwr : b.SameSystem (b.wr (driveObj n) 4 new) := (Block.SameSystem.refl b).wr _ (by decide) hdrive
  refine .trans ?_ (.forEach (fun m _ c => ?_) _)
  · split
    · exact hwr.fields rfl rfl rfl rfl
    · exact hwr
  · split
    · exact (Block.SameSystem.refl c).fields rfl rfl rfl rfl
    · split
      · exact (Block.SameSystem.refl c).fields rfl rfl rfl rfl
      · exact .refl c

theorem listenPort_sameSystem (p : Nat) (b : Block) : b.SameSystem (listenPort p b) := by
  have hport : ∀ r, isSystem (portObj p) r = false := isSystem_of_ge (by unfold portObj; omega)
  unfold listenPort
  split
  · exact ((Block.SameSystem.refl b).wr _ (by decide) (hport _)).wr _ (by decide) (hport _)
  · exact .refl b

theorem listenPorts_sameSystem (b : Block) : b.SameSystem (listenPorts b) := .forEach (fun p _ c => listenPort_sameSystem p c) b

theorem settleEngine_sameSystem (e : Nat) (b : Block) : b.SameSystem (settleEngine e b) :=
  ⟨fun i r hr hi => (engineBlind_reg hr (by simp [isSystem] at hi; unfold eObj; omega)).settleEngine b,
    EngineBlind.settleEngine (g := Block.power) {} b, (engineBlind_time e).settleEngine b, EngineBlind.settleEngine (g := Block.flash) {} b⟩

theorem applySource_sameSystem (src : Nat) (b : Block) : b.SameSystem (applySource src b) :=
  ((((Block.SameSystem.refl b).wr _ (by decide) rfl).wr _ (by decide) rfl).wr _ (by decide) rfl).wr _ (by decide) rfl

/-- The registers of an acquisition that starts, and the clock that waits for it. -/
theorem startAcquisition_eq (b : Block) : ∃ src band clk,
    startAcquisition b = { (((applySource src b).wr 0x2101 1 1).wr 0x2101 6 band).wr 0x2103 7 0 with clk := clk } := ⟨_, _, _, rfl⟩

theorem startAcquisition_sameSystem (b : Block) : b.SameSystem (startAcquisition b) := by
  obtain ⟨src, band, clk, h⟩ := startAcquisition_eq b
  have hw : b.SameSystem ((((applySource src b).wr 0x2101 1 1).wr 0x2101 6 band).wr 0x2103 7 0) :=
    (((applySource_sameSystem src b).wr _ (by decide) rfl).wr _ (by decide) rfl).wr _ (by decide) rfl
  rw [h]
  exact hw.trans (.of_regs rfl rfl rfl rfl)

/-! ### Stops, messages, advice -/

theorem requestStop_sameSystem (t pos reason known : Nat) (b : Block) : b.SameSystem (requestStop t pos reason known b) := by
  have hdom : ∀ r, isSystem (0x5100 + t) r = false := isSystem_of_ge (by omega)
  have hknow : ∀ c, Block.SameSystem c (knowStop t c) := fun c => by
    unfold knowStop
    split
    · split
      · exact ((Block.SameSystem.refl c).wr _ (by decide) (hdom _)).wr _ (by decide) (hdom _)
      · exact .refl c
    · exact .refl c
  unfold requestStop
  split
  · exact .refl b
  · exact .trans (b := b.setDom t { b.dom t with
      stops := (b.dom t).stops ++ [{ pos := pos, rank := stopRank reason, reason := reason, known := known }] })
      (.of_regs rfl rfl rfl rfl) (hknow _)

theorem faultStop_sameSystem (t : Nat) (b : Block) : b.SameSystem (faultStop t b) := requestStop_sameSystem ..

theorem emcyEvent_sameSystem (code group : Nat) (bytes : List Byte) (b : Block) : b.SameSystem (emcyEvent code group bytes b) := by
  obtain ⟨r, w, e, hs⟩ := emcyEvent_shape code group bytes b
  exact ⟨fun i r hr hi => emcyEvent_reg _ _ _ _ _ _ hr (by simp [isSystem] at hi; simp [Safety.reporting]; omega), by rw [hs], by rw [hs],
    by rw [hs]⟩

theorem refreshAdvice_sameSystem (n : Nat) (b : Block) : b.SameSystem (refreshAdvice n b) :=
  ((Block.SameSystem.refl b).wrI _ (by decide) (isSystem_of_ge (by omega) _)).wrBit _ _ (by decide) (isSystem_of_ge (by omega) _)

theorem showActivities_sameSystem (b : Block) : b.SameSystem (showActivities b) :=
  ((Block.SameSystem.refl b).wr _ (by decide) rfl).wr _ (by decide) rfl

theorem enqueueActivity_sameSystem (a : Activity) (b : Block) : b.SameSystem (enqueueActivity a b) := .of_regs rfl rfl rfl rfl

theorem autoRecal_sameSystem (b : Block) : b.SameSystem (autoRecal b) := by
  unfold autoRecal
  split
  · exact .refl b
  · dsimp only
    split
    · exact .refl b
    · exact .trans (.forEach (fun n _ c => enqueueActivity_sameSystem _ c) b) (showActivities_sameSystem _)

/-! ### Entry (R509, R511) -/

theorem setOos_sameSystem (n act : Nat) (b : Block) : b.SameSystem (setOos n act b) := by
  have hpod : b.SameSystem (b.setPod n { b.pod n with act := act, visitCut := (b.pod n).visitCut || act != 0 }) := .of_regs rfl rfl rfl rfl
  have hlane : ∀ (c : Block) l x, c.SameSystem (c.setLane l x) := fun _ _ _ => .of_regs rfl rfl rfl rfl
  unfold setOos
  dsimp only
  refine .trans (hpod.wrBit _ _ (by decide) (isSystem_of_ge (by omega) _)) (.forEach (fun m hm c => ?_) _)
  have := List.mem_range.1 hm
  exact (hlane c _ _).wrBit _ _ (by omega) (isSystem_of_ge (by omega) _)

theorem endRequest_sameSystem (probe : Bool) (b : Block) : b.SameSystem (endRequest probe b) := by
  unfold endRequest
  dsimp only
  split
  · exact .refl b
  · exact (Block.SameSystem.refl b).wr _ (by decide) (by cases probe <;> rfl)

theorem leaveActivity_sameSystem (a : Activity) (n : Nat) (b : Block) : b.SameSystem (leaveActivity a n b) := by
  have hmaint : ∀ x, b.SameSystem (setOos n 0 { b with maint := x }) := fun x =>
    .trans (b := { b with maint := x }) (.of_regs rfl rfl rfl rfl) (setOos_sameSystem ..)
  unfold leaveActivity
  dsimp only
  refine .trans ?_ (showActivities_sameSystem _)
  split
  · exact hmaint _
  · exact (hmaint _).trans (endRequest_sameSystem ..)

theorem abandonPod_sameSystem (n : Nat) (b : Block) : b.SameSystem (abandonPod n b) := by
  unfold abandonPod
  split
  · exact .refl b
  · exact leaveActivity_sameSystem ..

theorem verifyOver_sameSystem (b : Block) : b.SameSystem (verifyOver b) := by
  have hput : ∀ w c, Block.SameSystem c (bandPut w c) := fun w c => by cases w <;> exact .of_regs rfl rfl rfl rfl
  have hbit : b.SameSystem (b.wrBit 0x7010 2 3 false) := (Block.SameSystem.refl b).wrBit _ _ (by decide) rfl
  unfold verifyOver
  refine .trans ?_ (.forEach (fun w _ c => hput w c) _)
  exact hbit.fields rfl rfl rfl rfl

theorem reclaim_sameSystem (k : Nat) (b : Block) : b.SameSystem (reclaim k b) := by
  have hbump : b.SameSystem (b.bump 32 0x7012 2 1) := (Block.SameSystem.refl b).bump _ _ (by decide) rfl
  unfold reclaim
  split
  · split
    · exact hbump.fields rfl rfl rfl rfl
    · exact .refl b
  · exact .refl b

/-- What is abandoned when entry begins. -/
def abandonAll (b : Block) : Block :=
  let b := verifyOver (forEach b.heldPods abandonPod b)
  match b.maint.test with | some x => reclaim x.target b | none => b

theorem beginEntry_eq (s : Nat) (b : Block) :
    beginEntry s b = { abandonAll b with power := { (abandonAll b).power with entry := some s } } := rfl

theorem abandonAll_sameSystem (b : Block) : b.SameSystem (abandonAll b) := by
  have hover : b.SameSystem (verifyOver (forEach b.heldPods abandonPod b)) :=
    (Block.SameSystem.forEach (fun n _ c => abandonPod_sameSystem n c) b).trans (verifyOver_sameSystem _)
  unfold abandonAll
  dsimp only
  split
  · exact hover.trans (reclaim_sameSystem ..)
  · exact hover

/-- A block as `b` but for its power field. -/
theorem beginEntry_power (s : Nat) (b : Block) : (beginEntry s b).power = { b.power with entry := some s } := by
  rw [beginEntry_eq, (abandonAll_sameSystem b).power]

theorem beginEntry_reg (s : Nat) (b : Block) {i r : Nat} (hr : r < 256) (hi : isSystem i r = true) : (beginEntry s b).reg i r = b.reg i r :=
  (abandonAll_sameSystem b).reg i r hr hi

/-! ### The state in force -/

theorem treeBroken_sameSystem (p : Nat) (b : Block) : b.SameSystem (treeBroken p b).2 := by
  unfold treeBroken
  dsimp only
  split
  · have hw : b.SameSystem ((b.wr 0x2200 4 4).wr 0x2200 0xA 0) := ((Block.SameSystem.refl b).wr _ (by decide) rfl).wr _ (by decide) rfl
    refine .trans ?_ (.forEach (fun t _ c => faultStop_sameSystem t c) _)
    exact hw.fields rfl rfl rfl rfl
  · split
    · exact (Block.SameSystem.refl b).wr _ (by decide) rfl
    · exact .refl b

theorem chainLoss_sameSystem (p : Nat) (b : Block) : b.SameSystem (chainLoss p b).2 := by
  have hport : ∀ r, isSystem (portObj p) r = false := isSystem_of_ge (by unfold portObj; omega)
  exact (((treeBroken_sameSystem p b).wr 0 (by decide) (hport 8)).wr 0 (by decide) (hport 4)).fields rfl rfl rfl rfl

theorem stopClock_sameSystem (b : Block) : b.SameSystem (stopClock b) :=
  (((Block.SameSystem.refl b).wr 0 (i := 0x2101) (s := 1) (by decide) rfl).wr 0 (i := 0x2101) (s := 2) (by decide) rfl).fields
    rfl rfl rfl rfl

theorem wakeBank_sameSystem (k : Nat) (b : Block) : b.SameSystem (wakeBank k b) := by
  obtain ⟨bs, h⟩ := wakeBank_shape k b
  rw [h]
  exact .of_regs rfl rfl rfl rfl

theorem Block.OpsOnly.sameSystem {b c : Block} (h : Block.OpsOnly b c) : b.SameSystem c := by
  obtain ⟨m, l, o, ws, ps, rs, rfl⟩ := h
  exact .of_regs rfl rfl rfl rfl

theorem serveWaitingOps_sameSystem (k : Nat) (b : Block) : b.SameSystem (serveWaitingOps k b) := by
  rcases serveWaitingOps_cases k b with h | h
  · rw [h]
    exact wakeBank_sameSystem k b
  · exact h.sameSystem

theorem setOwner_sameSystem (k o : Nat) (b : Block) : b.SameSystem (setOwner k o b) := (Block.SameSystem.refl b).setBank _ _

theorem unown_sameSystem (k : Nat) (b : Block) : b.SameSystem (unown k b) := by
  unfold unown
  exact ((setOwner_sameSystem k owUNOWNED b).setBank _ _).zeroBank k

theorem returnTarget_sameSystem (x : BankTest) (b : Block) : b.SameSystem (returnTarget x b) := by
  have howner : b.SameSystem (returnOwner x b) := by
    unfold returnOwner
    split
    · exact unown_sameSystem ..
    · exact (setOwner_sameSystem ..).setBank _ _
  have hspare : (returnOwner x b).SameSystem (releaseSpare x (returnOwner x b)) := by
    unfold releaseSpare
    split
    · exact unown_sameSystem ..
    · exact .refl _
  rw [returnTarget_eq]
  obtain ⟨c, hc⟩ : ∃ c, c = releaseSpare x (returnOwner x b) := ⟨_, rfl⟩
  rw [← hc] at hspare ⊢
  have htest : b.SameSystem { c with maint := { c.maint with test := none } } := (howner.trans hspare).fields rfl rfl rfl rfl
  exact (htest.trans (serveWaitingOps_sameSystem _ _)).trans (showActivities_sameSystem _)

theorem reclaimComplete_sameSystem (b : Block) : b.SameSystem (reclaimComplete b) := by
  unfold reclaimComplete
  split
  · split
    · exact returnTarget_sameSystem ..
    · exact .refl b
  · exact .refl b

theorem refuseHeld_sameSystem (q : Nat) (h : HeldPush) (b : Block) : b.SameSystem (refuseHeld q h b) := by
  unfold refuseHeld
  split
  · exact .forEach (fun _ _ c => (Block.SameSystem.refl c).fields (c := queueDenied q c) rfl rfl rfl rfl) b
  · exact .of_recordBlind (fun _ hg => hg.refused b q) rfl

theorem releaseWait_sameSystem (q : Nat) (w : HostWait) (b : Block) : b.SameSystem (releaseWait q w b) := by
  cases w <;> exact .of_regs rfl rfl rfl rfl

theorem qDisable_sameSystem (key : Nat) (b : Block) : b.SameSystem (qDisable key b) := by
  unfold qDisable
  dsimp only
  have hdis : b.SameSystem (qDiscard key b) := ((Block.SameSystem.refl b).setQueue _ _).setQueue _ _
  refine .trans (.trans (hdis.setQueue key _) (.forEach (fun w _ c => ?_) _)) (.forEach (fun h _ c => ?_) _)
  · exact releaseWait_sameSystem _ w c
  · exact refuseHeld_sameSystem _ h c

theorem queuesLose_sameSystem (lost : Nat → Bool) (b : Block) : b.SameSystem (queuesLose lost b) := by
  refine .forEach (fun k _ c => ?_) b
  split
  · exact qDisable_sameSystem k c
  · exact .refl c

theorem bankSleep_sameSystem (s k : Nat) (b : Block) : b.SameSystem (bankSleep s k b) := by
  unfold bankSleep
  dsimp only
  split
  · exact (Block.SameSystem.refl b).setBank _ _
  · split
    · split
      · exact ((Block.SameSystem.refl b).setBank _ _).zeroBank k
      · exact ((unown_sameSystem k b).setBank _ _).zeroBank k
    · exact ((Block.SameSystem.refl b).setBank _ _).zeroBank k

/-! ### Exit (R513, R515) -/

theorem clearAllUnits_sameSystem (b : Block) : b.SameSystem (clearAllUnits b) := by
  unfold clearAllUnits clearUnits
  split
  · exact .refl b
  · exact .of_regs rfl rfl rfl rfl

theorem setPower_sameSystem (k p : Nat) (b : Block) : b.SameSystem (setPower k p b) := by
  unfold setPower
  dsimp only
  split
  · exact wakeBank_sameSystem k b
  · split
    · exact .of_regs rfl rfl rfl rfl
    · split
      · exact .of_regs rfl rfl rfl rfl
      · exact .of_regs rfl rfl rfl rfl

theorem bankOn_sameSystem (k : Nat) (b : Block) : b.SameSystem (bankOn k b) := by
  unfold bankOn
  dsimp only
  have hserve : b.SameSystem (serveWaitingOps k (b.setBank k { b.bank k with power := 0, waking := false })) :=
    .trans (b := b.setBank k { b.bank k with power := 0, waking := false }) (.of_regs rfl rfl rfl rfl) (serveWaitingOps_sameSystem k _)
  split
  · exact hserve
  · exact hserve.trans (setPower_sameSystem ..)

theorem ringsWoken_sameSystem (k : Nat) (b : Block) : b.SameSystem (ringsWoken k b) :=
  .of_recordBlind (fun _ hg => hg.ringsWoken k b) (recordBlind_flash.ringsWoken k b)

theorem bankBack_sameSystem (k : Nat) (b : Block) : b.SameSystem (bankBack k b) := by
  unfold bankBack
  dsimp only
  split
  · split
    · exact (bankOn_sameSystem k b).trans (ringsWoken_sameSystem ..)
    · exact bankOn_sameSystem k b
  · refine .trans ?_ (serveWaitingOps_sameSystem k _)
    split
    · exact (Block.SameSystem.refl b).fields rfl rfl rfl rfl
    · exact .refl b

end Sys2Proof.Machine

/-! # The module watches itself (R505, R519, R524 to R527) -/

namespace Sys2Proof.Machine

/-! ### Bits of a word -/

theorem bit_putBit_false (w i : Nat) : bit (putBit w i false) i = false := by
  unfold putBit
  split
  · next h => simpa using h
  · next h =>
    have hb : w / 2 ^ i % 2 = 1 := by simpa [bit] using h
    have hle : 2 ^ i ≤ w := by
      refine Nat.le_of_not_lt fun hlt => ?_
      rw [Nat.div_eq_of_lt (by omega)] at hb
      omega
    have hdiv : (w - 2 ^ i) / 2 ^ i = w / 2 ^ i - 1 := by
      have := Nat.sub_mul_div w (2 ^ i) 1
      rwa [Nat.mul_one] at this
    simp only [Bool.false_eq_true, if_false, bit, hdiv, beq_eq_false_iff_ne]
    omega

theorem bit_putBit_self (w i : Nat) (v : Bool) : bit (putBit w i v) i = v := by
  cases v
  · exact bit_putBit_false w i
  · exact bit_putBit_true w i

/-- Two numbers whose difference is a bit, which is 0 in the smaller one, have the other bits in common. -/
theorem bit_add_pow {w i j : Nat} (h : bit w i = false) (hne : j ≠ i) : bit (w + 2 ^ i) j = bit w j := by
  have heven : w / 2 ^ i % 2 = 0 := by
    simp only [bit, beq_eq_false_iff_ne] at h
    omega
  unfold bit
  congr 1
  rcases Nat.lt_or_gt_of_ne hne with hlt | hgt
  · have hpow : 2 ^ i = 2 ^ j * (2 * 2 ^ (i - j - 1)) := by rw [← Nat.pow_succ', ← Nat.pow_add]; congr 1; omega
    rw [hpow, Nat.add_mul_div_left _ _ (Nat.two_pow_pos j)]
    omega
  · have hpow : 2 ^ j = 2 ^ i * 2 * 2 ^ (j - i - 1) := by rw [← Nat.pow_succ, ← Nat.pow_add]; congr 1; omega
    have hhalf : (w / 2 ^ i + 1) / 2 = w / 2 ^ i / 2 := by omega
    rw [hpow, ← Nat.div_div_eq_div_mul, ← Nat.div_div_eq_div_mul, ← Nat.div_div_eq_div_mul, ← Nat.div_div_eq_div_mul,
      Nat.add_div_right _ (Nat.two_pow_pos i), hhalf]

/-- A bit that is put leaves the others. -/
theorem bit_putBit_ne (w : Nat) {i j : Nat} (hne : j ≠ i) (v : Bool) : bit (putBit w i v) j = bit w j := by
  unfold putBit
  split
  · rfl
  · next h =>
    cases v with
    | true => exact bit_add_pow (by simpa using h) hne
    | false =>
      have hb : bit w i = true := by simpa using h
      have hle : 2 ^ i ≤ w := by
        refine Nat.le_of_not_lt fun hlt => ?_
        rw [bit, Nat.div_eq_of_lt (by omega)] at hb
        exact absurd hb (by decide)
      have hput : putBit w i false = w - 2 ^ i := by simp [putBit, hb]
      have hz : bit (w - 2 ^ i) i = false := hput ▸ bit_putBit_false w i
      have hadd := bit_add_pow hz hne
      rw [Nat.sub_add_cancel hle] at hadd
      exact hadd.symm

theorem Block.bit_wrBit_self (b : Block) (i s : Nat) {k : Nat} (hk : k < 64) (v : Bool) : bit ((b.wrBit i s k v).rd i s) k = v := by
  rw [Block.rd_wrBit_self _ _ _ _ _ (putBit_lt (b.rd_lt i s) hk v), bit_putBit_self]

theorem Block.bit_wrBit_ne (b : Block) (i s : Nat) {k j : Nat} (hk : k < 64) (hne : j ≠ k) (v : Bool) :
    bit ((b.wrBit i s k v).rd i s) j = bit (b.rd i s) j := by
  rw [Block.rd_wrBit_self _ _ _ _ _ (putBit_lt (b.rd_lt i s) hk v), bit_putBit_ne _ hne]

/-! ### The die temperature (R519) -/

/-- What is measured: the temperature and its maximum. -/
def Block.heated (t : Int) (b : Block) : Block :=
  let b := b.wrI 0x2000 1 t
  if b.rdI 0x2000 2 < t then b.wrI 0x2000 2 t else b

/-- The warning begins at 110.0 °C and ends at 105.0 °C. -/
def Block.warned (t : Int) (b : Block) : Block :=
  let warn := bit (b.rd 0x2005 1) 1
  if !warn && 1100 ≤ t then emcyEvent 0x4210 1 (toLe 2 (unsigned t 16) ++ [0, 0, 0]) (b.wrBit 0x2005 1 1 true)
  else if warn && t ≤ 1050 then b.wrBit 0x2005 1 1 false else b

/-- The pods are advised, and ask for recalibration. -/
def Block.advised (b : Block) : Block := autoRecal (forEach (List.range 32) refreshAdvice b)

theorem temperature_eq (t : Int) (b : Block) : temperature t b =
    if t < 1250 || ((b.heated t).warned t).advised.thermalHold then ((b.heated t).warned t).advised
    else thermalShutdown (toLe 2 (unsigned t 16) ++ [0, 0, 0]) ((b.heated t).warned t).advised := rfl

theorem Block.advised_sameSystem (b : Block) : b.SameSystem b.advised :=
  (Block.SameSystem.forEach (fun n _ c => refreshAdvice_sameSystem n c) b).trans (autoRecal_sameSystem _)

theorem Block.heated_rdI {t : Int} (hlo : -1280 ≤ t) (hhi : t ≤ 3000) (b : Block) :
    (b.heated t).rdI 0x2000 1 = t ∧ (b.heated t).rdI 0x2000 2 = max t (b.rdI 0x2000 2) := by
  have hset : ∀ c : Block, ∀ r, (c.wrI 0x2000 r t).rdI 0x2000 r = t := fun c r => Block.rdI_wrI_self _ _ _ (by omega) (by omega)
  have hold : (b.wrI 0x2000 1 t).rdI 0x2000 2 = b.rdI 0x2000 2 := Block.rdI_wrI_of_ne _ _ (by decide)
  unfold Block.heated
  dsimp only
  rw [hold]
  split
  · next h => exact ⟨(Block.rdI_wrI_of_ne _ _ (by decide)).trans (hset b 1), (hset _ 2).trans (by omega)⟩
  · next h => exact ⟨hset b 1, hold.trans (by omega)⟩

/-- The measurement shows in 0x2000 alone. -/
theorem Block.heated_rd {i : Nat} (hi : 0x2000 < i) (t : Int) (b : Block) (r : Nat) : (b.heated t).rd i r = b.rd i r := by
  have hw : ∀ (c : Block) s, s < 3 → (c.wrI 0x2000 s t).rd i r = c.rd i r := fun c s hs => Block.rd_wrI_of_ne _ _ (by omega)
  unfold Block.heated
  dsimp only
  split
  · rw [hw _ _ (by decide), hw _ _ (by decide)]
  · rw [hw _ _ (by decide)]

theorem Block.heated_power (t : Int) (b : Block) : (b.heated t).power = b.power := by
  unfold Block.heated
  dsimp only
  split <;> rfl

/-- The warning is bit 1 of the conditions, and nothing else of the system. -/
theorem Block.warned_facts (t : Int) (b : Block) :
    (∀ r < 3, (b.warned t).rdI 0x2000 r = b.rdI 0x2000 r) ∧ (b.warned t).ps = b.ps ∧ (b.warned t).power = b.power ∧
      (b.warned t).thermalHold = b.thermalHold ∧ (1100 ≤ t → bit ((b.warned t).rd 0x2005 1) 1 = true) ∧
      (t ≤ 1050 → bit ((b.warned t).rd 0x2005 1) 1 = false) := by
  have hput : ∀ v, (∀ r < 3, (b.wrBit 0x2005 1 1 v).rdI 0x2000 r = b.rdI 0x2000 r) ∧ (b.wrBit 0x2005 1 1 v).ps = b.ps ∧
      (b.wrBit 0x2005 1 1 v).power = b.power ∧ (b.wrBit 0x2005 1 1 v).thermalHold = b.thermalHold ∧
      bit ((b.wrBit 0x2005 1 1 v).rd 0x2005 1) 1 = v := fun v =>
    ⟨fun r hr => Block.rdI_wr_of_ne _ _ (by omega), Block.rd_wrBit_of_ne _ _ _ (by decide), rfl,
      Block.bit_wrBit_ne _ _ _ (by decide) (by decide) v, Block.bit_wrBit_self _ _ _ (by decide) v⟩
  unfold Block.warned
  dsimp only
  split
  · next h =>
    obtain ⟨hr, hps, hpow, hhold, hbit⟩ := hput true
    have he := emcyEvent_sameSystem 0x4210 1 (toLe 2 (unsigned t 16) ++ [0, 0, 0]) (b.wrBit 0x2005 1 1 true)
    simp only [Bool.and_eq_true, decide_eq_true_eq] at h
    refine ⟨fun r hr3 => (he.rdI (by omega) ?_).trans (hr r hr3), he.ps.trans hps, he.power.trans hpow, he.thermalHold.trans hhold,
      fun _ => ?_, fun hlow => absurd hlow (by omega)⟩
    · simp [isSystem]
    · rw [he.rd (by decide) rfl, hbit]
  · next h1 =>
    split
    · next h =>
      obtain ⟨hr, hps, hpow, hhold, hbit⟩ := hput false
      simp only [Bool.and_eq_true, decide_eq_true_eq] at h
      exact ⟨hr, hps, hpow, hhold, fun hhigh => absurd hhigh (by omega), fun _ => hbit⟩
    · next h2 =>
      refine ⟨fun _ _ => rfl, rfl, rfl, rfl, fun hhigh => ?_, fun hlow => ?_⟩
      · simpa [hhigh] using h1
      · simpa [hlow] using h2

/-! ### Thermal shutdown -/

/-- What a sleep of depth `s` took comes back: the store is clear after PS4 and PS5, the banks return after PS3 to PS5. -/
def wakeMemory (s : Nat) (b : Block) : Block :=
  let b := if s = 4 || s = 5 then clearAllUnits b else b
  if 3 ≤ s then forEach (List.range 64) bankBack b else b

/-- PS0 is in force. -/
def enterPs0 (b : Block) : Block :=
  let b := (b.wr 0x2002 2 0).bump 32 0x2002 5 1
  { b with power := { b.power with waking := false } }

/-- Drivers and ports take up their work. -/
def resumeUnits (b : Block) : Block := listenPorts (forEach (List.range 32) refreshDrivers b)

/-- The engines restart, and the loop acquires; the lock is waited for. -/
def restartClock (b : Block) : Block :=
  let b := forEach ((List.range 64).filter b.engOn) settleEngine b
  { startAcquisition b with power := { b.power with lockWait := true } }

theorem leaveSleep_eq (b : Block) : leaveSleep b = if b.ps < 3 then resumeUnits (enterPs0 (wakeMemory b.ps b))
    else restartClock (resumeUnits (enterPs0 (wakeMemory b.ps b))) := by
  unfold leaveSleep
  extract_lets s b1 b2 b3 p b5 b6 c
  have hps0 : b5 = enterPs0 (wakeMemory b.ps b) := rfl
  have hunits : b6 = resumeUnits b5 := rfl
  rw [← hps0, ← hunits]
  unfold restartClock
  extract_lets
  rfl

theorem wakeMemory_light {s : Nat} (h : s < 3) (b : Block) : wakeMemory s b = b := by
  unfold wakeMemory
  dsimp only
  rw [if_neg (by omega), if_neg (by simp; omega)]

theorem resumeUnits_sameSystem (b : Block) : b.SameSystem (resumeUnits b) :=
  .trans (.forEach (fun n _ c => refreshDrivers_sameSystem n c) b) (listenPorts_sameSystem _)

theorem wakeMemory_sameSystem (s : Nat) (b : Block) : b.SameSystem (wakeMemory s b) := by
  have hclear : b.SameSystem (if s = 4 || s = 5 then clearAllUnits b else b) := by
    split
    · exact clearAllUnits_sameSystem b
    · exact .refl b
  unfold wakeMemory
  dsimp only
  split
  · exact hclear.trans (.forEach (fun k _ c => bankBack_sameSystem k c) _)
  · exact hclear

/-- The hold asleep shows in the power state alone, and begins an entry into PS3 from above it. -/
theorem holdAsleep_facts (b : Block) : (∀ i r, r < 256 → isSystem i r = true → i ≠ 0x2002 → (holdAsleep b).reg i r = b.reg i r) ∧
    (b.ps < 3 → (holdAsleep b).power.entry = some 3) := by
  unfold holdAsleep
  split
  · next h => exact ⟨fun _ _ _ _ _ => rfl, fun h3 => absurd h3 (by omega)⟩
  · next h =>
    refine ⟨fun i r hr hi hne => (beginEntry_reg _ _ hr hi).trans ?_, fun _ => by rw [beginEntry_power]⟩
    split
    · rfl
    · rw [leaveSleep_eq, if_pos (by omega), (resumeUnits_sameSystem _).reg i r hr hi, wakeMemory_light (by omega)]
      have hk : ∀ s < 256, odKey i r ≠ odKey 0x2002 s := fun s hs e => hne ((odKey_inj hr hs).1 e).1
      show ((b.wr 0x2002 2 0).bump 32 0x2002 5 1).reg i r = _
      rw [Block.bump, Block.reg_wr, if_neg (hk 5 (by decide)), Block.reg_wr, if_neg (hk 2 (by decide))]

/-- The block in which a thermal shutdown holds the module asleep. -/
def Block.tripped (bytes : List Byte) (b : Block) : Block :=
  let b := forEach (b.armedDoms.filter (fun d => b.dstate d == 1)) faultStop b
  let b := forEach (List.range 32) refreshDrivers (b.wrBit 0x2005 1 2 true)
  emcyEvent 0x4211 1 bytes (b.flag 0x2005 2 3 1)

theorem thermalShutdown_eq (bytes : List Byte) (b : Block) : thermalShutdown bytes b =
    holdAsleep { b.tripped bytes with power := { (b.tripped bytes).power with waking := false, after := none } } := rfl

/-- Conditions and temperature of a module that trips. -/
theorem Block.tripped_facts (bytes : List Byte) (b : Block) : (∀ r < 3, (b.tripped bytes).rdI 0x2000 r = b.rdI 0x2000 r) ∧
    (b.tripped bytes).ps = b.ps ∧ bit ((b.tripped bytes).rd 0x2005 1) 1 = bit (b.rd 0x2005 1) 1 ∧ (b.tripped bytes).thermalHold = true := by
  obtain ⟨c, hc⟩ : ∃ c, c = forEach (b.armedDoms.filter (fun d => b.dstate d == 1)) faultStop b := ⟨_, rfl⟩
  obtain ⟨d, hd⟩ : ∃ d, d = forEach (List.range 32) refreshDrivers (c.wrBit 0x2005 1 2 true) := ⟨_, rfl⟩
  have hstop : b.SameSystem c := hc ▸ .forEach (fun t _ c => faultStop_sameSystem t c) b
  have hdrive : (c.wrBit 0x2005 1 2 true).SameSystem d := hd ▸ .forEach (fun n _ c => refreshDrivers_sameSystem n c) _
  have hmsg : (d.flag 0x2005 2 3 1).SameSystem (b.tripped bytes) := by
    rw [Block.tripped, ← hc, ← hd]
    exact emcyEvent_sameSystem ..
  have hcond : (b.tripped bytes).rd 0x2005 1 = (c.wrBit 0x2005 1 2 true).rd 0x2005 1 := by
    rw [hmsg.rd (by decide) rfl, Block.rd_flag_of_ne _ _ (by decide) (by decide), hdrive.rd (by decide) rfl]
  refine ⟨fun r hr => ?_, ?_, ?_, ?_⟩
  · have hsys : isSystem 0x2000 r = true := by simp [isSystem]
    have hflag : (d.flag 0x2005 2 3 1).rdI 0x2000 r = d.rdI 0x2000 r := by
      rw [Block.flag, Block.rdI_bump_of_ne _ _ _ (by omega), Block.rdI_wr_of_ne _ _ (by omega)]
    rw [hmsg.rdI (by omega) hsys, hflag, hdrive.rdI (by omega) hsys]
    exact (Block.rdI_wr_of_ne _ _ (by omega)).trans (hstop.rdI (by omega) hsys)
  · have hflag : (d.flag 0x2005 2 3 1).ps = d.ps := Block.rd_flag_of_ne _ _ (by decide) (by decide)
    rw [hmsg.ps, hflag, hdrive.ps]
    exact (Block.rd_wrBit_of_ne _ _ _ (by decide)).trans hstop.ps
  · rw [hcond, Block.bit_wrBit_ne _ _ _ (by decide) (by decide), hstop.rd (by decide) rfl]
  · show bit ((b.tripped bytes).rd 0x2005 1) 2 = true
    rw [hcond, Block.bit_wrBit_self _ _ _ (by decide)]

theorem thermalShutdown_facts (bytes : List Byte) (b : Block) :
    (∀ r < 3, (thermalShutdown bytes b).rdI 0x2000 r = b.rdI 0x2000 r) ∧
      bit ((thermalShutdown bytes b).rd 0x2005 1) 1 = bit (b.rd 0x2005 1) 1 ∧ (thermalShutdown bytes b).thermalHold = true ∧
      (b.ps < 3 → (thermalShutdown bytes b).power.entry = some 3) := by
  obtain ⟨hr, hps, hbit, hhold⟩ := b.tripped_facts bytes
  obtain ⟨c, hc⟩ : ∃ c : Block, c = { b.tripped bytes with power := { (b.tripped bytes).power with waking := false, after := none } } := ⟨_, rfl⟩
  have hregs : c.regs = (b.tripped bytes).regs := by rw [hc]
  obtain ⟨hreg, hentry⟩ := holdAsleep_facts c
  have hcond : (holdAsleep c).rd 0x2005 1 = (b.tripped bytes).rd 0x2005 1 :=
    (congrArg BitVec.toNat (hreg 0x2005 1 (by decide) rfl (by decide))).trans (Block.rd_of_regs hregs _ _)
  rw [thermalShutdown_eq, ← hc]
  refine ⟨fun r hr3 => ?_, ?_, ?_, fun h => hentry ?_⟩
  · rw [← hr r hr3]
    exact (congrArg BitVec.toInt (hreg 0x2000 r (by omega) (by simp [isSystem]) (by decide))).trans
      (congrArg BitVec.toInt (Block.reg_of_regs hregs _ _))
  · rw [hcond, hbit]
  · exact (congrArg (bit · 2) hcond).trans hhold
  · rw [show c.ps = (b.tripped bytes).ps from Block.rd_of_regs hregs _ _, hps]
    exact h

/-- Everything that a measurement of the temperature says. -/
theorem temperature_facts {t : Int} (hlo : -1280 ≤ t) (hhi : t ≤ 3000) (b : Block) :
    (temperature t b).rdI 0x2000 1 = t ∧ (temperature t b).rdI 0x2000 2 = max t (b.rdI 0x2000 2) ∧
      (1100 ≤ t → bit ((temperature t b).rd 0x2005 1) 1 = true) ∧ (t ≤ 1050 → bit ((temperature t b).rd 0x2005 1) 1 = false) ∧
      (1250 ≤ t → b.ps < 3 → b.thermalHold = false → (temperature t b).thermalHold = true ∧ (temperature t b).power.entry = some 3) := by
  obtain ⟨h1, h2⟩ := b.heated_rdI hlo hhi
  have hps0 : (b.heated t).ps = b.ps := Block.heated_rd (by decide) ..
  have hhold0 : (b.heated t).thermalHold = b.thermalHold := congrArg (bit · 2) (Block.heated_rd (by decide) ..)
  obtain ⟨hr, hps, _, hhold, hwarn, hcool⟩ := (b.heated t).warned_facts t
  obtain ⟨c, hc⟩ : ∃ c, c = ((b.heated t).warned t).advised := ⟨_, rfl⟩
  have hadv : ((b.heated t).warned t).SameSystem c := hc ▸ Block.advised_sameSystem _
  have hc1 : c.rdI 0x2000 1 = t := (hadv.rdI (by decide) rfl).trans ((hr 1 (by decide)).trans h1)
  have hc2 : c.rdI 0x2000 2 = max t (b.rdI 0x2000 2) := (hadv.rdI (by decide) rfl).trans ((hr 2 (by decide)).trans h2)
  have hcond : c.rd 0x2005 1 = ((b.heated t).warned t).rd 0x2005 1 := hadv.rd (by decide) rfl
  have hchold : c.thermalHold = b.thermalHold := hadv.thermalHold.trans (hhold.trans hhold0)
  rw [temperature_eq, ← hc]
  split
  · next h =>
    refine ⟨hc1, hc2, fun hw => by rw [hcond, hwarn hw], fun hw => by rw [hcond, hcool hw], fun h125 _ hno => ?_⟩
    rw [hchold, hno] at h
    simp at h
    omega
  · obtain ⟨hs, hsbit, hshold, hsentry⟩ := thermalShutdown_facts (toLe 2 (unsigned t 16) ++ [0, 0, 0]) c
    refine ⟨(hs 1 (by decide)).trans hc1, (hs 2 (by decide)).trans hc2, fun hw => by rw [hsbit, hcond, hwarn hw],
      fun hw => by rw [hsbit, hcond, hcool hw], fun _ h3 _ => ⟨hshold, hsentry ?_⟩⟩
    rw [hadv.ps, hps, hps0]
    exact h3

/-! ### Supply (R505) -/

/-- Everything that a measurement of VIN says. -/
theorem vinRange_facts (mv : Nat) (b : Block) :
    (vinRange mv b).rd 0x2000 3 = satTo 16 mv ∧ bit ((vinRange mv b).rd 0x2005 1) 0 = (decide (mv < 6000) || decide (40000 < mv)) ∧
      (bit (b.rd 0x2005 1) 0 = false → (mv < 6000 ∨ 40000 < mv) →
        (vinRange mv b).rd 0x2005 5 = 1 ∧ (vinRange mv b).rd 0x2005 6 = satTo 32 (b.rd 0x2005 6 + 1)) ∧
      Block.Within (fun i r => ((i == 0x2000 && r == 3) || (i == 0x2005 && (r == 1 || r == 5 || r == 6))) || Safety.reporting i r) b
        (vinRange mv b) := by
  obtain ⟨out, hout⟩ : ∃ out, out = (decide (mv < 6000) || decide (40000 < mv)) := ⟨_, rfl⟩
  obtain ⟨c, hc⟩ : ∃ c, c = (b.wr 0x2000 3 (satTo 16 mv)).wrBit 0x2005 1 0 out := ⟨_, rfl⟩
  have hvin : c.rd 0x2000 3 = satTo 16 mv := by
    rw [hc, Block.rd_wrBit_of_ne _ _ _ (by decide), Block.rd_wr_of_lt _ _ _ (satTo_lt (by decide) mv)]
  have hbit : bit (c.rd 0x2005 1) 0 = out := by rw [hc, Block.bit_wrBit_self _ _ _ (by decide)]
  have hcount : c.rd 0x2005 6 = b.rd 0x2005 6 := by rw [hc, Block.rd_wrBit_of_ne _ _ _ (by decide), Block.rd_wr_of_ne _ _ (by decide)]
  have hw : Block.Within (fun i r => ((i == 0x2000 && r == 3) || (i == 0x2005 && (r == 1 || r == 5 || r == 6))) || Safety.reporting i r) b c := by
    rw [hc]
    exact ((Block.Within.refl _ b).wr _ (by decide) rfl).wrBit _ _ (by decide) rfl
  unfold vinRange
  dsimp only
  rw [← hout, ← hc]
  split
  · have hrd : ∀ i r, r < 256 → Safety.reporting i r = false →
        (emcyEvent (if 40000 < mv then 0x3210 else 0x3220) 0 (toLe 2 mv ++ [0, 0, 0]) (c.flag 0x2005 5 6 1)).rd i r = (c.flag 0x2005 5 6 1).rd i r :=
      fun i r hr hi => emcyEvent_rd _ _ _ _ hr hi
    refine ⟨?_, ?_, fun _ _ => ⟨?_, ?_⟩, Block.Within.emcyEvent (hw.flag _ (by decide) (by decide) rfl rfl) _ _ _⟩
    · rw [hrd _ _ (by decide) rfl, Block.rd_flag_of_ne _ _ (by decide) (by decide), hvin]
    · rw [hrd _ _ (by decide) rfl, Block.rd_flag_of_ne _ _ (by decide) (by decide), hbit]
    · rw [hrd _ _ (by decide) rfl, Block.rd_flag_self _ _ _ (by decide)]
    · rw [hrd _ _ (by decide) rfl, Block.rd_flag_count _ _ _ (by decide), hcount]
  · next h =>
    refine ⟨hvin, hbit, fun hwas hrange => absurd h ?_, hw⟩
    have hset : out = true := by
      rw [hout]
      simpa using hrange
    simp [hset, hwas]

/-! ### The error log (R524) -/

/-- Where the reports are settled their evaluation changes nothing. -/
theorem monitor_of_settled {b : Block} (h : Safety.reportsSettled b) : monitor b = b := by
  obtain ⟨herr, hal⟩ := h
  have hrec : recovered b = b := by
    unfold recovered
    rw [if_neg (by simp [herr])]
  have hraise : raiseAlert b = b := by
    unfold raiseAlert
    rw [if_neg (by simp [hal])]
  rw [monitor, hrec, hraise, ← herr, ← hal]

theorem clearEntries_reg (xs : List Nat) (i r : Nat) (b : Block) (hr : r < 256) (hxs : ∀ x ∈ xs, x < 64) :
    (forEach xs (fun i b => (b.wr 0x8001 (i + 1) 0).wr 0x8002 (i + 1) 0) b).reg i r =
      if (i = 0x8001 ∨ i = 0x8002) ∧ 1 ≤ r ∧ r - 1 ∈ xs then 0 else b.reg i r := by
  induction xs generalizing b with
  | nil => simp [forEach]
  | cons x xs ih =>
    have hx : x < 64 := hxs x List.mem_cons_self
    rw [show forEach (x :: xs) (fun i b => (b.wr 0x8001 (i + 1) 0).wr 0x8002 (i + 1) 0) b =
      forEach xs (fun i b => (b.wr 0x8001 (i + 1) 0).wr 0x8002 (i + 1) 0) ((b.wr 0x8001 (x + 1) 0).wr 0x8002 (x + 1) 0) from rfl,
      ih _ (fun y hy => hxs y (List.mem_cons_of_mem _ hy)), Block.reg_wr, Block.reg_wr]
    simp only [odKey_inj hr (show x + 1 < 256 by omega), List.mem_cons]
    by_cases hmem : (i = 0x8001 ∨ i = 0x8002) ∧ 1 ≤ r ∧ r - 1 ∈ xs
    · rw [if_pos hmem, if_pos ⟨hmem.1, hmem.2.1, .inr hmem.2.2⟩]
    · rw [if_neg hmem]
      by_cases hnow : (i = 0x8001 ∨ i = 0x8002) ∧ r = x + 1
      · rw [if_pos (show (i = 0x8001 ∨ i = 0x8002) ∧ 1 ≤ r ∧ (r - 1 = x ∨ r - 1 ∈ xs) from ⟨hnow.1, by omega, .inl (by omega)⟩)]
        split
        · rfl
        · rw [if_pos (by omega)]
          rfl
      · rw [if_neg (by omega), if_neg (by omega), if_neg (fun h => ?_)]
        obtain ⟨hi, h1, rfl | hin⟩ := h
        · exact hnow ⟨hi, by omega⟩
        · exact hmem ⟨hi, h1, hin⟩

/-- A clear empties the log; of other registers it changes none. -/
theorem logClear_facts (b : Block) : (logClear 1 b).rd 0x8000 1 = 0 ∧
    (∀ i < 64, (logClear 1 b).rd 0x8001 (i + 1) = 0 ∧ (logClear 1 b).rd 0x8002 (i + 1) = 0) ∧
    (∀ i r, r < 256 → Safety.reporting i r = false → (logClear 1 b).rd i r = b.rd i r) ∧ (logClear 1 b).power = b.power ∧
    (logClear 1 b).lastErr = b.lastErr ∧ (logClear 1 b).lastAlert = b.lastAlert := by
  obtain ⟨c, hc⟩ : ∃ c, c = forEach (List.range 64) (fun i b => (b.wr 0x8001 (i + 1) 0).wr 0x8002 (i + 1) 0) b := ⟨_, rfl⟩
  have hclear : logClear 1 b = { c.wr 0x8000 1 0 with logWait := [] } := by
    rw [logClear, if_pos (by decide), ← hc]
  have hkeep : ∀ {γ : Type} (g : Block → γ), (∀ b i s v, g (b.wr i s v) = g b) → g c = g b := fun g hg => by
    rw [hc]
    exact forEach_keeps g (fun i _ d => (hg _ _ _ _).trans (hg _ _ _ _)) b
  have hrd : ∀ i r, (logClear 1 b).rd i r = (c.wr 0x8000 1 0).rd i r := Block.rd_of_regs (by rw [hclear])
  have hcr : ∀ i r, r < 256 → c.reg i r = if (i = 0x8001 ∨ i = 0x8002) ∧ 1 ≤ r ∧ r - 1 ∈ List.range 64 then 0 else b.reg i r := fun i r hr => by
    rw [hc, clearEntries_reg _ _ _ _ hr (fun x hx => List.mem_range.1 hx)]
  refine ⟨?_, fun i hi => ?_, fun i r hr hrep => ?_, ?_, ?_, ?_⟩
  · rw [hrd, Block.rd_wr_of_lt _ _ _ (by decide)]
  · have hz : ∀ k, k = 0x8001 ∨ k = 0x8002 → (logClear 1 b).rd k (i + 1) = 0 := fun k hk => by
      rw [hrd, Block.rd_wr_of_ne _ _ (by omega), Block.rd, hcr _ _ (by omega), if_pos ⟨hk, by omega, by simp [hi]⟩]
      rfl
    exact ⟨hz _ (.inl rfl), hz _ (.inr rfl)⟩
  · simp only [Safety.reporting, Bool.or_eq_false_iff, Bool.and_eq_false_iff, beq_eq_false_iff_ne, ne_eq] at hrep
    rw [hrd, Block.rd_wr_of_ne _ _ (by omega), Block.rd, hcr _ _ hr, if_neg (by omega)]
    rfl
  · rw [hclear]
    exact hkeep Block.power (fun _ _ _ _ => rfl)
  · rw [hclear]
    exact hkeep Block.lastErr (fun _ _ _ _ => rfl)
  · rw [hclear]
    exact hkeep Block.lastAlert (fun _ _ _ _ => rfl)

/-- Settles O60: each measurement touches the system's objects alone, and a clear of the log shows no cause. -/
theorem theModuleWatchesItself : Obligations.TheModuleWatchesItself := by
  unfold Obligations.TheModuleWatchesItself
  refine ⟨?_, ?_, ?_, ?_⟩
  · intro s x hon hlo hhi
    obtain ⟨h1, h2, hwarn, hcool, hhold⟩ := temperature_facts hlo hhi s.blk
    have hrd : ∀ i r, r < 256 → Safety.reporting i r = false →
        (s.run (fun _ b => temperature x b)).blk.rd i r = (temperature x s.blk).rd i r := State.run_rd _ _
    refine ⟨_, State.act_of_on (by simp [Instr.wf, hlo, hhi]) hon _, ?_, ?_, fun hw => ?_, fun hw => ?_, fun h125 h3 hno => ?_⟩
    · rw [State.run_rdI_of_ne _ _ _ _ (by decide), h1]
    · rw [State.run_rdI_of_ne _ _ _ _ (by decide), h2]
    · rw [hrd _ _ (by decide) rfl, hwarn hw]
    · rw [hrd _ _ (by decide) rfl, hcool hw]
    · obtain ⟨hh, he⟩ := hhold h125 h3 hno
      rw [State.run_power, he]
      exact ⟨(congrArg (bit · 2) (hrd 0x2005 1 (by decide) rfl)).trans hh, rfl⟩
  · intro s mv hon
    obtain ⟨hvin, hbit, hflag, hw⟩ := vinRange_facts mv s.blk
    have hrd : ∀ i r, r < 256 → Safety.reporting i r = false →
        (s.run (fun _ b => vinRange mv b)).blk.rd i r = (vinRange mv s.blk).rd i r := State.run_rd _ _
    refine ⟨_, State.act_of_on rfl hon _, ?_, ?_, fun hwas hrange => ?_, (Block.Within.keeps hw).of_reporting⟩
    · rw [hrd _ _ (by decide) rfl, hvin]
    · rw [hrd _ _ (by decide) rfl, hbit]
    · rw [hrd _ _ (by decide) rfl, hrd _ _ (by decide) rfl]
      exact hflag hwas hrange
  · intro s hon
    exact ⟨_, State.act_of_on rfl hon _, by rw [State.run_flash]; rfl, Block.Within.keeps ((Block.Within.refl _ _).of_regs rfl rfl)⟩
  · intro s p hs hset ha
    obtain ⟨c, hc⟩ : ∃ c, c = logClear 1 s.blk.counted := ⟨_, rfl⟩
    obtain ⟨hn, hlog, hrd, hpow, herr, hal⟩ := logClear_facts s.blk.counted
    rw [← hc] at hn hlog hrd hpow herr hal
    obtain ⟨o, ho⟩ := State.put_eq (c := c) hs ha (by rw [hc]; rfl) (by decide)
    obtain ⟨d, hd⟩ : ∃ d, d = c.reply (Resp.plain stOK) c.bar o := ⟨_, rfl⟩
    have hdrd : ∀ i r, d.rd i r = c.rd i r := fun i r => by rw [hd, Block.reply_rd]
    have hcause : ∀ i r, r < 256 → Safety.reporting i r = false → i ≠ 0x1E10 → d.rd i r = s.blk.rd i r := fun i r hr hrep hi => by
      rw [hdrd, hrd i r hr hrep, Block.counted_rd _ hr hi]
    have hsettled : Safety.reportsSettled d := by
      refine ⟨?_, ?_⟩
      · rw [errorRegister_of_rd hcause, ← hset.1, hd]
        exact herr
      · rw [enabledCauses_of_rd hcause, ← hset.2, hd]
        exact hal
    have hblk : ∀ i r, (s.run (fun _ _ => d)).blk.rd i r = c.rd i r := fun i r => by
      show (monitor d).rd i r = _
      rw [monitor_of_settled hsettled, hdrd]
    rw [← hd] at ho
    refine ⟨_, (State.act_of_on rfl hs.1 _).trans (congrArg _ ho), ?_, ?_, fun i hi => ?_, ?_⟩
    · rw [State.run_resp, hd, Block.reply_resp]
    · rw [hblk, hn]
    · rw [hblk, hblk]
      exact hlog i hi
    · rw [State.run_power, hd]
      exact hpow

end Sys2Proof.Machine

/-! # Power states (R509 to R515, R518) -/

namespace Sys2Proof.Machine

/-! ### Requests (R510) -/

/-- The count of requests is no matter of a power state request. -/
theorem Block.Alike.powerStatus {b c : Block} (h : c.Alike b) (v : Nat) : powerStatus c v = powerStatus b v := by
  have hsafe : ∀ t < 8, c.safeOn t = b.safeOn t := fun t ht => by rw [Block.safeOn, Block.safeOn, h.rd _ _ (by omega)]
  have hstim : (List.range 8).any (fun t => c.mode t == 0xA || c.mode t == 0xB || (c.mode t == 8 && c.safeOn t)) =
      (List.range 8).any (fun t => b.mode t == 0xA || b.mode t == 0xB || (b.mode t == 8 && b.safeOn t)) :=
    any_congr_mem fun t ht => by
      have ht8 := List.mem_range.1 ht
      rw [h.mode (by omega), hsafe t ht8]
  have hbusy : ∀ n, wakePodBusy c n = wakePodBusy b n := fun n => by
    by_cases hn : n < 32
    · by_cases hd : b.podDom n < 8
      · simp only [wakePodBusy, h.podDom (show n < 256 by omega), h.mode (show b.podDom n < 256 by omega)]
      · simp [wakePodBusy, h.podDom (show n < 256 by omega), hd]
    · simp [wakePodBusy, hn]
  have hps : c.ps = b.ps := h.rd _ _ (by decide)
  have hhold : c.thermalHold = b.thermalHold := congrArg (bit · 2) (h.rd _ _ (by decide))
  have hflash : c.flashBusy = b.flashBusy := (congrArg Block.flashBusy h.shape :)
  have hpower : c.power = b.power := (congrArg Block.power h.shape :)
  have hpcie : c.pcie = b.pcie := (congrArg Block.pcie h.shape :)
  have hup : c.linkIsUp = b.linkIsUp := (congrArg Block.linkIsUp h.shape :)
  simp only [Machine.powerStatus, hstim, hbusy, hps, hhold, hflash, hpower, hpcie, hup, h.armedDoms, h.chan, h.rd 0x2200 4 (by decide),
    h.rd 0x2002 3 (by decide), h.rd 0x2003 1 (by decide), h.rdI 0x2000 1 (by decide)]

/-- A request over either way is one of R510; over BAR0 its status shows in PWR_STATUS. -/
theorem powerRequest_via {s : State} {w : Via} {v : Nat} (hs : Safety.Serving s) (hv : v ≤ 5) (hr : Safety.Reaches s w 0x2002 1 v)
    (hst : powerStatus s.blk v ≠ stRANGE) :
    ∃ b x m o, b.Alike s.blk ∧
      exec (.powerStateRequest w v) s = .next (s.run (fun _ _ => (powerRequest v b).2.reply x m o)) ∧
      Safety.Answered w (powerStatus s.blk v) (s.run (fun _ _ => (powerRequest v b).2.reply x m o)) := by
  have hbits : bits (v % 2 ^ 32) 0 3 = v := by rw [Nat.mod_eq_of_lt (by omega), bits_all (by omega)]
  obtain ⟨b, x, m, o, hb, hrun, hans⟩ := State.via_eq (f := fun b => (powerRequest v b).2) (off := 0x40) (word := v) hs hr (by decide) (by decide)
    ⟨((powerRequest v s.blk).2.bset 0x44 0 (powerRequest v s.blk).1).bar, by
      show (stOK, (powerRequest (bits (v % 2 ^ 32) 0 3) s.blk).2.bset 0x44 0 _) = _
      rw [hbits]
      rfl⟩
    (fun p _ => by
      show powerRequest v s.blk.counted = _
      exact Prod.ext (s.blk.counted_alike.powerStatus v) rfl) hst
  exact ⟨b, x, m, o, hb, (State.act_of_on rfl hs.1 _).trans (congrArg _ hrun), hans⟩

/-! ### Wake sources (R513, R514) -/

/-- A source that acts on a module that sleeps begins the exit and is named. -/
theorem run_wake {s : State} {code : Nat} (hcode : code < 256) (hhold : s.blk.thermalHold = false) (hentry : s.blk.power.entry = none)
    (hwaking : s.blk.power.waking = false) (hall : wakeAllowed s.blk s.blk.ps code = true) {f : List Host.Cell → Block → Block}
    (hf : f s.mem s.blk = wake code s.blk) : (s.run f).blk.power.waking = true ∧ (s.run f).blk.rd 0x2002 4 = code ∧
      Safety.Keeps (fun i r => i == 0x2002 && r == 4) s (s.run f) := by
  have hwake : wake code s.blk = { s.blk.wr 0x2002 4 code with power := { s.blk.power with waking := true } } := by
    simp [wake, hhold, hentry, hwaking, hall]
  refine ⟨?_, ?_, Block.Within.keeps ?_⟩
  · rw [State.run_power, hf, hwake]
  · rw [State.run_rd _ _ _ _ (by decide) rfl, hf, hwake]
    exact Block.rd_wr_of_lt s.blk 0x2002 4 (by omega)
  · rw [hf, hwake]
    exact ((Block.Within.refl _ s.blk).wr code (i := 0x2002) (s := 4) (by decide) rfl).of_regs rfl rfl

/-! ### Entry (R511) -/

/-- The state shows, and the entry is over. -/
def stateShown (s : Nat) (b : Block) : Block :=
  let b := ((b.wr 0x2002 2 s).bump 32 0x2002 5 1)
  { b with power := { b.power with entry := none } }

/-- What the state then does to the units of the module is no matter of its registers. -/
theorem enterState_sameSystem (s : Nat) (b : Block) : (stateShown s b).SameSystem (enterState s b) := by
  have hport : ∀ p r, isSystem (portObj p) r = false := fun p => isSystem_of_ge (by unfold portObj; omega)
  have hdown : ∀ p, ∀ c : Block, c.SameSystem (if c.linkUp p then ((chainLoss p c).2.wr (portObj p) 2 0).wr (portObj p) 3 0
      else (c.wr (portObj p) 2 0).wr (portObj p) 3 0) := fun p c => by
    split
    · exact ((chainLoss_sameSystem p c).wr _ (by decide) (hport p _)).wr _ (by decide) (hport p _)
    · exact ((Block.SameSystem.refl c).wr _ (by decide) (hport p _)).wr _ (by decide) (hport p _)
  unfold enterState
  extract_lets b1 p b2 b2' b3 pc b4 b5 b6
  have h3 : b2.SameSystem b3 := by
    unfold b3
    split
    · exact .refl b2
    · exact .trans (.forEach (fun n _ c => refreshDrivers_sameSystem n c) b2) (.forEach (fun p _ c => hdown p c) b2')
  have h4 : b3.SameSystem b4 := by
    unfold b4
    split
    · exact (Block.SameSystem.refl b3).fields rfl rfl rfl rfl
    · exact .refl b3
  have h5 : b4.SameSystem b5 := by
    unfold b5
    split
    · exact .refl b4
    · exact (reclaimComplete_sameSystem b4).trans (stopClock_sameSystem _)
  have h6 : b5.SameSystem b6 := by
    unfold b6
    split
    · exact queuesLose_sameSystem ..
    · exact .refl b5
  refine (((h3.trans h4).trans h5).trans h6).trans ?_
  split
  · exact .forEach (fun k _ c => bankSleep_sameSystem s k c) b6
  · exact .refl b6

theorem stateShown_facts {s : Nat} (hs : s ≤ 5) (b : Block) : (stateShown s b).ps = s ∧
    (stateShown s b).rd 0x2002 5 = satTo 32 (b.rd 0x2002 5 + 1) ∧ (stateShown s b).power = { b.power with entry := none } := by
  have hrd : ∀ r, (stateShown s b).rd 0x2002 r = ((b.wr 0x2002 2 s).bump 32 0x2002 5 1).rd 0x2002 r := Block.rd_of_regs rfl _
  refine ⟨?_, ?_, rfl⟩
  · rw [Block.ps, hrd, Block.rd_bump_of_ne _ _ _ (by decide), Block.rd_wr_of_lt _ _ _ (by omega)]
  · rw [hrd, Block.rd_bump_self _ _ _ _ (by decide), Block.rd_wr_of_ne _ _ (by decide)]

/-- An entry that no domain and no flash write holds up is carried out, and no source has been held. -/
theorem powerEntryComplete_facts {b : Block} {x : Nat} (hentry : b.power.entry = some x) (hx : x ≤ 5) (hjob : b.server.job = none)
    (harm : b.armedDoms = []) (hheld : b.power.held = 0) : (powerEntryComplete b).ps = x ∧ (powerEntryComplete b).power.entry = none ∧
      (powerEntryComplete b).rd 0x2002 5 = satTo 32 (b.rd 0x2002 5 + 1) := by
  obtain ⟨c, hc⟩ : ∃ c, c = if x = 5 then writeResume b else b := ⟨_, rfl⟩
  have hregs : c.regs = b.regs := by rw [hc]; split <;> rfl
  have hpow : c.power = b.power := by rw [hc]; split <;> rfl
  obtain ⟨d, hd⟩ : ∃ d, d = enterState x c := ⟨_, rfl⟩
  obtain ⟨hps, hcount, hp⟩ := stateShown_facts hx c
  have hsame : (stateShown x c).SameSystem d := hd ▸ enterState_sameSystem x c
  have hdp : d.power = { b.power with entry := none } := by rw [hsame.power, hp, hpow]
  obtain ⟨e, he⟩ : ∃ e, e = if x = 5 then { d with pcie := { Pcie.off with perst := d.pcie.perst } } else d := ⟨_, rfl⟩
  have heregs : e.regs = d.regs := by rw [he]; split <;> rfl
  have hep : e.power = d.power := by rw [he]; split <;> rfl
  have hdone : powerEntryComplete b = { e with power := { e.power with held := 0 } } := by
    have hfree : (b.flashBusy || !b.armedDoms.isEmpty) = false := by simp [Block.flashBusy, hjob, harm]
    unfold powerEntryComplete
    rw [hentry]
    dsimp only
    rw [hfree, ← hc, ← hd, ← he, if_neg (by decide), if_pos (by rw [hep, hdp]; exact hheld)]
  have hrd : ∀ r < 256, isSystem 0x2002 r = true → (powerEntryComplete b).rd 0x2002 r = (stateShown x c).rd 0x2002 r := fun r hr hi => by
    rw [← hsame.rd hr hi]
    exact Block.rd_of_regs (by rw [hdone]; exact heregs) _ _
  refine ⟨(hrd 2 (by decide) rfl).trans hps, ?_, ?_⟩
  · rw [hdone, hep, hdp]
  · rw [hrd 5 (by decide) rfl, hcount]
    exact congrArg (fun n => satTo 32 (n + 1)) (Block.rd_of_regs hregs _ _)

/-! ### Exit (R515) -/

theorem enterPs0_facts (b : Block) : (enterPs0 b).ps = 0 ∧ (enterPs0 b).rd 0x2002 5 = satTo 32 (b.rd 0x2002 5 + 1) ∧
    (enterPs0 b).power = { b.power with waking := false } := by
  have hrd : ∀ r, (enterPs0 b).rd 0x2002 r = ((b.wr 0x2002 2 0).bump 32 0x2002 5 1).rd 0x2002 r := Block.rd_of_regs rfl _
  refine ⟨?_, ?_, rfl⟩
  · rw [Block.ps, hrd, Block.rd_bump_of_ne _ _ _ (by decide), Block.rd_wr_of_lt _ _ _ (by decide)]
  · rw [hrd, Block.rd_bump_self _ _ _ _ (by decide), Block.rd_wr_of_ne _ _ (by decide)]

/-- The restart of the clock notes that the lock is waited for. -/
theorem restartClock_facts (b : Block) : (∀ i r, r < 256 → isSystem i r = true → (restartClock b).reg i r = b.reg i r) ∧
    (restartClock b).power = { b.power with lockWait := true } ∧ (restartClock b).time = b.time := by
  obtain ⟨c, hc⟩ : ∃ c, c = forEach ((List.range 64).filter b.engOn) settleEngine b := ⟨_, rfl⟩
  have hengines : b.SameSystem c := hc ▸ .forEach (fun e _ c => settleEngine_sameSystem e c) b
  obtain ⟨d, hd⟩ : ∃ d, d = startAcquisition c := ⟨_, rfl⟩
  have hacq : c.SameSystem d := hd ▸ startAcquisition_sameSystem c
  have hres : restartClock b = { d with power := { c.power with lockWait := true } } := by
    unfold restartClock
    dsimp only
    rw [← hc, ← hd]
  refine ⟨fun i r hr hi => ?_, ?_, ?_⟩
  · rw [← hengines.reg i r hr hi, ← hacq.reg i r hr hi, hres]
    rfl
  · rw [hres, hengines.power]
  · rw [hres]
    exact hacq.time.trans hengines.time

/-- A module that leaves a sleep is in PS0; what a request has put after the exit still stands, and so does the time. -/
theorem leaveSleep_facts (b : Block) : (leaveSleep b).ps = 0 ∧ (leaveSleep b).rd 0x2002 5 = satTo 32 (b.rd 0x2002 5 + 1) ∧
    (leaveSleep b).power.waking = false ∧ (leaveSleep b).power.after = b.power.after ∧ (leaveSleep b).time = b.time := by
  have hmem := wakeMemory_sameSystem b.ps b
  obtain ⟨hps, hcount, hpow⟩ := enterPs0_facts (wakeMemory b.ps b)
  obtain ⟨c, hc⟩ : ∃ c, c = resumeUnits (enterPs0 (wakeMemory b.ps b)) := ⟨_, rfl⟩
  have hres : (enterPs0 (wakeMemory b.ps b)).SameSystem c := hc ▸ resumeUnits_sameSystem _
  have hcps : c.ps = 0 := hres.ps.trans hps
  have hccount : c.rd 0x2002 5 = satTo 32 (b.rd 0x2002 5 + 1) := by rw [hres.rd (by decide) rfl, hcount, hmem.rd (by decide) rfl]
  have hcpow : c.power = { b.power with waking := false } := by rw [hres.power, hpow, hmem.power]
  have hctime : c.time = b.time := hres.time.trans hmem.time
  rw [leaveSleep_eq, ← hc]
  split
  · exact ⟨hcps, hccount, by rw [hcpow], by rw [hcpow], hctime⟩
  · obtain ⟨hreg, hp, ht⟩ := restartClock_facts c
    refine ⟨(congrArg BitVec.toNat (hreg 0x2002 2 (by decide) rfl)).trans hcps, (congrArg BitVec.toNat (hreg 0x2002 5 (by decide) rfl)).trans hccount,
      ?_, ?_, ht.trans hctime⟩
    · rw [hp, hcpow]
    · rw [hp, hcpow]

/-- The frame number resumes after the frames slept. -/
def resumeFrames (c : Nat) (b : Block) : Block :=
  let n := framesAsleep (b.rd 0x2100 8) c
  let next := b.time.frame.toNat + 1 + n
  let b := (b.wr 0x2002 6 n).bump 32 0x2011 1 (next / 2 ^ 53)
  { b with clk := { b.clk with run := true, next := some (next % 2 ^ 53) } }

theorem wakeExit_eq {b : Block} {c : Nat} (hw : b.power.waking = true) (h1 : 1 ≤ b.ps) (h4 : b.ps ≤ 4) (hafter : b.power.after = none) :
    wakeExit c b = if b.ps < 3 then leaveSleep b else resumeFrames c (leaveSleep b) := by
  obtain ⟨_, _, _, ha, _⟩ := leaveSleep_facts b
  unfold wakeExit
  rw [if_neg (by simp [hw]; omega)]
  extract_lets s d n next e pw f
  have hf : f = if b.ps < 3 then leaveSleep b else resumeFrames c (leaveSleep b) := rfl
  have hnone : f.power.after = none := by
    rw [hf]
    split
    · rw [ha, hafter]
    · exact ha.trans hafter
  clear_value f
  rw [hnone, ← hf]

theorem resumeFrames_facts (c : Nat) (b : Block) : (resumeFrames c b).ps = b.ps ∧ (resumeFrames c b).rd 0x2002 5 = b.rd 0x2002 5 ∧
    (resumeFrames c b).power = b.power ∧ (resumeFrames c b).clk.run = true ∧
    (resumeFrames c b).clk.next = some ((b.time.frame.toNat + 1 + framesAsleep ((resumeFrames c b).rd 0x2100 8) c) % 2 ^ 53) := by
  obtain ⟨n, hn⟩ : ∃ n, n = framesAsleep (b.rd 0x2100 8) c := ⟨_, rfl⟩
  obtain ⟨next, hnext⟩ : ∃ next, next = b.time.frame.toNat + 1 + n := ⟨_, rfl⟩
  have hrd : ∀ i r, (resumeFrames c b).rd i r = ((b.wr 0x2002 6 n).bump 32 0x2011 1 (next / 2 ^ 53)).rd i r := by
    rw [hnext, hn]
    exact Block.rd_of_regs rfl
  have hkeep : ∀ i r, i * 256 + r ≠ 0x2002 * 256 + 6 → i * 256 + r ≠ 0x2011 * 256 + 1 → (resumeFrames c b).rd i r = b.rd i r := fun i r h6 h1 => by
    rw [hrd, Block.rd_bump_of_ne _ _ _ h1, Block.rd_wr_of_ne _ _ h6]
  refine ⟨hkeep _ _ (by decide) (by decide), hkeep _ _ (by decide) (by decide), rfl, rfl, ?_⟩
  rw [hkeep 0x2100 8 (by decide) (by decide)]
  rfl

/-! ### The resume from PS5 (R515, R518) -/

theorem placeValues_power (vals : List (Nat × Word)) (b : Block) : (placeValues vals b).power = b.power :=
  forEach_keeps (f := fun (x : Nat × Word) (b : Block) => { b with regs := place odDefault b.regs x.1 x.2 }) Block.power (fun _ _ _ => rfl) b

theorem loadGroup_power (vals : List (Nat × Word)) (b : Block) : (loadGroup vals b).power = b.power := by
  have hrefused : ∀ idx c, (objectRefused idx c).power = c.power := fun idx c => by
    unfold objectRefused
    split <;> rfl
  refine forEach_keeps Block.power (fun idx _ c => ?_) b
  unfold loadObject
  dsimp only
  split
  · split
    · exact forEach_keeps (f := fun (x : Nat × Word) (b : Block) => setBand (x.1 % 256 - 1) (bandOf x.2.toNat) b) Block.power (fun _ _ _ => rfl) c
    · exact hrefused idx c
  · split
    · exact placeValues_power _ c
    · exact hrefused idx c

theorem makeFirmware_power (k owner : Nat) (b : Block) : (makeFirmware k owner b).power = b.power := rfl

theorem placeQueues_power (k : Nat) (b : Block) : (placeQueues k b).power = b.power :=
  forEach_keeps (f := fun q (b : Block) => b.setQueue q { b.queue q with cfg := putBits (b.queue q).cfg 16 6 k }) Block.power
    (fun _ _ _ => rfl) b

theorem takeFirmware_power (pass : List Nat) (b : Block) : (takeFirmware pass b).power = b.power := by
  unfold takeFirmware
  split
  · rw [placeQueues_power, makeFirmware_power, makeFirmware_power, makeFirmware_power]
  · rfl

theorem restoreRetired_power (b : Block) : (restoreRetired b).power = b.power :=
  forEach_keeps (f := fun k (b : Block) => b.setBank k { b.bank k with owner := owRETIRED }) Block.power (fun _ _ _ => rfl) b

theorem startCan_power (b : Block) : (startCan b).power = b.power := by
  have hpol : (polarityReset b).power = b.power := by
    unfold polarityReset
    dsimp only
    split <;> rfl
  obtain ⟨o, x, h⟩ := bootUp_shape (polarityReset b)
  rw [startCan, h, ← hpol]
  rfl

theorem setPortEnable_power (p v : Nat) (b : Block) : (setPortEnable p v b).power = b.power := by
  unfold setPortEnable
  dsimp only
  split
  · rw [(listenPort_sameSystem p _).power, Block.wr_power]
  · rw [Block.wr_power, Block.wr_power, Block.wr_power]
    split
    · rw [(chainLoss_sameSystem p _).power, Block.wr_power]
    · exact Block.wr_power ..

/-- What follows the restored registers of a pod, an engine and a port. -/
def restorePod (n : Nat) (b : Block) : Block :=
  let o := 0x3100 + n
  let win := b.rd o 1
  let b := b.setPod n { b.pod n with win := win, se := b.rd o 2 == 1, dith := b.rd o 3, visitMode := b.rd o 4 }
  let b := b.wr o 5 (real32 (((winHi win - winLo win : Int) : Rat) / 2000 / 16))
  let b := forEach (List.range 16) (fun m b =>
    b.setLane (16 * n + m) { b.lane (16 * n + m) with set := b.rd (0x3200 + n) (m + 1) }) b
  refreshDrivers n b

def restoreEngine (e : Nat) (b : Block) : Block :=
  let b := refreshEngine e b
  if b.engOn e then settleEngine e b else b

def restorePort (p : Nat) (b : Block) : Block := if b.rd (portObj p) 1 % 2 = 0 then setPortEnable p 0 b else b

theorem settleRestored_eq (b : Block) : settleRestored b =
    forEach (List.range 4) restorePort (forEach (List.range 64) restoreEngine (forEach (List.range 32) restorePod b)) := rfl

theorem settleRestored_power (b : Block) : (settleRestored b).power = b.power := by
  have hpod : ∀ n c, (restorePod n c).power = c.power := fun n c => by
    unfold restorePod
    extract_lets o win pod c1 c2 c3
    have h2 : c2.power = c1.power := Block.wr_power ..
    have h3 : c3.power = c2.power := forEach_keeps (f := fun m (b : Block) => b.setLane (16 * n + m)
      { b.lane (16 * n + m) with set := b.rd (0x3200 + n) (m + 1) }) Block.power (fun _ _ _ => rfl) c2
    exact (refreshDrivers_sameSystem n c3).power.trans (h3.trans h2)
  have hengine : ∀ e c, (restoreEngine e c).power = c.power := fun e c => by
    have hrefresh : (refreshEngine e c).power = c.power := EngineBlind.refreshEngine (g := Block.power) {} c
    unfold restoreEngine
    dsimp only
    split
    · rw [(settleEngine_sameSystem e _).power, hrefresh]
    · exact hrefresh
  have hport : ∀ p c, (restorePort p c).power = c.power := fun p c => by
    unfold restorePort
    split
    · exact setPortEnable_power p 0 c
    · rfl
  rw [settleRestored_eq, forEach_keeps Block.power (fun p _ c => hport p c), forEach_keeps Block.power (fun e _ c => hengine e c),
    forEach_keeps Block.power (fun n _ c => hpod n c)]

/-- The frames restart at 0, PS0 is in force, and what is counted is counted. -/
def resumeShown (n : Block) : Block :=
  let n := { n with clk := { n.clk with run := true, next := some 0 }, power := { n.power with lockWait := true } }
  let n := (((n.wr 0x2002 2 0).bump 32 0x2002 5 1).bump 32 0x2002 7 1)
  ((n.wr 0x4010 2 0).bump 32 0x4010 3 1).wr 0x2004 5 1

theorem resumeShown_facts (n : Block) : (resumeShown n).ps = 0 ∧ (resumeShown n).power.waking = n.power.waking ∧
    (resumeShown n).clk.run = true ∧ (resumeShown n).clk.next = some 0 := by
  refine ⟨?_, rfl, rfl, rfl⟩
  rw [Block.ps, resumeShown, Block.rd_wr_of_ne _ _ (by decide), Block.rd_bump_of_ne _ _ _ (by decide), Block.rd_wr_of_ne _ _ (by decide),
    Block.rd_bump_of_ne _ _ _ (by decide), Block.rd_bump_of_ne _ _ _ (by decide), Block.rd_wr_of_lt _ _ _ (by decide)]

/-- The module that a resume makes, before it is ready. -/
theorem resumeReady_eq {b : Block} {img : Resume} (hw : b.power.waking = true) (hps : b.ps = 5) (himg : b.flash.resume = some img)
    (hafter : b.power.after = none) : ∃ n, n.power.waking = false ∧
      resumeReady b = showActivities (listenPorts ((resumeShown n).wr 0x2001 0 1)) := by
  unfold resumeReady
  rw [if_neg (by simp [hw, hps]), himg]
  dsimp -zeta only
  rw [hafter]
  extract_lets c0 after pc sv c n1 n2 n3 n4 n5 n6 n7 n8 pw ck n9 n10 n11 n12
  have h0 : c.power.waking = false := rfl
  have h1 : n1.power = c.power := placeValues_power _ c
  have h2 : n2.power = n1.power := (clearAllUnits_sameSystem _).power.trans (restoreRetired_power n1)
  have h3 : n3.power = n2.power := takeFirmware_power _ n2
  have h4 : n4.power = n3.power := loadGroup_power _ n3
  have h5 : n5.power = n4.power := Block.wr_power ..
  have h6 : n6.power = n5.power := (startCan_power _).trans ((settleRestored_power _).trans (loadGroup_power _ n5))
  have h7 : n7.power = n6.power := forEach_keeps Block.power (f := fun (x : Nat × Int × Bool) (b : Block) =>
    refreshAdvice x.1 (b.setPod x.1 { b.pod x.1 with calTemp := x.2.1, factory := x.2.2 })) (fun x _ d => (refreshAdvice_sameSystem x.1 _).power) n6
  have h8 : n8.power = n7.power := (startAcquisition_sameSystem n7).power
  clear_value n8 n7 n6 n5 n4 n3 n2 n1
  exact ⟨n8, by rw [h8, h7, h6, h5, h4, h3, h2, h1, h0], rfl⟩

theorem listenPorts_clk (b : Block) : (listenPorts b).clk = b.clk :=
  forEach_keeps Block.clk (fun p _ c => by unfold listenPort; split <;> rfl) b

theorem showActivities_clk (b : Block) : (showActivities b).clk = b.clk := rfl

theorem State.run_ps (s : State) (f : List Host.Cell → Block → Block) : (s.run f).blk.ps = (f s.mem s.blk).ps :=
  State.run_rd _ _ _ _ (by decide) rfl

/-- Settles O59: what a state does to the units of the module, and what an exit brings back, leaves the power state's own objects alone. -/
theorem powerStatesAreEnteredAndLeft : Obligations.PowerStatesAreEnteredAndLeft := by
  unfold Obligations.PowerStatesAreEnteredAndLeft
  refine ⟨?_, ?_, ?_, ?_, ?_, ?_, ?_, ?_, ?_⟩
  · intro s w v hs h1 h5 hr hst
    obtain ⟨b, x, m, o, hb, hexec, hans⟩ := powerRequest_via hs h5 hr (by rw [hst]; decide)
    have hps : b.ps = 0 := (hb.rd _ _ (by decide)).trans hs.2.2.1
    have hreq : (powerRequest v b).2 = beginEntry v b := by
      simp only [powerRequest, hb.powerStatus, hst, hps]
      rw [if_neg (by simp; omega), if_neg (by omega), if_pos trivial]
    rw [hst] at hans
    refine ⟨_, hexec, hans, ?_, ?_⟩
    · rw [State.run_power, hreq, show ((beginEntry v b).reply x m o).power = (beginEntry v b).power from rfl, beginEntry_power]
    · rw [State.run_ps, hreq]
      exact (congrArg BitVec.toNat (beginEntry_reg v b (by decide) rfl)).trans hps
  · intro s w v hs h5 hr hst hrange
    obtain ⟨b, x, m, o, hb, hexec, hans⟩ := powerRequest_via hs h5 hr hrange
    have hreq : (powerRequest v b).2 = b := by
      simp only [powerRequest, hb.powerStatus]
      rw [if_pos (by simp [hst])]
    refine ⟨_, hexec, hans, ?_, Block.Within.keeps ?_⟩
    · rw [State.run_power, hreq]
      exact (congrArg Block.power hb.shape :)
    · rw [hreq]
      exact (hb.within _).of_regs rfl rfl
  · intro s x hon hentry hx hjob harm hheld
    obtain ⟨hps, he, hcount⟩ := powerEntryComplete_facts hentry hx hjob harm hheld
    refine ⟨_, State.act_of_on rfl hon _, ?_, ?_, ?_⟩
    · rw [State.run_ps, hps]
    · rw [State.run_power, he]
    · rw [State.run_rd _ _ _ _ (by decide) rfl, hcount]
  · intro s hon hentry hwaking hhold h1 h5 hen
    exact ⟨_, State.act_of_on rfl hon _, run_wake (by decide) hhold hentry hwaking (by simp [wakeAllowed, h1, hen]) rfl⟩
  · intro s l rise hon hentry hwaking hhold hl hps hen hpod hlane hedge hbusy
    refine ⟨_, State.act_of_on (by simp [Instr.wf, hl]) hon _, run_wake (by decide) hhold hentry hwaking ?_ ?_⟩
    · rcases hps with h | h <;> simp [wakeAllowed, h, hen]
    · simp [wakeLane, hpod, hlane, hedge, hbusy]
  · intro s i rise hon hentry hwaking hhold hi hps hen hedge
    refine ⟨_, State.act_of_on (by simp [Instr.wf, hi]) hon _, run_wake (by decide) hhold hentry hwaking ?_ ?_⟩
    · rcases hps with h | h <;> simp [wakeAllowed, h, hen]
    · simp [trigInWake, hedge]
  · intro s hon hentry hwaking hhold hps hen
    exact ⟨_, State.act_of_on rfl hon _, run_wake (by decide) hhold hentry hwaking (by simp [wakeAllowed, hps, hen]) rfl⟩
  · intro s c hon hwaking h1 h4 hafter
    obtain ⟨hps, hcount, hw, _, htime⟩ := leaveSleep_facts s.blk
    have hexit := wakeExit_eq (c := c) hwaking h1 h4 hafter
    by_cases h3 : s.blk.ps < 3
    · rw [if_pos h3] at hexit
      refine ⟨_, State.act_of_on rfl hon _, ?_, ?_, ?_, fun h => absurd h (by omega)⟩
      · rw [State.run_ps, hexit, hps]
      · rw [State.run_power, hexit, hw]
      · rw [State.run_rd _ _ _ _ (by decide) rfl, hexit, hcount]
    · rw [if_neg h3] at hexit
      obtain ⟨hfps, hfcount, hfpow, hrun, hnext⟩ := resumeFrames_facts c (leaveSleep s.blk)
      refine ⟨_, State.act_of_on rfl hon _, ?_, ?_, ?_, fun _ => ⟨?_, ?_⟩⟩
      · rw [State.run_ps, hexit, hfps, hps]
      · rw [State.run_power, hexit, hfpow, hw]
      · rw [State.run_rd _ _ _ _ (by decide) rfl, hexit, hfcount, hcount]
      · rw [State.run_clk, hexit, hrun]
      · rw [State.run_clk, State.run_rd _ _ _ _ (by decide) rfl, hexit, hnext, htime]
  · intro s img hon hwaking hps himg hafter
    obtain ⟨n, hnw, hres⟩ := resumeReady_eq hwaking hps himg hafter
    obtain ⟨hsps, hsw, hsrun, hsnext⟩ := resumeShown_facts n
    obtain ⟨c, hc⟩ : ∃ c, c = resumeShown n := ⟨_, rfl⟩
    rw [← hc] at hres hsps hsw hsrun hsnext
    obtain ⟨q, hq⟩ : ∃ q, q = c.wr 0x2001 0 1 := ⟨_, rfl⟩
    have hqp : q.power = c.power := by rw [hq]; rfl
    have hqc : q.clk = c.clk := by rw [hq]; rfl
    have hready : q.rd 0x2001 0 = 1 := by rw [hq, Block.rd_wr_of_lt _ _ _ (by decide)]
    have hqps : q.ps = 0 := by rw [← hsps, hq, Block.ps, Block.rd_wr_of_ne _ _ (by decide)]; rfl
    rw [← hq] at hres
    have hsame : q.SameSystem (showActivities (listenPorts q)) := (listenPorts_sameSystem q).trans (showActivities_sameSystem _)
    have hclk : (showActivities (listenPorts q)).clk = q.clk := (showActivities_clk _).trans (listenPorts_clk q)
    refine ⟨_, State.act_of_on rfl hon _, ?_, ?_, ?_, ?_, ?_⟩
    · rw [State.run_ps, hres, hsame.ps, hqps]
    · rw [State.run_rd _ _ _ _ (by decide) rfl, hres, hsame.rd (by decide) rfl, hready]
    · rw [State.run_power, hres, hsame.power, hqp, hsw, hnw]
    · rw [State.run_clk, hres, hclk, hqc, hsrun]
    · rw [State.run_clk, hres, hclk, hqc, hsnext]

end Sys2Proof.Machine

/-! # Cold start, and the loss of supply (R503, R506, R516, R517) -/

namespace Sys2Proof.Machine

/-! ### A module without supply -/

/-- A block with the registers of a cold start with open straps shows no cause of error register or alert. -/
theorem reportsSettled_of_cold {b : Block} (hregs : b.regs = coldIds 0) (herr : b.lastErr = 0) (hal : b.lastAlert = 0) :
    Safety.reportsSettled b := by
  have hrd : ∀ i r, b.rd i r = (Block.cold .h48 0 Flash.new).rd i r := Block.rd_of_regs hregs
  have herrs : (Block.cold .h48 0 Flash.new).errorRegister = 0 := by decide
  have hcauses : (Block.cold .h48 0 Flash.new).enabledCauses = 0 := by decide
  refine ⟨?_, ?_⟩
  · rw [herr, errorRegister_of_rd fun i r _ _ _ => hrd i r, herrs]
  · rw [hal, enabledCauses_of_rd fun i r _ _ _ => hrd i r, hcauses]

/-- What a loss of supply leaves of the module. -/
def lost (fl : Flash) (b : Block) : Block :=
  { Block.cold b.part 0 fl with out := b.out, free := b.free, power := { (Block.cold b.part 0 fl).power with on := false } }

theorem clearAllUnits_lost (fl : Flash) (b : Block) :
    clearAllUnits (lost fl b) = { lost fl b with mops := [.clear 0 (b.installed * unitBytes)] } := by
  have hinst : (lost fl b).installed = b.installed := rfl
  have hne : b.installed ≠ 0 := by
    unfold Block.installed
    split <;> decide
  rw [clearAllUnits, clearUnits, hinst, if_neg hne, Nat.zero_mul, Nat.zero_add]
  rfl

/-- A command that leaves nothing but flash. -/
theorem run_lost {s : State} {f : List Host.Cell → Block → Block} {fl : Flash} (h : f s.mem s.blk = clearAllUnits (lost fl s.blk)) :
    Safety.Lost s.blk fl (s.run f).blk ∧ (∀ a < s.blk.installed * unitBytes, memRead (s.run f).mem a = 0) := by
  obtain ⟨c, hc⟩ : ∃ c : Block, c = { lost fl s.blk with mops := [.clear 0 (s.blk.installed * unitBytes)] } := ⟨_, rfl⟩
  have heq : f s.mem s.blk = c := by rw [h, clearAllUnits_lost, hc]
  have hmon : monitor c = c := monitor_of_settled (reportsSettled_of_cold (by rw [hc]; rfl) (by rw [hc]; rfl) (by rw [hc]; rfl))
  have hrun : (s.run f).blk = { c with mops := [] } := by
    show ({ monitor (f s.mem s.blk) with mops := [] } : Block) = _
    rw [heq, hmon]
  refine ⟨?_, fun a ha => ?_⟩
  · rw [Safety.Lost, hrun, hc]
    rfl
  · rw [State.run_mem, heq, hc]
    show memRead (memClear s.mem 0 (s.blk.installed * unitBytes)) a = 0
    rw [memRead_memClear, if_pos ⟨Nat.zero_le a, ha⟩]

theorem vinLoss_on {b : Block} (hon : b.power.on = true) : vinLoss b = clearAllUnits (lost b.cutFlash b) := by
  unfold vinLoss
  rw [if_neg (by simp [hon])]
  rfl

/-- The latch of the reversal is set in the flash that the loss leaves. -/
theorem supplyReversal_on {b : Block} (hon : b.power.on = true) :
    supplyReversal b = clearAllUnits (lost { b.cutFlash with reversed := true } b) := by
  have hcut : ({ b with flash := { b.flash with reversed := true } } : Block).cutFlash = { b.cutFlash with reversed := true } := by
    unfold Block.cutFlash
    cases b.server.job with
    | none => rfl
    | some j =>
      dsimp only
      split <;> rfl
  obtain ⟨c, hc⟩ : ∃ c : Block, c = { b with flash := { b.flash with reversed := true } } := ⟨_, rfl⟩
  rw [← hc] at hcut
  have hlost : ∀ fl, lost fl c = lost fl b := fun fl => by rw [hc]; rfl
  rw [supplyReversal, ← hc, vinLoss_on (by rw [hc]; exact hon), hcut, hlost]

/-! ### Cold start (R516, R517) -/

/-- A cold start of a module whose reversal latch is clear. -/
theorem vinValid_off {b : Block} (hoff : b.power.on = false) (hrev : b.flash.reversed = false) (x : Nat) : vinValid x b =
    clearAllUnits { Block.cold b.part x { b.flash with colds := satTo 32 (b.flash.colds + 1) } with out := b.out, free := b.free } := by
  obtain ⟨c, hc⟩ : ∃ c, c = clearAllUnits { Block.cold b.part x { b.flash with colds := satTo 32 (b.flash.colds + 1) } with
    out := b.out, free := b.free } := ⟨_, rfl⟩
  have hcrev : c.flash.reversed = false := by
    rw [hc, (clearAllUnits_sameSystem _).flash]
    exact hrev
  unfold vinValid
  rw [if_neg (by simp [hoff])]
  dsimp only
  rw [← hc, reportReversal, hcrev]
  rfl

/-- A module whose checks pass ends its start as READY. -/
theorem becomeReady_rd (x : StartUp) (pass : List Nat) (b : Block) : (becomeReady x pass b).rd 0x2001 0 = 1 := by
  unfold becomeReady
  extract_lets b1 bad b2 b3 b4
  have hsame := (listenPorts_sameSystem ((b4.wr 0x2001 0 1).wr 0x2004 2 (satTo 16 x.ms))).trans (showActivities_sameSystem _)
  clear_value b4
  rw [hsame.rd (by decide) rfl, Block.rd_wr_of_ne _ _ (by decide), Block.rd_wr_of_lt _ _ _ (by decide)]

theorem startCan_sameSystem (b : Block) : b.SameSystem (startCan b) := by
  have hpol : b.SameSystem (polarityReset b) := by
    have hmode : b.SameSystem { b with canPort := { b.canPort with mode := b.rd 0x2005 9, normal := 0, swapped := 0 } } :=
      (Block.SameSystem.refl b).fields rfl rfl rfl rfl
    unfold polarityReset
    dsimp only
    split
    · exact hmode.wr _ (by decide) rfl
    · exact hmode
  obtain ⟨o, x, h⟩ := bootUp_shape (polarityReset b)
  have hwr : b.SameSystem ((polarityReset b).wr 0x1E20 7 0x7F) := hpol.wr _ (by decide) rfl
  rw [startCan, h]
  exact hwr.fields rfl rfl rfl rfl

theorem takeComm_sameSystem (w b : Block) : b.SameSystem (takeComm w b) :=
  ((Block.SameSystem.refl b).wr (nodeIdNow w) (i := 0x1E01) (s := 1) (by decide) rfl).fields rfl rfl rfl rfl

/-- Another is FAILED with its cause. -/
theorem becomeFailed_rd {cause : Nat} (hcause : cause < 2 ^ 64) (b : Block) :
    (becomeFailed cause b).rd 0x2001 0 = 2 ∧ (becomeFailed cause b).rd 0x2004 1 = cause := by
  obtain ⟨c, hc⟩ : ∃ c, c = ((restoreComm b).wr 0x2001 0 2).wr 0x2004 1 cause := ⟨_, rfl⟩
  have hsame : c.SameSystem (becomeFailed cause b) := by
    unfold becomeFailed
    dsimp only
    rw [← hc]
    exact ((takeComm_sameSystem c c).trans (startCan_sameSystem _)).trans (emcyEvent_sameSystem ..)
  rw [hsame.rd (by decide) rfl, hsame.rd (by decide) rfl, hc]
  exact ⟨(Block.rd_wr_of_ne _ _ (by decide)).trans (Block.rd_wr_of_lt _ _ _ (show 2 < 2 ^ 64 by decide)), Block.rd_wr_of_lt _ _ _ hcause⟩

theorem failCause_lt (x : StartUp) (pass : List Nat) (b : Block) : failCause x pass b < 2 ^ 64 := by
  unfold failCause
  cases b.part
  all_goals
    dsimp only
    exact ite_lt (by decide) (ite_lt (by decide) (ite_lt (by decide) (ite_lt (by decide) (by decide))))

/-- The retired banks are no matter of the checks. -/
theorem moduleReady_starting {b : Block} (hst : b.rd 0x2001 0 = 0) (x : StartUp) :
    ∃ c, moduleReady x b =
      (let pass := (List.range 64).filter (fun k => !bit b.flash.retired k && !bit x.bankFail k)
       if failCause x pass b = 0 then becomeReady x pass c else becomeFailed (failCause x pass b) c) := by
  obtain ⟨c, hc⟩ : ∃ c, c = (restoreRetired b).wr 0x2004 4 (bits x.hbm 0 8) := ⟨_, rfl⟩
  have hkeep : ∀ {γ : Type} (g : Block → γ), (∀ b k x, g (b.setBank k x) = g b) → (∀ b i s v, g (b.wr i s v) = g b) → g c = g b :=
    fun g hb hw => by
      rw [hc, hw]
      exact forEach_keeps (f := fun k (b : Block) => b.setBank k { b.bank k with owner := owRETIRED }) g (fun _ _ _ => hb _ _ _) b
  have hflash : c.flash = b.flash := hkeep Block.flash (fun _ _ _ => rfl) (fun _ _ _ _ => rfl)
  have hclk : c.clk = b.clk := hkeep Block.clk (fun _ _ _ => rfl) (fun _ _ _ _ => rfl)
  have hpart : c.part = b.part := hkeep Block.part (fun _ _ _ => rfl) (fun _ _ _ _ => rfl)
  have hcause : ∀ pass, failCause x pass c = failCause x pass b := fun pass => by simp only [failCause, hclk, hpart]
  refine ⟨c, ?_⟩
  unfold moduleReady
  rw [if_neg (by simp [hst])]
  dsimp only
  rw [← hc, hflash, hcause]

theorem State.supply_next {s : State} {ok : Bool} (hok : ok = true) (f : List Host.Cell → Block → Block) : s.supply ok f = .next (s.run f) := by
  rw [State.supply, if_pos hok]

/-- Settles O58: a cold module has the defaults, and nothing but flash outlives the supply. -/
theorem coldStartAndLossOfSupply : Obligations.ColdStartAndLossOfSupply := by
  unfold Obligations.ColdStartAndLossOfSupply
  refine ⟨?_, ?_, ?_, ?_⟩
  · intro s x hx hoff hrev
    obtain ⟨c, hc⟩ : ∃ c : Block, c = { Block.cold s.blk.part x { s.blk.flash with colds := satTo 32 (s.blk.flash.colds + 1) } with
      out := s.blk.out, free := s.blk.free } := ⟨_, rfl⟩
    have hval : vinValid x s.blk = clearAllUnits c := by rw [hc, vinValid_off hoff hrev]
    have hsame : c.SameSystem (vinValid x s.blk) := hval ▸ clearAllUnits_sameSystem c
    have hregs : c.regs = coldIds x := by rw [hc]; rfl
    have hdef : ∀ i r, odKey i r ≠ 0x1E0101 → odKey i r ≠ 0x220001 → c.rd i r = (odDefault (odKey i r)).toNat := fun i r h1 h2 => by
      rw [Block.rd, Block.reg, hregs, coldIds, look_cons, if_neg (Ne.symm h1), look_cons, if_neg (Ne.symm h2)]
      rfl
    refine ⟨_, State.supply_next (by simp [Instr.wf, hx]) _, ?_, ?_, ?_, ?_, ?_, rfl⟩
    · rw [State.run_power, hsame.power, hc]
      rfl
    · rw [State.run_power, hsame.power, hc]
      rfl
    · rw [State.run_rd _ _ _ _ (by decide) rfl, hsame.rd (by decide) rfl, hdef _ _ (by decide) (by decide)]
      decide
    · rw [State.run_ps, hsame.ps, Block.ps, hdef _ _ (by decide) (by decide)]
      decide
    · rw [State.run_flash, hsame.flash, hc]
      rfl
  · intro s x hon hst
    obtain ⟨c, hc⟩ := moduleReady_starting hst x
    refine ⟨_, State.act_of_on rfl hon _, ?_⟩
    dsimp only at hc ⊢
    refine ⟨fun h0 => ?_, fun hne => ?_⟩
    · rw [State.run_rd _ _ _ _ (by decide) rfl, hc, if_pos h0, becomeReady_rd]
    · obtain ⟨h1, h2⟩ := becomeFailed_rd (failCause_lt x
        ((List.range 64).filter (fun k => !bit s.blk.flash.retired k && !bit x.bankFail k)) s.blk) c
      rw [State.run_rd _ _ _ _ (by decide) rfl, State.run_rd _ _ _ _ (by decide) rfl, hc, if_neg hne]
      exact ⟨h1, h2⟩
  · intro s hon
    have hloss := run_lost (s := s) (f := fun _ b => vinLoss b) (vinLoss_on hon)
    have hrev := run_lost (s := s) (f := fun _ b => supplyReversal b) (supplyReversal_on hon)
    exact ⟨⟨_, State.act_of_on rfl hon _, hloss.1, hloss.2, rfl⟩, ⟨_, State.act_of_on rfl hon _, hloss.1, hloss.2, rfl⟩,
      ⟨_, State.supply_next rfl _, hrev.1, hrev.2, rfl⟩⟩
  · intro s hoff
    have hval : supplyReversal s.blk = { s.blk with flash := { s.blk.flash with reversed := true } } := by
      rw [supplyReversal, vinLoss, if_pos (by simp [hoff])]
    refine ⟨_, State.supply_next rfl _, ?_, ?_, rfl⟩
    · rw [State.run_power, hval]
    · rw [State.run_flash, hval]

end Sys2Proof.Machine

/-! # Clock writes (R328 to R331, R335, R347, R406) -/

namespace Sys2Proof.Machine

/-! ### What an accepted value satisfies -/

/-- An accepted value fits its subindex and lies in its range. -/
theorem Safety.Accepts.row {s : State} {p : Path} {idx sub v : Nat} (ha : Safety.Accepts s p idx sub v) :
    ∃ r, odRow? idx sub = some r ∧ v < 256 ^ r.ty.size ∧ valueOk s.blk r idx sub v = true := by
  obtain ⟨_, _, hrow⟩ := ha
  obtain ⟨r, hr, hall⟩ := Option.any_eq_true _ _ |>.1 hrow
  simp only [Bool.and_eq_true, decide_eq_true_eq] at hall
  exact ⟨r, hr, hall.1.1, hall.1.2⟩

theorem Safety.Accepts.crossOk {s : State} {p : Path} {idx sub v : Nat} (ha : Safety.Accepts s p idx sub v) :
    crossOk s.blk idx sub v = true := by
  obtain ⟨r, _, _, hv⟩ := ha.row
  simp only [valueOk, Bool.and_eq_true] at hv
  exact hv.2

theorem Safety.Accepts.lt {s : State} {p : Path} {idx sub v : Nat} (ha : Safety.Accepts s p idx sub v) : v < 2 ^ 64 := by
  obtain ⟨r, _, hv, _⟩ := ha.row
  exact Nat.lt_of_lt_of_le hv (Nat.le_trans (Nat.pow_le_pow_right (by decide) (by cases r.ty <;> decide : r.ty.size ≤ 8)) (by decide))

/-! ### The chapter of the clock -/

theorem chapterWrite_clockConfig {sub : Nat} (h1 : 1 ≤ sub) (h5 : sub ≤ 5) (p : Path) (mem : List Host.Cell) (v : Nat) (b : Block) :
    chapterWrite p mem 0x2100 sub v b = whenOk (clockStatus b sub v) (clockConfig sub v) b := by
  obtain ⟨hflag, hclear⟩ := (by decide : ∀ r < 6, isFlag 0x2100 r = false ∧ (clearedBy 0x2100 r).isSome = false) sub (by omega)
  simp [chapterWrite, hflag, hclear, clockWrite, h5]

theorem chapterWrite_bandEntry {k : Nat} (hk : k < 128) (p : Path) (mem : List Host.Cell) (v : Nat) (b : Block) :
    chapterWrite p mem 0x2110 (k + 1) v b = whenOk (bandWriteStatus b (some k) v) (bandServe (some (k, bandOf v))) b := by
  obtain ⟨hflag, hclear⟩ := (by decide : ∀ r < 129, isFlag 0x2110 r = false ∧ (clearedBy 0x2110 r).isSome = false) (k + 1) (by omega)
  have hle : k + 1 ≤ 128 := by omega
  simp [chapterWrite, hflag, hclear, clockWrite, hle]

theorem chapterWrite_bandReload (p : Path) (mem : List Host.Cell) (b : Block) :
    chapterWrite p mem 0x2110 0x81 1 b = whenOk (bandWriteStatus b none 0) (bandServe none) b := by
  have hflag : isFlag 0x2110 0x81 = false := by decide
  have hclear : (clearedBy 0x2110 0x81).isSome = false := by decide
  simp [chapterWrite, hflag, hclear, clockWrite, bandReload]

theorem chapterWrite_refclkSource (p : Path) (mem : List Host.Cell) (v : Nat) (b : Block) :
    chapterWrite p mem 0x2100 6 v b = (stOK, refclkSource v b) := by
  have hflag : isFlag 0x2100 6 = false := by decide
  have hclear : (clearedBy 0x2100 6).isSome = false := by decide
  simp [chapterWrite, hflag, hclear, clockWrite]

theorem chapterWrite_phaseTarget (p : Path) (mem : List Host.Cell) (v : Nat) (b : Block) :
    chapterWrite p mem 0x2102 1 v b = (stOK, b.wrI 0x2102 1 (signed v 32)) := by
  have hflag : isFlag 0x2102 1 = false := by decide
  have hclear : (clearedBy 0x2102 1).isSome = false := by decide
  have hkeep : keepValue 0x2102 1 v b = b.wrI 0x2102 1 (signed v 32) := rfl
  simp [chapterWrite, hflag, hclear, clockWrite, plainWrite, hkeep]

/-! ### The checks, in the block that counts the request -/

theorem Block.Alike.clk {b c : Block} (h : c.Alike b) : c.clk = b.clk := (congrArg Block.clk h.shape :)

theorem Block.Alike.band {b c : Block} (h : c.Alike b) (k : Nat) : c.band k = b.band k := by rw [Block.band, Block.band, h.clk]

theorem selectBand_congr {b c : Block} (h : ∀ k, c.band k = b.band k) (rate : Nat) : selectBand c rate = selectBand b rate := by
  simp only [selectBand, h]

theorem Block.Alike.clockStatus {b c : Block} (h : c.Alike b) (sub v : Nat) : clockStatus c sub v = clockStatus b sub v := by
  simp only [Machine.clockStatus, h.clockCfg, h.armedDoms, selectBand_congr h.band]

theorem Block.Alike.bandWriteStatus {b c : Block} (h : c.Alike b) (i : Option Nat) (w : Nat) : bandWriteStatus c i w = bandWriteStatus b i w := by
  simp only [Machine.bandWriteStatus, h.armedDoms, h.band, h.rd 0x2101 6 (by decide)]

/-! ### Acquisition -/

/-- The registers of the source in use. -/
def isSourceReg (i r : Nat) : Bool := (i == 0x2100 && (r == 7 || r == 8)) || (i == 0x2101 && r == 2) || (i == 0x2010 && r == 4)

/-- The registers that an acquisition writes as it starts. -/
def isAcquireReg (i r : Nat) : Bool := isSourceReg i r || (i == 0x2101 && (r == 1 || r == 6)) || (i == 0x2103 && r == 7)

theorem applySource_eq (src : Nat) (b : Block) : ∃ ratio rate period,
    applySource src b = (((b.wr 0x2101 2 src).wr 0x2100 7 ratio).wr 0x2100 8 rate).wr 0x2010 4 period := ⟨_, _, _, rfl⟩

/-- The status of a served write decides whether its effect is made. -/
theorem whenOk_of_ok {st : Nat} (h : st = stOK) (f : Block → Block) (b : Block) : whenOk st f b = (stOK, f b) := by rw [h, whenOk_ok]

theorem applySource_within {R : Nat → Nat → Bool} {a b : Block} (h : Block.Within R a b) (hR : ∀ i r, isSourceReg i r = true → R i r = true)
    (src : Nat) : Block.Within R a (applySource src b) := by
  obtain ⟨ratio, rate, period, he⟩ := applySource_eq src b
  rw [he]
  exact (((h.wr src (by decide) (hR _ _ rfl)).wr ratio (by decide) (hR _ _ rfl)).wr rate (by decide) (hR _ _ rfl)).wr period (by decide) (hR _ _ rfl)

theorem applySource_src {src : Nat} (h : src < 2 ^ 64) (b : Block) : (applySource src b).rd 0x2101 2 = src := by
  obtain ⟨ratio, rate, period, he⟩ := applySource_eq src b
  rw [he, Block.rd_wr_of_ne _ _ (by decide), Block.rd_wr_of_ne _ _ (by decide), Block.rd_wr_of_ne _ _ (by decide), Block.rd_wr_of_lt _ _ _ h]

theorem applySource_clk (src : Nat) (b : Block) : (applySource src b).clk = b.clk := by
  obtain ⟨ratio, rate, period, he⟩ := applySource_eq src b
  rw [he]
  rfl

theorem startAcquisition_within {R : Nat → Nat → Bool} {a b : Block} (h : Block.Within R a b)
    (hR : ∀ i r, isAcquireReg i r = true → R i r = true) : Block.Within R a (startAcquisition b) := by
  obtain ⟨src, band, clk, he⟩ := startAcquisition_eq b
  rw [he]
  have hsrc : ∀ i r, isSourceReg i r = true → R i r = true := fun i r hi => hR i r (by simp [isAcquireReg, hi])
  have hw : Block.Within R a ((((applySource src b).wr 0x2101 1 1).wr 0x2101 6 band).wr 0x2103 7 0) :=
    (((applySource_within h hsrc src).wr 1 (by decide) (hR _ _ rfl)).wr band (by decide) (hR _ _ rfl)).wr 0 (by decide) (hR _ _ rfl)
  exact hw.of_regs rfl rfl

theorem startAcquisition_state (b : Block) : (startAcquisition b).rd 0x2101 1 = 1 := by
  obtain ⟨src, band, clk, he⟩ := startAcquisition_eq b
  have hregs : (startAcquisition b).regs = ((((applySource src b).wr 0x2101 1 1).wr 0x2101 6 band).wr 0x2103 7 0).regs := by rw [he]
  rw [Block.rd_of_regs hregs, Block.rd_wr_of_ne _ _ (by decide), Block.rd_wr_of_ne _ _ (by decide), Block.rd_wr_of_lt _ _ _ (by decide)]

theorem startAcquisition_clk_eq (b : Block) : ∃ src band c, c = ((applySource src b).wr 0x2101 1 1).wr 0x2101 6 band ∧
    startAcquisition b = { c.wr 0x2103 7 0 with
      clk := { c.clk with margin := false, coast := none, fall := false, jump := none, slew := none } } := ⟨_, _, _, rfl, rfl⟩

theorem startAcquisition_clk (b : Block) :
    (startAcquisition b).clk = { b.clk with margin := false, coast := none, fall := false, jump := none, slew := none } := by
  obtain ⟨src, band, c, hc, he⟩ := startAcquisition_clk_eq b
  have hclk : c.clk = b.clk := by
    rw [hc, Block.wr_clk, Block.wr_clk, applySource_clk]
  rw [he, ← hclk]

theorem setCondition_within {R : Nat → Nat → Bool} {a b : Block} (h : Block.Within R a b) (hR : R 0x2101 3 = true) (present ok restart : Bool) :
    Block.Within R a (setCondition present ok restart b) := by
  unfold setCondition
  extract_lets x q
  have hw : Block.Within R a (b.wr 0x2101 3 (b2n present + 2 * b2n ok + 4 * b2n q)) := h.wr _ (by decide) hR
  exact hw.of_regs rfl rfl

/-- The condition that is shown: what the reference is, and QUALIFIED where it stays qualified. -/
theorem setCondition_rd (present ok restart : Bool) (b : Block) : (setCondition present ok restart b).rd 0x2101 3 =
    b2n present + 2 * b2n ok + 4 * b2n (b.qualified && present && ok && !restart) := by
  unfold setCondition
  extract_lets x q
  refine (Block.rd_of_regs (b := b.wr 0x2101 3 (b2n present + 2 * b2n ok + 4 * b2n q)) rfl _ _).trans (Block.rd_wr_of_lt _ _ _ ?_)
  have h : ∀ x : Bool, b2n x ≤ 1 := by decide
  have h1 := h present
  have h2 := h ok
  have h3 := h q
  omega

theorem setCondition_clk (present ok restart : Bool) (b : Block) : ∃ q, (setCondition present ok restart b).clk = { b.clk with qualFrom := q } :=
  ⟨_, rfl⟩

/-! ### Clock settings (R328, R347) -/

/-- The setting is kept, and a new declared frequency is qualified afresh. -/
def clockKept (sub v : Nat) (b : Block) : Block :=
  if sub = 1 then setCondition (bit (b.rd 0x2101 3) 0) (freqOk v b.clk.refMHz) true (b.wr 0x2100 sub v) else b.wr 0x2100 sub v

theorem clockKept_clk (sub v : Nat) (b : Block) : ∃ q, (clockKept sub v b).clk = { b.clk with qualFrom := q } := by
  unfold clockKept
  split
  · exact setCondition_clk ..
  · exact ⟨_, rfl⟩

theorem clockKept_within (sub v : Nat) (b : Block) :
    Block.Within (fun i r => i == 0x2101 && r == 3) (b.wr 0x2100 sub v) (clockKept sub v b) := by
  unfold clockKept
  split
  · exact setCondition_within (.refl _ _) rfl ..
  · exact .refl _ _

theorem clockConfig_eq {sub : Nat} (h1 : 1 ≤ sub) (h5 : sub ≤ 5) (v : Nat) (b : Block) :
    clockConfig sub v b = if b.rd 0x2101 1 = 0 then clockKept sub v b else startAcquisition (clockKept sub v b) := by
  have hcond : (b.wr 0x2100 sub v).rd 0x2101 3 = b.rd 0x2101 3 := Block.rd_wr_of_ne _ _ (by omega)
  have hst : (clockKept sub v b).rd 0x2101 1 = b.rd 0x2101 1 :=
    ((clockKept_within sub v b).rd (by decide) (by decide) rfl).trans (Block.rd_wr_of_ne _ _ (by omega))
  have hkept : (if sub = 1 then setCondition (bit ((b.wr 0x2100 sub v).rd 0x2101 3) 0) (freqOk v (b.wr 0x2100 sub v).clk.refMHz) true
      (b.wr 0x2100 sub v) else b.wr 0x2100 sub v) = clockKept sub v b := by
    rw [hcond]
    rfl
  unfold clockConfig
  dsimp only
  rw [hkept, hst]

/-- An accepted setting is in force, and a loop that is not OFF acquires anew. -/
theorem clockConfig_facts {sub v : Nat} (h1 : 1 ≤ sub) (h5 : sub ≤ 5) (hv : v < 2 ^ 64) (b : Block) :
    (clockConfig sub v b).rd 0x2100 sub = v ∧
      (b.rd 0x2101 1 ≠ 0 → (clockConfig sub v b).rd 0x2101 1 = 1 ∧ (clockConfig sub v b).clk.coast = none ∧ (clockConfig sub v b).clk.jump = none) ∧
      (b.rd 0x2101 1 = 0 → (clockConfig sub v b).rd 0x2101 1 = 0) ∧ (clockConfig sub v b).clk.bands = b.clk.bands := by
  have hkept := clockKept_within sub v b
  have hsub : (clockKept sub v b).rd 0x2100 sub = v :=
    (hkept.rd (by omega) (by omega) rfl).trans (Block.rd_wr_of_lt _ _ _ hv)
  have hst : (clockKept sub v b).rd 0x2101 1 = b.rd 0x2101 1 :=
    (hkept.rd (by decide) (by decide) rfl).trans (Block.rd_wr_of_ne _ _ (by omega))
  obtain ⟨q, hclk⟩ := clockKept_clk sub v b
  rw [clockConfig_eq h1 h5]
  split
  · next hoff => exact ⟨hsub, fun h => absurd hoff h, fun _ => hst.trans hoff, by rw [hclk]⟩
  · next hon =>
    have hacq := startAcquisition_within (.refl isAcquireReg (clockKept sub v b)) fun _ _ h => h
    refine ⟨(hacq.rd (by omega) (by omega) ?_).trans hsub, fun _ => ⟨startAcquisition_state _, by rw [startAcquisition_clk], by rw [startAcquisition_clk]⟩,
      fun h => absurd h hon, by rw [startAcquisition_clk, hclk]⟩
    simp only [isAcquireReg, isSourceReg]
    simp
    omega

/-! ### The band table (R331, R406) -/

theorem bandPut_band (w : Option (Nat × Band)) (j : Nat) (b : Block) : (bandPut w b).band j = match w with
    | some x => if j = x.1 then x.2 else b.band j
    | none => fusedBand j := by
  cases w with
  | some x => exact look_upsert ..
  | none => rfl

theorem bandServe_free {b : Block} (h : b.maint.verifyEnd ≤ b.time.abs) (w : Option (Nat × Band)) : bandServe w b = bandPut w b :=
  if_neg (by omega)

theorem bandServe_waits {b : Block} (h : b.time.abs < b.maint.verifyEnd) (w : Option (Nat × Band)) :
    bandServe w b = { b with clk := { b.clk with waits := b.clk.waits ++ [w] } } := if_pos h

theorem bandServe_within (w : Option (Nat × Band)) {R : Nat → Nat → Bool} {a b : Block} (h : Block.Within R a b) :
    Block.Within R a (bandServe w b) := by
  unfold bandServe bandPut
  split
  · exact h.of_regs rfl rfl
  · split
    · exact h.of_regs rfl rfl
    · exact h.of_regs rfl rfl

theorem State.run_band (s : State) (f : List Host.Cell → Block → Block) (k : Nat) : (s.run f).blk.band k = (f s.mem s.blk).band k := by
  rw [Block.band, State.run_clk, Block.band]

/-- A band entry write, or a reload, that passes its checks is served: the answer, the table and what the run keeps. -/
theorem band_served {s : State} {p : Path} {sub v : Nat} {i : Option Nat} {x : Nat} {w : Option (Nat × Band)} (hs : Safety.Serving s)
    (ha : Safety.Accepts s p 0x2110 sub v)
    (hc : ∀ b, chapterWrite p s.mem 0x2110 sub v b = whenOk (bandWriteStatus b i x) (bandServe w) b) (hst : bandWriteStatus s.blk i x = stOK) :
    ∃ c, c.Alike s.blk ∧ (s.put p 0x2110 sub v).blk.resp = Resp.plain stOK ∧ (s.put p 0x2110 sub v).blk.clk = (bandServe w c).clk ∧
      Safety.Keeps (fun _ _ => false) s (s.put p 0x2110 sub v) := by
  obtain ⟨o, hrun⟩ := State.put_eq hs ha ((hc _).trans (whenOk_of_ok ((s.blk.counted_alike.bandWriteStatus i x).trans hst) ..)) (by decide)
  rw [hrun]
  refine ⟨_, s.blk.counted_alike, by rw [State.run_resp]; rfl, by rw [State.run_clk]; rfl, Block.Within.keeps ?_⟩
  exact (bandServe_within w (s.blk.counted_alike.within _)).of_regs rfl rfl

theorem Block.band_of_clk {b c : Block} (h : b.clk = c.clk) (k : Nat) : b.band k = c.band k := by rw [Block.band, Block.band, h]

/-- A refused write of the clock's chapter changes nothing but the count of requests. -/
theorem clock_refused {s : State} {p : Path} {idx sub v : Nat} (hs : Safety.Serving s) (ha : Safety.Accepts s p idx sub v)
    (hc : chapterWrite p s.mem idx sub v s.blk.counted = (stSTATE, s.blk.counted)) (hi : idx ≠ 0x1E10 := by omega) (h10 : idx ≠ 0x1010 := by omega)
    (h11 : idx ≠ 0x1011 := by omega) (h22 : ¬ (idx = 0x2200 ∧ sub = 3) := by omega) :
    (s.put p idx sub v).blk.resp = Resp.plain stSTATE ∧ (s.put p idx sub v).blk.clk = s.blk.clk ∧
      Safety.Keeps (fun _ _ => false) s (s.put p idx sub v) := by
  obtain ⟨o, hrun⟩ := State.put_eq hs ha hc (by decide) hi h10 h11 h22
  rw [hrun]
  exact ⟨by rw [State.run_resp]; rfl, by rw [State.run_clk]; rfl, Block.Within.keeps ((s.blk.counted_alike.within _).of_regs rfl rfl)⟩

theorem signed32_lt (v : Nat) : -2 ^ 63 ≤ signed v 32 ∧ signed v 32 < 2 ^ 63 := by
  unfold signed
  dsimp only
  split
  · omega
  · omega

theorem regWrite_phaseTarget (mem : List Host.Cell) (v : Nat) (b : Block) :
    regWrite mem 0xE0C v b = (stOK, b.wrI 0x2102 1 (signed v 32)) := rfl

/-- The output source is kept, and nothing else changes but what leaves the module. -/
theorem refclkSource_facts {v : Nat} (hv : v < 2 ^ 64) (b : Block) : (refclkSource v b).rd 0x2100 6 = v ∧ (refclkSource v b).clk = b.clk ∧
    Block.Within (fun i r => i == 0x2100 && r == 6) b (refclkSource v b) := by
  unfold refclkSource
  split
  · exact ⟨by assumption, rfl, .refl _ _⟩
  · exact ⟨Block.rd_wr_of_lt _ _ _ hv, rfl, ((Block.Within.refl _ b).wr v (i := 0x2100) (s := 6) (by decide) rfl).of_regs rfl rfl⟩

/-- An accepted setting is served, and the run ends in the block after it. -/
theorem clockConfig_served {s : State} {p : Path} {sub v : Nat} (hs : Safety.Serving s) (h1 : 1 ≤ sub) (h5 : sub ≤ 5)
    (ha : Safety.Accepts s p 0x2100 sub v) (hst : clockStatus s.blk sub v = stOK) :
    (s.put p 0x2100 sub v).blk.resp = Resp.plain stOK ∧ (s.put p 0x2100 sub v).blk.clk = (clockConfig sub v s.blk.counted).clk ∧
      ∀ i r, (i = 0x2100 ∧ r < 256) ∨ (i = 0x2101 ∧ r < 256) → (s.put p 0x2100 sub v).blk.rd i r = (clockConfig sub v s.blk.counted).rd i r := by
  obtain ⟨o, hrun⟩ := State.put_eq hs ha
    ((chapterWrite_clockConfig h1 h5 ..).trans (whenOk_of_ok ((s.blk.counted_alike.clockStatus sub v).trans hst) ..)) (by decide)
  obtain ⟨c, hc⟩ : ∃ c, c = clockConfig sub v s.blk.counted := ⟨_, rfl⟩
  rw [hrun, ← hc]
  exact ⟨by rw [State.run_resp]; rfl, by rw [State.run_clk]; rfl, fun i r hi => State.run_rd_of_ne _ _ _ _ (by omega)⟩

theorem refclkSource_served {s : State} {p : Path} {v : Nat} (hs : Safety.Serving s) (ha : Safety.Accepts s p 0x2100 6 v) :
    (s.put p 0x2100 6 v).blk.resp = Resp.plain stOK ∧ (s.put p 0x2100 6 v).blk.rd 0x2100 6 = v ∧ (s.put p 0x2100 6 v).blk.clk = s.blk.clk ∧
      Safety.Keeps (fun i r => i == 0x2100 && r == 6) s (s.put p 0x2100 6 v) := by
  obtain ⟨o, hrun⟩ := State.put_eq hs ha (chapterWrite_refclkSource ..) (by decide)
  obtain ⟨hsrc, hclk, hwithin⟩ := refclkSource_facts ha.lt s.blk.counted
  obtain ⟨c, hc⟩ : ∃ c, c = refclkSource v s.blk.counted := ⟨_, rfl⟩
  rw [← hc] at hrun hsrc hclk hwithin
  rw [hrun]
  exact ⟨by rw [State.run_resp]; rfl, (State.run_rd_of_ne _ _ _ _ (by decide)).trans hsrc,
    by rw [State.run_clk]; exact hclk.trans s.blk.counted_alike.clk,
    Block.Within.keeps (((s.blk.counted_alike.within _).trans hwithin).of_regs rfl rfl)⟩

/-- The phase target is kept, over either way. -/
theorem phaseTarget_served {s : State} {w : Via} {v : Nat} (hs : Safety.Serving s) (hv : v < 2 ^ 32) (hr : Safety.Reaches s w 0x2102 1 v) :
    ∃ t, exec (.phaseTargetWrite w v) s = .next t ∧ Safety.Answered w stOK t ∧ t.blk.rdI 0x2102 1 = signed v 32 ∧
      t.blk.clk = s.blk.clk ∧ Safety.Keeps (fun i r => i == 0x2102 && r == 1) s t := by
  obtain ⟨b, x, m, o, hb, hrun, hans⟩ := State.via_eq (f := fun b => b.wrI 0x2102 1 (signed v 32)) (off := 0xE0C) (word := v) (st := stOK) hs hr
    (by decide) (by decide) ⟨s.blk.bar, by rw [Nat.mod_eq_of_lt hv, regWrite_phaseTarget]; rfl⟩
    (fun p _ => chapterWrite_phaseTarget p s.mem v _) (by decide)
  obtain ⟨hlo, hhi⟩ := signed32_lt v
  exact ⟨_, (State.act_of_on rfl hs.1 _).trans (congrArg _ hrun), hans,
    (State.run_rdI_of_ne _ _ _ _ (by decide)).trans (Block.rdI_wrI_self _ _ _ hlo hhi), by rw [State.run_clk]; exact hb.clk,
    Block.Within.keeps (((hb.within _).wrI _ (i := 0x2102) (s := 1) (by decide) rfl).of_regs rfl rfl)⟩

/-- While a domain is armed an accepted setting is refused. -/
theorem clockConfig_refused {s : State} {p : Path} {sub v : Nat} (hs : Safety.Serving s) (h1 : 1 ≤ sub) (h5 : sub ≤ 5)
    (ha : Safety.Accepts s p 0x2100 sub v) (harmed : s.blk.armedDoms ≠ []) :
    (s.put p 0x2100 sub v).blk.resp = Resp.plain stSTATE ∧ (s.put p 0x2100 sub v).blk.clk = s.blk.clk ∧
      Safety.Keeps (fun _ _ => false) s (s.put p 0x2100 sub v) := by
  have hok : clockValueOk s.blk.clockCfg sub v = true := by
    simpa [crossOk, h5] using ha.crossOk
  have hst : clockStatus s.blk.counted sub v = stSTATE := by
    rw [s.blk.counted_alike.clockStatus, clockStatus]
    simp [hok, harmed]
  exact clock_refused hs ha (by rw [chapterWrite_clockConfig h1 h5, whenOk, hst]; rfl)

theorem bandEntry_refused {s : State} {p : Path} {k v : Nat} (hs : Safety.Serving s) (hk : k < 128)
    (ha : Safety.Accepts s p 0x2110 (k + 1) v) (hok : bandOk v = true) (harmed : s.blk.armedDoms ≠ []) :
    (s.put p 0x2110 (k + 1) v).blk.resp = Resp.plain stSTATE ∧ (s.put p 0x2110 (k + 1) v).blk.clk = s.blk.clk ∧
      Safety.Keeps (fun _ _ => false) s (s.put p 0x2110 (k + 1) v) := by
  have hst : bandWriteStatus s.blk.counted (some k) v = stSTATE := by
    rw [s.blk.counted_alike.bandWriteStatus, bandWriteStatus]
    simp [hok, harmed]
  exact clock_refused hs ha (by rw [chapterWrite_bandEntry hk, whenOk, hst]; rfl)

/-- Settles O29: each write reaches its chapter past the checks, and the chapter keeps it, refuses it or lets it wait. -/
theorem clockWritesTakeEffect : Obligations.ClockWritesTakeEffect := by
  unfold Obligations.ClockWritesTakeEffect
  refine ⟨?_, ?_, ?_, ?_, fun s w v hs hv hr => phaseTarget_served hs hv hr, ?_, ?_, ?_, ?_⟩
  · intro s p sub v hs h1 h5 ha hst
    obtain ⟨hresp, hclk, hrd⟩ := clockConfig_served hs h1 h5 ha hst
    obtain ⟨hsub, hon, hoff, hbands⟩ := clockConfig_facts h1 h5 ha.lt s.blk.counted
    rw [s.blk.counted_alike.rd 0x2101 1 (by decide), ← hrd 0x2101 1 (by decide)] at hon hoff
    rw [← hclk] at hon
    exact ⟨_, State.act_of_on (by simp [Instr.wf, h1, h5]) hs.1 _, hresp, (hrd _ _ (by omega)).trans hsub, hon, hoff,
      (congrArg Clk.bands hclk).trans (hbands.trans (congrArg Clk.bands s.blk.counted_alike.clk))⟩
  · intro s p k v hs hk ha hst hfree
    obtain ⟨c, hc, hresp, hclk, hkeeps⟩ := band_served hs ha (chapterWrite_bandEntry hk p s.mem v) hst
    rw [bandServe_free (by rw [hc.time, hc.maint]; exact hfree)] at hclk
    have hband : ∀ j, (s.put p 0x2110 (k + 1) v).blk.band j = if j = k then bandOf v else s.blk.band j := fun j => by
      rw [Block.band_of_clk hclk, bandPut_band, hc.band]
    exact ⟨_, State.act_of_on (by simp [Instr.wf, hk]) hs.1 _, hresp, (hband k).trans (if_pos rfl), fun j hj => (hband j).trans (if_neg hj), hkeeps⟩
  · intro s p hs ha hst hfree
    obtain ⟨c, hc, hresp, hclk, hkeeps⟩ := band_served hs ha (chapterWrite_bandReload p s.mem) hst
    rw [bandServe_free (by rw [hc.time, hc.maint]; exact hfree)] at hclk
    have hband : ∀ j, (s.put p 0x2110 0x81 1).blk.band j = fusedBand j := fun j => by rw [Block.band_of_clk hclk, bandPut_band]
    exact ⟨_, State.act_of_on rfl hs.1 _, hresp, hband, hkeeps⟩
  · intro s p v hs ha
    exact ⟨_, State.act_of_on rfl hs.1 _, refclkSource_served hs ha⟩
  · intro s p sub v hs h1 h5 ha harmed
    exact ⟨_, State.act_of_on (by simp [Instr.wf, h1, h5]) hs.1 _, clockConfig_refused hs h1 h5 ha harmed⟩
  · intro s p k v hs hk ha hok harmed
    exact ⟨_, State.act_of_on (by simp [Instr.wf, hk]) hs.1 _, bandEntry_refused hs hk ha hok harmed⟩
  · intro s p k v hs hk ha hst hwait
    obtain ⟨c, hc, hresp, hclk, hkeeps⟩ := band_served hs ha (chapterWrite_bandEntry hk p s.mem v) hst
    rw [bandServe_waits (by rw [hc.time, hc.maint]; exact hwait), hc.clk] at hclk
    exact ⟨_, State.act_of_on (by simp [Instr.wf, hk]) hs.1 _, hresp, hclk, hkeeps⟩
  · intro s p hs ha hst hwait
    obtain ⟨c, hc, hresp, hclk, hkeeps⟩ := band_served hs ha (chapterWrite_bandReload p s.mem) hst
    rw [bandServe_waits (by rw [hc.time, hc.maint]; exact hwait), hc.clk] at hclk
    exact ⟨_, State.act_of_on rfl hs.1 _, hresp, hclk, hkeeps⟩

end Sys2Proof.Machine

/-! # Lock, its loss, the reference and phase steps (R332 to R346) -/

namespace Sys2Proof.Machine

/-! ### Lock (R333) -/

theorem bandMargin_within {R : Nat → Nat → Bool} {a b : Block} (h : Block.Within R a b) (hR : R 0x2110 0x82 = true ∧ R 0x2110 0x83 = true) :
    Block.Within R a (bandMargin b) := h.flag 1 (by decide) (by decide) hR.1 hR.2

/-- Beside the margin flag and its counter the fine word's place touches nothing but the note of it. -/
theorem marginTick_facts (outer : Bool) (b : Block) :
    Block.Within (fun i r => i == 0x2110 && (r == 0x82 || r == 0x83)) b (marginTick outer b) ∧ (marginTick outer b).power = b.power ∧
      (marginTick outer b).clk.run = b.clk.run ∧ (marginTick outer b).clk.next = b.clk.next := by
  unfold marginTick
  dsimp only
  split
  · exact ⟨((Block.Within.refl _ b).flag 1 (i := 0x2110) (s := 0x82) (c := 0x83) (by decide) (by decide) rfl rfl).of_regs rfl rfl, rfl, rfl, rfl⟩
  · exact ⟨.refl _ _, rfl, rfl, rfl⟩

theorem marginTick_outer {b : Block} (hm : b.clk.margin = false) (hst : b.rd 0x2101 1 = 2 ∨ b.rd 0x2101 1 = 4) :
    (marginTick true b).rd 0x2110 0x82 = 1 := by
  have hin : (true && (b.rd 0x2101 1 == 2 || b.rd 0x2101 1 == 3 || b.rd 0x2101 1 == 4) && !b.clk.margin) = true := by
    rcases hst with h | h
    · simp [h, hm]
    · simp [h, hm]
  unfold marginTick
  dsimp only
  rw [if_pos hin]
  exact (Block.rd_of_regs (b := bandMargin b) rfl _ _).trans (Block.rd_flag_self _ _ _ (by decide))

/-- The state in which an acquisition ends. -/
def lockedState (b : Block) : Nat := if b.rd 0x2101 2 = 1 then 2 else 4

/-- The lock of an acquisition, before the frame grid runs. -/
def lockShown (outer : Bool) (b : Block) : Block :=
  marginTick outer (({ b with power := { b.power with lockWait := false } } : Block).wr 0x2101 1 (lockedState b))

/-- The lock, where the frame grid runs from it on. -/
def lockRuns (outer : Bool) (b : Block) : Block :=
  if (lockShown outer b).clk.run then lockShown outer b
  else { lockShown outer b with
    clk := { (lockShown outer b).clk with run := true, next := (lockShown outer b).clk.next <|> some 0 } }

theorem clockLock_cases (outer : Bool) (b : Block) : ∃ d,
    d = (if b.rd 0x2101 1 = 0 && b.rd 0x2001 0 = 0 && !b.clk.run then applySource 2 (startAcquisition b) else b) ∧
    clockLock outer b = if d.rd 0x2101 1 != 1 || (d.rd 0x2101 2 = 1 && !d.qualified) then d else lockRuns outer d := ⟨_, rfl, rfl⟩

theorem clockLock_eq (outer : Bool) {b : Block} (h1 : b.rd 0x2101 1 = 1) (hq : b.rd 0x2101 2 = 1 → b.qualified = true) :
    clockLock outer b = lockRuns outer b := by
  have hfirst : (b.rd 0x2101 1 = 0 && b.rd 0x2001 0 = 0 && !b.clk.run) = false := by simp [h1]
  have hgo : (b.rd 0x2101 1 != 1 || (b.rd 0x2101 2 = 1 && !b.qualified)) = false := by
    simpa [h1] using hq
  obtain ⟨d, hd, he⟩ := clockLock_cases outer b
  rw [hfirst, if_neg (by decide)] at hd
  subst hd
  rw [he, hgo, if_neg (by decide)]

theorem lockShown_facts (outer : Bool) (b : Block) :
    (lockShown outer b).rd 0x2101 1 = lockedState b ∧ (lockShown outer b).power.lockWait = false ∧
      (lockShown outer b).clk.run = b.clk.run ∧ (lockShown outer b).clk.next = b.clk.next ∧
      (outer = true → b.clk.margin = false → (lockShown outer b).rd 0x2110 0x82 = 1) := by
  obtain ⟨c, hc⟩ : ∃ c, c = ({ b with power := { b.power with lockWait := false } } : Block).wr 0x2101 1 (lockedState b) := ⟨_, rfl⟩
  have hst : c.rd 0x2101 1 = lockedState b := by
    rw [hc, Block.rd_wr_of_lt]
    unfold lockedState
    split <;> decide
  obtain ⟨hwithin, hpower, hrun, hnext⟩ := marginTick_facts outer c
  rw [lockShown, ← hc]
  refine ⟨(hwithin.rd (by decide) (by decide) rfl).trans hst, ?_, ?_, ?_, fun ho hm => ?_⟩
  · rw [hpower, hc]
    rfl
  · rw [hrun, hc]
    rfl
  · rw [hnext, hc]
    rfl
  · rw [ho]
    refine marginTick_outer (by rw [hc]; exact hm) ?_
    rw [hst, lockedState]
    split
    · exact .inl rfl
    · exact .inr rfl

/-- LOCK ends an acquisition (R333). -/
theorem clockLock_facts (outer : Bool) {b : Block} (h1 : b.rd 0x2101 1 = 1) (hq : b.rd 0x2101 2 = 1 → b.qualified = true) :
    (clockLock outer b).rd 0x2101 1 = lockedState b ∧ (clockLock outer b).clk.run = true ∧ (clockLock outer b).power.lockWait = false ∧
      (outer = true → b.clk.margin = false → (clockLock outer b).rd 0x2110 0x82 = 1) ∧
      (b.clk.run = false → b.clk.next = none → (clockLock outer b).clk.next = some 0) := by
  obtain ⟨hst, hwait, hrun, hnext, hmargin⟩ := lockShown_facts outer b
  rw [clockLock_eq outer h1 hq, lockRuns]
  split
  · next h => exact ⟨hst, h, hwait, hmargin, fun hr => absurd (hrun.symm.trans h) (by rw [hr]; decide)⟩
  · exact ⟨hst, rfl, hwait, hmargin, fun _ hn => by
      show ((lockShown outer b).clk.next <|> some 0) = some 0
      rw [hnext, hn]
      rfl⟩

/-! ### Loss of lock (R337, R338, R340) -/

/-- The bits of a condition as it is shown. -/
theorem conditionBits (present ok q : Bool) : bit (b2n present + 2 * b2n ok + 4 * b2n q) 0 = present ∧
    bit (b2n present + 2 * b2n ok + 4 * b2n q) 1 = ok ∧ bit (b2n present + 2 * b2n ok + 4 * b2n q) 2 = q := by
  revert present ok q
  decide

theorem setCondition_qualified (present ok restart : Bool) (b : Block) :
    (setCondition present ok restart b).qualified = (b.qualified && present && ok && !restart) := by
  rw [Block.qualified, setCondition_rd, (conditionBits _ _ _).2.2]

/-- The loss is named, and coasting is due at the next frame. -/
theorem lockLost_facts {c : Nat} {b : Block} (h1 : 1 ≤ c) (h4 : c ≤ 4) (hlock : b.lockedRef = true) (hcoast : b.clk.coast = none) :
    (lockLost c b).rd 0x2101 7 = c ∧ (lockLost c b).clk.coast = some (b.time.abs + 1, b.rd 0x2103 1) ∧ (lockLost c b).clk.jump = none ∧
      (c ≤ 2 → (lockLost c b).qualified = false) ∧
      (bits (b.rd 0x2101 3) 0 2 = 3 → 3 ≤ c → (lockLost c b).qualified = b.qualified) ∧ (lockLost c b).rd 0x2101 1 = b.rd 0x2101 1 := by
  have hno : (!b.lockedRef || decide (c = 0) || decide (4 < c) || b.clk.coast.isSome) = false := by
    simp [hlock, hcoast]
    omega
  obtain ⟨n, hn⟩ : ∃ n, n = b.wr 0x2101 7 c := ⟨_, rfl⟩
  have hnrd : ∀ i r, i * 256 + r ≠ 0x210107 → n.rd i r = b.rd i r := fun i r h => by
    rw [hn]
    exact Block.rd_wr_of_ne _ _ h
  have hcond : n.rd 0x2101 3 = b.rd 0x2101 3 := hnrd _ _ (by decide)
  have hqn : n.qualified = b.qualified := congrArg (bit · 2) hcond
  obtain ⟨present, ok, hpo⟩ : ∃ present ok, present = (bit (b.rd 0x2101 3) 0 && c != 1) ∧
    ok = (bit (b.rd 0x2101 3) 1 && c != 1 && c != 2) := ⟨_, _, rfl, rfl⟩
  obtain ⟨hp, hok⟩ := hpo
  obtain ⟨d, hd⟩ : ∃ d, d = setCondition present ok false n := ⟨_, rfl⟩
  have he : lockLost c b = { d with clk := { d.clk with coast := some (d.time.abs + 1, d.rd 0x2103 1), fall := false, jump := none } } := by
    unfold lockLost
    rw [if_neg (by simpa using hno)]
    dsimp only
    rw [← hn, hcond, ← hp, ← hok, ← hd]
  have hdrd : ∀ i r, r < 256 → i * 256 + r ≠ 0x1E1001 → i * 256 + r ≠ 0x210103 → d.rd i r = n.rd i r := fun i r hr hi h3 => by
    rw [hd]
    refine (setCondition_within (R := fun i r => i * 256 + r == 0x210103) (.refl _ n) rfl present ok false).rd hr hi ?_
    simpa using h3
  have htime : d.time = b.time := by rw [hd, hn]; rfl
  have hdq : d.qualified = (b.qualified && present && ok) := by
    rw [hd, setCondition_qualified, hqn, Bool.not_false, Bool.and_true]
  have hq : (lockLost c b).qualified = d.qualified := by rw [he]; rfl
  have hrd : ∀ i r, (lockLost c b).rd i r = d.rd i r := fun i r => by rw [he]; rfl
  refine ⟨?_, ?_, by rw [he], fun h2 => ?_, fun hb h3 => ?_, ?_⟩
  · rw [hrd, hdrd _ _ (by decide) (by decide) (by decide), hn, Block.rd_wr_of_lt _ _ _ (by omega)]
  · rw [he, ← hnrd 0x2103 1 (by decide), ← hdrd _ _ (by decide) (by decide) (by decide), ← htime]
  · have hno : ok = false := by
      rw [hok]
      obtain rfl | rfl : c = 1 ∨ c = 2 := by omega
      · simp
      · simp
    rw [hq, hdq, hno, Bool.and_false]
  · have hbits : bit (b.rd 0x2101 3) 0 = true ∧ bit (b.rd 0x2101 3) 1 = true := by
      simp only [bits, bit, beq_iff_eq] at hb ⊢
      omega
    have hyes : present = true ∧ ok = true := by
      rw [hp, hok, hbits.1, hbits.2]
      obtain rfl | rfl : c = 3 ∨ c = 4 := by omega
      · decide
      · decide
    rw [hq, hdq, hyes.1, hyes.2, Bool.and_true, Bool.and_true]
  · rw [hrd, hdrd _ _ (by decide) (by decide) (by decide), hnrd _ _ (by decide)]

theorem State.run_qualified (s : State) (f : List Host.Cell → Block → Block) : (s.run f).blk.qualified = (f s.mem s.blk).qualified :=
  congrArg (bit · 2) (State.run_rd_of_ne s f _ _ (by decide))

/-- Settles O30: LOCK and LOCK_LOST, each where its premises let it act. -/
theorem lockAndItsLoss : Obligations.LockAndItsLoss := by
  unfold Obligations.LockAndItsLoss
  refine ⟨?_, ?_⟩
  · intro s outer hon h1 hq
    obtain ⟨hst, hrun, hwait, hmargin, hnext⟩ := clockLock_facts outer h1 hq
    refine ⟨_, State.act_of_on rfl hon _, (State.run_rd_of_ne _ _ _ _ (by decide)).trans hst, ?_, ?_, fun ho hm => ?_, fun hr hn => ?_⟩
    · rw [State.run_clk]
      exact hrun
    · rw [State.run_power]
      exact hwait
    · exact (State.run_rd_of_ne _ _ _ _ (by decide)).trans (hmargin ho hm)
    · rw [State.run_clk]
      exact hnext hr hn
  · intro s c hon h1 h4 hlock hcoast
    obtain ⟨hcause, hco, hjump, hgone, hstays, hst⟩ := lockLost_facts h1 h4 hlock hcoast
    refine ⟨_, State.act_of_on (by simp [Instr.wf, h1, h4]) hon _, (State.run_rd_of_ne _ _ _ _ (by decide)).trans hcause, ?_, ?_, fun h => ?_,
      fun hb h => ?_, (State.run_rd_of_ne _ _ _ _ (by decide)).trans hst⟩
    · rw [State.run_clk]
      exact hco
    · rw [State.run_clk]
      exact hjump
    · rw [State.run_qualified]
      exact hgone h
    · rw [State.run_qualified]
      exact hstays hb h

end Sys2Proof.Machine

/-! # The reference condition, relock and phase steps (R335, R340 to R345) -/

namespace Sys2Proof.Machine

/-! ### The reference (R340) -/

theorem lockLost_unlocked {b : Block} (c : Nat) (h : b.lockedRef = false) : lockLost c b = b := by
  unfold lockLost
  rw [if_pos (by simp [h])]

/-- The condition of a reference as it is measured. -/
def measuredCondition (present : Bool) (m : Nat) (b : Block) : Block :=
  setCondition present (freqOk (b.rd 0x2100 1) m) false
    (({ b with clk := { b.clk with refMHz := m } } : Block).wr 0x2101 4 (real32 ((m : Rat) / 1000)))

theorem referenceCondition_cases (present : Bool) (m : Nat) (b : Block) : ∃ d, d = measuredCondition present m b ∧
    referenceCondition present m b = if d.rd 0x2101 1 = 1 && d.rd 0x2101 2 = 1 && !d.qualified then startAcquisition d
      else if !present then lockLost 1 d else if !freqOk (b.rd 0x2100 1) m then lockLost 2 d else d := ⟨_, rfl, rfl⟩

theorem measuredCondition_facts (present : Bool) (m : Nat) (b : Block) :
    (measuredCondition present m b).rd 0x2101 1 = b.rd 0x2101 1 ∧ bit ((measuredCondition present m b).rd 0x2101 3) 0 = present ∧
      bit ((measuredCondition present m b).rd 0x2101 3) 1 = freqOk (b.rd 0x2100 1) m ∧ (measuredCondition present m b).clk.refMHz = m := by
  obtain ⟨real, hreal⟩ : ∃ x, x = real32 ((m : Rat) / 1000) := ⟨_, rfl⟩
  obtain ⟨n, hn⟩ : ∃ n, n = ({ b with clk := { b.clk with refMHz := m } } : Block).wr 0x2101 4 real := ⟨_, rfl⟩
  have hst : n.rd 0x2101 1 = b.rd 0x2101 1 := by
    rw [hn]
    exact Block.rd_wr_of_ne _ _ (by decide)
  rw [measuredCondition, ← hreal, ← hn]
  refine ⟨((setCondition_within (.refl (fun i r => i == 0x2101 && r == 3) n) rfl ..).rd (by decide) (by decide) rfl).trans hst, ?_, ?_, ?_⟩
  · rw [setCondition_rd, (conditionBits _ _ _).1]
  · rw [setCondition_rd, (conditionBits _ _ _).2.1]
  · obtain ⟨q, hq⟩ := setCondition_clk present (freqOk (b.rd 0x2100 1) m) false n
    rw [hq, hn]
    rfl

/-- Off the reference, what it shows sets its condition; an acquisition from it may begin anew. -/
theorem referenceCondition_unlocked (present : Bool) (m : Nat) {b : Block} (h : b.lockedRef = false) :
    (referenceCondition present m b).rd 0x2101 1 = b.rd 0x2101 1 ∧ bit ((referenceCondition present m b).rd 0x2101 3) 0 = present ∧
      bit ((referenceCondition present m b).rd 0x2101 3) 1 = freqOk (b.rd 0x2100 1) m ∧ (referenceCondition present m b).clk.refMHz = m := by
  obtain ⟨d, hd, he⟩ := referenceCondition_cases present m b
  obtain ⟨hst, hp, hok, hm⟩ := measuredCondition_facts present m b
  rw [← hd] at hst hp hok hm
  have hun : d.lockedRef = false := by rw [Block.lockedRef, hst]; exact h
  rw [lockLost_unlocked 1 hun, lockLost_unlocked 2 hun, ite_self, ite_self] at he
  rw [he]
  split
  · next hacq =>
    simp only [Bool.and_eq_true, decide_eq_true_eq] at hacq
    have hrd := (startAcquisition_within (.refl isAcquireReg d) fun _ _ h => h).rd (i := 0x2101) (s := 3) (by decide) (by decide) rfl
    rw [startAcquisition_state, hrd, startAcquisition_clk]
    exact ⟨(hacq.1.1.symm.trans hst), hp, hok, hm⟩
  · exact ⟨hst, hp, hok, hm⟩

theorem referenceQualified_eq {b : Block} {a n : Nat} (h : b.clk.qualFrom = some (a, n)) (ha : a + n ≤ b.time.abs) (hlock : b.lockedRef = false) :
    referenceQualified b = b.wrBit 0x2101 3 2 true := by
  simp [referenceQualified, h, ha, hlock]

/-! ### Relock (R341 to R345) -/

theorem jumpMeasured_eq {b : Block} (j : Int) (hq : b.qualified = true) (hst : b.rd 0x2101 1 = 5) (hj : b.clk.jump = none) :
    jumpMeasured j b = { b.wrI 0x2103 6 (foldJump (b.rd 0x2100 8) (refFp2 b.clockCfg.decl b.clockCfg.mult) j) with
      clk := { b.clk with jump := some (b.time.abs + 1, foldJump (b.rd 0x2100 8) (refFp2 b.clockCfg.decl b.clockCfg.mult) j,
        match b.rd 0x2103 4 with | 1 => true | 2 => false | _ => !b.armedDoms.isEmpty) } } := by
  have hgo : (!b.qualified || !((b.rd 0x2101 1 == 5) || (b.rd 0x2101 1 == 4 && !b.clockCfg.tcxoOnly && b.clockCfg.decl != 0)) ||
      b.clk.jump.isSome) = false := by simp [hq, hst, hj]
  unfold jumpMeasured
  dsimp only
  exact (if_neg (by rw [hgo]; decide)).trans rfl

theorem slewEnd_facts {b : Block} {x : Nat × Nat} (hx : b.clk.slew = some x) (hst : b.rd 0x2101 1 = 3) (hleft : slewLeft b = 0) :
    (slewEnd b).rd 0x2101 1 = 2 ∧ (slewEnd b).rd 0x2103 7 = 0 ∧ (slewEnd b).clk.slew = none := by
  obtain ⟨w, hw⟩ : ∃ w, slewEnd b = { ((b.wr 0x2101 1 2).wr 0x2103 7 0).wr 0x2010 4 w with clk := { b.clk with slew := none } } := by
    simp only [slewEnd, hx, hst, hleft, decide_true, Bool.and_self, if_true]
    exact ⟨_, rfl⟩
  have hregs : (slewEnd b).regs = (((b.wr 0x2101 1 2).wr 0x2103 7 0).wr 0x2010 4 w).regs := by rw [hw]
  refine ⟨?_, ?_, by rw [hw]⟩
  · rw [Block.rd_of_regs hregs, Block.rd_wr_of_ne _ _ (by decide), Block.rd_wr_of_ne _ _ (by decide), Block.rd_wr_of_lt _ _ _ (by decide)]
  · rw [Block.rd_of_regs hregs, Block.rd_wr_of_ne _ _ (by decide), Block.rd_wr_of_lt _ _ _ (by decide)]

/-- The fall-back falls due at the boundary after the coast's limit (R345). -/
theorem coastLimit_fall {b : Block} {a limit : Nat} (hc : b.clk.coast = some (a, limit)) (hst : b.rd 0x2101 1 = 5) (hl : limit ≠ 2 ^ 32 - 1) :
    (coastLimit b).clk.fall = true ↔ b.clk.fall = true ∨ (a + limit < b.time.abs ∧ b.qualified = false) := by
  have hcond : (decide (b.rd 0x2101 1 = 5) && limit != 2 ^ 32 - 1 && decide (a + limit < b.time.abs) && !b.qualified) = true ↔
      a + limit < b.time.abs ∧ b.qualified = false := by
    simp only [hst, bne_iff_ne.2 hl, decide_true, Bool.true_and, Bool.and_eq_true, decide_eq_true_eq, Bool.not_eq_true']
  simp only [coastLimit, hc]
  split
  · next h => exact ⟨fun _ => .inr (hcond.1 h), fun _ => rfl⟩
  · next h => exact ⟨.inl, fun ho => ho.elim id fun hd => absurd (hcond.2 hd) h⟩

theorem recordBlind_clk : RecordBlind Block.clk := {}

/-- A coast ends: of the clock and its registers only the count of its frames changes. -/
theorem coastEnd_facts (fallback : Bool) (b : Block) :
    (coastEnd fallback b).clk = { b.clk with coast := none, fall := false } ∧
      ∀ i r, r < 256 → i ≠ 0x7080 → i * 256 + r ≠ 0x210308 → (coastEnd fallback b).rd i r = b.rd i r := by
  obtain ⟨n, hn⟩ : ∃ n, n = satTo 32 (coastedFrames b) := ⟨_, rfl⟩
  obtain ⟨e, he⟩ : ∃ e, e = eventAll 5 (b2n fallback) b.tsNow [n] (b.wr 0x2103 8 n) := ⟨_, rfl⟩
  have hend : coastEnd fallback b = { e with clk := { e.clk with coast := none, fall := false } } := by rw [he, hn]; rfl
  have hclk : e.clk = b.clk := by
    rw [he]
    exact recordBlind_clk.eventAll ..
  refine ⟨by rw [hend, hclk], fun i r hr hi hne => ?_⟩
  have hrd : (coastEnd fallback b).rd i r = e.rd i r := by rw [hend]; rfl
  rw [hrd, he, (recordBlind_rd hr (.inl hi)).eventAll, Block.rd_wr_of_ne _ _ hne]

/-- FALLBACK: the loop goes over to the TCXO (R345). -/
theorem clockFallback_facts {b : Block} (hfall : b.clk.fall = true) (hst : b.rd 0x2101 1 = 5) :
    (clockFallback b).rd 0x2101 1 = 4 ∧ (clockFallback b).rd 0x2101 2 = 2 ∧ (clockFallback b).rd 0x2101 0xB = 1 ∧
      (clockFallback b).rd 0x2101 0xC = satTo 32 (b.rd 0x2101 0xC + 1) ∧ (clockFallback b).clk.coast = none := by
  obtain ⟨d, hd⟩ : ∃ d, d = coastEnd true b := ⟨_, rfl⟩
  obtain ⟨f, hf⟩ : ∃ f, f = applySource 2 d := ⟨_, rfl⟩
  have he : clockFallback b = emcyEvent 0xFF31 4 (mbytes 0) ((f.wr 0x2101 1 4).flag 0x2101 0xB 0xC 1) := by
    simp only [clockFallback, hfall, hst, ← hd, ← hf]
    rfl
  obtain ⟨hdclk, hdrd⟩ := coastEnd_facts true b
  rw [← hd] at hdclk hdrd
  have hrd : ∀ r < 256, (clockFallback b).rd 0x2101 r = ((f.wr 0x2101 1 4).flag 0x2101 0xB 0xC 1).rd 0x2101 r := fun r hr => by
    rw [he]
    exact emcyEvent_rd _ _ _ _ hr rfl
  have hcount : f.rd 0x2101 0xC = b.rd 0x2101 0xC := by
    rw [hf]
    exact ((applySource_within (.refl isSourceReg d) (fun _ _ h => h) 2).rd (by decide) (by decide) rfl).trans
      (hdrd _ _ (by decide) (by decide) (by decide))
  refine ⟨?_, ?_, ?_, ?_, ?_⟩
  · rw [hrd _ (by decide), Block.rd_flag_of_ne _ _ (by decide) (by decide), Block.rd_wr_of_lt _ _ _ (by decide)]
  · rw [hrd _ (by decide), Block.rd_flag_of_ne _ _ (by decide) (by decide), Block.rd_wr_of_ne _ _ (by decide), hf, applySource_src (by decide)]
  · rw [hrd _ (by decide), Block.rd_flag_self _ _ _ (by decide)]
  · rw [hrd _ (by decide), Block.rd_flag_count _ _ _ (by decide), Block.rd_wr_of_ne _ _ (by decide), hcount]
  · obtain ⟨r, w, e, hs⟩ := emcyEvent_shape 0xFF31 4 (mbytes 0) ((f.wr 0x2101 1 4).flag 0x2101 0xB 0xC 1)
    rw [he, hs]
    show f.clk.coast = none
    rw [hf, applySource_clk, hdclk]

/-! ### Phase steps (R335) -/

/-- One unit toward the target. -/
def stepToward (now target : Int) : Int := if now < target then now + 1 else now - 1

theorem stepToward_range {now target : Int} (h : now ≠ target) (h1 : -2 ^ 63 ≤ now) (h2 : now < 2 ^ 63) (h3 : -2 ^ 63 ≤ target)
    (h4 : target < 2 ^ 63) : -2 ^ 63 ≤ stepToward now target ∧ stepToward now target < 2 ^ 63 := by
  unfold stepToward
  split <;> omega

theorem Block.rdI_range (b : Block) (i r : Nat) : -2 ^ 63 ≤ b.rdI i r ∧ b.rdI i r < 2 ^ 63 :=
  ⟨BitVec.le_toInt _, BitVec.toInt_lt⟩

theorem phaseStep_eq {b : Block} (hst : 2 ≤ b.rd 0x2101 1) (hne : b.rdI 0x2102 2 ≠ b.rdI 0x2102 1)
    (hat : ∀ a, b.clk.stepAt = some a → a + b.rd 0x2102 3 ≤ b.time.abs) :
    phaseStep b = { (b.wrI 0x2102 2 (stepToward (b.rdI 0x2102 2) (b.rdI 0x2102 1))).bump 32 0x2102 4 1 with
      clk := { b.clk with stepAt := some b.time.abs } } := by
  have hsoon : (match b.clk.stepAt with | some a => decide (b.time.abs < a + b.rd 0x2102 3) | none => false) = false := by
    cases h : b.clk.stepAt with
    | none => rfl
    | some a => simpa using hat a h
  have hno : ¬ (decide (b.rd 0x2101 1 < 2) || decide (b.rdI 0x2102 2 = b.rdI 0x2102 1) ||
      (match b.clk.stepAt with | some a => decide (b.time.abs < a + b.rd 0x2102 3) | none => false)) = true := by
    rw [hsoon]
    simp [hne]
    omega
  exact if_neg hno

/-- Settles O31: each event where its premises let it act. -/
theorem referenceAndPhaseEventsTakeEffect : Obligations.ReferenceAndPhaseEventsTakeEffect := by
  unfold Obligations.ReferenceAndPhaseEventsTakeEffect
  refine ⟨?_, ?_, ?_, ?_, fun b a limit hc hst hl => coastLimit_fall hc hst hl, ?_, ?_⟩
  · intro s present m hon hlock
    obtain ⟨hst, hp, hok, hm⟩ := referenceCondition_unlocked present m hlock
    have hcond := State.run_rd_of_ne s (fun _ b => referenceCondition present m b) 0x2101 3 (by decide)
    refine ⟨_, State.act_of_on rfl hon _, (congrArg (bit · 0) hcond).trans hp, (congrArg (bit · 1) hcond).trans hok, ?_,
      (State.run_rd_of_ne _ _ _ _ (by decide)).trans hst⟩
    rw [State.run_clk]
    exact hm
  · intro s a n hon hq ha hlock
    have he := referenceQualified_eq hq ha hlock
    refine ⟨_, State.act_of_on rfl hon _, ?_, ?_, Block.Within.keeps ?_⟩
    · rw [State.run_qualified, he]
      exact Block.bit_wrBit_self _ _ _ (by decide) true
    · rw [State.run_clk, he]
      rfl
    · rw [he]
      exact (Block.Within.refl _ s.blk).wrBit _ _ (by decide) rfl
  · intro s j hon hq hst hj
    have he := jumpMeasured_eq j hq hst hj
    refine ⟨_, State.act_of_on rfl hon _, ?_, Block.Within.keeps ?_⟩
    · rw [State.run_clk, he] <;> rfl
    · rw [he]
      exact ((Block.Within.refl _ s.blk).wrI _ (i := 0x2103) (s := 6) (by decide) rfl).of_regs rfl rfl
  · intro s x hon hx hst hleft
    obtain ⟨h1, h7, hs⟩ := slewEnd_facts hx hst hleft
    exact ⟨_, State.act_of_on rfl hon _, (State.run_rd_of_ne _ _ _ _ (by decide)).trans h1, (State.run_rd_of_ne _ _ _ _ (by decide)).trans h7,
      (congrArg Clk.slew (State.run_clk ..)).trans hs⟩
  · intro s hon hfall hst
    obtain ⟨h1, h2, hb, hc, hcoast⟩ := clockFallback_facts hfall hst
    exact ⟨_, State.act_of_on rfl hon _, (State.run_rd_of_ne _ _ _ _ (by decide)).trans h1, (State.run_rd_of_ne _ _ _ _ (by decide)).trans h2,
      (State.run_rd_of_ne _ _ _ _ (by decide)).trans hb, (State.run_rd_of_ne _ _ _ _ (by decide)).trans hc,
      (congrArg Clk.coast (State.run_clk ..)).trans hcoast⟩
  · intro s hon hst hne hat
    have he := phaseStep_eq hst hne hat
    obtain ⟨hlo, hhi⟩ := s.blk.rdI_range 0x2102 2
    obtain ⟨hlo', hhi'⟩ := s.blk.rdI_range 0x2102 1
    obtain ⟨h1, h2⟩ := stepToward_range hne hlo hhi hlo' hhi'
    obtain ⟨x, hx⟩ : ∃ x, x = stepToward (s.blk.rdI 0x2102 2) (s.blk.rdI 0x2102 1) := ⟨_, rfl⟩
    rw [← hx] at he h1 h2
    refine ⟨_, State.act_of_on rfl hon _, ?_, ?_, ?_, ?_, Block.Within.keeps ?_⟩
    · rw [State.run_rdI_of_ne _ _ _ _ (by decide), he]
      show ((s.blk.wrI 0x2102 2 x).bump 32 0x2102 4 1).rdI 0x2102 2 = _
      rw [Block.rdI_bump_of_ne _ _ _ (by decide), Block.rdI_wrI_self _ _ _ h1 h2, hx]
      rfl
    · rw [State.run_rd_of_ne _ _ _ _ (by decide), he]
      show ((s.blk.wrI 0x2102 2 x).bump 32 0x2102 4 1).rd 0x2102 4 = _
      rw [Block.rd_bump_self _ _ _ _ (by decide), Block.rd_wrI_of_ne _ _ (by decide)]
    · rw [State.run_clk, he]
    · rw [State.run_time, he]
      rfl
    · rw [he]
      exact (((Block.Within.refl _ s.blk).wrI x (i := 0x2102) (s := 2) (by decide) rfl).bump 32 1 (i := 0x2102) (s := 4) (by decide) rfl).of_regs
        rfl rfl

end Sys2Proof.Machine

/-! # SYNC_IN, slips and frame number loads (R353 to R360, R375) -/

namespace Sys2Proof.Machine

/-! ### Slips and loads that have taken effect (R356, R359) -/

theorem Block.rdI_of_regs {b c : Block} (h : c.regs = b.regs) (i r : Nat) : c.rdI i r = b.rdI i r :=
  congrArg BitVec.toInt (Block.reg_of_regs h i r)

theorem recordBlind_sync : RecordBlind Block.sync := {}
theorem recordBlind_syncAbs : RecordBlind Block.syncAbs := {}

theorem syncSlip_idle {b : Block} (h : b.sync.slipDue = none) : syncSlip b = b := by simp only [syncSlip, h]

theorem frameLoad_idle {b : Block} (hs : b.sync.slipDue = none) (hl : b.sync.loadDue = none) : frameLoad b = b := by
  simp only [frameLoad, syncSlip_idle hs, hl]

/-- A slip that has taken effect makes a synchronising reset and is counted with its frame (R356). -/
theorem syncSlip_facts {b : Block} {x : Int} (h : b.sync.slipDue = some x) :
    (syncSlip b).sync.slipDue = none ∧ (syncSlip b).syncAbs = b.time.abs ∧ (syncSlip b).time = b.time ∧
      (syncSlip b).rd 0x2201 0xB = satTo 32 (b.rd 0x2201 0xB + 1) ∧ (syncSlip b).rd 0x2201 0xC = b.time.frame.toNat := by
  obtain ⟨c, hc⟩ : ∃ c, c = syncReset { b with sync := { b.sync with slipDue := none } } := ⟨_, rfl⟩
  obtain ⟨d, hd⟩ : ∃ d, d = eventAll 7 (unsigned x 6) c.tsNow [] c := ⟨_, rfl⟩
  have he : syncSlip b = ((d.bump 32 0x2201 0xB 1).wr 0x2201 0xC d.time.frame.toNat).bset 0xF00 0 (unsigned x 8) := by
    simp only [syncSlip, h, ← hc, ← hd]
  have htime : d.time = b.time := by
    rw [hd, recordBlind_time.eventAll, hc, syncReset_time]
  have hsync : d.sync = { b.sync with slipDue := none } := by
    rw [hd, recordBlind_sync.eventAll, hc, syncReset_sync]
  have habs : d.syncAbs = b.time.abs := by
    rw [hd, recordBlind_syncAbs.eventAll, hc, syncReset_syncAbs]
  have hrd : d.rd 0x2201 0xB = b.rd 0x2201 0xB := by
    rw [hd, (recordBlind_rd (by decide) (.inl (by decide))).eventAll, hc, syncReset_rd _ (by decide) (.inl (by decide))]
    rfl
  have hframe : d.time.frame.toNat < 2 ^ 64 := Nat.lt_trans d.time.frame.isLt (by decide)
  rw [he]
  refine ⟨?_, habs, htime, ?_, ?_⟩
  · show d.sync.slipDue = none
    rw [hsync]
  · show ((d.bump 32 0x2201 0xB 1).wr 0x2201 0xC d.time.frame.toNat).rd 0x2201 0xB = _
    rw [Block.rd_wr_of_ne _ _ (by decide), Block.rd_bump_self _ _ _ _ (by decide), hrd]
  · show ((d.bump 32 0x2201 0xB 1).wr 0x2201 0xC d.time.frame.toNat).rd 0x2201 0xC = _
    rw [Block.rd_wr_of_lt _ _ _ hframe, htime]

/-- A load that has taken effect makes a synchronising reset, to the number in force (R359). -/
theorem frameLoad_facts {b : Block} {old : Nat} (hs : b.sync.slipDue = none) (hl : b.sync.loadDue = some old) :
    (frameLoad b).sync.loadDue = none ∧ (frameLoad b).syncAbs = b.time.abs ∧ (frameLoad b).time = b.time ∧
      (frameLoad b).rd 0x4010 2 = b.time.frame.toNat := by
  obtain ⟨c, hc⟩ : ∃ c, c = syncReset { b with sync := { b.sync with loadDue := none } } := ⟨_, rfl⟩
  have he : frameLoad b = eventAll 9 0 (c.wr 0x4010 2 c.time.frame.toNat).tsNow [old] (c.wr 0x4010 2 c.time.frame.toNat) := by
    simp only [frameLoad, syncSlip_idle hs, hl, ← hc]
  have htime : c.time = b.time := by rw [hc, syncReset_time]
  have hframe : c.time.frame.toNat < 2 ^ 64 := Nat.lt_trans c.time.frame.isLt (by decide)
  rw [he]
  refine ⟨?_, ?_, ?_, ?_⟩
  · rw [recordBlind_sync.eventAll, Block.wr_sync, hc, syncReset_sync]
  · rw [recordBlind_syncAbs.eventAll, Block.wr_syncAbs, hc, syncReset_syncAbs]
  · rw [recordBlind_time.eventAll, Block.wr_time, htime]
  · rw [(recordBlind_rd (by decide) (.inl (by decide))).eventAll, Block.rd_wr_of_lt _ _ _ hframe, htime]

/-! ### An event at SYNC_IN (R357, R358) -/

/-- The slip that an event at sample `e` requests. -/
def eventSlip (e : Nat) (b : Block) : Int :=
  requestedSlip (b.rd 0x2201 1) (b.rd 0x2201 3) (32 * b.time.frame.toNat + e + b.rd 0x2201 2)

/-- The event has been seen, and no earlier sample of the frame is looked at again. -/
def eventSeen (e : Nat) (b : Block) : Block := { b with sync := { b.sync with from_ := e + 1 } }

def eventRefused (x : Int) (c : Nat) (b : Block) : Block :=
  eventAll 8 0 ((b.wr 0x2201 7 c).flag 0x2201 8 9 1).tsNow [unsigned (clampI (-32767) 32767 x) 16] ((b.wr 0x2201 7 c).flag 0x2201 8 9 1)

/-- The number that a load armed for the event gives its frame. -/
def eventLoad (e : Nat) (x : Int) (b : Block) : Option Nat :=
  if b.on 0x2201 4 then
    some ((((b.rd 0x2201 5 : Nat) : Int) + (32 * ((b.time.frame.toNat + b.applyAfter : Nat) : Int) + x -
      (32 * b.time.frame.toNat + e + b.rd 0x2201 2 : Nat)) / 32) % ((2 ^ 53 : Nat) : Int)).toNat
  else none

/-- The command that carries a load down the chain. -/
def sendLoad (ld : Option Nat) (k : Nat) (b : Block) : Block :=
  match ld with | some v => sendCommand 2 v k b | none => b

/-- The commands that carry an accepted event down the chain, the load no longer being armed. -/
def eventSent (x : Int) (ld : Option Nat) (k : Nat) (b : Block) : Block :=
  let b := if ld.isSome then b.wr 0x2201 4 0 else b
  sendLoad ld k (if x = 0 then b else sendCommand 1 (unsigned x 6) k b)

def eventAccepted (x : Int) (ld : Option Nat) (k : Nat) (b : Block) : Block :=
  acceptSlip { at_ := (eventSent x ld k b).time.abs + k, s := x, load := ld, counts := true } (eventSent x ld k b)

theorem syncInEvent_cases (e : Nat) (b : Block) : ∃ c x d, c = frameLoad (eventSeen e b) ∧
    x = requestedSlip (c.rd 0x2201 1) (c.rd 0x2201 3) (32 * c.time.frame.toNat + e + c.rd 0x2201 2) ∧
    d = c.wrI 0x2201 6 (clampI (-32767) 32767 x) ∧
    syncInEvent e b = if !b.clk.run || e < b.sync.from_ || b.voidSoon ≤ e || !b.syncRise e then b
      else if b.rd 0x2201 1 = 0 then eventSeen e b
      else if x = 0 && !d.on 0x2201 4 then d
      else if slipCause d x != 0 then eventRefused x (slipCause d x) d
      else eventAccepted x (if d.on 0x2201 4 then
          some ((((d.rd 0x2201 5 : Nat) : Int) + (32 * ((c.time.frame.toNat + d.applyAfter : Nat) : Int) + x -
            (32 * c.time.frame.toNat + e + c.rd 0x2201 2 : Nat)) / 32) % ((2 ^ 53 : Nat) : Int)).toNat
        else none) d.applyAfter d := ⟨_, _, _, rfl, rfl, rfl, rfl⟩

/-- The requested slip has been measured. -/
def eventMeasured (e : Nat) (b : Block) : Block := (eventSeen e b).wrI 0x2201 6 (clampI (-32767) 32767 (eventSlip e b))

theorem eventMeasured_rd (e : Nat) (b : Block) {i r : Nat} (h : i * 256 + r ≠ 0x220106) : (eventMeasured e b).rd i r = b.rd i r :=
  Block.rd_wrI_of_ne _ _ h

theorem eventMeasured_on (e : Nat) (b : Block) : (eventMeasured e b).on 0x2201 4 = b.on 0x2201 4 := by
  rw [Block.on, Block.on, eventMeasured_rd e b (by decide)]

theorem eventMeasured_inChain (e : Nat) (b : Block) : (eventMeasured e b).inChain = b.inChain := by
  simp only [Block.inChain, eventMeasured_rd e b (show 0x2200 * 256 + 4 ≠ 0x220106 by decide)]

theorem eventMeasured_applyAfter (e : Nat) (b : Block) : (eventMeasured e b).applyAfter = b.applyAfter := by
  rw [Block.applyAfter, Block.applyAfter, eventMeasured_inChain, Block.horizon, Block.horizon, eventMeasured_rd e b (by decide)]

theorem eventMeasured_slipCause (e : Nat) (b : Block) (x : Int) : slipCause (eventMeasured e b) x = slipCause b x := by
  have hmember : (eventMeasured e b).isMember = b.isMember := by
    rw [Block.isMember, Block.isMember, eventMeasured_inChain, Block.isMaster, Block.isMaster, eventMeasured_rd e b (by decide)]
  simp only [slipCause, hmember]
  rfl

section

variable {e : Nat} {b : Block} (hmode : b.rd 0x2201 1 ≠ 0) (hslip : b.sync.slipDue = none) (hload : b.sync.loadDue = none)
  (hrun : b.clk.run = true) (hfrom : b.sync.from_ ≤ e) (hrise : b.syncRise e = true) (hvoid : e < b.voidSoon)
include hmode hslip hload hrun hfrom hrise hvoid

/-- An event that is looked at. -/
theorem syncInEvent_eq : syncInEvent e b =
    if eventSlip e b = 0 && !b.on 0x2201 4 then eventMeasured e b
    else if slipCause b (eventSlip e b) != 0 then eventRefused (eventSlip e b) (slipCause b (eventSlip e b)) (eventMeasured e b)
    else eventAccepted (eventSlip e b) (eventLoad e (eventSlip e b) b) b.applyAfter (eventMeasured e b) := by
  obtain ⟨c, x, d, hc, hx, hd, he⟩ := syncInEvent_cases e b
  have hlook : (!b.clk.run || decide (e < b.sync.from_) || decide (b.voidSoon ≤ e) || !b.syncRise e) = false := by
    simp [hrun, hrise]
    omega
  rw [frameLoad_idle (by exact hslip) (by exact hload)] at hc
  have hxe : x = eventSlip e b := by
    rw [hx, hc]
    rfl
  have hde : d = eventMeasured e b := by
    rw [hd, hc, hxe]
    rfl
  rw [he, hlook, if_neg (by decide), if_neg hmode, hxe, hde, eventMeasured_on, eventMeasured_slipCause, eventMeasured_applyAfter,
    eventMeasured_rd e b (show 0x2201 * 256 + 5 ≠ 0x220106 by decide), hc]
  rfl

/-- An event with a cause of refusal shows it (R358). -/
theorem syncInEvent_refused (hcause : slipCause b (eventSlip e b) ≠ 0) (hreq : eventSlip e b ≠ 0 ∨ b.on 0x2201 4 = true) :
    (syncInEvent e b).sync = { b.sync with from_ := e + 1 } ∧ (syncInEvent e b).rd 0x2201 7 = slipCause b (eventSlip e b) ∧
      (syncInEvent e b).rd 0x2201 8 = 1 ∧ (syncInEvent e b).rd 0x2201 9 = satTo 32 (b.rd 0x2201 9 + 1) := by
  have hask : (decide (eventSlip e b = 0) && !b.on 0x2201 4) = false := by
    rcases hreq with h | h
    · simp [h]
    · simp [h]
  have he : syncInEvent e b = eventRefused (eventSlip e b) (slipCause b (eventSlip e b)) (eventMeasured e b) := by
    rw [syncInEvent_eq hmode hslip hload hrun hfrom hrise hvoid, hask, if_neg (by decide), if_pos (bne_iff_ne.2 hcause)]
  have hsmall : slipCause b (eventSlip e b) < 2 ^ 64 := by
    unfold slipCause
    exact ite_lt (by decide) (ite_lt (by decide) (ite_lt (by decide) (ite_lt (by decide) (by decide))))
  obtain ⟨x, hx⟩ : ∃ x, x = slipCause b (eventSlip e b) := ⟨_, rfl⟩
  rw [he]
  rw [← hx] at hsmall ⊢
  have hrd : ∀ r < 256, (eventRefused (eventSlip e b) x (eventMeasured e b)).rd 0x2201 r =
      (((eventMeasured e b).wr 0x2201 7 x).flag 0x2201 8 9 1).rd 0x2201 r :=
    fun r hr => (recordBlind_rd hr (.inl (by decide))).eventAll ..
  refine ⟨?_, ?_, ?_, ?_⟩
  · exact recordBlind_sync.eventAll ..
  · rw [hrd 7 (by decide), Block.rd_flag_of_ne _ _ (by decide) (by decide), Block.rd_wr_of_lt _ _ _ hsmall]
  · rw [hrd 8 (by decide), Block.rd_flag_self _ _ _ (by decide)]
  · rw [hrd 9 (by decide), Block.rd_flag_count _ _ _ (by decide), Block.rd_wr_of_ne _ _ (by decide), eventMeasured_rd e b (by decide)]

omit hvoid in
/-- An event without a cause of refusal is accepted: nothing waits, and no slip is about to void its sample. -/
theorem syncInEvent_accepted (he32 : e < 32) (hcause : slipCause b (eventSlip e b) = 0) (hreq : eventSlip e b ≠ 0 ∨ b.on 0x2201 4 = true) :
    b.sync.wait = [] ∧
      syncInEvent e b = eventAccepted (eventSlip e b) (eventLoad e (eventSlip e b) b) b.applyAfter (eventMeasured e b) := by
  have hwait : b.sync.wait = [] := by
    refine Decidable.byContradiction fun hne => ?_
    have hsome : (!b.sync.wait.isEmpty) = true := by simpa using hne
    rw [slipCause, if_pos hsome] at hcause
    split at hcause
    · exact absurd hcause (by decide)
    · exact absurd hcause (by decide)
  have hvoid : e < b.voidSoon := by
    simpa [Block.voidSoon, Block.localSlip, hwait] using he32
  have hask : (decide (eventSlip e b = 0) && !b.on 0x2201 4) = false := by
    rcases hreq with h | h
    · simp [h]
    · simp [h]
  refine ⟨hwait, ?_⟩
  rw [syncInEvent_eq hmode hslip hload hrun hfrom hrise hvoid, hask, if_neg (by decide), if_neg (by simp [hcause])]

end

theorem clampI_within {lo hi : Int} (h : lo ≤ hi) (x : Int) : lo ≤ clampI lo hi x ∧ clampI lo hi x ≤ hi := by
  unfold clampI
  split
  · exact ⟨Int.le_refl _, h⟩
  · split
    · exact ⟨h, Int.le_refl _⟩
    · omega

/-- A slip without cause of refusal lies within 16 samples (R358). -/
theorem natAbs_of_slipCause {b : Block} {x : Int} (h : slipCause b x = 0) : x.natAbs ≤ 16 := by
  unfold slipCause at h
  split at h
  · exact absurd h (by decide)
  · omega

/-! ### Commands down the chain -/

theorem sendCommand_shape (cmd arg k : Nat) (b : Block) : ∃ ch, sendCommand cmd arg k b = { b with chain := ch } := by
  unfold sendCommand
  split
  · exact ⟨b.chain, rfl⟩
  · exact ⟨_, rfl⟩

theorem eventSent_shape (x : Int) (ld : Option Nat) (k : Nat) (b : Block) :
    ∃ ch, eventSent x ld k b = { if ld.isSome then b.wr 0x2201 4 0 else b with chain := ch } := by
  obtain ⟨c, hc⟩ : ∃ c, c = if ld.isSome then b.wr 0x2201 4 0 else b := ⟨_, rfl⟩
  obtain ⟨d, hd⟩ : ∃ d, d = if x = 0 then c else sendCommand 1 (unsigned x 6) k c := ⟨_, rfl⟩
  have hshape : ∃ ch, d = { c with chain := ch } := by
    rw [hd]
    split
    · exact ⟨c.chain, rfl⟩
    · exact sendCommand_shape ..
  have he : eventSent x ld k b = sendLoad ld k d := by
    rw [hd, hc]
    rfl
  obtain ⟨ch, hch⟩ := hshape
  rw [he, ← hc, hch]
  clear he hd hc
  cases ld with
  | none => exact ⟨ch, rfl⟩
  | some v =>
    obtain ⟨ch', hch'⟩ := sendCommand_shape 2 v k { c with chain := ch }
    exact ⟨ch', hch'⟩

/-- What an accepted event leaves: the slip or load that waits, and the registers of the event. -/
theorem eventAccepted_facts (x : Int) (ld : Option Nat) (k : Nat) (b : Block) :
    (eventAccepted x ld k b).sync.wait = b.sync.wait ++ [{ at_ := b.time.abs + k, s := x, load := ld, counts := true }] ∧
      (eventAccepted x ld k b).regs = (if ld.isSome then b.wr 0x2201 4 0 else b).regs ∧ (eventAccepted x ld k b).mops = b.mops := by
  obtain ⟨ch, hch⟩ := eventSent_shape x ld k b
  rw [eventAccepted, hch]
  cases ld with
  | none => exact ⟨rfl, rfl, rfl⟩
  | some v => exact ⟨rfl, rfl, rfl⟩

theorem eventMeasured_within {R : Nat → Nat → Bool} (e : Nat) (b : Block) (hR : R 0x2201 6 = true) : Block.Within R b (eventMeasured e b) := by
  have hseen : Block.Within R b (eventSeen e b) := (Block.Within.refl R b).of_regs rfl rfl
  exact hseen.wrI _ (by decide) hR

/-! ### Chain loads (R375) -/

theorem Block.Alike.inChain {b c : Block} (h : c.Alike b) : c.inChain = b.inChain := by
  simp only [Block.inChain, h.rd 0x2200 4 (by decide)]

theorem Block.Alike.isMember {b c : Block} (h : c.Alike b) : c.isMember = b.isMember := by
  rw [Block.isMember, Block.isMember, h.inChain, Block.isMaster, Block.isMaster, h.rd 0x2200 2 (by decide)]

theorem Block.Alike.applyAfter {b c : Block} (h : c.Alike b) : c.applyAfter = b.applyAfter := by
  rw [Block.applyAfter, Block.applyAfter, h.inChain, Block.horizon, Block.horizon, h.rd 0x2220 1 (by decide)]

theorem Block.Alike.sync {b c : Block} (h : c.Alike b) : c.sync = b.sync := (congrArg Block.sync h.shape :)

theorem Block.Alike.chainLoadStatus {b c : Block} (h : c.Alike b) (v : Nat) : chainLoadStatus c v = chainLoadStatus b v := by
  rw [Machine.chainLoadStatus, Machine.chainLoadStatus, h.isMember, h.sync]

theorem chapterWrite_chainLoad (p : Path) (mem : List Host.Cell) (v : Nat) (b : Block) : chapterWrite p mem 0x2220 7 v b = chainLoad v b := by
  have hflag : isFlag 0x2220 7 = false := by decide
  have hclear : (clearedBy 0x2220 7).isSome = false := by decide
  simp [chapterWrite, hflag, hclear, chainWrite]

/-- A chain load that passes its checks. -/
def chainLoaded (v : Nat) (b : Block) : Block :=
  acceptSlip { at_ := b.time.abs + b.applyAfter, s := 0, load := some v, counts := true } (sendCommand 2 v b.applyAfter b)

theorem chainLoad_ok {v : Nat} {b : Block} (h : chainLoadStatus b v = stOK) : chainLoad v b = (stOK, chainLoaded v b) := by
  simp only [chainLoad, h]
  rfl

theorem chainLoaded_facts (v : Nat) (b : Block) :
    (chainLoaded v b).sync.wait = b.sync.wait ++ [{ at_ := b.time.abs + b.applyAfter, s := 0, load := some v, counts := true }] ∧
      (chainLoaded v b).regs = b.regs ∧ (chainLoaded v b).mops = b.mops := by
  obtain ⟨ch, hch⟩ := sendCommand_shape 2 v b.applyAfter b
  rw [chainLoaded, hch]
  exact ⟨rfl, rfl, rfl⟩

/-- A chain load that passes its checks waits for its frame. -/
theorem chainLoad_served {s : State} {p : Path} {v : Nat} (hs : Safety.Serving s) (ha : Safety.Accepts s p 0x2220 7 v)
    (hst : chainLoadStatus s.blk v = stOK) :
    (s.put p 0x2220 7 v).blk.resp = Resp.plain stOK ∧
      (s.put p 0x2220 7 v).blk.sync.wait =
        s.blk.sync.wait ++ [{ at_ := s.blk.time.abs + s.blk.applyAfter, s := 0, load := some v, counts := true }] ∧
      Safety.Keeps (fun _ _ => false) s (s.put p 0x2220 7 v) := by
  have hc := s.blk.counted_alike
  obtain ⟨o, hrun⟩ := State.put_eq hs ha ((chapterWrite_chainLoad ..).trans (chainLoad_ok ((hc.chainLoadStatus v).trans hst))) (by decide)
  obtain ⟨hwait, hregs, hmops⟩ := chainLoaded_facts v s.blk.counted
  obtain ⟨c, hce⟩ : ∃ c, c = chainLoaded v s.blk.counted := ⟨_, rfl⟩
  rw [← hce] at hrun hwait hregs hmops
  rw [hc.sync, hc.time, hc.applyAfter] at hwait
  rw [hrun]
  refine ⟨by rw [State.run_resp]; rfl, (congrArg Sync.wait (State.run_sync ..)).trans hwait, Block.Within.keeps ?_⟩
  exact ((hc.within _).of_regs hregs hmops).of_regs rfl rfl

/-- Settles O32: an event at SYNC_IN is refused or waits for its frame, and what has taken effect resets. -/
theorem frameSyncSlipsAndLoads : Obligations.FrameSyncSlipsAndLoads := by
  unfold Obligations.FrameSyncSlipsAndLoads
  refine ⟨?_, ?_, ?_, ?_, ?_, ?_⟩
  · intro s e x hon he32 hmode hslip hload hrun hfrom hrise hnoload hx hcause hx0
    have hxe : x = eventSlip e s.blk := hx
    rw [hxe] at hcause hx0 ⊢
    obtain ⟨hwait, he⟩ := syncInEvent_accepted hmode hslip hload hrun hfrom hrise he32 hcause (.inl hx0)
    have hld : eventLoad e (eventSlip e s.blk) s.blk = none := by simp only [eventLoad, hnoload, Bool.false_eq_true, if_false]
    rw [hld] at he
    obtain ⟨hw, hregs, hmops⟩ := eventAccepted_facts (eventSlip e s.blk) none s.blk.applyAfter (eventMeasured e s.blk)
    have hclamp := natAbs_of_slipCause hcause
    refine ⟨_, State.act_of_on (by simp [Instr.wf, he32]) hon _, ?_, ?_, Block.Within.keeps ?_⟩
    · rw [State.run_sync, he, hw]
      show s.blk.sync.wait ++ _ = _
      rw [hwait]
      rfl
    · rw [State.run_rdI_of_ne _ _ _ _ (by decide), he, Block.rdI_of_regs hregs]
      obtain ⟨hlo, hhi⟩ := clampI_within (lo := -32767) (hi := 32767) (by decide) (eventSlip e s.blk)
      exact Block.rdI_wrI_self _ _ _ (by omega) (by omega)
    · rw [he]
      exact (eventMeasured_within e s.blk rfl).of_regs hregs hmops
  · intro s e x hon he32 hmode hslip hload hrun hfrom hrise hx hvoid hcause hreq
    have hxe : x = eventSlip e s.blk := hx
    rw [hxe] at hcause hreq ⊢
    obtain ⟨hsync, h7, h8, h9⟩ := syncInEvent_refused hmode hslip hload hrun hfrom hrise hvoid hcause hreq
    exact ⟨_, State.act_of_on (by simp [Instr.wf, he32]) hon _, (State.run_sync ..).trans hsync,
      (State.run_rd_of_ne _ _ _ _ (by decide)).trans h7, (State.run_rd_of_ne _ _ _ _ (by decide)).trans h8,
      (State.run_rd_of_ne _ _ _ _ (by decide)).trans h9⟩
  · intro s x hon hslip
    obtain ⟨hdue, habs, htime, hb, hc⟩ := syncSlip_facts hslip
    exact ⟨_, State.act_of_on rfl hon _, (congrArg Sync.slipDue (State.run_sync ..)).trans hdue, (State.run_syncAbs ..).trans habs,
      (State.run_rd_of_ne _ _ _ _ (by decide)).trans hb, (State.run_rd_of_ne _ _ _ _ (by decide)).trans hc, (State.run_time ..).trans htime⟩
  · intro s old hon hslip hload
    obtain ⟨hdue, habs, htime, h2⟩ := frameLoad_facts hslip hload
    exact ⟨_, State.act_of_on rfl hon _, (congrArg Sync.loadDue (State.run_sync ..)).trans hdue, (State.run_syncAbs ..).trans habs,
      (State.run_rd_of_ne _ _ _ _ (by decide)).trans h2, (State.run_time ..).trans htime⟩
  · intro s p v hs ha hst
    exact ⟨_, State.act_of_on rfl hs.1 _, chainLoad_served hs ha hst⟩
  · intro s e at_ n x hon he32 hmode hslip hload hrun hfrom hrise harmed hat hx hn hcause
    have hxe : x = eventSlip e s.blk := by
      rw [hx, hat]
      rfl
    have hld : eventLoad e x s.blk = some n := by
      rw [hat] at hn
      simp only [eventLoad, harmed, if_true]
      rw [← hn, Int.toNat_natCast]
    rw [hxe] at hcause hld ⊢
    obtain ⟨hwait, he⟩ := syncInEvent_accepted hmode hslip hload hrun hfrom hrise he32 hcause (.inr harmed)
    rw [hld] at he
    obtain ⟨hw, hregs, hmops⟩ := eventAccepted_facts (eventSlip e s.blk) (some n) s.blk.applyAfter (eventMeasured e s.blk)
    have hclamp := natAbs_of_slipCause hcause
    have hid : clampI (-32767) 32767 (eventSlip e s.blk) = eventSlip e s.blk := by
      rw [clampI, if_neg (by omega), if_neg (by omega)]
    refine ⟨_, State.act_of_on (by simp [Instr.wf, he32]) hon _, ?_, ?_, ?_, Block.Within.keeps ?_⟩
    · rw [State.run_sync, he, hw]
      show s.blk.sync.wait ++ _ = _
      rw [hwait]
      rfl
    · rw [State.run_rd_of_ne _ _ _ _ (by decide), he, Block.rd_of_regs hregs]
      exact Block.rd_wr_of_lt _ _ _ (by decide)
    · rw [State.run_rdI_of_ne _ _ _ _ (by decide), he, Block.rdI_of_regs hregs]
      refine (Block.rdI_wr_of_ne _ _ (by decide)).trans ((Block.rdI_wrI_self _ _ _ ?_ ?_).trans hid)
      · rw [hid]
        omega
      · rw [hid]
        omega
    · rw [he]
      exact (((eventMeasured_within e s.blk rfl).wr 0 (i := 0x2201) (s := 4) (by decide) rfl)).of_regs hregs hmops

end Sys2Proof.Machine

/-! # Reads and writes of the object dictionary (R56, R60, R473 to R480) -/

namespace Sys2Proof.Machine

/-! ### A request that is served at once -/

section

variable {s : State} {p : Path} (hs : Safety.Serving s) (hh : serverHears s.blk p = true)
include hs hh

omit hh in
theorem serve_of_serving (idx sub : Nat) (write : Bool) (f : Block → Option Resp × Block) : serve p idx sub write f s.blk = f s.blk.counted := by
  obtain ⟨_, hready, hps, hentry, _⟩ := hs
  have hawake : awake 5 s.blk = s.blk := by simp [awake, hps, hentry]
  simp [serve, notServing, hready, hawake, Block.counted]

theorem dictCommand_of_serving (mem : List Host.Cell) (idx sub : Nat) (data : List Byte) :
    dictCommand p mem idx sub data s.blk = answered p (dictWrite p .path mem idx sub data s.blk.counted) := by
  rw [dictCommand, if_pos hh, serveWrite, serve_of_serving hs]

theorem dictReadCommand_of_serving (idx sub off len : Nat) :
    dictReadCommand p idx sub off len s.blk = answered p (some (dictRead p idx sub off len s.blk.counted), s.blk.counted) := by
  rw [dictReadCommand, if_pos hh, serveRead, serve_of_serving hs]

end

/-- An answer alone: it is the answer of the command, and only the count of requests has changed. -/
theorem run_answered {s : State} {p : Path} {x : Resp} {f : List Host.Cell → Block → Block} (h : f s.mem s.blk = answered p (some x, s.blk.counted)) :
    (s.run f).blk.resp = x ∧ Safety.Keeps (fun _ _ => false) s (s.run f) := by
  obtain ⟨o, ho⟩ := answered_eq p x s.blk.counted
  rw [ho] at h
  refine ⟨by rw [State.run_resp, h]; rfl, Block.Within.keeps ?_⟩
  rw [h]
  exact (s.blk.counted_alike.within _).of_regs rfl rfl

/-! ### Reads (R474, R475) -/

theorem dictRead_refused {b : Block} {p : Path} {idx sub : Nat} {x : Resp} (h : accessCheck b p idx sub false = some x) (off len : Nat) :
    dictRead p idx sub off len b = x := by
  simp only [dictRead, h]

/-- A subindex that may not be read is refused with ERR_ACCESS. -/
theorem accessCheck_read_status {b : Block} {p : Path} {idx sub : Nat} {x : Resp} (h : accessCheck b p idx sub false = some x) :
    x.status = stACCESS := by
  unfold accessCheck at h
  split at h
  · obtain rfl := Option.some.inj h
    rfl
  · simp only [Bool.not_false, Bool.true_and, Bool.false_and, Bool.false_eq_true, if_false, Bool.or_false] at h
    split at h
    · obtain rfl := Option.some.inj h
      rfl
    · split at h
      · obtain rfl := Option.some.inj h
        rfl
      · exact absurd h (by simp)

/-- A number that is kept in its register is read from there. -/
theorem dictRead_register {b : Block} {p : Path} {idx sub : Nat} {r : OdRow} (hr : odRow? idx sub = some r)
    (ha : accessCheck b p idx sub false = none) (hstr : r.ty ≠ .str) (hdom : r.ty ≠ .domain) (hlive : liveValue b p idx sub = none) (off len : Nat) :
    dictRead p idx sub off len b = { status := stOK, abort := 0, data := toLe r.ty.size (b.rd idx sub) } := by
  have hv : valueOctets b p r idx sub off len = toLe r.ty.size (b.rd idx sub) := by
    unfold valueOctets
    split
    · next h => exact absurd h hstr
    · next h => exact absurd h hdom
    · rw [hlive]
      rfl
  simp only [dictRead, ha, hr, hv]

/-! ### Writes whose chapter keeps the value (R474) -/

/-- The objects whose writes no other command makes. -/
def isPlainObject (idx : Nat) : Prop :=
  (0x1000 ≤ idx ∧ idx < 0x2000 ∧ idx ≠ 0x1010 ∧ idx ≠ 0x1011) ∨ idx / 256 ∈ [0x39, 0x48, 0x49, 0x52, 0x54, 0x62, 0x69]

section

variable {idx sub : Nat} (hflag : isFlag idx sub = false) (hclear : clearedBy idx sub = none) (p : Path) (mem : List Host.Cell) (v : Nat) (b : Block)
include hflag hclear

theorem chapterWrite_of_probe (h : idx / 4096 = 3) :
    chapterWrite p mem idx sub v b = if idx < 0x3800 then probeWrite idx sub v b else stimWrite idx sub v b := by
  rw [chapterWrite, hflag, hclear, if_neg (by decide), if_neg (by decide), h]
  rfl

theorem chapterWrite_of_indigo (h : idx / 4096 = 4) : chapterWrite p mem idx sub v b = indigoWrite idx sub v b := by
  rw [chapterWrite, hflag, hclear, if_neg (by decide), if_neg (by decide), h]
  rfl

theorem chapterWrite_of_domain (h : idx / 4096 = 5) :
    chapterWrite p mem idx sub v b = if idx < 0x5800 then domainWrite mem idx sub v b else ptuWrite idx sub v b := by
  rw [chapterWrite, hflag, hclear, if_neg (by decide), if_neg (by decide), h]
  rfl

theorem chapterWrite_of_store (h : idx / 4096 = 6) :
    chapterWrite p mem idx sub v b = if idx < 0x6800 then storeObjWrite idx sub v b else measureWrite idx sub v b := by
  rw [chapterWrite, hflag, hclear, if_neg (by decide), if_neg (by decide), h]
  rfl

theorem chapterWrite_plain (h : isPlainObject idx) : chapterWrite p mem idx sub v b = plainWrite idx sub v b := by
  rcases h with ⟨h1, h2, -, -⟩ | h
  · rw [chapterWrite, hflag, hclear, if_neg (by decide), if_neg (by decide), show idx / 4096 = 1 by omega]
    rfl
  · simp only [List.mem_cons, List.not_mem_nil, or_false] at h
    have hpage : idx / 4096 = idx / 256 / 16 := by omega
    rcases h with h | h | h | h | h | h | h
    · rw [chapterWrite_of_probe hflag hclear _ _ _ _ (by rw [hpage, h]), if_neg (by omega), stimWrite, if_neg (by omega)]
    · rw [chapterWrite_of_indigo hflag hclear _ _ _ _ (by rw [hpage, h]), indigoWrite, if_neg (by omega), if_neg (by omega), if_neg (by omega)]
    · rw [chapterWrite_of_indigo hflag hclear _ _ _ _ (by rw [hpage, h]), indigoWrite, if_neg (by omega), if_neg (by omega), if_neg (by omega)]
    · rw [chapterWrite_of_domain hflag hclear _ _ _ _ (by rw [hpage, h]), if_pos (by omega), domainWrite, if_neg (by omega), if_neg (by omega),
        if_neg (by omega), if_neg (by simp; omega)]
    · rw [chapterWrite_of_domain hflag hclear _ _ _ _ (by rw [hpage, h]), if_pos (by omega), domainWrite, if_neg (by omega), if_neg (by omega),
        if_neg (by omega), if_neg (by simp; omega)]
    · rw [chapterWrite_of_store hflag hclear _ _ _ _ (by rw [hpage, h]), if_pos (by omega), storeObjWrite, if_neg (by omega), if_neg (by omega),
        if_neg (by simp; omega), if_neg (by omega)]
    · rw [chapterWrite_of_store hflag hclear _ _ _ _ (by rw [hpage, h]), if_neg (by omega), measureWrite, if_neg (by simp; omega),
        if_neg (by simp; omega), if_neg (by simp; omega)]

end

/-- A subindex that takes a write, is no flag and clears no counter lies in no object of the requests' counts, nor among the registers that
every command may write. -/
theorem Safety.Accepts.not_counts {s : State} {p : Path} {sub v idx : Nat} (ha : Safety.Accepts s p idx sub v)
    (hflag : isFlag idx sub = false) (hclear : clearedBy idx sub = none) (hi : idx = 0x1E10 ∨ (idx = 0x1E20 ∧ sub = 0xB)) : False := by
  have h10 : ∀ k < 6, (odRow? 0x1E10 k).all (fun x => x.acc == .ro || x.acc == .const || isFlag 0x1E10 k || (clearedBy 0x1E10 k).isSome) = true := by
    decide
  have h20 : (odRow? 0x1E20 0xB).all (fun x => x.acc == .ro || x.acc == .const) = true := by decide
  have hrange : ∀ x ∈ odPage 0x1E, x.lo = 0x1E10 → x.b < 6 := by decide
  have hlo : ∀ x ∈ odPage 0x1E, x.lo = x.hi := by decide
  obtain ⟨r, hr, _, _⟩ := ha.row
  have hacc := ha.2.1
  have hro : r.acc = .ro ∨ r.acc = .const := by
    rcases hi with rfl | ⟨rfl, rfl⟩
    · have hmem : r ∈ odPage 0x1E := List.mem_of_find?_eq_some hr
      have hholds := List.find?_some hr
      simp only [OdRow.holds, Bool.and_eq_true, decide_eq_true_eq] at hholds
      have hsame := hlo r hmem
      have hk := h10 sub (by have := hrange r hmem (by omega); omega)
      rw [hr] at hk
      simpa [hflag, hclear] using hk
    · rw [hr] at h20
      simpa using h20
  simp [accessCheck, hr, hro] at hacc

theorem OdType.size_le (ty : OdType) : ty.size ≤ 8 := by cases ty <;> decide

theorem signed_range {n : Nat} (hn : n ≤ 64) (h0 : 1 ≤ n) (v : Nat) : -2 ^ 63 ≤ signed v n ∧ signed v n < 2 ^ 63 := by
  have hmod : v % 2 ^ n < 2 ^ n := Nat.mod_lt _ (Nat.two_pow_pos n)
  have hle : 2 ^ (n - 1) ≤ 2 ^ 63 := Nat.pow_le_pow_right (by decide) (by omega)
  have hdouble : 2 ^ n = 2 * 2 ^ (n - 1) := by rw [← Nat.pow_succ', Nat.succ_eq_add_one, Nat.sub_add_cancel h0]
  unfold signed
  dsimp only
  split
  · omega
  · omega

/-- The value is kept as its type reads it. -/
theorem keepValue_facts {idx sub v : Nat} {r : OdRow} (hr : odRow? idx sub = some r) (hv : v < 2 ^ 64) (hsub : sub < 256) (b : Block) :
    (if r.ty.isSigned = true then (keepValue idx sub v b).rdI idx sub = signed v (8 * r.ty.size) else (keepValue idx sub v b).rd idx sub = v) ∧
      Block.Within (fun i k => i == idx && k == sub) b (keepValue idx sub v b) := by
  have hself : (idx == idx && sub == sub) = true := by simp
  simp only [keepValue, hr]
  split
  · next h =>
    have hpos : 1 ≤ r.ty.size := by
      revert h
      cases r.ty <;> decide
    have hle := r.ty.size_le
    obtain ⟨hlo, hhi⟩ := signed_range (show 8 * r.ty.size ≤ 64 by omega) (by omega) v
    exact ⟨Block.rdI_wrI_self _ _ _ hlo hhi, (Block.Within.refl _ b).wrI _ hsub hself⟩
  · exact ⟨Block.rd_wr_of_lt _ _ _ hv, (Block.Within.refl _ b).wr _ hsub hself⟩

/-- A write of a plain object that is accepted. -/
theorem plainWrite_served {s : State} {p : Path} {idx sub v : Nat} {r : OdRow} (hs : Safety.Serving s) (hplain : isPlainObject idx) (hsub : sub < 256)
    (hflag : isFlag idx sub = false) (hclear : clearedBy idx sub = none) (ha : Safety.Accepts s p idx sub v) (hr : odRow? idx sub = some r) :
    (s.put p idx sub v).blk.resp = Resp.plain stOK ∧
      (if r.ty.isSigned = true then (s.put p idx sub v).blk.rdI idx sub = signed v (8 * r.ty.size) else (s.put p idx sub v).blk.rd idx sub = v) ∧
      Safety.Keeps (fun i k => i == idx && k == sub) s (s.put p idx sub v) := by
  have hnot := ha.not_counts hflag hclear
  have h10 : idx ≠ 0x1E10 := fun h => hnot (.inl h)
  have h20 : ¬ (idx = 0x1E20 ∧ sub = 0xB) := fun h => hnot (.inr h)
  have hlist : idx < 0x2000 ∨ 0x3900 ≤ idx ∧ idx < 0x6A00 := by
    rcases hplain with h | h
    · exact .inl h.2.1
    · simp only [List.mem_cons, List.not_mem_nil, or_false] at h
      omega
  have himage : idx ≠ 0x1010 ∧ idx ≠ 0x1011 := by
    rcases hplain with h | h
    · exact h.2.2
    · simp only [List.mem_cons, List.not_mem_nil, or_false] at h
      omega
  obtain ⟨o, hrun⟩ := State.put_eq hs ha (chapterWrite_plain hflag hclear p s.mem v _ hplain) (by decide) h10 himage.1 himage.2 (by omega)
  obtain ⟨hval, hwithin⟩ := keepValue_facts hr ha.lt hsub s.blk.counted
  obtain ⟨c, hc⟩ : ∃ c, c = keepValue idx sub v s.blk.counted := ⟨_, rfl⟩
  rw [← hc] at hrun hval hwithin
  rw [hrun]
  refine ⟨by rw [State.run_resp]; rfl, ?_, Block.Within.keeps (((s.blk.counted_alike.within _).trans hwithin).of_regs rfl rfl)⟩
  rw [State.run_rdI_of_ne _ _ _ _ (by omega), State.run_rd_of_ne _ _ _ _ (by omega)]
  exact hval

/-! ### Writes that are refused (R473, R60) -/

theorem typeCheck_refused {r : OdRow} {n : Nat} (h : n ≠ r.ty.size) : ∃ x, typeCheck r n = some x ∧ x.status = stTYPE := by
  unfold typeCheck
  split
  · exact ⟨_, rfl, rfl⟩
  · rw [if_pos (by omega)]
    exact ⟨_, rfl, rfl⟩

/-- Settles O53: past the wake and the count a request meets the checks of R60, and then its chapter. -/
theorem dictionaryReadsAndWritesAreServed : Obligations.DictionaryReadsAndWritesAreServed := by
  unfold Obligations.DictionaryReadsAndWritesAreServed
  refine ⟨?_, ?_, ?_, ?_, ?_⟩
  · intro s p idx sub r hs hh hidx hsub hr hacc hstr hdom hlive hne
    have hread := dictRead_register hr ((accessCheck_counted ..).trans hacc) hstr hdom (hlive s.blk.counted) 0 0
    have hrd : s.blk.counted.rd idx sub = s.blk.rd idx sub := s.blk.counted_alike.rd _ _ (by
      simp only [ne_eq, Prod.mk.injEq] at hne
      omega)
    rw [hrd] at hread
    exact ⟨_, State.act_of_on (by simp [Instr.wf, hidx, hsub]) hs.1 _,
      run_answered ((dictReadCommand_of_serving hs hh idx sub 0 0).trans (by rw [hread]))⟩
  · intro s p idx sub x hs hh hidx hsub hacc
    have hread := dictRead_refused ((accessCheck_counted s.blk p idx sub false).trans hacc) 0 0
    obtain ⟨hresp, hkeeps⟩ := run_answered (f := fun _ b => dictReadCommand p idx sub 0 0 b)
      ((dictReadCommand_of_serving hs hh idx sub 0 0).trans (by rw [hread]))
    exact ⟨_, State.act_of_on (by simp [Instr.wf, hidx, hsub]) hs.1 _, hresp, accessCheck_read_status hacc, hkeeps⟩
  · intro s p idx sub v r hs hplain hsub hflag hclear ha hr
    have hidx : idx < 65536 := by
      rcases hplain with h | h
      · omega
      · simp only [List.mem_cons, List.not_mem_nil, or_false] at h
        omega
    have hle := r.ty.size_le
    have hwf : (Instr.dictWrite p idx sub (valueData idx sub v)).wf = true := by
      simp [Instr.wf, hidx, hsub, valueData, hr]
      omega
    exact ⟨_, State.act_of_on hwf hs.1 _, plainWrite_served hs hplain hsub hflag hclear ha hr⟩
  · intro s p idx sub data r hs hh hidx hsub hdata hacc hr hlen
    obtain ⟨x, hx, hst⟩ := typeCheck_refused hlen
    have hwrite : dictWrite p .path s.mem idx sub data s.blk.counted = (some x, s.blk.counted) := by
      simp only [dictWrite, (accessCheck_counted ..).trans hacc, hr, hx]
    obtain ⟨hresp, hkeeps⟩ := run_answered (f := fun mem b => dictCommand p mem idx sub data b)
      ((dictCommand_of_serving hs hh s.mem idx sub data).trans (by rw [hwrite]))
    exact ⟨_, State.act_of_on (by simp [Instr.wf, hidx, hsub, hdata]) hs.1 _, by rw [hresp]; exact hst, hkeeps⟩
  · intro s p idx sub v r hs hh hidx hsub hacc hr hsize hv hok
    have hwrite := dictWrite_of_not_valueOk ((accessCheck_counted s.blk p idx sub true).trans hacc) hr hv (hok _) .path s.mem
    have hwf : (Instr.dictWrite p idx sub (valueData idx sub v)).wf = true := by
      simp [Instr.wf, hidx, hsub, valueData, hr]
      omega
    obtain ⟨hresp, hkeeps⟩ := run_answered (f := fun mem b => dictCommand p mem idx sub (valueData idx sub v) b)
      ((dictCommand_of_serving hs hh s.mem idx sub _).trans (congrArg (answered p) hwrite))
    exact ⟨_, State.act_of_on hwf hs.1 _, by rw [hresp]; rfl, hkeeps⟩

end Sys2Proof.Machine

/-! # Images in flash (R495, R496, R498) -/

namespace Sys2Proof.Machine

/-! ### Requests -/

/-- A write of an image's object that is accepted reaches the image. -/
theorem dictWrite_image {s : State} {p : Path} {idx sub v : Nat} (ha : Safety.Accepts s p idx sub v) (hidx : idx = 0x1010 ∨ idx = 0x1011)
    (mem : List Host.Cell) : dictWrite p .path mem idx sub (valueData idx sub v) s.blk.counted = imageWrite p .path idx sub v s.blk.counted := by
  have hi : idx ≠ 0x1E10 := by omega
  have haccess := (accessCheck_counted s.blk p idx sub true).trans ha.2.1
  obtain ⟨r, hr, hv, hok⟩ := ha.row
  have howner : ownerArmed s.blk r idx sub = false := by
    have hrow := ha.2.2
    rw [hr] at hrow
    simp only [Option.any_some, Bool.and_eq_true, Bool.not_eq_true'] at hrow
    exact hrow.2
  rw [← s.blk.counted_alike.valueOk hi] at hok
  rw [← s.blk.counted_alike.ownerArmed hi] at howner
  simp [dictWrite, haccess, hr, valueData, typeCheck, Nat.mod_eq_of_lt hv, hok, howner, hidx]

theorem Block.Alike.server {b c : Block} (h : c.Alike b) : c.server = b.server := (congrArg Block.server h.shape :)
theorem Block.Alike.flash {b c : Block} (h : c.Alike b) : c.flash = b.flash := (congrArg Block.flash h.shape :)

theorem Block.Alike.imageInUse {b c : Block} (h : c.Alike b) : imageInUse c = imageInUse b := by
  simp only [Machine.imageInUse, h.rd 0x1E03 2 (by decide), h.flash]

/-- The signature that an object's writes carry. -/
def imageSignature (idx : Nat) : Nat := if idx = 0x1010 then 0x65766173 else 0x64616F6C

theorem imageWrite_busy {b : Block} {j : FlashJob} (h : b.server.job = some j) (p : Path) (back : ReplyTo) (idx sub v : Nat) :
    imageWrite p back idx sub v b = (some (Resp.plain stBUSY), b) := by
  simp [imageWrite, Block.flashBusy, h]

theorem imageWrite_refused {b : Block} {idx v : Nat} (h : b.server.job = none) (hv : v ≠ imageSignature idx) (p : Path) (back : ReplyTo) (sub : Nat) :
    imageWrite p back idx sub v b = (some (Resp.refuse stREFUSED 0x08000020), b) := by
  have hne : (v != (if idx = 0x1010 then 0x65766173 else 0x64616F6C)) = true := bne_iff_ne.2 hv
  simp only [imageWrite, Block.flashBusy, h, Option.isSome_none, Bool.false_eq_true, if_false, hne, if_true]

/-- The background write of an image starts: the groups that the other object's subindices name stay as they are in use. -/
theorem imageWrite_starts {b : Block} {idx : Nat} (h : b.server.job = none) (p : Path) (back : ReplyTo) (sub : Nat) :
    ∃ j, imageWrite p back idx sub (imageSignature idx) b = (none, { b with server := { b.server with job := some j } }) ∧
      j.idx = idx ∧ j.sub = sub ∧ (j.toA = true ↔ b.rd 0x1E03 2 ≠ 1) ∧
      (idx ≠ 0x1010 → j.img.comm = (if sub = 3 then (imageInUse b).bind (·.comm) else none) ∧
        j.img.app = (if sub = 2 then (imageInUse b).bind (·.app) else none)) := by
  have hsign : (imageSignature idx != (if idx = 0x1010 then 0x65766173 else 0x64616F6C)) = false := by
    rw [imageSignature]
    simp
  simp only [imageWrite, Block.flashBusy, h, Option.isSome_none, Bool.false_eq_true, if_false, hsign, startFlash]
  refine ⟨_, rfl, rfl, rfl, by simp, fun hi => ?_⟩
  simp only [if_neg hi]
  exact ⟨trivial, trivial⟩

section

variable {s : State} {p : Path} {idx sub v : Nat} (hs : Safety.Serving s) (ha : Safety.Accepts s p idx sub v)
  (hidx : idx = 0x1010 ∨ idx = 0x1011)
include hs ha hidx

/-- A request that is answered at once changes neither the server nor flash. -/
theorem image_answered {x : Resp} (hw : imageWrite p .path idx sub v s.blk.counted = (some x, s.blk.counted)) :
    (s.put p idx sub v).blk.resp = x ∧ (s.put p idx sub v).blk.server = s.blk.server ∧ (s.put p idx sub v).blk.flash = s.blk.flash ∧
      Safety.Keeps (fun _ _ => false) s (s.put p idx sub v) := by
  obtain ⟨o, hrun⟩ := State.put_eq_of_dictWrite hs ha.1 ((dictWrite_image ha hidx s.mem).trans hw)
  rw [hrun]
  have hkeeps : Block.Within (fun _ _ => false) s.blk (s.blk.counted.reply x s.blk.counted.bar o) :=
    (s.blk.counted_alike.within _).of_regs rfl rfl
  refine ⟨by rw [State.run_resp]; rfl, ?_, ?_, Block.Within.keeps hkeeps⟩
  · rw [State.run_server]
    exact s.blk.counted_alike.server
  · rw [State.run_flash]
    exact s.blk.counted_alike.flash

/-- A request with its signature starts the write, and is answered when it ends. -/
theorem image_started (hjob : s.blk.server.job = none) (hv : v = imageSignature idx) :
    (∃ j, (s.put p idx sub v).blk.server.job = some j ∧ j.idx = idx ∧ j.sub = sub ∧ (j.toA = true ↔ s.blk.rd 0x1E03 2 ≠ 1) ∧
      (idx ≠ 0x1010 → j.img.comm = (if sub = 3 then (imageInUse s.blk).bind (·.comm) else none) ∧
        j.img.app = (if sub = 2 then (imageInUse s.blk).bind (·.app) else none))) ∧
      (s.put p idx sub v).blk.flash = s.blk.flash ∧ Safety.Keeps (fun _ _ => false) s (s.put p idx sub v) := by
  obtain ⟨j, hw, hji, hjs, htoA, himg⟩ := imageWrite_starts (b := s.blk.counted) (idx := idx) hjob p .path sub
  rw [s.blk.counted_alike.imageInUse] at himg
  rw [s.blk.counted_alike.rd 0x1E03 2 (by decide)] at htoA
  rw [← hv, ← dictWrite_image ha hidx s.mem] at hw
  have hrun : s.put p idx sub v = s.run (fun _ _ => { s.blk.counted with server := { s.blk.counted.server with job := some j } }) :=
    State.run_congr ((dictPut_of_serving hs ha.1 s.mem idx sub v).trans (congrArg (answered p) hw))
  rw [hrun]
  refine ⟨⟨j, by rw [State.run_server], hji, hjs, htoA, himg⟩, ?_, Block.Within.keeps ((s.blk.counted_alike.within _).of_regs rfl rfl)⟩
  rw [State.run_flash]
  exact s.blk.counted_alike.flash

end

/-! ### The end of the write -/

/-- What a discarded queue loses is no job: one that runs loses its way back alone. -/
theorem recordBlind_job : RecordBlind (fun b => b.server.job.isNone) where
  lose b := by
    show (b.server.job.map _).isNone = b.server.job.isNone
    rw [Option.isNone_map]

/-- A response changes of a block only what its way back needs. -/
theorem RecordBlind.respond {γ : Type} {g : Block → γ} (hg : RecordBlind g) (hresp : ∀ b x, g (b.answer x) = g b)
    (hwait : ∀ (b : Block) w, g { b with server := { b.server with wait := w } } = g b)
    (hkept : ∀ (b : Block) k, g { b with server := { b.server with kept := k } } = g b) (p : Path) (back : ReplyTo) (idx sub : Nat) (x : Resp)
    (b : Block) : g (respond p back idx sub x b) = g b := by
  unfold Machine.respond
  cases back with
  | path => exact (hg.emit ..).trans (hresp ..)
  | sdo client => exact (hg.emit ..).trans (hresp ..)
  | mailbox tag =>
    refine Eq.trans ?_ (hresp b x)
    show g (sendResponse _ _) = _
    unfold sendResponse
    split
    · exact hg.pushPacket ..
    · exact hwait ..
  | forwarded master no tag => exact (hg.emit ..).trans ((hkept ..).trans (hresp ..))
  | nowhere => exact hresp ..

theorem respond_rd (p : Path) (back : ReplyTo) (idx sub : Nat) (x : Resp) (b : Block) {i r : Nat} (hr : r < 256) (hi : i ≠ 0x7080) :
    (respond p back idx sub x b).rd i r = b.rd i r :=
  (recordBlind_rd hr (.inl hi)).respond (fun _ _ => rfl) (fun _ _ => rfl) (fun _ _ => rfl) ..

theorem respond_job (p : Path) (back : ReplyTo) (idx sub : Nat) (x : Resp) (b : Block) :
    (respond p back idx sub x b).server.job.isNone = b.server.job.isNone :=
  recordBlind_job.respond (fun _ _ => rfl) (fun _ _ => rfl) (fun _ _ => rfl) ..

theorem respond_flash (p : Path) (back : ReplyTo) (idx sub : Nat) (x : Resp) (b : Block) :
    (respond p back idx sub x b).flash = b.flash :=
  recordBlind_flash.respond (fun _ _ => rfl) (fun _ _ => rfl) (fun _ _ => rfl) ..

/-- The status of a write that is over shows, and the job is done. -/
def jobOver (st : Nat) (b : Block) : Block := ({ b with server := { b.server with job := none } } : Block).wr 0x1E03 6 st

/-- The image is in its copy, and in use. -/
def imageKept (j : FlashJob) (b : Block) : Block :=
  let b := if j.toA then { b with flash := { b.flash with copyA := some j.img } } else { b with flash := { b.flash with copyB := some j.img } }
  let b := (b.wr 0x1E03 2 (if j.toA then 1 else 2)).wr 0x1E03 3 j.img.seq
  if j.idx = 0x1010 then b.bump 32 0x1E03 7 1 else b

theorem flashWriteEnd_ok {b : Block} {j : FlashJob} (h : b.server.job = some j) :
    flashWriteEnd true b = respond j.path j.back j.idx j.sub (Resp.plain stOK) (imageKept j (jobOver stOK b)) := by
  simp only [flashWriteEnd, flashEnd, h]
  rfl

theorem flashWriteEnd_failed {b : Block} {j : FlashJob} (h : b.server.job = some j) :
    flashWriteEnd false b = respond j.path j.back j.idx j.sub (Resp.plain stHW) (postError 0xF 7 j.sub j.idx 0 false (jobOver stHW b)) := by
  simp only [flashWriteEnd, flashEnd, h]
  rfl

theorem imageKept_facts (j : FlashJob) (b : Block) (hseq : j.img.seq < 2 ^ 32) :
    (imageKept j b).server = b.server ∧ (imageKept j b).rd 0x1E03 6 = b.rd 0x1E03 6 ∧ (imageKept j b).rd 0x1E03 2 = (if j.toA then 1 else 2) ∧
      (imageKept j b).rd 0x1E03 3 = j.img.seq ∧ (imageKept j b).flash.copyA = (if j.toA then some j.img else b.flash.copyA) ∧
      (imageKept j b).flash.copyB = (if j.toA then b.flash.copyB else some j.img) := by
  obtain ⟨c, hc⟩ : ∃ c, c = if j.toA then { b with flash := { b.flash with copyA := some j.img } }
    else { b with flash := { b.flash with copyB := some j.img } } := ⟨_, rfl⟩
  obtain ⟨d, hd⟩ : ∃ d, d = (c.wr 0x1E03 2 (if j.toA then 1 else 2)).wr 0x1E03 3 j.img.seq := ⟨_, rfl⟩
  have he : imageKept j b = if j.idx = 0x1010 then d.bump 32 0x1E03 7 1 else d := by rw [hd, hc]; rfl
  have hrd : ∀ r, r ≠ 7 → (imageKept j b).rd 0x1E03 r = d.rd 0x1E03 r := fun r hr => by
    rw [he]
    split
    · exact Block.rd_bump_of_ne _ _ _ (by omega)
    · rfl
  have hserver : (imageKept j b).server = c.server := by
    rw [he, hd]
    split <;> rfl
  have hflash : (imageKept j b).flash = c.flash := by
    rw [he, hd]
    split <;> rfl
  have hcs : c.server = b.server ∧ c.regs = b.regs := by
    rw [hc]
    split <;> exact ⟨rfl, rfl⟩
  refine ⟨hserver.trans hcs.1, ?_, ?_, ?_, ?_, ?_⟩
  · rw [hrd 6 (by decide), hd, Block.rd_wr_of_ne _ _ (by decide), Block.rd_wr_of_ne _ _ (by decide), Block.rd_of_regs hcs.2]
  · rw [hrd 2 (by decide), hd, Block.rd_wr_of_ne _ _ (by decide), Block.rd_wr_of_lt]
    split <;> decide
  · rw [hrd 3 (by decide), hd, Block.rd_wr_of_lt _ _ _ (by omega)]
  · rw [hflash, hc]
    split <;> rfl
  · rw [hflash, hc]
    split <;> rfl

/-- Settles O56: a request starts the write, is BUSY or is refused, and the write's end puts the image into its copy or leaves both. -/
theorem imagesAreWrittenInTheBackground : Obligations.ImagesAreWrittenInTheBackground := by
  unfold Obligations.ImagesAreWrittenInTheBackground
  refine ⟨?_, ?_, ?_, ?_, ?_, ?_, ?_⟩
  · intro s p sub hs h1 h3 ha hjob
    obtain ⟨⟨j, hj, hji, hjs, htoA, _⟩, hflash, hkeeps⟩ := image_started hs ha (.inl rfl) hjob rfl
    exact ⟨_, State.act_of_on (by simp [Instr.wf, h1, h3]) hs.1 _, ⟨j, hj, hji, hjs, htoA⟩, hflash, hkeeps⟩
  · intro s p sub hs h1 h3 ha hjob
    obtain ⟨⟨j, hj, hji, hjs, _, himg⟩, hflash, hkeeps⟩ := image_started hs ha (.inr rfl) hjob rfl
    exact ⟨_, State.act_of_on (by simp [Instr.wf, h1, h3]) hs.1 _, ⟨j, hj, hji, hjs, himg (by decide)⟩, hflash, hkeeps⟩
  · intro s p sub v j hs h1 h3 hjob
    have hbusy : ∀ idx, imageWrite p .path idx sub v s.blk.counted = (some (Resp.plain stBUSY), s.blk.counted) := fun idx =>
      imageWrite_busy (b := s.blk.counted) (j := j) hjob p .path idx sub v
    exact ⟨fun ha => ⟨_, State.act_of_on (by simp [Instr.wf, h1, h3]) hs.1 _, image_answered hs ha (.inl rfl) (hbusy _)⟩,
      fun ha => ⟨_, State.act_of_on (by simp [Instr.wf, h1, h3]) hs.1 _, image_answered hs ha (.inr rfl) (hbusy _)⟩⟩
  · intro s p sub v hs h1 h3 ha hjob hv
    obtain ⟨hresp, hserver, _, hkeeps⟩ := image_answered hs ha (.inr rfl) (imageWrite_refused (b := s.blk.counted) hjob hv p .path sub)
    exact ⟨_, State.act_of_on (by simp [Instr.wf, h1, h3]) hs.1 _, hresp, (congrArg Server.job hserver).trans hjob, hkeeps⟩
  · intro s p sub v hs h1 h3 ha hjob hv
    obtain ⟨hresp, hserver, _, hkeeps⟩ := image_answered hs ha (.inl rfl) (imageWrite_refused (b := s.blk.counted) hjob hv p .path sub)
    exact ⟨_, State.act_of_on (by simp [Instr.wf, h1, h3]) hs.1 _, hresp, (congrArg Server.job hserver).trans hjob, hkeeps⟩
  · intro s j hon hjob hseq
    have he := flashWriteEnd_ok hjob
    obtain ⟨hserver, h6, h2, h3, hA, hB⟩ := imageKept_facts j (jobOver stOK s.blk) hseq
    have hrd : ∀ r, r < 256 → (s.run (fun _ b => flashWriteEnd true b)).blk.rd 0x1E03 r = (imageKept j (jobOver stOK s.blk)).rd 0x1E03 r := fun r hr => by
      rw [State.run_rd_of_ne _ _ _ _ (by omega), he, respond_rd _ _ _ _ _ _ hr (by decide)]
    refine ⟨_, State.act_of_on rfl hon _, ?_, ?_, (hrd _ (by decide)).trans h2, (hrd _ (by decide)).trans h3, ?_, ?_⟩
    · rw [State.run_server, he, ← Option.isNone_iff_eq_none, respond_job, hserver]
      rfl
    · rw [hrd _ (by decide), h6]
      exact Block.rd_wr_of_lt _ _ _ (by decide)
    · rw [State.run_flash, he, respond_flash, hA]
      rfl
    · rw [State.run_flash, he, respond_flash, hB]
      rfl
  · intro s j hon hjob
    have he := flashWriteEnd_failed hjob
    have hrd : ∀ r, r < 256 → (s.run (fun _ b => flashWriteEnd false b)).blk.rd 0x1E03 r = (jobOver stHW s.blk).rd 0x1E03 r := fun r hr => by
      rw [State.run_rd_of_ne _ _ _ _ (by omega), he, respond_rd _ _ _ _ _ _ hr (by decide), (recordBlind_rd hr (.inl (by decide))).postError]
    refine ⟨_, State.act_of_on rfl hon _, ?_, ?_, ?_, ?_⟩
    · rw [State.run_server, he, ← Option.isNone_iff_eq_none, respond_job, recordBlind_job.postError]
      rfl
    · rw [hrd _ (by decide)]
      exact Block.rd_wr_of_lt _ _ _ (by decide)
    · rw [State.run_flash, he, respond_flash, recordBlind_flash.postError]
      rfl
    · rw [hrd _ (by decide)]
      exact Block.rd_wr_of_ne _ _ (by decide)

end Sys2Proof.Machine

/-! # Accepted Indigo writes (R125, R129, R132) -/

namespace Sys2Proof.Machine

/-! ### Engines (R125) -/

/-- The outputs of an engine that is switched off are gone, and its lanes show none. -/
theorem engineOff_rd (e : Nat) (b : Block) {r : Nat} (hr : r < 256) :
    (forEach (List.range 8) (fun k b =>
      (b.wr (lObj (8 * e + k)) 4 0).setLane (8 * e + k) { (b.wr (lObj (8 * e + k)) 4 0).lane (8 * e + k) with ind := [] }) b).rd (eObj e) r = b.rd (eObj e) r := by
  refine forEach_keeps (fun c => c.rd (eObj e) r) (fun k hk c => ?_) b
  have hk8 := List.mem_range.1 hk
  exact (Block.rd_of_regs rfl _ _).trans (Block.rd_wr_of_ne _ _ (by unfold eObj lObj; omega))

theorem engineWrite_rd {e sub v : Nat} (hsub : sub = 1 ∨ sub = 2 ∨ sub = 4) (hv : v < 2 ^ 64) (b : Block) :
    (engineWrite e sub v b).rd (eObj e) sub = v := by
  have hset : ∀ c : Block, (b.wr (eObj e) sub v).rd (eObj e) sub = v := fun _ => Block.rd_wr_of_lt _ _ _ hv
  have hblind := engineBlind_setting e (show sub < 8 by omega) (by omega)
  unfold engineWrite
  split
  · next h1 =>
    subst h1
    dsimp only
    split
    · rw [hblind.settleEngine, hset b]
    · split
      · rw [hblind.refreshEngine, hblind.wr _ _ _ (by decide) (by decide), hblind.engine, hblind.due, engineOff_rd e _ (by decide), hset b]
      · rw [hblind.refreshEngine, hset b]
  · rw [if_pos (by simpa using hsub.resolve_left (by assumption))]
    dsimp only
    split
    · rw [hblind.settleEngine, hset b]
    · rw [hblind.refreshEngine, hset b]

/-- The rows of an engine's settings. -/
theorem engineSetting_row {e sub : Nat} (he : e < 64) (hsub : sub = 1 ∨ sub = 2 ∨ sub = 4) :
    isFlag (0x4600 + e) sub = false ∧ clearedBy (0x4600 + e) sub = none := by
  have h : ∀ e < 64, ∀ r ∈ [1, 2, 4], isFlag (0x4600 + e) r = false ∧ clearedBy (0x4600 + e) r = none := by decide
  exact h e he sub (by simpa using hsub)

theorem chapterWrite_engine {e sub : Nat} (he : e < 64) (hsub : sub = 1 ∨ sub = 2 ∨ sub = 4) (p : Path) (mem : List Host.Cell) (v : Nat) (b : Block) :
    chapterWrite p mem (0x4600 + e) sub v b = (stOK, engineWrite e sub v b) := by
  obtain ⟨hflag, hclear⟩ := engineSetting_row he hsub
  rw [chapterWrite_of_indigo hflag hclear _ _ _ _ (by omega), indigoWrite, if_neg (by omega), if_pos (by omega), Nat.add_sub_cancel_left]
  rcases hsub with rfl | rfl | rfl
  · rfl
  · rfl
  · rfl

/-! ### Coefficients and tap counts (R129) -/

theorem bankLocked_counted (b : Block) (k e : Nat) : bankLocked b.counted k e = bankLocked b k e := by
  simp only [bankLocked, Block.counted_engBank, Block.counted_engine]

theorem coefWrite_of_unlocked {b : Block} {k e : Nat} (h : bankLocked b k e = false) (idx sub v : Nat) :
    coefWrite k e idx sub v b = (stOK, refreshEngine e (keepValue idx sub v b)) := by
  simp [coefWrite, whenOk, h]

/-- The registers that show an engine lie apart from a coefficient or a tap count. -/
theorem refreshEngine_reg (e : Nat) (b : Block) {i r : Nat} (h : i * 256 + r ≠ eObj e * 256 + 8 ∧ i * 256 + r ≠ eObj e * 256 + 0xB ∧
    i * 256 + r ≠ eObj e * 256 + 0xD) : (refreshEngine e b).rd i r = b.rd i r ∧ (refreshEngine e b).rdI i r = b.rdI i r := by
  obtain ⟨h8, hB, hD⟩ := h
  unfold refreshEngine
  extract_lets en fading st sym
  exact ⟨by rw [Block.rd_wr_of_ne _ _ hD, Block.rd_wr_of_ne _ _ hB, Block.rd_wr_of_ne _ _ h8],
    by rw [Block.rdI_wr_of_ne _ _ hD, Block.rdI_wr_of_ne _ _ hB, Block.rdI_wr_of_ne _ _ h8]⟩

/-- The value of an accepted write of chapter 04 is in force. -/
theorem indigo_served {s : State} {p : Path} {idx sub v : Nat} {c : Block} (hs : Safety.Serving s) (ha : Safety.Accepts s p idx sub v)
    (hidx : 0x4000 ≤ idx) (hc : chapterWrite p s.mem idx sub v s.blk.counted = (stOK, c)) :
    (s.put p idx sub v).blk.resp = Resp.plain stOK ∧
      ∀ i r, 0x4000 ≤ i → i < 0x5000 → r < 256 → (s.put p idx sub v).blk.rd i r = c.rd i r ∧ (s.put p idx sub v).blk.rdI i r = c.rdI i r := by
  obtain ⟨o, hrun⟩ := State.put_eq hs ha hc (by decide)
  rw [hrun]
  exact ⟨by rw [State.run_resp]; rfl,
    fun i r h1 h2 hr => ⟨State.run_rd_of_ne _ _ _ _ (by omega), State.run_rdI_of_ne _ _ _ _ (by omega)⟩⟩

/-! ### Thresholds (R132) -/

theorem odRow?_threshold {l sub : Nat} (hl : l < 512) (h1 : 1 ≤ sub) (h3 : sub ≤ 3) :
    ∃ r, odRow? (0x4800 + l) sub = some r ∧ r.chk = .any ∧ r.acc = .rw ∧ r.ty = if sub = 3 then .u16 else .i16 := by
  have hpage : odPage ((0x4800 + l) / 256) = od48 := by
    obtain h | h : (0x4800 + l) / 256 = 0x48 ∨ (0x4800 + l) / 256 = 0x49 := by omega
    · rw [h]
      rfl
    · rw [h]
      rfl
  have hin : 0x4800 ≤ 0x4800 + l ∧ 0x4800 + l ≤ 0x49FF := by omega
  obtain rfl | rfl | rfl : sub = 1 ∨ sub = 2 ∨ sub = 3 := by omega
  all_goals simp [odRow?, hpage, od48, OdRow.holds, hin]

/-- An accepted threshold is kept, and the engines stay as they are. -/
theorem threshold_served {s : State} {p : Path} {l sub v : Nat} (hs : Safety.Serving s) (hl : l < 512) (h1 : 1 ≤ sub) (h3 : sub ≤ 3)
    (ha : Safety.Accepts s p (0x4800 + l) sub v) :
    (s.put p (0x4800 + l) sub v).blk.resp = Resp.plain stOK ∧
      (if sub = 3 then (s.put p (0x4800 + l) sub v).blk.rd (0x4800 + l) sub = v
        else (s.put p (0x4800 + l) sub v).blk.rdI (0x4800 + l) sub = signed v 16) ∧
      (s.put p (0x4800 + l) sub v).blk.engines = s.blk.engines ∧
      Safety.Keeps (fun i r => i == 0x4800 + l && r == sub) s (s.put p (0x4800 + l) sub v) := by
  obtain ⟨r, hr, hchk, hacc, hty⟩ := odRow?_threshold hl h1 h3
  have hflag : isFlag (0x4800 + l) sub = false := by simp [isFlag, hr, hchk]
  have hclear : clearedBy (0x4800 + l) sub = none := by simp [clearedBy, hr, hacc]
  have hplain : isPlainObject (0x4800 + l) := .inr (by
    obtain h | h : (0x4800 + l) / 256 = 0x48 ∨ (0x4800 + l) / 256 = 0x49 := by omega
    · simp [h]
    · simp [h])
  obtain ⟨hresp, hval, hkeeps⟩ := plainWrite_served hs hplain (by omega) hflag hclear ha hr
  obtain ⟨o, hrun⟩ := State.put_eq hs ha (chapterWrite_plain hflag hclear p s.mem v _ hplain) (by decide)
  refine ⟨hresp, ?_, ?_, hkeeps⟩
  · rw [hty] at hval
    split at hval
    · next h => exact (if_pos h).symm ▸ hval
    · next h => exact (if_neg h).symm ▸ hval
  · rw [hrun, State.run_engines]
    show (keepValue _ _ _ _).engines = _
    unfold keepValue
    rw [hr]
    dsimp only
    split
    · rfl
    · rfl

/-- Settles O18: each write reaches chapter 04, whose effect leaves the value in its register. -/
theorem indigoWritesTakeEffect : Obligations.IndigoWritesTakeEffect := by
  unfold Obligations.IndigoWritesTakeEffect
  refine ⟨?_, ?_, ?_, ?_, ?_⟩
  · intro s p e sub v hs he hsub ha
    obtain ⟨hresp, hrd⟩ := indigo_served hs ha (by omega) (chapterWrite_engine he hsub p s.mem v _)
    have hwf : (Instr.indigoEngineWrite p e sub v).wf = true := by
      rcases hsub with rfl | rfl | rfl
      all_goals simp [Instr.wf, he]
    exact ⟨_, State.act_of_on hwf hs.1 _, hresp, (hrd _ _ (by omega) (by omega) (by omega)).1.trans (engineWrite_rd hsub ha.lt _)⟩
  · intro s p k e v hs hk he ha hfree
    have hrow := odRow?_tap hk he
    have hflag : isFlag (0x4600 + e) (9 + k) = false := by simp [isFlag, hrow, tapRow]
    have hclear : clearedBy (0x4600 + e) (9 + k) = none := by simp [clearedBy, hrow, tapRow]
    have hc : chapterWrite p s.mem (0x4600 + e) (9 + k) v s.blk.counted = _ := (chapterWrite_of_indigo hflag hclear _ _ _ _ (by omega)).trans
      ((indigoWrite_tap hk he v _).trans (coefWrite_of_unlocked ((bankLocked_counted _ _ _).trans hfree) _ _ _))
    obtain ⟨hresp, hrd⟩ := indigo_served hs ha (by omega) hc
    obtain ⟨hval, _⟩ := keepValue_facts hrow ha.lt (by omega) s.blk.counted
    refine ⟨_, exec_coefficientWrite_tap hs hk he p v, hresp, ?_⟩
    rw [(hrd _ _ (by omega) (by omega) (by omega)).1, (refreshEngine_reg e _ (by unfold eObj; omega)).1]
    simpa [tapRow, OdType.isSigned] using hval
  · intro s p k e sub v hs hk he h1 h64 ha hfree
    have hobj := coefObj_eq hk e
    have hrow := odRow?_coef hk he h1 h64
    have hfields : (coefRow sub).chk = .any ∧ (coefRow sub).ty = .i16 ∧ (coefRow sub).acc = .rw := by unfold coefRow; split <;> decide
    obtain ⟨hchk, hty, hacc⟩ := hfields
    have hflag : isFlag (coefObj k e) sub = false := by simp [isFlag, hrow, hchk]
    have hclear : clearedBy (coefObj k e) sub = none := by simp [clearedBy, hrow, hacc]
    have hc : chapterWrite p s.mem (coefObj k e) sub v s.blk.counted = _ := (chapterWrite_of_indigo hflag hclear _ _ _ _ (by omega)).trans
      ((indigoWrite_coef hk he sub v _).trans (coefWrite_of_unlocked ((bankLocked_counted _ _ _).trans hfree) _ _ _))
    obtain ⟨hresp, hrd⟩ := indigo_served hs ha (by omega) hc
    obtain ⟨hval, _⟩ := keepValue_facts hrow ha.lt (by omega) s.blk.counted
    refine ⟨_, exec_coefficientWrite_coef hs hk he h1 h64 p v, hresp, ?_⟩
    rw [(hrd _ _ (by omega) (by omega) (by omega)).2, (refreshEngine_reg e _ (by unfold eObj; omega)).2]
    rw [hty] at hval
    exact hval
  · intro s p l v sub hs hl hsub ha
    obtain ⟨hresp, hval, heng, hkeeps⟩ := threshold_served hs hl (by omega) (by omega) ha
    rw [if_neg (by omega)] at hval
    exact ⟨_, State.act_of_on (by simp [Instr.wf, hl]; omega) hs.1 _, hresp, hval, heng, hkeeps⟩
  · intro s p l v hs hl ha
    obtain ⟨hresp, hval, heng, hkeeps⟩ := threshold_served hs hl (by decide) (by decide) ha
    rw [if_pos rfl] at hval
    exact ⟨_, State.act_of_on (by simp [Instr.wf, hl]) hs.1 _, hresp, hval, heng, hkeeps⟩

end Sys2Proof.Machine

/-! # Lane status and lane health (R85 to R88, R95, R100) -/

namespace Sys2Proof.Machine

/-! ### A status word changes (R95) -/

theorem emcyEvent_field {γ : Type} {g : Block → γ} (hfield : ∀ (b : Block) r w e, g { b with regs := r, logWait := w, emcy := e } = g b)
    (c k : Nat) (x : List Byte) (b : Block) : g (emcyEvent c k x b) = g b := by
  obtain ⟨r, w, e, h⟩ := emcyEvent_shape c k x b
  rw [h]
  exact hfield b r w e

/-- What sees neither registers nor messages nor records sees nothing of a status word's change. -/
theorem setLaneStatus_field {γ : Type} {g : Block → γ} (hg : RecordBlind g)
    (hfield : ∀ (b : Block) r w e, g { b with regs := r, logWait := w, emcy := e } = g b) (l new : Nat) (b : Block) :
    g (setLaneStatus l new b) = g b := by
  have hregs : ∀ (c : Block) r, g { c with regs := r } = g c := fun c r => hfield c r c.logWait c.emcy
  have hgain : ∀ c, g (gainEvent l new c) = g c := fun c => by
    have hflag : g (c.flag (0x3100 + l / 16) 7 8 1) = g c := hregs c _
    unfold gainEvent
    dsimp only
    rw [emcyEvent_field hfield]
    split
    · rw [hg.postError, hflag]
    · exact hflag
  unfold setLaneStatus
  dsimp only
  rw [forEach_keeps g (fun _ _ c => hgain c)]
  exact hregs b _

theorem gainEvent_rd (l new : Nat) (b : Block) {i r : Nat} (hr : r < 256) (hi : i ≠ 0x7080) (hrep : Safety.reporting i r = false)
    (h7 : i * 256 + r ≠ (0x3100 + l / 16) * 256 + 7) (h8 : i * 256 + r ≠ (0x3100 + l / 16) * 256 + 8) :
    (gainEvent l new b).rd i r = b.rd i r := by
  have hflag : (b.flag (0x3100 + l / 16) 7 8 1).rd i r = b.rd i r := Block.rd_flag_of_ne _ _ h7 h8
  unfold gainEvent
  dsimp only
  rw [emcyEvent_rd _ _ _ _ hr hrep]
  split
  · rw [(recordBlind_rd hr (.inl hi)).postError, hflag]
  · exact hflag

theorem setLaneStatus_rd (l new : Nat) (b : Block) {i r : Nat} (hr : r < 256) (hi : i ≠ 0x7080) (hrep : Safety.reporting i r = false)
    (h7 : i * 256 + r ≠ (0x3100 + l / 16) * 256 + 7) (h8 : i * 256 + r ≠ (0x3100 + l / 16) * 256 + 8) :
    (setLaneStatus l new b).rd i r = (b.wr (0x3300 + l / 16) (l % 16 + 1) new).rd i r := by
  unfold setLaneStatus
  dsimp only
  exact forEach_keeps (fun c => c.rd i r) (fun _ _ c => gainEvent_rd l new c hr hi hrep h7 h8) _

theorem reporting_of_ne {i r : Nat} (h : i ≠ 0x8000 ∧ i ≠ 0x8001 ∧ i ≠ 0x8002 ∧ i ≠ 0x1E20 ∧ i ≠ 0x2006) : Safety.reporting i r = false := by
  obtain ⟨h1, h2, h3, h4, h5⟩ := h
  simp [Safety.reporting, h1, h2, h3, h4, h5]

/-- The status words after a change of one of them. -/
theorem setLaneStatus_laneStatus {l k : Nat} (hl : l < 512) (hk : k < 512) (new : Nat) (b : Block) :
    (setLaneStatus l new b).laneStatus k = if k = l then new % 2 ^ 64 else b.laneStatus k := by
  rw [Block.laneStatus, setLaneStatus_rd _ _ _ (by omega) (by omega) (reporting_of_ne (by omega)) (by omega) (by omega)]
  split
  · next h =>
    subst h
    exact Block.rd_wr_self ..
  · exact Block.rd_wr_of_ne _ _ (by omega)

theorem setLaneStatus_lanes (l new : Nat) (b : Block) : (setLaneStatus l new b).lanes = b.lanes :=
  setLaneStatus_field (g := Block.lanes) {} (fun _ _ _ _ => rfl) l new b
theorem setLaneStatus_pods (l new : Nat) (b : Block) : (setLaneStatus l new b).pods = b.pods :=
  setLaneStatus_field (g := Block.pods) {} (fun _ _ _ _ => rfl) l new b
theorem setLaneStatus_maint (l new : Nat) (b : Block) : (setLaneStatus l new b).maint = b.maint :=
  setLaneStatus_field (g := Block.maint) {} (fun _ _ _ _ => rfl) l new b

theorem State.run_laneStatus (s : State) (f : List Host.Cell → Block → Block) {k : Nat} (hk : k < 512) :
    (s.run f).blk.laneStatus k = (f s.mem s.blk).laneStatus k := State.run_rd_of_ne _ _ _ _ (by omega)

/-! ### Fields of a word -/

theorem bits_mod {w n lo len : Nat} (h : lo + len ≤ n) : bits (w % 2 ^ n) lo len = bits w lo len := by
  obtain ⟨k, rfl⟩ : ∃ k, n = lo + (len + k) := ⟨n - lo - len, by omega⟩
  unfold bits
  rw [Nat.pow_add, Nat.mod_mul_right_div_self, Nat.pow_add, Nat.mod_mul_right_mod]

/-- The parts of a word below a field, of the field, and above it. -/
theorem split_bits (w lo len : Nat) : w = w % 2 ^ lo + 2 ^ lo * (bits w lo len + 2 ^ len * (w / 2 ^ (lo + len))) := by
  have h1 := Nat.mod_add_div w (2 ^ lo)
  have h2 := Nat.mod_add_div (w / 2 ^ lo) (2 ^ len)
  rw [Nat.div_div_eq_div_mul, ← Nat.pow_add] at h2
  unfold bits
  rw [h2, h1]

theorem putBits_eq (w lo len v : Nat) : putBits w lo len v = w % 2 ^ lo + 2 ^ lo * (v % 2 ^ len + 2 ^ len * (w / 2 ^ (lo + len))) := by
  have h := split_bits w lo len
  unfold putBits
  rw [Nat.mul_comm (bits w lo len), Nat.mul_comm (v % 2 ^ len)]
  rw [Nat.mul_add] at h ⊢
  omega

/-- A field that has been put is read. -/
theorem bits_putBits_self (w lo len v : Nat) : bits (putBits w lo len v) lo len = v % 2 ^ len := by
  rw [putBits_eq, bits, Nat.add_mul_div_left _ _ (Nat.two_pow_pos lo), Nat.div_eq_of_lt (Nat.mod_lt _ (Nat.two_pow_pos lo)), Nat.zero_add,
    Nat.add_mul_mod_self_left, Nat.mod_mod]

/-- A field below the one that has been put. -/
theorem bits_putBits_below {w lo len v a n : Nat} (h : a + n ≤ lo) : bits (putBits w lo len v) a n = bits w a n := by
  rw [← bits_mod (w := putBits w lo len v) h, ← bits_mod (w := w) h, putBits_eq, Nat.add_mul_mod_self_left, Nat.mod_mod]

/-! ### Contacts (R85) -/

theorem contactOvervoltage_eq {l c : Nat} (hl : l < 512) (hc : c < 2) (above : Bool) (b : Block) :
    contactOvervoltage l c above b = setLaneStatus l (putBit (b.laneStatus l) 11 (putBit (b.lane l).ov c above != 0))
      (b.setLane l { b.lane l with ov := putBit (b.lane l).ov c above }) := by
  simp [contactOvervoltage, Nat.not_le.2 hl, Nat.not_le.2 hc]

/-! ### Visits (R86 to R88) -/

/-- The status word that a visit leaves, and the block in which it has classified its contact. -/
def visitClassed (n zp zn : Nat) (b : Block) : Block :=
  setClass (16 * n + (b.pod n).visit / 2) ((b.pod n).visit % 2) (zsClass (if (b.pod n).visit % 2 = 0 then zp else zn)) b

theorem healthVisitEnd_tested {n zp zn sp sn : Nat} {b : Block} (hn : n < 32) (hmode : (b.pod n).visitMode ≠ 0) (hcut : (b.pod n).visitCut = false)
    (hse : (b.pod n).se = true → (b.pod n).visit % 2 = 0) :
    healthVisitEnd n zp zn sp sn b = startVisit n (nextVisit (b.pod n).se (b.pod n).visit)
      (setLaneStatus (16 * n + (b.pod n).visit / 2)
        (putBits (putBits ((visitClassed n zp zn b).laneStatus (16 * n + (b.pod n).visit / 2)) 0 4
          (connectionOf (b.pod n).se ((visitClassed n zp zn b).lane (16 * n + (b.pod n).visit / 2)))) 9 2
          (if (b.pod n).se then 0 else orientOf sp sn)) (visitClassed n zp zn b)) := by
  have htested : ((b.pod n).visitMode != 0 && !(b.pod n).visitCut && !((b.pod n).se && (b.pod n).visit % 2 == 1)) = true := by
    cases h : (b.pod n).se with
    | false => simp [hmode, hcut]
    | true => simp [hmode, hcut, hse h]
  unfold healthVisitEnd
  rw [if_neg (by omega)]
  dsimp only
  rw [htested, if_pos rfl, if_pos rfl]
  rfl

theorem healthVisitEnd_untested {n zp zn sp sn : Nat} {b : Block} (hn : n < 32) (h : (b.pod n).visitMode = 0 ∨ (b.pod n).visitCut = true) :
    healthVisitEnd n zp zn sp sn b = startVisit n (nextVisit (b.pod n).se (b.pod n).visit)
      (setLaneStatus (16 * n + (b.pod n).visit / 2)
        (putBits (b.laneStatus (16 * n + (b.pod n).visit / 2)) 9 2 (if (b.pod n).se then 0 else orientOf sp sn)) b) := by
  have htested : ((b.pod n).visitMode != 0 && !(b.pod n).visitCut && !((b.pod n).se && (b.pod n).visit % 2 == 1)) = false := by
    rcases h with h | h
    · simp [h]
    · simp [h]
  unfold healthVisitEnd
  rw [if_neg (by omega)]
  dsimp only
  rw [htested, if_neg (by decide), if_neg (by decide)]

theorem startVisit_pod (n c k : Nat) (b : Block) : (startVisit n c b).pod k = if k = n then { b.pod n with
    visit := c, visitMode := b.rd (0x3100 + n) 4, visitCut := visitBlocked b n (c / 2) (b.rd (0x3100 + n) 4) } else b.pod k := by
  unfold startVisit
  split
  · next h =>
    subst h
    exact Block.pod_setPod_self ..
  · next h => exact Block.pod_setPod_ne _ _ h

theorem startVisit_laneStatus (n c k : Nat) (b : Block) : (startVisit n c b).laneStatus k = b.laneStatus k := rfl
theorem startVisit_lanes (n c : Nat) (b : Block) : (startVisit n c b).lanes = b.lanes := rfl

theorem visitClassed_lane (n zp zn : Nat) (b : Block) : (visitClassed n zp zn b).lane (16 * n + (b.pod n).visit / 2) =
    if (b.pod n).visit % 2 = 0 then { b.lane (16 * n + (b.pod n).visit / 2) with conP := zsClass zp }
    else { b.lane (16 * n + (b.pod n).visit / 2) with conN := zsClass zn } := by
  unfold visitClassed setClass
  dsimp only
  rw [Block.lane_setLane_self]
  split
  · rfl
  · rfl

theorem visitClassed_regs (n zp zn : Nat) (b : Block) : (visitClassed n zp zn b).regs = b.regs := rfl
theorem visitClassed_pods (n zp zn : Nat) (b : Block) : (visitClassed n zp zn b).pods = b.pods := rfl

theorem orientOf_lt (p n : Nat) : orientOf p n < 4 := by
  unfold orientOf
  exact ite_lt (by decide) (ite_lt (by decide) (ite_lt (by decide) (by decide)))

theorem Block.pod_of_pods {b c : Block} (h : c.pods = b.pods) (k : Nat) : c.pod k = b.pod k := by rw [Block.pod, Block.pod, h]
theorem Block.lane_of_lanes {b c : Block} (h : c.lanes = b.lanes) (k : Nat) : c.lane k = b.lane k := by rw [Block.lane, Block.lane, h]

/-- The visit that begins after a change of the status word. -/
theorem startVisit_after {n c l st : Nat} (hn : n < 32) (hl : l < 512) (b : Block) :
    ((startVisit n c (setLaneStatus l st b)).pod n).visit = c ∧
      ((startVisit n c (setLaneStatus l st b)).pod n).visitMode = b.rd (0x3100 + n) 4 ∧
      (∀ k, k ≠ n → (startVisit n c (setLaneStatus l st b)).pod k = b.pod k) ∧
      (∀ k, k < 512 → (startVisit n c (setLaneStatus l st b)).laneStatus k = if k = l then st % 2 ^ 64 else b.laneStatus k) ∧
      (startVisit n c (setLaneStatus l st b)).lanes = b.lanes := by
  have hmode : (setLaneStatus l st b).rd (0x3100 + n) 4 = b.rd (0x3100 + n) 4 := by
    rw [setLaneStatus_rd _ _ _ (by decide) (by omega) (reporting_of_ne (by omega)) (by omega) (by omega), Block.rd_wr_of_ne _ _ (by omega)]
  refine ⟨?_, ?_, fun k hk => ?_, fun k hk => ?_, ?_⟩
  · rw [startVisit_pod, if_pos rfl]
  · rw [startVisit_pod, if_pos rfl, ← hmode]
  · rw [startVisit_pod, if_neg hk, Block.pod_of_pods (setLaneStatus_pods l st b)]
  · rw [startVisit_laneStatus, setLaneStatus_laneStatus hl hk]
  · rw [startVisit_lanes, setLaneStatus_lanes]

/-- Settles O15: the lane's word takes the contact's state, and no other word and no other lane changes. -/
theorem contactEventsSetTheLaneStatus : Obligations.ContactEventsSetTheLaneStatus := by
  unfold Obligations.ContactEventsSetTheLaneStatus
  refine ⟨?_, ?_, ?_⟩
  · intro s l c above hon hl hc
    have he := contactOvervoltage_eq hl hc above s.blk
    obtain ⟨ov, hov⟩ : ∃ ov, ov = putBit (s.blk.lane l).ov c above := ⟨_, rfl⟩
    rw [← hov] at he
    have hlane : ∀ k, (s.run (fun _ b => contactOvervoltage l c above b)).blk.lane k =
        (s.blk.setLane l { s.blk.lane l with ov := ov }).lane k := fun k => by
      rw [State.run_lane, he]
      exact Block.lane_of_lanes (setLaneStatus_lanes ..) k
    have hst : ∀ k, k < 512 → (s.run (fun _ b => contactOvervoltage l c above b)).blk.laneStatus k =
        if k = l then putBit (s.blk.laneStatus l) 11 (ov != 0) % 2 ^ 64 else s.blk.laneStatus k := fun k hk => by
      rw [State.run_laneStatus _ _ hk, he, setLaneStatus_laneStatus hl hk]
      rfl
    refine ⟨_, State.act_of_on (by simp [Instr.wf, hl, hc]) hon _, ?_, ?_, fun k hk => ?_, fun k hk hne => ?_⟩
    · rw [hlane, Block.lane_setLane_self, hov]
    · rw [hst l hl, if_pos rfl, hlane, Block.lane_setLane_self, Nat.mod_eq_of_lt (putBit_lt (w := s.blk.laneStatus l) (s.blk.rd_lt _ _) (show 11 < 64 by decide) _)]
      exact bit_putBit_self ..
    · rw [hlane, Block.lane_setLane_ne _ _ hk]
    · rw [hst k hk, if_neg hne]
  · intro s n l zp zn sp sn x hon hn hx hv hl hmode hcut hse
    subst hx
    have he := healthVisitEnd_tested (zp := zp) (zn := zn) (sp := sp) (sn := sn) hn hmode hcut hse
    rw [← hl] at he
    have hl512 : l < 512 := by omega
    have hclassed := visitClassed_lane n zp zn s.blk
    rw [← hl] at hclassed
    obtain ⟨d, hd⟩ : ∃ d, d = visitClassed n zp zn s.blk := ⟨_, rfl⟩
    have hregs : d.regs = s.blk.regs := by rw [hd]; rfl
    have hpods : d.pods = s.blk.pods := by rw [hd]; rfl
    have hdst : ∀ k, d.laneStatus k = s.blk.laneStatus k := fun k => Block.rd_of_regs hregs _ _
    rw [← hd] at he hclassed
    obtain ⟨st, hst⟩ : ∃ st, st = putBits (putBits (d.laneStatus l) 0 4 (connectionOf (s.blk.pod n).se (d.lane l))) 9 2
      (if (s.blk.pod n).se then 0 else orientOf sp sn) := ⟨_, rfl⟩
    rw [← hst] at he
    obtain ⟨hvisit, hvmode, hpod, hstatus, hlanes⟩ := startVisit_after (c := nextVisit (s.blk.pod n).se (s.blk.pod n).visit) (st := st) hn hl512 d
    rw [← he] at hvisit hvmode hpod hstatus hlanes
    have hlane : ∀ k, (s.run (fun _ b => healthVisitEnd n zp zn sp sn b)).blk.lane k = d.lane k := fun k => by
      rw [State.run_lane]
      exact Block.lane_of_lanes hlanes k
    have hword : ∀ a b, a + b ≤ 64 → bits ((s.run (fun _ b => healthVisitEnd n zp zn sp sn b)).blk.laneStatus l) a b = bits st a b := fun a b hab => by
      rw [State.run_laneStatus _ _ hl512, hstatus l hl512, if_pos rfl, bits_mod hab]
    refine ⟨_, State.act_of_on (by simp [Instr.wf, hn]) hon _, ?_, ?_, ?_, ?_, ?_, fun k hk hne => ?_, fun k hk => ?_⟩
    · rw [hlane, hclassed]
      split
      · exact ⟨rfl, rfl⟩
      · exact ⟨rfl, rfl⟩
    · rw [hword 0 4 (by decide), hlane, hst, bits_putBits_below (by decide), bits_putBits_self]
      cases h : (s.blk.pod n).se with
      | true => rw [hclassed, if_pos (hse h)]; rfl
      | false => rfl
    · rw [hword 9 2 (by decide), hst, bits_putBits_self]
      cases (s.blk.pod n).se with
      | true => rfl
      | false => exact Nat.mod_eq_of_lt (orientOf_lt sp sn)
    · rw [State.run_pod]
      exact hvisit
    · rw [State.run_pod]
      exact hvmode.trans (Block.rd_of_regs hregs _ _)
    · rw [State.run_laneStatus _ _ hk, hstatus k hk, if_neg hne, hdst]
    · rw [State.run_pod, hpod k hk, Block.pod_of_pods hpods]
  · intro s n l zp zn sp sn x hon hn hx hv hl hno
    subst hx
    have he := healthVisitEnd_untested (zp := zp) (zn := zn) (sp := sp) (sn := sn) hn hno
    rw [← hl] at he
    have hl512 : l < 512 := by omega
    obtain ⟨st, hst⟩ : ∃ st, st = putBits (s.blk.laneStatus l) 9 2 (if (s.blk.pod n).se then 0 else orientOf sp sn) := ⟨_, rfl⟩
    rw [← hst] at he
    obtain ⟨hvisit, hvmode, hpod, hstatus, hlanes⟩ := startVisit_after (c := nextVisit (s.blk.pod n).se (s.blk.pod n).visit) (st := st) hn hl512 s.blk
    rw [← he] at hvisit hvmode hpod hstatus hlanes
    have hword : ∀ a b, a + b ≤ 64 → bits ((s.run (fun _ b => healthVisitEnd n zp zn sp sn b)).blk.laneStatus l) a b = bits st a b := fun a b hab => by
      rw [State.run_laneStatus _ _ hl512, hstatus l hl512, if_pos rfl, bits_mod hab]
    refine ⟨_, State.act_of_on (by simp [Instr.wf, hn]) hon _, ?_, ?_, ?_, ?_, ?_, fun k hk hne => ?_⟩
    · rw [hword 0 4 (by decide), hst, bits_putBits_below (by decide)]
    · rw [hword 9 2 (by decide), hst, bits_putBits_self]
      cases (s.blk.pod n).se with
      | true => rfl
      | false => exact Nat.mod_eq_of_lt (orientOf_lt sp sn)
    · rw [State.run_lanes]
      exact hlanes
    · rw [State.run_pod]
      exact hvisit
    · rw [State.run_pod]
      exact hvmode
    · rw [State.run_laneStatus _ _ hk, hstatus k hk, if_neg hne]

end Sys2Proof.Machine

/-! # Activities on pods (R89 to R94, R400) -/

namespace Sys2Proof.Machine

/-! ### Pods out of service (R93) -/

/-- Taking a pod out of service, or giving it back, changes lanes and status words beside the pod. -/
theorem setOos_field {γ : Type} {g : Block → γ} (hlane : ∀ (b : Block) l x, g (b.setLane l x) = g b) (hregs : ∀ (b : Block) r, g { b with regs := r } = g b)
    (n act : Nat) (b : Block) : g (setOos n act b) = g (b.setPod n { b.pod n with act := act, visitCut := (b.pod n).visitCut || act != 0 }) := by
  unfold setOos
  extract_lets pod c
  refine (forEach_keeps g (fun m _ c => ?_) c).trans (hregs _ _)
  exact (hregs _ _).trans (hlane ..)

theorem setOos_maint (n act : Nat) (b : Block) : (setOos n act b).maint = b.maint :=
  setOos_field (g := Block.maint) (fun _ _ _ => rfl) (fun _ _ => rfl) n act b

theorem setOos_pods (n act : Nat) (b : Block) :
    (setOos n act b).pods = (b.setPod n { b.pod n with act := act, visitCut := (b.pod n).visitCut || act != 0 }).pods :=
  setOos_field (g := Block.pods) (fun _ _ _ => rfl) (fun _ _ => rfl) n act b

theorem setOos_pod_self (n act : Nat) (b : Block) :
    (setOos n act b).pod n = { b.pod n with act := act, visitCut := (b.pod n).visitCut || act != 0 } :=
  (Block.pod_of_pods (setOos_pods n act b) n).trans (Block.pod_setPod_self ..)

theorem setOos_pod_ne {n k : Nat} (h : k ≠ n) (act : Nat) (b : Block) : (setOos n act b).pod k = b.pod k :=
  (Block.pod_of_pods (setOos_pods n act b) k).trans (Block.pod_setPod_ne _ _ h)

theorem setOos_rd (n act : Nat) (b : Block) {i r : Nat} (hr : r < 256) (h1 : i ≠ 0x3100 + n) (h3 : i ≠ 0x3300 + n) :
    (setOos n act b).rd i r = b.rd i r ∧ (setOos n act b).rdI i r = b.rdI i r := by
  have hreg : (setOos n act b).reg i r = b.reg i r := by
    unfold setOos
    extract_lets pod c
    have hc : c.reg i r = b.reg i r := by
      have hk : odKey i r ≠ odKey (0x3100 + n) 10 := fun e => h1 ((odKey_inj hr (by decide)).1 e).1
      exact (Block.reg_wr ..).trans (if_neg hk)
    refine (forEach_keeps (fun c => c.reg i r) (fun m hm c => ?_) c).trans hc
    have hm16 := List.mem_range.1 hm
    have hk : odKey i r ≠ odKey (0x3300 + n) (m + 1) := fun e => h3 ((odKey_inj hr (by omega)).1 e).1
    exact (Block.reg_wr ..).trans (if_neg hk)
  exact ⟨congrArg BitVec.toNat hreg, congrArg BitVec.toInt hreg⟩

/-- Every pod of a list is given its state by steps that each give it to one. -/
theorem forEach_act {f : Nat → Block → Block} {act : Nat} (hf : ∀ n b, (f n b).pods = (setOos n act b).pods) (n : Nat) (ns : List Nat) (b : Block)
    (h : n ∈ ns ∨ (b.pod n).act = act) : ((forEach ns f b).pod n).act = act := by
  induction ns generalizing b with
  | nil => exact h.resolve_left (List.not_mem_nil)
  | cons m ms ih =>
    refine ih (f m b) ?_
    rw [List.mem_cons] at h
    by_cases hnm : n = m
    · subst hnm
      exact .inr (by rw [Block.pod_of_pods (hf n b), setOos_pod_self])
    · refine (h.imp (fun h => h.resolve_left hnm) fun h => ?_)
      rw [Block.pod_of_pods (hf m b), setOos_pod_ne hnm]
      exact h

/-! ### Requests (R89, R91, R97) -/

theorem Block.Alike.activityStatus {b c : Block} (h : c.Alike b) (probe : Bool) : activityStatus c probe = activityStatus b probe := by
  have hmask : c.rd (actObj probe) 1 = b.rd (actObj probe) 1 := h.rd _ _ (by unfold actObj; split <;> decide)
  have hreq : c.requested probe = b.requested probe := by rw [Block.requested, Block.requested, h.maint]
  have hpods : ∀ m, (setBits 32 m).any (fun n => (c.podDom n < 8 && c.armed (c.podDom n)) || c.rd (0x3800 + n) 4 != 0) =
      (setBits 32 m).any (fun n => (b.podDom n < 8 && b.armed (b.podDom n)) || b.rd (0x3800 + n) 4 != 0) := fun m => any_congr_mem fun n hn => by
    have hn32 := List.mem_range.1 (List.mem_filter.1 hn).1
    rw [h.podDom (by omega), h.rd _ _ (by omega)]
    by_cases hd : b.podDom n < 8
    · rw [h.armed (by omega)]
    · simp [hd]
  simp only [Machine.activityStatus, hmask, hreq, hpods]

theorem chapterWrite_activity {idx : Nat} (probe : Bool) (hidx : idx = actObj probe) (p : Path) (mem : List Host.Cell) (b : Block) :
    chapterWrite p mem idx 2 1 b = whenOk (activityStatus b probe) (requestActivity probe) b := by
  subst hidx
  cases probe with
  | true => exact chapterWrite_of_probe (idx := 0x3010) (sub := 2) (by decide) (by decide) p mem 1 b (by decide)
  | false => exact chapterWrite_of_probe (idx := 0x3011) (sub := 2) (by decide) (by decide) p mem 1 b (by decide)

/-- A request waits and shows state 1. -/
theorem requestActivity_facts (probe : Bool) (b : Block) :
    (requestActivity probe b).rd (actObj probe) 3 = 1 ∧ (requestActivity probe b).rd (actObj probe) 4 = 0 ∧
      { probe := probe, auto := false, pods := setBits 32 (b.rd (actObj probe) 1) } ∈ (requestActivity probe b).maint.waiting ∧
      (requestActivity probe b).maint.running = b.maint.running := by
  have hobj : actObj probe = 0x3010 ∨ actObj probe = 0x3011 := by cases probe <;> simp [actObj]
  unfold requestActivity
  extract_lets m b1 src b2
  have hw : { probe := probe, auto := false, pods := setBits 32 m } ∈ b1.maint.waiting := by
    cases probe with
    | true => exact List.mem_append.2 (.inl (List.mem_append.2 (.inr (List.mem_singleton.2 rfl))))
    | false => exact List.mem_append.2 (.inr (List.mem_singleton.2 rfl))
  have hmaint : b2.maint.waiting = b1.maint.waiting ∧ b2.maint.running = b.maint.running := by
    cases probe with
    | true => exact ⟨rfl, rfl⟩
    | false => exact ⟨rfl, rfl⟩
  clear_value b2
  refine ⟨?_, ?_, ?_, hmaint.2⟩
  · rw [showActivities_rd _ (by omega), Block.rd_wr_of_ne _ _ (by omega), Block.rd_wr_of_lt _ _ _ (by decide)]
  · rw [showActivities_rd _ (by omega), Block.rd_wr_of_lt _ _ _ (by decide)]
  · show _ ∈ b2.maint.waiting
    rw [hmaint.1]
    exact hw

/-- A request that its checks let pass. -/
theorem activity_served {s : State} {p : Path} {idx : Nat} (probe : Bool) (hidx : idx = actObj probe) (hs : Safety.Serving s)
    (ha : Safety.Accepts s p idx 2 1) (hst : activityStatus s.blk probe = stOK) :
    (s.put p idx 2 1).blk.resp = Resp.plain stOK ∧ (s.put p idx 2 1).blk.rd idx 3 = 1 ∧ (s.put p idx 2 1).blk.rd idx 4 = 0 ∧
      { probe := probe, auto := false, pods := setBits 32 (s.blk.rd idx 1) } ∈ (s.put p idx 2 1).blk.maint.waiting ∧
      (s.put p idx 2 1).blk.maint.running = s.blk.maint.running := by
  have hobj : idx = 0x3010 ∨ idx = 0x3011 := by rw [hidx]; cases probe <;> simp [actObj]
  obtain ⟨o, hrun⟩ := State.put_eq hs ha
    ((chapterWrite_activity probe hidx ..).trans (whenOk_of_ok ((s.blk.counted_alike.activityStatus probe).trans hst) ..)) (by decide)
  obtain ⟨h3, h4, hw, hr⟩ := requestActivity_facts probe s.blk.counted
  rw [← hidx] at h3 h4 hw
  rw [s.blk.counted_alike.rd idx 1 (by omega)] at hw
  rw [s.blk.counted_alike.maint] at hr
  obtain ⟨c, hc⟩ : ∃ c, c = requestActivity probe s.blk.counted := ⟨_, rfl⟩
  rw [← hc] at hrun h3 h4 hw hr
  rw [hrun, State.run_maint]
  exact ⟨by rw [State.run_resp]; rfl, (State.run_rd_of_ne _ _ _ _ (by omega)).trans h3, (State.run_rd_of_ne _ _ _ _ (by omega)).trans h4, hw, hr⟩

/-! ### The start (R90, R93, R400) -/

theorem clearShorts_pods (l : Nat) (b : Block) : (clearShorts l b).pods = b.pods := setLaneStatus_pods ..
theorem clearShorts_maint (l : Nat) (b : Block) : (clearShorts l b).maint = b.maint := setLaneStatus_maint ..

/-- The pods of an activity that starts are taken. -/
def podsTaken (a : Activity) (b : Block) : Block := forEach a.pods (fun n b => setOos n (if a.probe then 1 else 2) b) b

/-- The short flags of the lanes under a probe test are cleared. -/
def shortsCleared (ns : List Nat) (b : Block) : Block :=
  forEach ns (fun n b => forEach (List.range 16) (fun m b => clearShorts (16 * n + m) b) (b.wrBit (0x3100 + n) 10 2 false)) b

theorem shortsCleared_keeps (ns : List Nat) (b : Block) : (shortsCleared ns b).pods = b.pods ∧ (shortsCleared ns b).maint = b.maint :=
  ⟨forEach_keeps Block.pods (fun n _ c => forEach_keeps (f := fun (m : Nat) (d : Block) => clearShorts (16 * n + m) d) Block.pods
      (fun _ _ d => clearShorts_pods _ d) (c.wrBit (0x3100 + n) 10 2 false)) b,
    forEach_keeps Block.maint (fun n _ c => forEach_keeps (f := fun (m : Nat) (d : Block) => clearShorts (16 * n + m) d) Block.maint
      (fun _ _ d => clearShorts_maint _ d) (c.wrBit (0x3100 + n) 10 2 false)) b⟩

theorem activityStart_facts {b : Block} {a : Activity} {rest : List Activity} (h : startable b.heldPods b.maint.waiting = some (a, rest)) :
    (activityStart b).maint.waiting = rest ∧ (activityStart b).maint.running = b.maint.running ++ [a] ∧
      ∀ n ∈ a.pods, ((activityStart b).pod n).act = if a.probe then 1 else 2 := by
  obtain ⟨c, hc⟩ : ∃ c : Block, c = { b with maint := { b.maint with waiting := rest, running := b.maint.running ++ [a] } } := ⟨_, rfl⟩
  obtain ⟨d, hd⟩ : ∃ d, d = if a.probe then shortsCleared a.pods (podsTaken a c) else podsTaken a c := ⟨_, rfl⟩
  have he : activityStart b = showActivities (if a.auto then d else d.wr (actObj a.probe) 3 2) := by
    simp only [activityStart, h, ← hc]
    rw [hd]
    rfl
  have hkeep : d.pods = (podsTaken a c).pods ∧ d.maint = (podsTaken a c).maint := by
    rw [hd]
    split
    · exact shortsCleared_keeps ..
    · exact ⟨rfl, rfl⟩
  have hmaint : (activityStart b).maint = c.maint := by
    rw [he, showActivities_maint]
    refine Eq.trans ?_ (hkeep.2.trans (forEach_keeps Block.maint (fun n _ e => setOos_maint n _ e) c))
    split
    · rfl
    · rfl
  have hpods : (activityStart b).pods = (podsTaken a c).pods := by
    rw [he, ← hkeep.1]
    show (if a.auto then d else d.wr (actObj a.probe) 3 2).pods = _
    split
    · rfl
    · rfl
  refine ⟨by rw [hmaint, hc], by rw [hmaint, hc], fun n hn => ?_⟩
  rw [Block.pod_of_pods hpods]
  exact forEach_act (fun _ _ => rfl) n a.pods c (.inl hn)

/-! ### The end of a probe test (R90) -/

theorem probeLane_keeps (l : Nat) (rs : List ProbeResult) (b : Block) : (probeLane l rs b).pods = b.pods ∧ (probeLane l rs b).maint = b.maint := by
  unfold probeLane
  dsimp only
  split
  · exact ⟨rfl, rfl⟩
  · exact ⟨(setLaneStatus_pods ..).trans (forEach_keeps (f := fun (r : ProbeResult) (c : Block) => setClass l r.contact (zsClass r.zs) c) Block.pods
        (fun _ _ _ => rfl) b),
      (setLaneStatus_maint ..).trans (forEach_keeps (f := fun (r : ProbeResult) (c : Block) => setClass l r.contact (zsClass r.zs) c) Block.maint
        (fun _ _ _ => rfl) b)⟩

/-- A pod returns from a probe test with its results. -/
def podTested (rs : List ProbeResult) (n : Nat) (b : Block) : Block :=
  ((forEach (List.range 16) (fun m b => probeLane (16 * n + m) rs b) (setOos n 0 b)).wrBit (0x3100 + n) 10 2 true).wrBit 0x3010 4 n true

theorem podTested_keeps (rs : List ProbeResult) (n : Nat) (b : Block) :
    (podTested rs n b).pods = (setOos n 0 b).pods ∧ (podTested rs n b).maint = b.maint :=
  ⟨forEach_keeps (fun c : Block => c.pods) (fun _ _ c => (probeLane_keeps _ rs c).1) _,
    (forEach_keeps (fun c : Block => c.maint) (fun _ _ c => (probeLane_keeps _ rs c).2) _).trans (setOos_maint n 0 b)⟩

theorem endRequest_field {γ : Type} {g : Block → γ} (hregs : ∀ (b : Block) r, g { b with regs := r } = g b) (probe : Bool) (b : Block) :
    g (endRequest probe b) = g b := by
  unfold endRequest
  dsimp only
  split
  · rfl
  · exact hregs b _

theorem probeTestEnd_facts {b : Block} {a : Activity} (rs : List ProbeResult) (h : b.maint.running.find? (·.probe) = some a) :
    (probeTestEnd rs b).maint.running = b.maint.running.filter (fun x => !x.probe) ∧ ∀ n ∈ a.pods, ((probeTestEnd rs b).pod n).act = 0 := by
  obtain ⟨c, hc⟩ : ∃ c : Block, c = { b with maint := { b.maint with running := b.maint.running.filter (fun x => !x.probe) } } := ⟨_, rfl⟩
  have he : probeTestEnd rs b = showActivities (endRequest true (forEach a.pods (podTested rs) c)) := by
    simp only [probeTestEnd, h, ← hc]
    rfl
  have hmaint : (probeTestEnd rs b).maint = c.maint := by
    rw [he, showActivities_maint, endRequest_field (g := Block.maint) (fun _ _ => rfl)]
    exact forEach_keeps Block.maint (fun n _ d => (podTested_keeps rs n d).2) c
  have hpods : (probeTestEnd rs b).pods = (forEach a.pods (podTested rs) c).pods := by
    rw [he]
    exact endRequest_field (g := Block.pods) (fun _ _ => rfl) true _
  refine ⟨by rw [hmaint, hc], fun n hn => ?_⟩
  rw [Block.pod_of_pods hpods]
  exact forEach_act (fun m d => (podTested_keeps rs m d).1) n a.pods c (.inl hn)

/-! ### The end of a recalibration (R91, R92) -/

theorem refreshAdvice_pods (n : Nat) (b : Block) : (refreshAdvice n b).pods = b.pods := rfl
theorem refreshAdvice_maint (n : Nat) (b : Block) : (refreshAdvice n b).maint = b.maint := rfl

theorem calibrated_pod (n k : Nat) (b : Block) :
    (calibrated n b).pod k = if k = n then { b.pod n with calTemp := b.rdI 0x2000 1, factory := false } else b.pod k := by
  unfold calibrated
  rw [Block.pod_of_pods (refreshAdvice_pods n _)]
  split
  · next h =>
    subst h
    exact Block.pod_setPod_self ..
  · next h => exact Block.pod_setPod_ne _ _ h

/-- What an activity is once a pod has left it; none, where that pod was its last. -/
def podLeft (a : Activity) (n : Nat) (x : Activity) : Option Activity :=
  if x == a then (if (a.pods.filter (fun y => y != n)).isEmpty then none else some { a with pods := a.pods.filter (fun y => y != n) }) else some x

theorem filterMap_podLeft (a : Activity) (n : Nat) (xs : List Activity) : xs.filterMap (podLeft a n) =
    if a.pods.all (fun y => y == n) = true then xs.filter (fun x => x != a)
    else xs.map (fun x => if x = a then { a with pods := a.pods.filter (fun y => y != n) } else x) := by
  have hempty : (a.pods.filter (fun y => y != n)).isEmpty = a.pods.all (fun y => y == n) := by
    rw [Bool.eq_iff_iff, List.isEmpty_iff, List.filter_eq_nil_iff, List.all_eq_true]
    simp
  split
  · next h =>
    induction xs with
    | nil => rfl
    | cons x xs ih =>
      by_cases hx : x = a
      · subst hx
        simp [podLeft, hempty, h, ih]
      · simp [podLeft, hx, ih]
  · next h =>
    induction xs with
    | nil => rfl
    | cons x xs ih =>
      by_cases hx : x = a
      · subst hx
        simp [podLeft, hempty, h, ih]
      · simp [podLeft, hx, ih]

theorem leaveActivity_eq (a : Activity) (n : Nat) (b : Block) : ∃ d, leaveActivity a n b = showActivities d ∧
    d.pods = (setOos n 0 { b with maint := { b.maint with running := b.maint.running.filterMap (podLeft a n) } }).pods ∧
    d.maint = { b.maint with running := b.maint.running.filterMap (podLeft a n) } := by
  obtain ⟨c, hc⟩ : ∃ c, c = setOos n 0 { b with maint := { b.maint with running := b.maint.running.filterMap (podLeft a n) } } := ⟨_, rfl⟩
  have hmaint : c.maint = { b.maint with running := b.maint.running.filterMap (podLeft a n) } := by rw [hc, setOos_maint]
  refine ⟨if a.auto || !(a.pods.filter (fun x => x != n)).isEmpty then c else endRequest a.probe c, by rw [hc]; rfl, ?_, ?_⟩
  · rw [← hc]
    split
    · rfl
    · exact endRequest_field (g := Block.pods) (fun _ _ => rfl) ..
  · rw [← hmaint]
    split
    · rfl
    · exact endRequest_field (g := Block.maint) (fun _ _ => rfl) ..

theorem recalEnd_facts {b : Block} {n : Nat} {a : Activity} (h : b.maint.running.find? (fun x => !x.probe && x.pods.contains n) = some a) :
    (recalEnd n b).maint.running = b.maint.running.filterMap (podLeft a n) ∧ ((recalEnd n b).pod n).act = 0 ∧
      ((recalEnd n b).pod n).calTemp = b.rdI 0x2000 1 ∧ ∀ k, k ≠ n → (recalEnd n b).pod k = b.pod k := by
  obtain ⟨c, hc⟩ : ∃ c, c = if a.auto then b else b.wrBit 0x3011 4 n true := ⟨_, rfl⟩
  have hcb : c.pods = b.pods ∧ c.maint = b.maint ∧ c.rdI 0x2000 1 = b.rdI 0x2000 1 := by
    rw [hc]
    split
    · exact ⟨rfl, rfl, rfl⟩
    · exact ⟨rfl, rfl, Block.rdI_wr_of_ne _ _ (by decide)⟩
  obtain ⟨hpods, hmaint, htemp⟩ := hcb
  have hcal : (calibrated n c).maint = b.maint := hmaint
  obtain ⟨d, hd, hdp, hdm⟩ := leaveActivity_eq a n (calibrated n c)
  have he : recalEnd n b = showActivities d := by
    simp only [recalEnd, h, ← hc, hd]
  have hpod : ∀ k, (recalEnd n b).pod k =
      (setOos n 0 { calibrated n c with maint := { b.maint with running := b.maint.running.filterMap (podLeft a n) } }).pod k := fun k => by
    rw [he, ← hcal]
    exact Block.pod_of_pods hdp k
  have hself := calibrated_pod n n c
  rw [if_pos rfl, htemp] at hself
  have hat := setOos_pod_self n 0 { calibrated n c with maint := { b.maint with running := b.maint.running.filterMap (podLeft a n) } }
  refine ⟨?_, ?_, ?_, fun k hk => ?_⟩
  · rw [he, showActivities_maint, hdm, hcal]
  · rw [hpod, hat]
  · rw [hpod, hat]
    show ((calibrated n c).pod n).calTemp = _
    rw [hself]
  · rw [hpod, setOos_pod_ne hk]
    show (calibrated n c).pod k = _
    rw [calibrated_pod, if_neg hk, Block.pod_of_pods hpods]

/-- Settles O16: a request waits, starts when its pods are free, and gives each pod back. -/
theorem activitiesWaitRunAndEnd : Obligations.ActivitiesWaitRunAndEnd := by
  unfold Obligations.ActivitiesWaitRunAndEnd
  refine ⟨?_, ?_, ?_, ?_, ?_⟩
  · intro s p hs ha hst
    exact ⟨_, State.act_of_on rfl hs.1 _, activity_served true rfl hs ha hst⟩
  · intro s p hs ha hst
    exact ⟨_, State.act_of_on rfl hs.1 _, activity_served false rfl hs ha hst⟩
  · intro s a rest hon hstart
    obtain ⟨hwait, hrun, hact⟩ := activityStart_facts hstart
    refine ⟨_, State.act_of_on rfl hon _, ?_, ?_, fun n hn => ?_⟩
    · rw [State.run_maint]
      exact hwait
    · rw [State.run_maint]
      exact hrun
    · rw [State.run_pod]
      exact hact n hn
  · intro s a rs hon hwf hfind
    obtain ⟨hrun, hact⟩ := probeTestEnd_facts rs hfind
    refine ⟨_, State.act_of_on hwf hon _, ?_, fun n hn => ?_⟩
    · rw [State.run_maint]
      exact hrun
    · rw [State.run_pod]
      exact hact n hn
  · intro s n a hon hn hfind
    obtain ⟨hrun, hact, htemp, hne⟩ := recalEnd_facts hfind
    refine ⟨_, State.act_of_on (by simp [Instr.wf, hn]) hon _, ?_, ?_, ?_, fun k hk => ?_⟩
    · rw [State.run_maint, ← filterMap_podLeft]
      exact hrun
    · rw [State.run_pod]
      exact hact
    · rw [State.run_pod]
      exact htemp
    · rw [State.run_pod]
      exact hne k hk

end Sys2Proof.Machine

/-! # Sloe ports (R361 to R365, R368, R372) -/

namespace Sys2Proof.Machine

/-! ### Ports and their registers -/

theorem Block.port_setPort_self (b : Block) (p : Nat) (x : SloePort) : (b.setPort p x).port p = x := look_place_self ..

theorem Block.linkUp_of_rd {b c : Block} {p : Nat} (h : c.rd (portObj p) 2 = b.rd (portObj p) 2) : c.linkUp p = b.linkUp p := by
  rw [Block.linkUp, Block.linkUp, h]

theorem Block.linkUp_eq_true {b : Block} {p : Nat} : b.linkUp p = true ↔ b.rd (portObj p) 2 = 2 ∨ b.rd (portObj p) 2 = 3 := by
  simp [Block.linkUp]

theorem State.run_port (s : State) (f : List Host.Cell → Block → Block) (p : Nat) : (s.run f).blk.port p = (f s.mem s.blk).port p :=
  congrArg (fun c : Chain => look (fun _ => SloePort.reset) c.ports p) (s.run_chain f)

/-- A register of a port after a run. -/
theorem State.run_rd_port (s : State) (f : List Host.Cell → Block → Block) {p r : Nat} (hp : p < 4) (hr : r < 256) :
    (s.run f).blk.rd (0x2210 + p) r = (f s.mem s.blk).rd (0x2210 + p) r := State.run_rd_of_ne _ _ _ _ (by omega)

/-- A failed port shows its state and cause; no other register but those of the reports changes. -/
theorem portFailed_rd {i r : Nat} (hr : r < 256) (hrep : Safety.reporting i r = false) (p cause : Nat) (b : Block)
    (hi : i ≠ 0x2210 + p ∨ r ≠ 2 ∧ r ≠ 3) : (portFailed p cause b).rd i r = b.rd i r := by
  refine (emcyEvent_rd _ _ _ _ hr hrep).trans ?_
  show ((b.wr (0x2210 + p) 2 4).wr (0x2210 + p) 3 cause).rd i r = _
  rw [Block.rd_wr_of_ne _ _ (by omega), Block.rd_wr_of_ne _ _ (by omega)]

theorem portFailed_shown {p cause : Nat} (hp : p < 4) (hc : cause < 2 ^ 64) (b : Block) :
    (portFailed p cause b).rd (0x2210 + p) 2 = 4 ∧ (portFailed p cause b).rd (0x2210 + p) 3 = cause := by
  have hrep : ∀ r, Safety.reporting (0x2210 + p) r = false := fun r => by simp [Safety.reporting]; omega
  refine ⟨(emcyEvent_rd _ _ _ _ (by decide) (hrep 2)).trans ?_, (emcyEvent_rd _ _ _ _ (by decide) (hrep 3)).trans ?_⟩
  · show ((b.wr (0x2210 + p) 2 4).wr (0x2210 + p) 3 cause).rd (0x2210 + p) 2 = 4
    rw [Block.rd_wr_of_ne _ _ (by omega), Block.rd_wr_of_lt _ _ _ (by decide)]
  · exact Block.rd_wr_of_lt (b.wr (0x2210 + p) 2 4) _ _ hc

/-! ### Training (R361 to R363) -/

theorem sloeSignal_eq {p : Nat} {b : Block} (hp : p < 4) (hon : b.on (0x2210 + p) 1 = true) (hup : b.linkUp p = false)
    (hst : b.rd (0x2210 + p) 2 ≠ 0) :
    sloeSignal p b = ((b.wr (0x2210 + p) 2 1).wr (0x2210 + p) 3 0).wr (0x2210 + p) 4 0 :=
  if_neg (by simp [portObj, hon, hup, hst]; omega)

theorem sloeLanesTimeout_eq {p : Nat} {b : Block} (hp : p < 4) (hst : b.rd (0x2210 + p) 2 = 1) :
    sloeLanesTimeout p b = b.wr (0x2210 + p) 3 2 :=
  if_neg (by simp [portObj, hst]; omega)

theorem sloeVersion_le {low high v : Nat} (h : sloeVersion low high = some v) : v ≤ 2 := by
  unfold sloeVersion at h
  dsimp only at h
  split at h
  · cases h
    exact Nat.min_le_left _ _
  · cases h

/-- A port that has trained, with the version in force. -/
def portLinked (p v role : Nat) (x : Training) (b : Block) : Block :=
  (((((b.wr (portObj p) 5 (bits x.farId 0 16)).wr (portObj p) 4 v).wr (portObj p) 3 0).wr (portObj p) 8 role).wr (portObj p) 2 2).setPort p
    SloePort.reset

theorem portLinked_shown {p v : Nat} (hv : v ≤ 2) (role : Nat) (x : Training) (b : Block) :
    (portLinked p v role x b).rd (0x2210 + p) 2 = 2 ∧ (portLinked p v role x b).rd (0x2210 + p) 4 = v ∧
      (portLinked p v role x b).rd (0x2210 + p) 5 = bits x.farId 0 16 ∧ (portLinked p v role x b).port p = SloePort.reset := by
  have hid : bits x.farId 0 16 < 2 ^ 64 := Nat.lt_trans (bits_lt ..) (by decide)
  obtain ⟨d, hd⟩ : ∃ d, d = ((((b.wr (0x2210 + p) 5 (bits x.farId 0 16)).wr (0x2210 + p) 4 v).wr (0x2210 + p) 3 0).wr (0x2210 + p) 8 role).wr
    (0x2210 + p) 2 2 := ⟨_, rfl⟩
  have hrd : ∀ r, (portLinked p v role x b).rd (0x2210 + p) r = d.rd (0x2210 + p) r := fun r => by rw [hd]; rfl
  refine ⟨?_, ?_, ?_, Block.port_setPort_self ..⟩
  · rw [hrd, hd, Block.rd_wr_of_lt _ _ _ (by decide)]
  · rw [hrd, hd, Block.rd_wr_of_ne _ _ (by omega), Block.rd_wr_of_ne _ _ (by omega), Block.rd_wr_of_ne _ _ (by omega),
      Block.rd_wr_of_lt _ _ _ (by omega)]
  · rw [hrd, hd, Block.rd_wr_of_ne _ _ (by omega), Block.rd_wr_of_ne _ _ (by omega), Block.rd_wr_of_ne _ _ (by omega),
      Block.rd_wr_of_ne _ _ (by omega), Block.rd_wr_of_lt _ _ _ hid]

theorem sloeTrained_cases {p : Nat} {b : Block} (x : Training) (hp : p < 4) (hst : b.rd (0x2210 + p) 2 = 1) (htx : b.txTaken p = false) :
    ∃ c, (∀ v, sloeVersion x.farLow x.farHigh = some v → ∃ role, sloeTrained p x b = portLinked p v role x c) ∧
      (sloeVersion x.farLow x.farHigh = none → sloeTrained p x b = portFailed p 4 c) := by
  have hgo : ¬ (4 ≤ p || b.rd (portObj p) 2 != 1 || b.txTaken p) = true := by simp [portObj, hst, htx]; omega
  unfold sloeTrained
  rw [if_neg hgo]
  refine ⟨(b.wr (portObj p) 6 (bits x.txPort 0 4 * 16 + bits x.farPort 0 4)).wr (portObj p) 7 (bits x.corrections 0 12), fun v hv => ?_,
    fun hv => ?_⟩
  · simp only [hv]
    exact ⟨_, rfl⟩
  · simp only [hv]

/-! ### Link loss (R365, R368, R377) -/

/-- The loss of a link of the tree touches the chain's state and the stops of FOLLOW domains alone. -/
theorem treeBroken_rd {i : Nat} (hi : i ≠ 0x2200 ∧ i < 0x5000) {r : Nat} (hr : r < 256) (p : Nat) (b : Block) :
    (treeBroken p b).2.rd i r = b.rd i r := by
  unfold treeBroken
  dsimp only
  split
  · have hstop : ∀ t ∈ b.armedDoms.filter (fun t => b.mode t == 0xC), ∀ c : Block, (faultStop t c).rd i r = c.rd i r := fun t _ c =>
      (stopBlind_rd (d := t) (i := i) (r := r) (by omega) (by omega)).requestStop _ _ _ c
    have hregs : ((b.wr 0x2200 4 4).wr 0x2200 0xA 0).rd i r = b.rd i r := by
      rw [Block.rd_wr_of_ne _ _ (by omega), Block.rd_wr_of_ne _ _ (by omega)]
    exact (forEach_keeps (fun c : Block => c.rd i r) hstop _).trans hregs
  · split
    · exact Block.rd_wr_of_ne _ _ (by omega)
    · rfl

/-- The loss of a port's own link. -/
theorem loseLink_facts {p cause : Nat} {b : Block} (hp : p < 4) (hup : b.linkUp p = true) (hc : cause < 2 ^ 64) :
    (loseLink p cause b).rd (0x2210 + p) 2 = 4 ∧ (loseLink p cause b).rd (0x2210 + p) 3 = cause ∧
      (loseLink p cause b).rd (0x2210 + p) 0xD = satTo 32 (b.rd (0x2210 + p) 0xD + 1) := by
  have hgo : ¬ (4 ≤ p || !b.linkUp p) = true := by simp [hup]; omega
  obtain ⟨d, hd⟩ : ∃ d, d = (chainLoss p b).2 := ⟨_, rfl⟩
  have hrd : ∀ r < 256, (loseLink p cause b).rd (0x2210 + p) r = ((portFailed p cause d).bump 32 (0x2210 + p) 0xD 1).rd (0x2210 + p) r :=
    fun r hr => by
      rw [loseLink, if_neg hgo, hd]
      exact (recordBlind_rd hr (.inl (by omega))).postError ..
  have hcount : d.rd (0x2210 + p) 0xD = b.rd (0x2210 + p) 0xD := by
    have htree := treeBroken_rd (i := 0x2210 + p) (by omega) (r := 0xD) (by decide) p b
    obtain ⟨e, he⟩ : ∃ e, e = (treeBroken p b).2 := ⟨_, rfl⟩
    have hde : d.rd (0x2210 + p) 0xD = ((e.wr (0x2210 + p) 8 0).wr (0x2210 + p) 4 0).rd (0x2210 + p) 0xD := by rw [hd, he]; rfl
    rw [hde, Block.rd_wr_of_ne _ _ (by omega), Block.rd_wr_of_ne _ _ (by omega), he, htree]
  obtain ⟨h2, h3⟩ := portFailed_shown hp hc d
  refine ⟨?_, ?_, ?_⟩
  · rw [hrd _ (by decide), Block.rd_bump_of_ne _ _ _ (by omega), h2]
  · rw [hrd _ (by decide), Block.rd_bump_of_ne _ _ _ (by omega), h3]
  · rw [hrd _ (by decide), Block.rd_bump_self _ _ _ _ (by decide),
      portFailed_rd (by decide) (by simp [Safety.reporting]; omega) p cause d (.inr (by decide)), hcount]

theorem treeBroken_parent {p : Nat} {b : Block} (hrole : b.linkRole p = 1) (harm : b.armedDoms = []) :
    ∃ ch, (treeBroken p b).2 = { (b.wr 0x2200 4 4).wr 0x2200 0xA 0 with chain := ch } := by
  unfold treeBroken
  simp only [hrole, harm, List.filter_nil, if_true]
  exact ⟨_, rfl⟩

/-! ### Frame messages (R364, R365, R372) -/

theorem takeMeasure_ups (p off : Nat) (ws : List Nat) (b : Block) : (takeMeasure p off ws b).chain.ups = b.chain.ups := rfl
theorem takeMeasure_rd (p off : Nat) (ws : List Nat) (b : Block) (i r : Nat) : (takeMeasure p off ws b).rd i r = b.rd i r := rfl
theorem takeMeasure_time (p off : Nat) (ws : List Nat) (b : Block) : (takeMeasure p off ws b).time = b.time := rfl

theorem takeMeasure_bad (p off : Nat) (ws : List Nat) (b : Block) : ((takeMeasure p off ws b).port p).bad = 0 := by
  unfold takeMeasure
  dsimp only
  rw [Block.port_setPort_self]
  split
  · rfl
  · rfl

theorem applyBits_keeps {γ : Type} {g : Block → γ} (hg : ∀ (b : Block) c, g { b with casc := c } = g b) (a v : Nat) (b : Block) :
    g (applyBits a v b) = g b := by
  unfold applyBits
  split
  · rfl
  · exact hg ..

/-- A message that passes its checks on the link to a child of version 2. -/
theorem sloeMessage_good {p off : Nat} {ws : List Nat} {b : Block} (hp : p < 4) (hup : b.linkUp p = true) (hgood : messageGood ws = true)
    (hrole : b.linkRole p = 2) (hver : b.linkVersion p = 2) :
    ∃ a v : Nat, ∃ c, c = (if b.rd (portObj p) 2 = 3 then applyBits a v (takeMeasure p (min off 2047) ws b) else takeMeasure p (min off 2047) ws b) ∧
      sloeMessage p off ws b = { c with chain := { c.chain with ups :=
        { at_ := c.received (bits (ws.getD 2 0) 0 53), bits := ws.getD 1 0 &&& c.chainMask, bad := bit (ws.getD 5 0) 44, tag := 0 } ::
          c.chain.ups } } := by
  have hgo : ¬ (4 ≤ p || !b.linkUp p) = true := by simp [hup]; omega
  unfold sloeMessage
  rw [if_neg hgo, if_neg (by simp [hgood]), hrole, hver]
  simp only [takeMeasure_rd]
  exact ⟨_, _, _, rfl, rfl⟩

theorem sloeMessage_good_facts {p off : Nat} {ws : List Nat} {b : Block} (hp : p < 4) (hup : b.linkUp p = true)
    (hgood : messageGood ws = true) (hrole : b.linkRole p = 2) (hver : b.linkVersion p = 2) :
    (∃ x, (sloeMessage p off ws b).chain.ups = x :: b.chain.ups ∧ x.bits = ws.getD 1 0 &&& b.chainMask ∧
      x.at_ = b.received (bits (ws.getD 2 0) 0 53)) ∧ ((sloeMessage p off ws b).port p).bad = 0 := by
  obtain ⟨a, v, c, hc, he⟩ := sloeMessage_good (off := off) hp hup hgood hrole hver
  obtain ⟨d, hd⟩ : ∃ d, d = takeMeasure p (min off 2047) ws b := ⟨_, rfl⟩
  rw [← hd] at hc
  have hkeep : ∀ {γ : Type} (g : Block → γ), (∀ (b : Block) x, g { b with casc := x } = g b) → g c = g d := fun g hg => by
    rw [hc]
    split
    · exact applyBits_keeps hg ..
    · rfl
  have hchain : c.chain = d.chain := hkeep Block.chain fun _ _ => rfl
  have htime : c.time = b.time := (hkeep Block.time fun _ _ => rfl).trans (by rw [hd]; rfl)
  have hmask : c.chainMask = b.chainMask := (hkeep Block.chainMask fun _ _ => rfl).trans (by rw [hd]; rfl)
  have hups : c.chain.ups = b.chain.ups := by rw [hchain, hd, takeMeasure_ups]
  have hat : ∀ n, c.received n = b.received n := fun n => by
    rw [Block.received, Block.received, Block.absNear, Block.absNear, htime]
  rw [he]
  refine ⟨⟨_, congrArg (List.cons _) hups, congrArg (fun m => ws.getD 1 0 &&& m) hmask, hat _⟩, ?_⟩
  · show (look (fun _ => SloePort.reset) c.chain.ports p).bad = 0
    rw [hchain, hd]
    exact takeMeasure_bad ..

/-- A damaged message on the link to a child of version 2, not the sixteenth in a row. -/
theorem discardMessage_facts {p : Nat} {b : Block} (hrole : b.linkRole p = 2) (hver : b.linkVersion p = 2) (hbad : (b.port p).bad < 15) :
    (discardMessage p b).rd (0x2210 + p) 0xA = 1 ∧
      (discardMessage p b).rd (0x2210 + p) 0xB = satTo 32 (b.rd (0x2210 + p) 0xB + 1) ∧
      (∃ x, (discardMessage p b).chain.ups = x :: b.chain.ups ∧ x.bits = 0 ∧ x.bad = true) ∧
      ((discardMessage p b).port p).bad = (b.port p).bad + 1 := by
  obtain ⟨c, hc⟩ : ∃ c, c = (b.flag (0x2210 + p) 0xA 0xB 1).setPort p
    { b.port p with bad := (b.port p).bad + 1, next := some ((b.port p).next.getD b.time.abs + 1) } := ⟨_, rfl⟩
  have hrd : ∀ r, c.rd (0x2210 + p) r = (b.flag (0x2210 + p) 0xA 0xB 1).rd (0x2210 + p) r := fun r => by rw [hc]; rfl
  have hrole' : c.linkRole p = 2 := ((hrd 8).trans (Block.rd_flag_of_ne _ _ (by omega) (by omega))).trans hrole
  have hver' : c.linkVersion p = 2 := ((hrd 4).trans (Block.rd_flag_of_ne _ _ (by omega) (by omega))).trans hver
  have he : ∃ x : ChainBits, discardMessage p b = { c with chain := { c.chain with ups := x :: c.chain.ups } } ∧ x.bits = 0 ∧ x.bad = true := by
    simp only [discardMessage, portObj, ← hc, hver', hrole', bne_self_eq_false, Bool.false_eq_true, if_false, if_true,
      if_neg (show ¬ 16 ≤ (b.port p).bad + 1 by omega)]
    exact ⟨_, rfl, rfl, rfl⟩
  obtain ⟨x, he, hx⟩ := he
  rw [he]
  refine ⟨?_, ?_, ⟨x, ?_, hx⟩, ?_⟩
  · exact (hrd 0xA).trans (Block.rd_flag_self _ _ _ (by decide))
  · exact (hrd 0xB).trans (Block.rd_flag_count _ _ _ (by decide))
  · show x :: c.chain.ups = _
    rw [hc]
    rfl
  · show (c.port p).bad = _
    rw [hc, Block.port_setPort_self]

/-- Settles O33: each event of a port writes its registers as its clause says; a message on a child's link adds what it carries. -/
theorem sloePortsLinkAndCarryMessages : Obligations.SloePortsLinkAndCarryMessages := by
  refine ⟨?_, ?_, ?_, ?_, ?_, ?_, ?_, ?_⟩
  · intro s p hon hp hen hup hst
    have he := sloeSignal_eq hp hen hup hst
    refine ⟨_, State.act_of_on (by simp [Instr.wf, hp]) hon _, ?_, ?_, ?_, Block.Within.keeps ?_⟩
    · rw [State.run_rd_port _ _ hp (by decide), he, Block.rd_wr_of_ne _ _ (by omega), Block.rd_wr_of_ne _ _ (by omega),
        Block.rd_wr_of_lt _ _ _ (by decide)]
    · rw [State.run_rd_port _ _ hp (by decide), he, Block.rd_wr_of_ne _ _ (by omega), Block.rd_wr_of_lt _ _ _ (by decide)]
    · rw [State.run_rd_port _ _ hp (by decide), he, Block.rd_wr_of_lt _ _ _ (by decide)]
    · rw [he]
      exact (((Block.Within.refl _ s.blk).wr _ (by decide) (by simp)).wr _ (by decide) (by simp)).wr _ (by decide) (by simp)
  · intro s p hon hp hst
    have he := sloeLanesTimeout_eq hp hst
    refine ⟨_, State.act_of_on (by simp [Instr.wf, hp]) hon _, ?_, ?_, Block.Within.keeps ?_⟩
    · rw [State.run_rd_port _ _ hp (by decide), he, Block.rd_wr_of_ne _ _ (by omega), hst]
    · rw [State.run_rd_port _ _ hp (by decide), he, Block.rd_wr_of_lt _ _ _ (by decide)]
    · rw [he]
      exact (Block.Within.refl _ s.blk).wr _ (by decide) (by simp)
  · intro s p v x hon hp hst htx hv
    obtain ⟨c, hsome, -⟩ := sloeTrained_cases x hp hst htx
    obtain ⟨role, he⟩ := hsome v hv
    obtain ⟨h2, h4, h5, hport⟩ := portLinked_shown (p := p) (sloeVersion_le hv) role x c
    rw [← he] at h2 h4 h5 hport
    have h2' := (State.run_rd_port s (fun _ b => sloeTrained p x b) hp (show 2 < 256 by decide)).trans h2
    exact ⟨_, State.act_of_on (by simp [Instr.wf, hp]) hon _, Block.linkUp_eq_true.2 (.inl h2'), h2',
      (State.run_rd_port _ _ hp (by decide)).trans h4, (State.run_rd_port _ _ hp (by decide)).trans h5, (State.run_port ..).trans hport⟩
  · intro s p x hon hp hst htx hv
    obtain ⟨c, -, hnone⟩ := sloeTrained_cases x hp hst htx
    obtain ⟨h2, h3⟩ := portFailed_shown hp (show 4 < 2 ^ 64 by decide) c
    rw [← hnone hv] at h2 h3
    exact ⟨_, State.act_of_on (by simp [Instr.wf, hp]) hon _, (State.run_rd_port _ _ hp (by decide)).trans h2,
      (State.run_rd_port _ _ hp (by decide)).trans h3⟩
  · intro s p hon hp hup
    obtain ⟨h2, h3, hD⟩ := loseLink_facts hp hup (show 5 < 2 ^ 64 by decide)
    have h2' := (State.run_rd_port s (fun _ b => loseLink p 5 b) hp (show 2 < 256 by decide)).trans h2
    refine ⟨_, State.act_of_on (by simp [Instr.wf, hp]) hon _, ?_, h2', (State.run_rd_port _ _ hp (by decide)).trans h3,
      (State.run_rd_port _ _ hp (by decide)).trans hD⟩
    rw [Block.linkUp]
    simp only [portObj]
    exact h2' ▸ rfl
  · intro s p off ws hon hp hoff hup hgood hrole hver
    obtain ⟨⟨x, hups, hx⟩, hbad⟩ := sloeMessage_good_facts (off := off) hp hup hgood hrole hver
    exact ⟨_, State.act_of_on (by simp [Instr.wf, hp, hoff]) hon _, ⟨x, (congrArg Chain.ups (State.run_chain ..)).trans hups, hx⟩,
      (congrArg SloePort.bad (State.run_port ..)).trans hbad⟩
  · intro s p off ws hon hp hoff hup hgood hrole hver hlt
    have hgo : ¬ (4 ≤ p || !s.blk.linkUp p) = true := by simp [hup]; omega
    have he : sloeMessage p off ws s.blk = discardMessage p s.blk := by
      rw [sloeMessage, if_neg hgo, if_pos (by rw [hgood]; rfl)]
    obtain ⟨hA, hB, ⟨x, hups, hx⟩, hbad⟩ := discardMessage_facts hrole hver hlt
    rw [← he] at hA hB hups hbad
    exact ⟨_, State.act_of_on (by simp [Instr.wf, hp, hoff]) hon _, (State.run_rd_port _ _ hp (by decide)).trans hA,
      (State.run_rd_port _ _ hp (by decide)).trans hB, ⟨x, (congrArg Chain.ups (State.run_chain ..)).trans hups, hx⟩,
      (congrArg SloePort.bad (State.run_port ..)).trans hbad⟩
  · intro s p hon hp hrole harm
    obtain ⟨ch, he⟩ := treeBroken_parent hrole harm
    have hup : (s.run (fun _ b => linkLost (.beyond p) b)).blk.linkUp p = s.blk.linkUp p := by
      refine Block.linkUp_of_rd ?_
      refine (State.run_rd_port _ _ hp (by decide)).trans ?_
      exact treeBroken_rd (by omega) (by decide) p s.blk
    refine ⟨_, State.act_of_on (by simp [Instr.wf, hp]) hon _, ?_, ?_, hup, Block.Within.keeps ?_⟩
    · rw [State.run_rd_of_ne _ _ _ _ (by decide), linkLost, he]
      exact (Block.rd_wr_of_ne (s.blk.wr 0x2200 4 4) (j := 0x2200) (r := 4) (i := 0x2200) (s := 0xA) 0 (by decide)).trans
        (Block.rd_wr_of_lt s.blk 0x2200 4 (by decide))
    · rw [State.run_rd_of_ne _ _ _ _ (by decide), linkLost, he]
      exact Block.rd_wr_of_lt (s.blk.wr 0x2200 4 4) 0x2200 0xA (show 0 < 2 ^ 64 by decide)
    · rw [linkLost, he]
      exact (((Block.Within.refl _ s.blk).wr 4 (i := 0x2200) (s := 4) (by decide) rfl).wr 0 (i := 0x2200) (s := 0xA) (by decide) rfl).of_regs
        rfl rfl

end Sys2Proof.Machine

/-! # Alignment (R369, R370) -/

namespace Sys2Proof.Machine

theorem clampI_range {lo hi : Int} (h : lo ≤ hi) (v : Int) : lo ≤ clampI lo hi v ∧ clampI lo hi v ≤ hi := by
  unfold clampI
  omega

/-- A port whose two sides agree is aligned; on a member's parent link so is the module. -/
theorem alignment_small {p : Nat} {b : Block} (hp : p < 4) (hup : b.linkUp p = true) (h256 : measured256 (b.port p) = true)
    (hwait : b.sync.wait = []) (hnone : (b.linkRole p == 1 && b.isMember) = true → b.rd 0x2200 0xA ≠ 0 ∧ b.rd 0x2200 0xA ≠ 3)
    (hdelta : (b.port p).delta ≤ 8192) (hlo : -2 ≤ (b.port p).theta) (hhi : (b.port p).theta ≤ 2) :
    ∃ c : Block, alignment p true b =
      if b.linkRole p == 1 && b.isMember then
        (((c.wr (0x2210 + p) 2 3).setPort p { b.port p with n := 0, own := 0, far := 0 }).wr 0x2200 0xA 3)
      else (c.wr (0x2210 + p) 2 3).setPort p { b.port p with n := 0, own := 0, far := 0 } := by
  have hgo : ¬ (4 ≤ p || !b.linkUp p || !measured256 (b.port p) || !b.sync.wait.isEmpty) = true := by simp [hup, h256, hwait]; omega
  have hno : ¬ ((b.linkRole p == 1 && b.isMember) && (b.rd 0x2200 0xA == 0 || b.rd 0x2200 0xA == 3)) = true := fun h => by
    obtain ⟨h1, h2⟩ := Bool.and_eq_true_iff.1 h
    obtain ⟨h0, h3⟩ := hnone h1
    simp [h0, h3] at h2
  unfold alignment
  dsimp only
  rw [if_neg hgo, if_neg hno, if_neg (Rat.not_lt.2 hdelta), if_neg (by simp), if_pos (by simp [hlo, hhi])]
  exact ⟨_, rfl⟩

theorem alignment_facts {p : Nat} {b : Block} (hp : p < 4) (hup : b.linkUp p = true) (h256 : measured256 (b.port p) = true)
    (hwait : b.sync.wait = []) (hnone : (b.linkRole p == 1 && b.isMember) = true → b.rd 0x2200 0xA ≠ 0 ∧ b.rd 0x2200 0xA ≠ 3)
    (hdelta : (b.port p).delta ≤ 8192) (hlo : -2 ≤ (b.port p).theta) (hhi : (b.port p).theta ≤ 2) :
    (alignment p true b).rd (0x2210 + p) 2 = 3 ∧ ((alignment p true b).port p).n = 0 ∧
      ((b.linkRole p == 1 && b.isMember) = true → (alignment p true b).rd 0x2200 0xA = 3) := by
  obtain ⟨c, he⟩ := alignment_small hp hup h256 hwait hnone hdelta hlo hhi
  obtain ⟨d, hd⟩ : ∃ d, d = (c.wr (0x2210 + p) 2 3).setPort p { b.port p with n := 0, own := 0, far := 0 } := ⟨_, rfl⟩
  rw [← hd] at he
  have h2 : d.rd (0x2210 + p) 2 = 3 := by
    rw [hd]
    exact Block.rd_wr_of_lt c _ _ (show 3 < 2 ^ 64 by decide)
  have hn : (d.port p).n = 0 := by rw [hd, Block.port_setPort_self]
  rw [he]
  by_cases hpar : (b.linkRole p == 1 && b.isMember) = true
  · rw [if_pos hpar]
    exact ⟨(Block.rd_wr_of_ne _ _ (by omega)).trans h2, hn, fun _ => Block.rd_wr_of_lt _ _ _ (by decide)⟩
  · rw [if_neg hpar]
    exact ⟨h2, hn, fun h => absurd h hpar⟩

/-- An aligned member corrects its phase target while the measured offset is small. -/
theorem alignTrack_eq {b : Block} (hp : b.rd 0x2200 9 < 4) (hup : b.linkUp (b.rd 0x2200 9) = true) (hmem : b.isMember = true)
    (hal : b.rd 0x2200 0xA = 3) (h256 : measured256 (b.port (b.rd 0x2200 9)) = true)
    (hlo : -32 ≤ (b.port (b.rd 0x2200 9)).theta) (hhi : (b.port (b.rd 0x2200 9)).theta ≤ 32) :
    ∃ c w, c = b.setPort (b.rd 0x2200 9) { b.port (b.rd 0x2200 9) with n := 0, own := 0, far := 0 } ∧
      alignTrack b = (c.wrI 0x2200 0xB w).wrI 0x2102 1
        (clampI (-(2 ^ 31)) (2 ^ 31 - 1) ((c.wrI 0x2200 0xB w).rdI 0x2102 2 + roundRat (-16 * (b.port (b.rd 0x2200 9)).theta))) := by
  have hgo : ¬ (4 ≤ b.rd 0x2200 9 || !b.linkUp (b.rd 0x2200 9) || !b.isMember || b.rd 0x2200 0xA != 3 ||
      !measured256 (b.port (b.rd 0x2200 9))) = true := by simp [hup, hmem, hal, h256]; omega
  unfold alignTrack
  dsimp only
  have hin : ¬ (decide ((b.port (b.rd 0x2200 9)).theta < -32) || decide (32 < (b.port (b.rd 0x2200 9)).theta)) = true := by
    rw [Bool.or_eq_true, decide_eq_true_eq, decide_eq_true_eq]
    exact fun h => h.elim (Rat.not_lt.2 hlo) (Rat.not_lt.2 hhi)
  rw [if_neg hgo, if_neg hin]
  exact ⟨_, _, rfl, rfl⟩

theorem alignTrack_facts {b : Block} (hp : b.rd 0x2200 9 < 4) (hup : b.linkUp (b.rd 0x2200 9) = true) (hmem : b.isMember = true)
    (hal : b.rd 0x2200 0xA = 3) (h256 : measured256 (b.port (b.rd 0x2200 9)) = true)
    (hlo : -32 ≤ (b.port (b.rd 0x2200 9)).theta) (hhi : (b.port (b.rd 0x2200 9)).theta ≤ 32) :
    ((alignTrack b).port (b.rd 0x2200 9)).n = 0 ∧ (alignTrack b).rd 0x2200 0xA = 3 ∧
      (alignTrack b).rdI 0x2102 1 = clampI (-(2 ^ 31)) (2 ^ 31 - 1)
        (b.rdI 0x2102 2 + roundRat (-16 * (b.port (b.rd 0x2200 9)).theta)) := by
  obtain ⟨c, w, hc, he⟩ := alignTrack_eq hp hup hmem hal h256 hlo hhi
  have hrd : ∀ i r, c.rd i r = b.rd i r := fun i r => by rw [hc]; rfl
  have hrdI : (c.wrI 0x2200 0xB w).rdI 0x2102 2 = b.rdI 0x2102 2 :=
    (Block.rdI_wrI_of_ne _ _ (by decide)).trans (by rw [hc]; rfl)
  rw [hrdI] at he
  have hrange := clampI_range (show (-(2 ^ 31) : Int) ≤ 2 ^ 31 - 1 by decide)
    (b.rdI 0x2102 2 + roundRat (-16 * (b.port (b.rd 0x2200 9)).theta))
  rw [he]
  refine ⟨?_, ?_, ?_⟩
  · show (c.port _).n = 0
    rw [hc, Block.port_setPort_self]
  · rw [Block.rd_wrI_of_ne _ _ (by decide), Block.rd_wrI_of_ne _ _ (by decide), hrd, hal]
  · exact Block.rdI_wrI_self _ _ _ (by omega) (by omega)

/-- Settles O35: a small measure aligns the port, on a member's parent link the module, and a tracked offset moves the phase target. -/
theorem alignmentFollowsTheMeasures : Obligations.AlignmentFollowsTheMeasures := by
  refine ⟨?_, ?_, ?_⟩
  · intro s p hon hp hup h256 hwait hrole hdelta hlo hhi
    have hpar : ¬ (s.blk.linkRole p == 1 && s.blk.isMember) = true := by
      rcases hrole with h | h
      · simp [h]
      · simp [h]
    obtain ⟨h2, hn, -⟩ := alignment_facts hp hup h256 hwait (fun h => absurd h hpar) hdelta hlo hhi
    exact ⟨_, State.act_of_on (by simp [Instr.wf, hp]) hon _, (State.run_rd_port _ _ hp (by decide)).trans h2,
      (congrArg SloePort.n (State.run_port ..)).trans hn⟩
  · intro s p hon hp hup h256 hwait hrole hmem hal hdelta hlo hhi
    obtain ⟨h2, hn, hA⟩ := alignment_facts hp hup h256 hwait (fun _ => by omega) hdelta hlo hhi
    exact ⟨_, State.act_of_on (by simp [Instr.wf, hp]) hon _, (State.run_rd_port _ _ hp (by decide)).trans h2,
      (State.run_rd_of_ne _ _ _ _ (by decide)).trans (hA (by simp [hrole, hmem])), (congrArg SloePort.n (State.run_port ..)).trans hn⟩
  · intro s hon hp hup hmem hal h256 hlo hhi
    obtain ⟨hn, hA, hphase⟩ := alignTrack_facts hp hup hmem hal h256 hlo hhi
    exact ⟨_, State.act_of_on rfl hon _, (congrArg SloePort.n (State.run_port ..)).trans hn,
      (State.run_rd_of_ne _ _ _ _ (by decide)).trans hA, (State.run_rdI_of_ne _ _ _ _ (by decide)).trans hphase⟩

end Sys2Proof.Machine

/-! # Discovery, horizon and chain mask (R367, R368, R373) -/

namespace Sys2Proof.Machine

/-! ### The checks -/

/-- Two blocks with the same registers, the count of requests excepted, and the same ports of the chain. -/
structure Block.SameChain (b c : Block) : Prop where
  rd : ∀ i r, i * 256 + r ≠ 0x1E1001 → c.rd i r = b.rd i r
  ports : c.chain.ports = b.chain.ports

section

variable {b c : Block} (h : b.SameChain c)
include h

theorem Block.SameChain.port (p : Nat) : c.port p = b.port p := by rw [Block.port, Block.port, h.ports]
theorem Block.SameChain.isMaster : c.isMaster = b.isMaster := by rw [Block.isMaster, Block.isMaster, h.rd _ _ (by decide)]

theorem Block.SameChain.isMember : c.isMember = b.isMember := by
  rw [Block.isMember, Block.isMember, h.isMaster, Block.inChain, Block.inChain, h.rd _ _ (by decide)]

theorem Block.SameChain.dmax : c.dmax = b.dmax := by
  rw [Block.dmax, Block.dmax, Block.inChain, Block.inChain, h.rd _ _ (by decide), h.rd _ _ (by decide)]

theorem Block.SameChain.linkUp (p : Nat) : c.linkUp p = b.linkUp p := Block.linkUp_of_rd (h.rd _ _ (by unfold portObj; omega))

theorem Block.SameChain.armedDoms : c.armedDoms = b.armedDoms :=
  List.filter_congr fun d hd => by
    have hd8 := List.mem_range.1 hd
    simp only [Block.armed, Block.dstate, h.rd (0x5100 + d) 2 (by omega)]

theorem Block.SameChain.anyArmed : c.anyArmed = b.anyArmed := by
  have hports : c.portsWith 2 = b.portsWith 2 := List.filter_congr fun p hp => by
    rw [h.linkUp, Block.linkRole, Block.linkRole, h.rd _ _ (by unfold portObj; omega)]
  rw [Block.anyArmed, Block.anyArmed, h.armedDoms, hports]
  simp only [h.port]

theorem Block.SameChain.discoveryTree (found : List ChainMember) : discoveryTree c found = discoveryTree b found := by
  simp only [Machine.discoveryTree, h.rd 0x2200 1 (by decide), h.linkUp]

theorem Block.SameChain.discoveryStatus (found : List ChainMember) : discoveryStatus c found = discoveryStatus b found := by
  simp only [Machine.discoveryStatus, h.rd 0x2200 1 (by decide), h.isMaster, h.armedDoms, h.linkUp, h.port, h.discoveryTree]

theorem Block.SameChain.horizonStatus (mask copy refused : Bool) (v : Nat) :
    horizonStatus c mask copy refused v = horizonStatus b mask copy refused v := by
  simp only [Machine.horizonStatus, h.isMember, h.dmax, h.anyArmed]

end

theorem Block.Alike.sameChain {b c : Block} (h : c.Alike b) : b.SameChain c :=
  ⟨h.rd, (congrArg (fun b : Block => b.chain.ports) h.shape :)⟩

/-! ### The horizon and the chain mask (R373) -/

/-- A write that its checks let pass. -/
theorem horizon_served {s : State} {p : Path} {v : Nat} (mask refused : Bool) (hs : Safety.Serving s)
    (ha : Safety.Accepts s p 0x2220 (if mask then 2 else 1) v) (hst : horizonStatus s.blk mask (p == .sloe) refused v = stOK) :
    ∃ t, s.act true (fun _ b => horizonCommand p mask v refused b) = .next t ∧ t.blk.resp = Resp.plain stOK ∧
      t.blk.rd 0x2220 (if mask then 2 else 1) = v ∧
      Safety.Keeps (fun i r => i == 0x2220 && r == (if mask then 2 else 1)) s t := by
  have hsub : (if mask then 2 else 1) < 256 := by split <;> decide
  obtain ⟨c, hc⟩ : ∃ c, c = s.blk.counted.wr 0x2220 (if mask then 2 else 1) v := ⟨_, rfl⟩
  have hf : horizonWrite mask (p == .sloe) refused v s.blk.counted = (stOK, c) := by
    simp only [horizonWrite, s.blk.counted_alike.sameChain.horizonStatus, hst, if_true, hc]
  obtain ⟨o, ho⟩ := run_dictWith hs ha hf (by decide)
  refine ⟨_, (State.act_of_on rfl hs.1 _).trans (congrArg _ ho), ?_, ?_, Block.Within.keeps ?_⟩
  · rw [State.run_resp, Block.reply_resp]
  · rw [State.run_rd_of_ne _ _ _ _ (by omega), Block.reply_rd, hc, Block.rd_wr_of_lt _ _ _ ha.lt]
  · have hw : Block.Within (fun i r => i == 0x2220 && r == (if mask then 2 else 1)) s.blk c := by
      rw [hc]
      exact (s.blk.counted_alike.within _).wr _ hsub (by simp)
    exact hw.of_regs rfl rfl

/-- A write that is refused because a domain of the chain is armed. -/
theorem horizon_refused {s : State} {p : Path} {v : Nat} (mask refused : Bool) (hs : Safety.Serving s)
    (ha : Safety.Accepts s p 0x2220 (if mask then 2 else 1) v) (hst : horizonStatus s.blk mask (p == .sloe) refused v = stSTATE) :
    ∃ t, s.act true (fun _ b => horizonCommand p mask v refused b) = .next t ∧ t.blk.resp = Resp.plain stSTATE ∧
      Safety.Keeps (fun _ _ => false) s t := by
  have hf : horizonWrite mask (p == .sloe) refused v s.blk.counted = (stSTATE, s.blk.counted) := by
    simp only [horizonWrite, s.blk.counted_alike.sameChain.horizonStatus, hst]
    rfl
  obtain ⟨o, ho⟩ := run_dictWith hs ha hf (by decide)
  refine ⟨_, (State.act_of_on rfl hs.1 _).trans (congrArg _ ho), ?_, Block.Within.keeps ?_⟩
  · rw [State.run_resp, Block.reply_resp]
  · exact (s.blk.counted_alike.within _).of_regs rfl rfl

theorem horizonStatus_armed {b : Block} {mask copy refused : Bool} {v : Nat} (hown : b.isMember = false ∨ copy = true)
    (hv : mask = true ∨ (hMin b.dmax ≤ v ∧ v ≤ 4096)) (h : b.armedDoms ≠ [] ∨ b.anyArmed = true ∨ refused = true) :
    horizonStatus b mask copy refused v = stSTATE := by
  have harm : (b.anyArmed || refused) = true := by
    rcases h with h | h | h
    · simp [Block.anyArmed, h]
    · simp [h]
    · simp [h]
  have hmine : (b.isMember && !copy) = false := by
    rcases hown with h | h
    · simp [h]
    · simp [h]
  have hrange : (!mask && (decide (v < hMin b.dmax) || decide (4096 < v))) = false := by
    rcases hv with h | ⟨h1, h2⟩
    · simp [h]
    · simp [h1, h2]
  simp [horizonStatus, hmine, hrange, harm]

/-! ### Roles (R368) -/

/-- The roles touch the ports' role registers alone. -/
theorem setRoles_rd {i r : Nat} (h : i < 0x2210 ∧ r < 256 ∨ r < 256 ∧ r ≠ 8) (parent : Nat) (children : List Nat) (b : Block) :
    (setRoles parent children b).rd i r = b.rd i r := by
  refine forEach_keeps (fun c : Block => c.rd i r) (fun p hp c => ?_) b
  split
  · rfl
  · exact Block.rd_wr_of_ne _ _ (by have := List.mem_range.1 hp; unfold portObj; omega)

/-- The role that a port is given. -/
def giveRole (parent : Nat) (children : List Nat) (p : Nat) (b : Block) : Block :=
  if !b.linkUp p then b else b.wr (portObj p) 8 (if p = parent then 1 else if children.contains p then 2 else 3)

theorem giveRole_linkUp (parent : Nat) (children : List Nat) (p q : Nat) (b : Block) : (giveRole parent children p b).linkUp q = b.linkUp q := by
  refine Block.linkUp_of_rd ?_
  unfold giveRole
  split
  · rfl
  · exact Block.rd_wr_of_ne _ _ (by unfold portObj; omega)

theorem forEach_giveRole_parent (parent : Nat) (children : List Nat) (ps : List Nat) (b : Block) (hup : b.linkUp parent = true)
    (h : parent ∈ ps ∨ b.rd (portObj parent) 8 = 1) : (forEach ps (giveRole parent children) b).rd (portObj parent) 8 = 1 := by
  induction ps generalizing b with
  | nil =>
    rcases h with h | h
    · cases h
    · exact h
  | cons p ps ih =>
    refine ih (giveRole parent children p b) ((giveRole_linkUp ..).trans hup) ?_
    by_cases hp : p = parent
    · subst hp
      refine .inr ?_
      rw [giveRole, if_neg (by simp [hup]), if_pos rfl, Block.rd_wr_of_lt _ _ _ (by decide)]
    · rcases h with h | h
      · exact .inl ((List.mem_cons.1 h).resolve_left fun e => hp e.symm)
      · refine .inr (Eq.trans ?_ h)
        unfold giveRole
        split
        · rfl
        · exact Block.rd_wr_of_ne _ _ (by unfold portObj; omega)

theorem setRoles_parent {parent : Nat} {b : Block} (hp : parent < 4) (hup : b.linkUp parent = true) (children : List Nat) :
    (setRoles parent children b).rd (portObj parent) 8 = 1 :=
  forEach_giveRole_parent parent children (List.range 4) b hup (.inl (List.mem_range.2 hp))

theorem setRoles_keeps {γ : Type} {g : Block → γ} (hg : ∀ (b : Block) r, g { b with regs := r } = g b) (parent : Nat) (children : List Nat)
    (b : Block) : g (setRoles parent children b) = g b := by
  refine forEach_keeps g (fun p _ c => ?_) b
  split
  · rfl
  · exact hg c _

/-! ### The completion (R367) -/

/-- The master's registers of a chain that is FORMED: its depth, the master's ID, the modules and the horizon. -/
def chainFormed (dmax id n h : Nat) (b : Block) : Block :=
  let c := (((b.wr 0x2200 5 0).wr 0x2200 6 dmax).wr 0x2200 7 id).wr 0x2200 8 n
  (((c.wr 0x2220 3 (hMin dmax)).wr 0x2220 1 h).wr 0x2200 9 0xFF).wr 0x2200 0xA 3

theorem chainFormed_shown (dmax n h : Nat) {id : Nat} (hid : id < 2 ^ 64) (b : Block) :
    (chainFormed dmax id n h b).rd 0x2200 0xA = 3 ∧ (chainFormed dmax id n h b).rd 0x2200 9 = 0xFF ∧
      (chainFormed dmax id n h b).rd 0x2200 5 = 0 ∧ (chainFormed dmax id n h b).rd 0x2200 7 = id := by
  unfold chainFormed
  dsimp only
  refine ⟨Block.rd_wr_of_lt _ _ _ (by decide), ?_, ?_, ?_⟩
  · rw [Block.rd_wr_of_ne _ _ (by decide), Block.rd_wr_of_lt _ _ _ (by decide)]
  · iterate 7 rw [Block.rd_wr_of_ne _ _ (by decide)]
    exact Block.rd_wr_of_lt _ _ _ (show 0 < 2 ^ 64 by decide)
  · iterate 5 rw [Block.rd_wr_of_ne _ _ (by decide)]
    exact Block.rd_wr_of_lt _ _ _ hid

theorem discoveryComplete_master {b : Block} (x : ChainInfo) (hm : b.isMaster = true) (hst : b.rd 0x2200 4 = 1) :
    ∃ dmax n h children, discoveryComplete x b = setRoles 0xFF children ((chainFormed dmax (b.rd 0x2200 1) n h b).wr 0x2200 4 2) := by
  unfold discoveryComplete
  rw [if_pos hm, if_neg (by simp [hst])]
  exact ⟨_, _, _, _, rfl⟩

theorem discoveryComplete_master_facts {b : Block} (x : ChainInfo) (hm : b.isMaster = true) (hst : b.rd 0x2200 4 = 1) :
    (discoveryComplete x b).rd 0x2200 4 = 2 ∧ (discoveryComplete x b).rd 0x2200 0xA = 3 ∧ (discoveryComplete x b).rd 0x2200 9 = 0xFF ∧
      (discoveryComplete x b).rd 0x2200 5 = 0 ∧ (discoveryComplete x b).rd 0x2200 7 = b.rd 0x2200 1 ∧
      (discoveryComplete x b).chain = b.chain ∧ (discoveryComplete x b).server = b.server := by
  obtain ⟨dmax, n, h, children, he⟩ := discoveryComplete_master x hm hst
  obtain ⟨hA, h9, h5, h7⟩ := chainFormed_shown dmax n h (Block.rd_lt b 0x2200 1) b
  have hrd : ∀ r < 256, r ≠ 4 → (discoveryComplete x b).rd 0x2200 r = (chainFormed dmax (b.rd 0x2200 1) n h b).rd 0x2200 r := fun r hr hne => by
    rw [he, setRoles_rd (.inl ⟨by decide, hr⟩), Block.rd_wr_of_ne _ _ (by omega)]
  refine ⟨?_, (hrd _ (by decide) (by decide)).trans hA, (hrd _ (by decide) (by decide)).trans h9, (hrd _ (by decide) (by decide)).trans h5,
    (hrd _ (by decide) (by decide)).trans h7, ?_, ?_⟩
  · rw [he, setRoles_rd (.inl (by decide)), Block.rd_wr_of_lt _ _ _ (by decide)]
  · rw [he]
    exact setRoles_keeps (g := Block.chain) (fun _ _ => rfl) _ _ _
  · rw [he]
    exact setRoles_keeps (g := Block.server) (fun _ _ => rfl) _ _ _

/-- A member's registers of the place it takes. -/
def chainJoined (x : ChainInfo) (b : Block) : Block :=
  let c := (((b.wr 0x2200 5 (x.depth % 65536)).wr 0x2200 6 (x.dmax % 65536)).wr 0x2200 7 (x.masterId % 65536)).wr 0x2200 8 (x.modules % 65536)
  let c := ((c.wr 0x2220 3 (hMin x.dmax % 65536)).wr 0x2220 1 (x.horizon % 65536)).wr 0x2220 2 x.mask
  ((c.wr 0x2200 9 x.parent).wr 0x2200 4 2).wr 0x2200 0xA 1

theorem chainJoined_shown (x : ChainInfo) (b : Block) (hp : x.parent < 4) : (chainJoined x b).rd 0x2200 4 = 2 ∧ (chainJoined x b).rd 0x2200 0xA = 1 ∧
    (chainJoined x b).rd 0x2200 9 = x.parent ∧ (chainJoined x b).rd 0x2200 5 = x.depth % 65536 ∧
    (chainJoined x b).rd 0x2200 6 = x.dmax % 65536 ∧ (chainJoined x b).rd 0x2200 7 = x.masterId % 65536 := by
  unfold chainJoined
  dsimp only
  refine ⟨?_, Block.rd_wr_of_lt _ _ _ (by decide), ?_, ?_, ?_, ?_⟩
  · rw [Block.rd_wr_of_ne _ _ (by decide), Block.rd_wr_of_lt _ _ _ (by decide)]
  · iterate 2 rw [Block.rd_wr_of_ne _ _ (by decide)]
    exact Block.rd_wr_of_lt _ _ _ (by omega)
  · iterate 9 rw [Block.rd_wr_of_ne _ _ (by decide)]
    exact Block.rd_wr_of_lt _ _ _ (by omega)
  · iterate 8 rw [Block.rd_wr_of_ne _ _ (by decide)]
    exact Block.rd_wr_of_lt _ _ _ (by omega)
  · iterate 7 rw [Block.rd_wr_of_ne _ _ (by decide)]
    exact Block.rd_wr_of_lt _ _ _ (by omega)

theorem chainJoined_rd {i : Nat} (hi : 0x2221 ≤ i ∨ 0x2201 ≤ i ∧ i < 0x2220) {r : Nat} (hr : r < 256) (x : ChainInfo) (b : Block) :
    (chainJoined x b).rd i r = b.rd i r := by
  unfold chainJoined
  dsimp only
  iterate 10 rw [Block.rd_wr_of_ne _ _ (by omega)]

theorem discoveryComplete_member {b : Block} {x : ChainInfo} (hm : b.isMaster = false) (hp : x.parent < 4) (hup : b.linkUp x.parent = true)
    (harm : b.armedDoms = []) :
    ∃ ch port, discoveryComplete x b =
      setRoles x.parent x.children ({ chainJoined x b with chain := ch }.setPort x.parent port) := by
  have hgo : ¬ (4 ≤ x.parent || !b.linkUp x.parent || !b.armedDoms.isEmpty) = true := by simp [hup, harm]; omega
  unfold discoveryComplete
  rw [if_neg (by simp [hm]), if_neg hgo]
  exact ⟨_, _, rfl⟩

theorem discoveryComplete_member_facts {b : Block} {x : ChainInfo} (hm : b.isMaster = false) (hp : x.parent < 4)
    (hup : b.linkUp x.parent = true) (harm : b.armedDoms = []) :
    (∀ r < 256, (discoveryComplete x b).rd 0x2200 r = (chainJoined x b).rd 0x2200 r) ∧
      (discoveryComplete x b).rd (0x2210 + x.parent) 8 = 1 ∧ (discoveryComplete x b).server = b.server := by
  obtain ⟨ch, port, he⟩ := discoveryComplete_member hm hp hup harm
  obtain ⟨d, hd⟩ : ∃ d, d = chainJoined x b := ⟨_, rfl⟩
  obtain ⟨c, hc⟩ : ∃ c : Block, c = { d with chain := ch }.setPort x.parent port := ⟨_, rfl⟩
  rw [← hd, ← hc] at he
  have hrd : ∀ i r, c.rd i r = (chainJoined x b).rd i r := fun i r => by
    rw [hc, ← hd]
    rfl
  have hserver : c.server = b.server := by
    rw [hc, hd]
    rfl
  have hupc : c.linkUp x.parent = true := (Block.linkUp_of_rd ((hrd _ _).trans (chainJoined_rd (by unfold portObj; omega) (by decide) x b))).trans hup
  rw [he]
  exact ⟨fun r hr => (setRoles_rd (.inl ⟨by decide, hr⟩) ..).trans (hrd _ _), setRoles_parent hp hupc _,
    (setRoles_keeps (g := Block.server) (fun _ _ => rfl) _ _ _).trans hserver⟩

/-! ### The end of a discovery -/

theorem recordBlind_asked : RecordBlind (fun b => b.chain.asked.isNone) where
  lose b := by
    show (b.chain.asked.map _).isNone = _
    rw [Option.isNone_map]

/-- The response that was given last. -/
theorem respond_resp (p : Path) (back : ReplyTo) (idx sub : Nat) (x : Resp) (b : Block) : (respond p back idx sub x b).resp = x := by
  have hblind : RecordBlind Block.resp := {}
  cases back with
  | path => rfl
  | sdo client => rfl
  | mailbox tag =>
    show (sendResponse _ _).resp = _
    unfold sendResponse
    split
    · exact hblind.pushPacket ..
    · rfl
  | forwarded master no tag => rfl
  | nowhere => rfl

/-- The completion with what waited for it: forwarding entries are served and, on the master that discovered, lost requests answered. -/
def discoveryDone (x : ChainInfo) (b : Block) : Block :=
  let c := serveForwards (discoveryComplete x b)
  if c.isMaster && b.rd 0x2200 4 = 1 then forwardsLost c else c

/-- What the end of a discovery adds to the completion is answers and queue traffic. -/
theorem discoveryDone_keeps {γ : Type} {g : Block → γ} (hg : RecordBlind g) (hresp : ∀ b x, g (b.answer x) = g b)
    (hwait : ∀ (b : Block) w, g { b with server := { b.server with wait := w } } = g b)
    (hkept : ∀ (b : Block) k, g { b with server := { b.server with kept := k } } = g b)
    (hfwd : ∀ (b : Block) k, g { b with server := { b.server with fwd := k } } = g b) (x : ChainInfo) (b : Block) :
    g (discoveryDone x b) = g (discoveryComplete x b) := by
  have hserve : ∀ c, g (serveForwards c) = g c := fun c =>
    forEach_keeps g (fun i _ d => by
      dsimp only
      split
      · exact hg.toQueueBlind.serveWaiting ..
      · rfl) c
  have hlost : ∀ c, g (forwardsLost c) = g c := fun c =>
    (forEach_keeps g (fun f _ d => hg.respond hresp hwait hkept ..) _).trans (hfwd c _)
  unfold discoveryDone
  dsimp only
  split
  · exact (hlost _).trans (hserve _)
  · exact hserve _

theorem discoveryDone_rd (x : ChainInfo) (b : Block) {i r : Nat} (hr : r < 256) (hi : i ≠ 0x7080) :
    (discoveryDone x b).rd i r = (discoveryComplete x b).rd i r :=
  discoveryDone_keeps (recordBlind_rd hr (.inl hi)) (fun _ _ => rfl) (fun _ _ => rfl) (fun _ _ => rfl) (fun _ _ => rfl) x b

theorem discoveryEnd_none {b : Block} (mem : List Host.Cell) (x : ChainInfo) (h : b.chain.asked = none) :
    discoveryEnd mem x b = serveLater mem (discoveryDone x b) := by
  simp only [discoveryEnd, h]
  rfl

/-- A discovery that was asked for, as it completes. -/
def askedTaken (x : ChainInfo) (b : Block) : Block :=
  { b.wr 0x2200 4 1 with chain := { b.chain with asked := none, found := discoveryTree b x.found } }

theorem discoveryEnd_asked {b : Block} {q : Asked} (mem : List Host.Cell) (x : ChainInfo) (h : b.chain.asked = some q)
    (hst : b.rd 0x2200 4 = 1) (hok : discoveryStatus b x.found = stOK) :
    discoveryEnd mem x b = serveLater mem (respond q.path q.back 0x2200 3 (Resp.plain stOK) (discoveryDone x (askedTaken x b))) := by
  obtain ⟨c, hc⟩ : ∃ c : Block, c = { b.wr 0x2200 4 1 with chain := { b.chain with asked := none } } := ⟨_, rfl⟩
  have hsame : b.SameChain c := ⟨fun i r _ => by
    rw [hc]
    by_cases hk : i * 256 + r = 0x2200 * 256 + 4
    · have hself : (b.wr 0x2200 4 1).rd 0x2200 4 = 1 := Block.rd_wr_of_lt _ _ _ (by decide)
      have hkey : odKey i r = odKey 0x2200 4 := hk
      show (b.wr 0x2200 4 1).rd i r = b.rd i r
      rw [Block.rd, Block.reg, hkey, Block.rd, Block.reg, hkey]
      exact hself.trans hst.symm
    · show (b.wr 0x2200 4 1).rd i r = b.rd i r
      exact Block.rd_wr_of_ne _ _ hk, by rw [hc]⟩
  have htaken : askedTaken x b = { c with chain := { c.chain with found := discoveryTree c x.found } } := by
    rw [askedTaken, hsame.discoveryTree, hc]
  have he : discoveryEnd mem x b = serveLater mem (respond q.path q.back 0x2200 3 (Resp.plain (discoveryStatus c x.found))
      (if discoveryStatus c x.found = stOK then discoveryDone x { c with chain := { c.chain with found := discoveryTree c x.found } }
        else c.wr 0x2200 4 q.was)) := by
    unfold discoveryEnd
    rw [h, hc]
    rfl
  rw [he, hsame.discoveryStatus, hok, if_pos rfl, htaken]

theorem serveLater_nil {b : Block} (mem : List Host.Cell) (h : b.server.later = []) :
    serveLater mem b = { b with server := { b.server with later := [] } } := by
  unfold serveLater
  rw [h]
  rfl

/-- A discovery that its own master ends unasked, or a member's completion. -/
theorem discoveryEnd_unasked {b : Block} (mem : List Host.Cell) (x : ChainInfo) (h : b.chain.asked = none)
    (hl : (discoveryComplete x b).server.later = []) {i r : Nat} (hr : r < 256) (hi : i ≠ 0x7080) :
    (discoveryEnd mem x b).rd i r = (discoveryComplete x b).rd i r := by
  have hlater : (discoveryDone x b).server.later = [] :=
    (discoveryDone_keeps (g := fun c => c.server.later) {} (fun _ _ => rfl) (fun _ _ => rfl) (fun _ _ => rfl) (fun _ _ => rfl) x b).trans hl
  rw [discoveryEnd_none mem x h, serveLater_nil mem hlater]
  exact discoveryDone_rd x b hr hi

/-- The master's own discovery that was asked for. -/
theorem discoveryEnd_asked_facts {b : Block} {q : Asked} (mem : List Host.Cell) (x : ChainInfo) (hm : b.isMaster = true)
    (hst : b.rd 0x2200 4 = 1) (h : b.chain.asked = some q) (hl : b.server.later = []) (hok : discoveryStatus b x.found = stOK) :
    (discoveryEnd mem x b).rd 0x2200 4 = 2 ∧ (discoveryEnd mem x b).rd 0x2200 0xA = 3 ∧ (discoveryEnd mem x b).resp = Resp.plain stOK ∧
      (discoveryEnd mem x b).chain.found = discoveryTree b x.found ∧ (discoveryEnd mem x b).chain.asked = none := by
  obtain ⟨c, hc⟩ : ∃ c, c = askedTaken x b := ⟨_, rfl⟩
  have hcm : c.isMaster = true := by
    rw [hc]
    exact (congrArg (· == 1) (Block.rd_wr_of_ne b 1 (j := 0x2200) (r := 2) (i := 0x2200) (s := 4) (by decide))).trans hm
  have hcst : c.rd 0x2200 4 = 1 := by
    rw [hc]
    exact Block.rd_wr_of_lt b 0x2200 4 (show 1 < 2 ^ 64 by decide)
  obtain ⟨h4, hA, -, -, -, hchain, hserver⟩ := discoveryComplete_master_facts x hcm hcst
  obtain ⟨d, hd⟩ : ∃ d, d = respond q.path q.back 0x2200 3 (Resp.plain stOK) (discoveryDone x c) := ⟨_, rfl⟩
  have hend : discoveryEnd mem x b = serveLater mem d := by rw [discoveryEnd_asked mem x h hst hok, hd, hc]
  have hkeep : ∀ {γ : Type} (g : Block → γ), RecordBlind g → (∀ b x, g (b.answer x) = g b) →
      (∀ (b : Block) w, g { b with server := { b.server with wait := w } } = g b) →
      (∀ (b : Block) k, g { b with server := { b.server with kept := k } } = g b) →
      (∀ (b : Block) k, g { b with server := { b.server with fwd := k } } = g b) → g d = g (discoveryComplete x c) :=
    fun g hg h1 h2 h3 h4 => by
      rw [hd]
      exact (hg.respond h1 h2 h3 ..).trans (discoveryDone_keeps hg h1 h2 h3 h4 x c)
  have hlater : d.server.later = [] := by
    rw [hkeep (fun c => c.server.later) {} (fun _ _ => rfl) (fun _ _ => rfl) (fun _ _ => rfl) (fun _ _ => rfl), hserver, hc]
    exact hl
  have hrd : ∀ r < 256, d.rd 0x2200 r = (discoveryComplete x c).rd 0x2200 r := fun r hr =>
    hkeep _ (recordBlind_rd hr (.inl (by decide))) (fun _ _ => rfl) (fun _ _ => rfl) (fun _ _ => rfl) (fun _ _ => rfl)
  have hresp : d.resp = Resp.plain stOK := by
    rw [hd]
    exact respond_resp ..
  have hfound : d.chain.found = discoveryTree b x.found := by
    rw [hkeep (fun c => c.chain.found) {} (fun _ _ => rfl) (fun _ _ => rfl) (fun _ _ => rfl) (fun _ _ => rfl), hchain, hc]
    rfl
  have hasked : d.chain.asked.isNone = true := by
    rw [hkeep (fun c => c.chain.asked.isNone) recordBlind_asked (fun _ _ => rfl) (fun _ _ => rfl) (fun _ _ => rfl) (fun _ _ => rfl), hchain, hc]
    rfl
  rw [hend, serveLater_nil mem hlater]
  exact ⟨(hrd _ (by decide)).trans h4, (hrd _ (by decide)).trans hA, hresp, hfound, Option.isNone_iff_eq_none.1 hasked⟩

/-- The master's discovery that its checks let pass. -/
theorem discovery_served {s : State} {p : Path} {found : List ChainMember} (hs : Safety.Serving s) (ha : Safety.Accepts s p 0x2200 3 1)
    (hst : discoveryStatus s.blk found = stOK) :
    ∃ t, exec (.discovery p 1 found) s = .next t ∧ t.blk.resp = Resp.plain stOK ∧ t.blk.rd 0x2200 4 = 1 ∧
      t.blk.chain.found = discoveryTree s.blk found ∧ Safety.Keeps (fun i r => i == 0x2200 && r == 4) s t := by
  have hsame := s.blk.counted_alike.sameChain
  obtain ⟨w, hw⟩ : ∃ w, w = s.blk.counted.wr 0x2200 4 1 := ⟨_, rfl⟩
  obtain ⟨c, hc⟩ : ∃ c : Block, c = { w with chain := { w.chain with found := discoveryTree s.blk found } } := ⟨_, rfl⟩
  have hf : (if 1 % 2 = 1 then discovery found s.blk.counted else (stOK, s.blk.counted)) = (stOK, c) := by
    rw [if_pos rfl, discovery, hsame.discoveryStatus, hst, if_pos rfl, hsame.discoveryTree, hc, hw]
    rfl
  obtain ⟨o, ho⟩ := run_dictWith (f := fun b => if 1 % 2 = 1 then discovery found b else (stOK, b)) hs ha hf (by decide)
  have hrd : c.rd 0x2200 4 = 1 := by
    rw [hc, hw]
    exact Block.rd_wr_of_lt s.blk.counted 0x2200 4 (show 1 < 2 ^ 64 by decide)
  refine ⟨_, (State.act_of_on rfl hs.1 _).trans (congrArg _ ho), ?_, ?_, ?_, Block.Within.keeps ?_⟩
  · rw [State.run_resp, Block.reply_resp]
  · rw [State.run_rd_of_ne _ _ _ _ (by decide), Block.reply_rd, hrd]
  · rw [State.run_chain, hc]
    rfl
  · have hin : Block.Within (fun i r => i == 0x2200 && r == 4) s.blk w := by
      rw [hw]
      exact (s.blk.counted_alike.within _).wr _ (by decide) rfl
    have hin' : Block.Within (fun i r => i == 0x2200 && r == 4) s.blk c := by
      rw [hc]
      exact hin.of_regs rfl rfl
    exact hin'.of_regs rfl rfl

/-- Settles O34: the master's discovery and a member's completion write the chain's registers; the horizon and the chain mask pass
or fail by their checks. -/
theorem chainsAreDiscoveredAndConfigured : Obligations.ChainsAreDiscoveredAndConfigured := by
  refine ⟨?_, ?_, ?_, ?_, ?_, ?_, ?_, ?_⟩
  · intro s p found hs ha hst
    exact discovery_served hs ha hst
  · intro s x q hon hm hst hasked hl hok
    obtain ⟨h4, hA, hresp, hfound, hnone⟩ := discoveryEnd_asked_facts s.mem x hm hst hasked hl hok
    exact ⟨_, State.act_of_on rfl hon _, (State.run_rd_of_ne _ _ _ _ (by decide)).trans h4,
      (State.run_rd_of_ne _ _ _ _ (by decide)).trans hA, (State.run_resp ..).trans hresp,
      (congrArg Chain.found (State.run_chain ..)).trans hfound, (congrArg Chain.asked (State.run_chain ..)).trans hnone⟩
  · intro s x hon hm hst hasked hl
    obtain ⟨h4, hA, h9, h5, h7, -, hserver⟩ := discoveryComplete_master_facts x hm hst
    have hrd : ∀ r < 256, (discoveryEnd s.mem x s.blk).rd 0x2200 r = (discoveryComplete x s.blk).rd 0x2200 r := fun r hr =>
      discoveryEnd_unasked s.mem x hasked ((congrArg Server.later hserver).trans hl) hr (by decide)
    exact ⟨_, State.act_of_on rfl hon _, (State.run_rd_of_ne _ _ _ _ (by decide)).trans ((hrd _ (by decide)).trans h4),
      (State.run_rd_of_ne _ _ _ _ (by decide)).trans ((hrd _ (by decide)).trans hA),
      (State.run_rd_of_ne _ _ _ _ (by decide)).trans ((hrd _ (by decide)).trans h9),
      (State.run_rd_of_ne _ _ _ _ (by decide)).trans ((hrd _ (by decide)).trans h5),
      (State.run_rd_of_ne _ _ _ _ (by decide)).trans ((hrd _ (by decide)).trans h7)⟩
  · intro s x hon hm hp hup harm hasked hl
    obtain ⟨hregs, h8, hserver⟩ := discoveryComplete_member_facts hm hp hup harm
    obtain ⟨h4, hA, h9, h5, h6, h7⟩ := chainJoined_shown x s.blk hp
    have hend : ∀ i r, r < 256 → i ≠ 0x7080 → (discoveryEnd s.mem x s.blk).rd i r = (discoveryComplete x s.blk).rd i r := fun i r hr hi =>
      discoveryEnd_unasked s.mem x hasked ((congrArg Server.later hserver).trans hl) hr hi
    have hrd : ∀ r < 256, (s.run (discoveryEnd · x)).blk.rd 0x2200 r = (chainJoined x s.blk).rd 0x2200 r := fun r hr =>
      (State.run_rd_of_ne _ _ _ _ (by omega)).trans ((hend _ _ hr (by decide)).trans (hregs r hr))
    exact ⟨_, State.act_of_on rfl hon _, (hrd _ (by decide)).trans h4, (hrd _ (by decide)).trans hA, (hrd _ (by decide)).trans h9,
      (hrd _ (by decide)).trans h5, (hrd _ (by decide)).trans h6, (hrd _ (by decide)).trans h7,
      (State.run_rd_port _ _ hp (by decide)).trans ((hend _ _ (by decide) (by omega)).trans h8)⟩
  · intro s p v refused hs ha hst
    exact horizon_served false refused hs ha hst
  · intro s p v refused hs ha hst
    exact horizon_served true refused hs ha hst
  · intro s p v refused hs ha hown hlo hhi harm
    exact horizon_refused false refused hs ha (horizonStatus_armed (hown.imp_right fun h => by simp [h]) (.inr ⟨hlo, hhi⟩) harm)
  · intro s p v refused hs ha hown harm
    exact horizon_refused true refused hs ha (horizonStatus_armed (hown.imp_right fun h => by simp [h]) (.inl rfl) harm)

end Sys2Proof.Machine

/-! # BAR4 (R211, R443, R444) -/

namespace Sys2Proof.Machine

/-- Nothing of a module that serves has to wake for a BAR4 access. -/
theorem apertureWake_of_serving {s : State} (hs : Safety.Serving s) : apertureWake s.blk = s.blk ∧ s.blk.asleepInHold = false := by
  obtain ⟨_, _, hps, hentry, _⟩ := hs
  have hawake : awake s.blk.requestCode s.blk = s.blk := by simp [awake, hps, hentry]
  exact ⟨by rw [apertureWake, hawake, ite_self], by simp [Block.asleepInHold, hps]⟩

theorem linkUse_keeps (b : Block) : (linkUse b).regs = b.regs ∧ (linkUse b).mops = b.mops := by
  obtain ⟨l, hl⟩ := linkUse_shape b
  rw [hl]
  exact ⟨rfl, rfl⟩

/-- A BAR4 read without an uncorrectable error: data leaves the module, and nothing else happens but that the link is in use. -/
theorem apertureRead_of_serving {s : State} (hs : Safety.Serving s) (hup : s.blk.barUp = true) (hm : s.blk.mops = []) {x len : Nat}
    (hpos : 1 ≤ len) (hlen : len ≤ 4096) :
    apertureRead s.mem x len [] s.blk =
      (linkUse s.blk).emit (.bar4Data x ((List.range len).map (fun i => memRead s.mem (s.blk.apertureAddr x + i))) false) := by
  obtain ⟨hw, hasleep⟩ := apertureWake_of_serving hs
  obtain ⟨_, hrun, _⟩ := hs
  have hready : s.blk.ready = true := by simp [Block.ready, hrun]
  obtain ⟨l, hl⟩ := linkUse_shape s.blk
  have hup' : (linkUse s.blk).barUp = true := by rw [hl]; exact hup
  have hready' : (linkUse s.blk).ready = true := by rw [hl]; exact hready
  have haddr : (linkUse s.blk).apertureAddr x = s.blk.apertureAddr x := by rw [hl]; rfl
  unfold apertureRead
  dsimp only
  rw [hw, if_neg (by omega), hasleep, hup, hm]
  simp only [bar4Read, hup', hready', haddr, Nat.min_eq_left hlen, memApply_nil, List.filter_nil, List.isEmpty_nil, if_true, Bool.not_true,
    Bool.false_eq_true, if_false]
  rfl

/-- A BAR4 write reaches the store. -/
theorem apertureWrite_of_serving {s : State} (hs : Safety.Serving s) (hup : s.blk.barUp = true) {x : Nat} {data : List Byte}
    (hlen : data.length ≤ 4096) :
    apertureWrite x data .good s.blk = storeWritePart (s.blk.apertureAddr x) data s.blk := by
  obtain ⟨hw, hasleep⟩ := apertureWake_of_serving hs
  obtain ⟨_, hrun, _⟩ := hs
  have hready : s.blk.ready = true := by simp [Block.ready, hrun]
  have hecrc : s.blk.ecrcFails .good = false := by simp [Block.ecrcFails]
  unfold apertureWrite
  dsimp only
  rw [hw, hasleep]
  simp [bar4Write, hup, hready, hecrc, List.take_of_length_le hlen]

/-- A write into the stimulus region is one change of the contents; its unit is no longer CLEAR. -/
theorem storeWritePart_stimulus {a : Nat} {data : List Byte} {b : Block} (h : b.regionOfUnit (a / unitBytes) = some 8) :
    (storeWritePart a data b).mops = b.mops ++ [.write a data] ∧ (storeWritePart a data b).regs = b.regs ∧
      (storeWritePart a data b).unit (a / unitBytes) ≠ 0 := by
  unfold storeWritePart
  dsimp only
  rw [if_neg (by simp [h])]
  split
  · exact ⟨rfl, rfl, by rw [show ∀ (c : Block) m, ({ c with mops := m } : Block).unit (a / unitBytes) = c.unit (a / unitBytes) from
      fun _ _ => rfl, Block.unit_setUnit_self]; decide⟩
  · next hu => exact ⟨rfl, rfl, hu⟩

/-- A write elsewhere is discarded and counted. -/
theorem storeWritePart_elsewhere {a : Nat} {data : List Byte} {b : Block} (h : b.regionOfUnit (a / unitBytes) ≠ some 8) :
    storeWritePart a data b = discardWrite (a / unitBytes) b := by
  unfold storeWritePart
  exact if_pos (by simpa using h)

theorem discardWrite_shown (u : Nat) (b : Block) :
    (discardWrite u b).bget 0xA04 0 = 1 ∧ (discardWrite u b).bget 0xA04 1 = satTo 16 (b.bget 0xA04 1 + 1) := by
  unfold discardWrite
  constructor
  · simp [Block.bget_bset]
  · simp [Block.bget_bset]

theorem discardWrite_keeps (u : Nat) (b : Block) :
    (discardWrite u b).regs = b.regs ∧ (discardWrite u b).mops = b.mops ∧ (discardWrite u b).units = b.units := ⟨rfl, rfl, rfl⟩

/-- The contents after a write: its octets at their addresses, every other octet as before. -/
theorem memRead_memWrite_outside {mem : List Host.Cell} {a k : Nat} {xs : List Byte} (h : k < a ∨ a + xs.length ≤ k) :
    memRead (memWrite mem a xs) k = memRead mem k :=
  h.elim (memRead_memWrite_lt mem a k xs) (memRead_memWrite_ge mem a k xs)

/-- Settles O25: reads give the contents, writes into the stimulus region land, others are discarded. -/
theorem bar4ReachesTheStore : Obligations.Bar4ReachesTheStore := by
  refine ⟨?_, ?_, ?_⟩
  · intro s x len hs hup hm hpos hwf
    have hlen : x < 0x1000000000 ∧ x % 4096 + len ≤ 4096 := by simpa [Instr.wf] using hwf
    have he := apertureRead_of_serving hs hup hm hpos (x := x) (len := len) (by omega)
    have hregs : (apertureRead s.mem x len [] s.blk).regs = s.blk.regs := (congrArg Block.regs he).trans (linkUse_keeps s.blk).1
    have hmops : (apertureRead s.mem x len [] s.blk).mops = s.blk.mops := (congrArg Block.mops he).trans (linkUse_keeps s.blk).2
    refine ⟨_, State.act_of_on hwf hs.1 _, State.run_out_mem ?_, ?_, State.run_keeps ?_ ?_⟩
    · rw [he]
      exact List.mem_cons_self
    · rw [State.run_mem, hmops, hm, memApply_nil]
    · exact fun i r _ _ _ => Block.reg_of_regs hregs i r
    · exact hmops
  · intro s x data hs hup hm hwf hreg
    have hlen : x < 0x1000000000 ∧ x % 4096 + data.length ≤ 4096 := by simpa [Instr.wf] using hwf
    have he := apertureWrite_of_serving hs hup (x := x) (data := data) (by omega)
    obtain ⟨hmops, hregs, hunit⟩ := storeWritePart_stimulus (data := data) hreg
    rw [← he] at hmops hregs hunit
    have hmem : (s.run (fun _ b => apertureWrite x data .good b)).mem = memWrite s.mem (s.blk.apertureAddr x) data := by
      rw [State.run_mem, hmops, hm]
      rfl
    refine ⟨_, State.act_of_on hwf hs.1 _, ?_, ?_, ?_, ?_, rfl⟩
    · intro i y hy
      rw [hmem]
      exact memRead_memWrite_at _ _ _ _ _ hy
    · intro k hk
      rw [hmem]
      exact memRead_memWrite_outside hk
    · rw [State.run_unit]
      exact hunit
    · intro i r hr hrep _ _
      exact (State.run_reg s _ i r hr hrep).trans (Block.reg_of_regs hregs i r)
  · intro s x data hs hup hm hwf hreg
    have hlen : x < 0x1000000000 ∧ x % 4096 + data.length ≤ 4096 := by simpa [Instr.wf] using hwf
    have he := (apertureWrite_of_serving hs hup (x := x) (data := data) (by omega)).trans (storeWritePart_elsewhere hreg)
    obtain ⟨h0, h1⟩ := discardWrite_shown (s.blk.apertureAddr x / unitBytes) s.blk
    rw [← he] at h0 h1
    obtain ⟨hregs, hmops, hunits⟩ := discardWrite_keeps (s.blk.apertureAddr x / unitBytes) s.blk
    rw [← he] at hregs hmops hunits
    refine ⟨_, State.act_of_on hwf hs.1 _, ?_, ?_, ?_, ?_, State.run_keeps ?_ hmops⟩
    · rw [State.run_mem, hmops, hm, memApply_nil]
    · exact (State.run_bget _ _ (.inl (by decide))).trans h0
    · exact (State.run_bget _ _ (.inl (by decide))).trans h1
    · rw [State.run_units, hunits]
    · exact fun i r _ _ _ => Block.reg_of_regs hregs i r

end Sys2Proof.Machine

/-! # Drivers and pattern engines (R304, R305, R312, R314, R318, R319, R323) -/

namespace Sys2Proof.Machine

/-! ### Masks -/

theorem maskOf_cons (i : Nat) (is : List Nat) : maskOf (i :: is) = putBit (maskOf is) i true := by
  unfold putBit
  rw [maskOf]
  cases h : bit (maskOf is) i
  · rfl
  · rfl

theorem bit_maskOf (xs : List Nat) (i : Nat) : bit (maskOf xs) i = xs.contains i := by
  induction xs with
  | nil => simp [maskOf, bit]
  | cons x xs ih =>
    rw [maskOf_cons, List.contains_cons]
    by_cases h : i = x
    · subst h
      simp [bit_putBit_self]
    · rw [bit_putBit_ne _ h, ih]
      simp [h]

theorem maskOf_lt {n : Nat} (xs : List Nat) (h : ∀ x ∈ xs, x < n) : maskOf xs < 2 ^ n := by
  induction xs with
  | nil => exact Nat.two_pow_pos n
  | cons x xs ih =>
    rw [maskOf_cons]
    exact putBit_lt (ih fun y hy => h y (List.mem_cons_of_mem _ hy)) (h x List.mem_cons_self) true

/-- The bits of a word below `n` that a test lets pass. -/
theorem bit_maskOf_setBits (n w : Nat) (p : Nat → Bool) {m : Nat} (hm : m < n) :
    bit (maskOf ((setBits n w).filter p)) m = (bit w m && p m) := by
  rw [bit_maskOf, Bool.eq_iff_iff]
  simp [setBits, hm, and_comm]

theorem maskOf_setBits_lt (w : Nat) (p : Nat → Bool) : maskOf ((setBits 16 w).filter p) < 2 ^ 64 :=
  Nat.lt_trans (maskOf_lt _ fun _ hx => List.mem_range.1 (List.mem_filter.1 (List.mem_filter.1 hx).1).1)
    (show 2 ^ 16 < 2 ^ 64 by decide)

theorem Block.Within.forEach {α : Type} {R : Nat → Nat → Bool} {a b : Block} {xs : List α} {f : α → Block → Block}
    (hf : ∀ x ∈ xs, ∀ c, Block.Within R c (f x c)) (h : Block.Within R a b) : Block.Within R a (forEach xs f b) :=
  List.foldlRecOn xs (fun b x => f x b) (motive := fun c => Block.Within R a c) h (fun c hc x hx => hc.trans (hf x hx c))

/-! ### The drivers of a pod (R304) -/

/-- The lanes of a pod that the conditions of R304 let drive. -/
def driversMay (n : Nat) (b : Block) : Nat :=
  if b.driveMode (b.podDom n) && b.rd 0x2002 2 < 2 && !bit (b.rd 0x2005 1) 2 then
    maskOf ((setBits 16 (b.rd (driveObj n) 2)).filter (fun m => !bit (b.rd (driveObj n) 5) m)) else 0

theorem driversMay_lt (n : Nat) (b : Block) : driversMay n b < 2 ^ 64 := by
  unfold driversMay
  split
  · exact maskOf_setBits_lt _ _
  · decide

theorem bit_driversMay {n m : Nat} (hm : m < 16) (b : Block) :
    bit (driversMay n b) m = (b.driveMode (b.podDom n) && decide (b.rd 0x2002 2 < 2) && !bit (b.rd 0x2005 1) 2 &&
      bit (b.rd (driveObj n) 2) m && !bit (b.rd (driveObj n) 5) m) := by
  unfold driversMay
  split
  · next h => rw [h, bit_maskOf_setBits _ _ _ hm, Bool.true_and]
  · next h =>
    rw [Bool.not_eq_true] at h
    rw [h]
    simp [bit]

/-- A lane's driver follows its enable. -/
def driverFollow (n old new m : Nat) (b : Block) : Block :=
  if bit new m && !bit old m then b.setDriver (16 * n + m) { b.driver (16 * n + m) with rest := idleLevel b (16 * n + m) }
  else if !bit new m && bit old m then b.setDriver (16 * n + m) Driver.reset else b

theorem refreshDrivers_eq (n : Nat) (b : Block) : ∃ c, (c = b.wr (driveObj n) 4 (driversMay n b) ∨ c = cutVisit n (b.wr (driveObj n) 4 (driversMay n b))) ∧
    refreshDrivers n b = forEach (List.range 16) (driverFollow n (b.rd (driveObj n) 4) (driversMay n b)) c := by
  obtain ⟨d, hd⟩ : ∃ d, d = b.wr (driveObj n) 4 (driversMay n b) := ⟨_, rfl⟩
  have he : refreshDrivers n b = forEach (List.range 16) (driverFollow n (b.rd (driveObj n) 4) (driversMay n b))
      (if bit (driversMay n b) ((d.pod n).visit / 2) then cutVisit n d else d) := by
    rw [hd]
    rfl
  rw [← hd, he]
  split
  · exact ⟨_, .inr rfl, rfl⟩
  · exact ⟨_, .inl rfl, rfl⟩

/-- The following of the drivers changes drivers alone. -/
theorem driverFollow_keeps {γ : Type} {g : Block → γ} (hg : ∀ (b : Block) k x, g (b.setDriver k x) = g b) (n old new m : Nat) (b : Block) :
    g (driverFollow n old new m b) = g b := by
  unfold driverFollow
  split
  · exact hg ..
  · split
    · exact hg ..
    · rfl

theorem refreshDrivers_own (n : Nat) (b : Block) (r : Nat) :
    (refreshDrivers n b).rd (driveObj n) r = if r = 4 then driversMay n b else b.rd (driveObj n) r := by
  obtain ⟨c, hc, he⟩ := refreshDrivers_eq n b
  have hcr : c.rd (driveObj n) r = (b.wr (driveObj n) 4 (driversMay n b)).rd (driveObj n) r := by
    rcases hc with hc | hc
    · rw [hc]
    · rw [hc, cutVisit_rd]
  rw [he, forEach_keeps (fun d : Block => d.rd (driveObj n) r) (fun m _ d =>
    driverFollow_keeps (g := fun d : Block => d.rd (driveObj n) r) (by intros; rfl) n _ _ m d) c, hcr]
  split
  · next h => rw [h, Block.rd_wr_of_lt _ _ _ (driversMay_lt n b)]
  · next h => exact Block.rd_wr_of_ne _ _ (by omega)

theorem refreshDrivers_driver {n l : Nat} (hl : l / 16 ≠ n) (b : Block) : (refreshDrivers n b).driver l = b.driver l := by
  obtain ⟨c, hc, he⟩ := refreshDrivers_eq n b
  have hcd : c.driver l = b.driver l := by
    rcases hc with hc | hc
    · rw [hc]; rfl
    · rw [hc]; rfl
  rw [he, ← hcd]
  refine forEach_keeps (fun d : Block => d.driver l) (fun m hm d => ?_) c
  have hne : l ≠ 16 * n + m := by
    have := List.mem_range.1 hm
    omega
  unfold driverFollow
  split
  · exact Block.driver_setDriver_ne _ _ hne
  · split
    · exact Block.driver_setDriver_ne _ _ hne
    · rfl

theorem refreshDrivers_within {R : Nat → Nat → Bool} {a b : Block} {n : Nat} (h : Block.Within R a b) (hR : R (driveObj n) 4 = true) :
    Block.Within R a (refreshDrivers n b) := by
  obtain ⟨c, hc, he⟩ := refreshDrivers_eq n b
  have hw : Block.Within R a (b.wr (driveObj n) 4 (driversMay n b)) := h.wr _ (by decide) hR
  have hcw : Block.Within R a c := by
    rcases hc with hc | hc
    · exact hc ▸ hw
    · rw [hc]
      exact hw.of_regs rfl rfl
  rw [he]
  refine .forEach (fun m _ d => ?_) hcw
  exact (Block.Within.refl R d).of_regs (driverFollow_keeps (by intros; rfl) n _ _ m d) (driverFollow_keeps (by intros; rfl) n _ _ m d)

/-! ### Writes of the drivers' objects (R304, R305, R319, R321) -/

theorem driveObjects_plain : ∀ k < 32, ∀ sub ∈ [2, 3, 6], isFlag (0x3800 + k) sub = false ∧ clearedBy (0x3800 + k) sub = none := by
  decide +kernel

theorem chapterWrite_drive {n sub : Nat} (hn : n < 32) (hsub : sub ∈ [2, 3, 6]) (p : Path) (mem : List Host.Cell) (v : Nat) (b : Block) :
    chapterWrite p mem (0x3800 + n) sub v b = stimWrite (0x3800 + n) sub v b := by
  obtain ⟨hflag, hclear⟩ := driveObjects_plain n hn sub hsub
  rw [chapterWrite_of_probe hflag hclear p mem v b (by omega), if_neg (by omega)]

theorem stimWrite_enable {n : Nat} (hn : n < 32) (v : Nat) (b : Block) :
    stimWrite (0x3800 + n) 2 v b = (stOK, refreshDrivers n (b.wr (0x3800 + n) 2 v)) := by
  rw [stimWrite, if_pos (by omega), Nat.add_sub_cancel_left]
  rfl

theorem stimWrite_idle {n : Nat} (hn : n < 32) (v : Nat) (b : Block) : stimWrite (0x3800 + n) 3 v b = (stOK, idleWrite n v b) := by
  rw [stimWrite, if_pos (by omega), Nat.add_sub_cancel_left]
  rfl

theorem stimWrite_reenable {n : Nat} (hn : n < 32) (v : Nat) (b : Block) : stimWrite (0x3800 + n) 6 v b = (stOK, driverReenable n v b) := by
  rw [stimWrite, if_pos (by omega), Nat.add_sub_cancel_left]
  rfl

/-- A register of the drivers after a run. -/
theorem State.run_rd_drive (s : State) (f : List Host.Cell → Block → Block) {n r : Nat} (hn : n < 32) (hr : r < 256) :
    (s.run f).blk.rd (0x3800 + n) r = (f s.mem s.blk).rd (0x3800 + n) r := State.run_rd_of_ne _ _ _ _ (by omega)

theorem Block.driverOn_of_rd {b : Block} {n m w : Nat} (hm : m < 16) (h : b.rd (0x3800 + n) 4 = w) : b.driverOn (16 * n + m) = bit w m := by
  rw [Block.driverOn, show (16 * n + m) / 16 = n by omega, show (16 * n + m) % 16 = m by omega, h]

theorem Block.Alike.driveMode {b c : Block} (h : c.Alike b) {t : Nat} : c.driveMode t = b.driveMode t := by
  by_cases ht : t < 8
  · simp only [Block.driveMode, h.mode (show t < 256 by omega), Block.safeOn, h.rd (0x6840 + t) 3 (by omega)]
  · simp [Block.driveMode, ht]

/-- What the conditions of R304 read beside the enable register, a write of that register leaves. -/
theorem driveMode_wr {n sub v : Nat} (hn : n < 32) (hs : sub < 256) (b : Block) (t : Nat) :
    (b.wr (0x3800 + n) sub v).driveMode t = b.driveMode t := by
  by_cases ht : t < 8
  · simp only [Block.driveMode, Block.mode, Block.safeOn]
    rw [Block.rd_wr_of_ne _ _ (by omega), Block.rd_wr_of_ne _ _ (by omega)]
  · simp [Block.driveMode, ht]

theorem driveEnable_served {s : State} {p : Path} {n v m : Nat} (hs : Safety.Serving s) (hn : n < 32) (hm : m < 16)
    (ha : Safety.Accepts s p (0x3800 + n) 2 v) :
    (s.put p (0x3800 + n) 2 v).blk.resp = Resp.plain stOK ∧ (s.put p (0x3800 + n) 2 v).blk.rd (0x3800 + n) 2 = v ∧
      (s.put p (0x3800 + n) 2 v).blk.driverOn (16 * n + m) = (s.blk.driveMode (s.blk.podDom n) && !bit (s.blk.rd 0x2005 1) 2 && bit v m &&
        !bit (s.blk.rd (0x3800 + n) 5) m) ∧
      (∀ l, l / 16 ≠ n → (s.put p (0x3800 + n) 2 v).blk.driver l = s.blk.driver l) ∧
      Safety.Keeps (fun i r => i == 0x3800 + n && (r == 2 || r == 4)) s (s.put p (0x3800 + n) 2 v) := by
  obtain ⟨o, hrun⟩ := State.put_eq hs ha ((chapterWrite_drive hn (by decide) ..).trans (stimWrite_enable hn v _)) (by decide)
  obtain ⟨_, _, hps, _⟩ := hs
  have hal := s.blk.counted_alike
  obtain ⟨w, hw⟩ : ∃ w, w = s.blk.counted.wr (0x3800 + n) 2 v := ⟨_, rfl⟩
  obtain ⟨c, hc⟩ : ∃ c, c = refreshDrivers n w := ⟨_, rfl⟩
  rw [← hw, ← hc] at hrun
  have hwr : ∀ i r, i * 256 + r ≠ (0x3800 + n) * 256 + 2 → i * 256 + r ≠ 0x1E1001 → w.rd i r = s.blk.rd i r := fun i r h1 h2 => by
    rw [hw, Block.rd_wr_of_ne _ _ h1, hal.rd _ _ h2]
  have hw2 : w.rd (driveObj n) 2 = v := by rw [hw]; exact Block.rd_wr_of_lt _ _ _ ha.lt
  have hpod : w.podDom n = s.blk.podDom n := hwr _ _ (by omega) (by omega)
  have hmode : ∀ t, w.driveMode t = s.blk.driveMode t := fun t => by rw [hw, driveMode_wr hn (by decide), hal.driveMode]
  have hc2 : c.rd (0x3800 + n) 2 = v := by rw [hc]; exact (refreshDrivers_own n w _).trans hw2
  have hc4 : c.rd (0x3800 + n) 4 = driversMay n w := by rw [hc]; exact refreshDrivers_own n w _
  have hps' : w.rd 0x2002 2 = 0 := (hwr _ _ (by omega) (by omega)).trans hps
  rw [hrun]
  refine ⟨by rw [State.run_resp, Block.reply_resp], (State.run_rd_drive _ _ hn (by decide)).trans hc2, ?_, ?_, Block.Within.keeps ?_⟩
  · rw [Block.driverOn_of_rd hm ((State.run_rd_drive _ _ hn (by decide)).trans hc4), bit_driversMay hm, hpod, hmode, hps', hw2,
      hwr 0x2005 1 (by omega) (by omega), show w.rd (driveObj n) 5 = s.blk.rd (0x3800 + n) 5 from hwr _ _ (by omega) (by omega)]
    simp
  · intro l hl
    rw [State.run_driver]
    show c.driver l = _
    rw [hc, refreshDrivers_driver hl, hw]
    rfl
  · have hin : Block.Within (fun i r => i == 0x3800 + n && (r == 2 || r == 4)) s.blk w := by
      rw [hw]
      exact (hal.within _).wr _ (by decide) (by simp)
    have hin' : Block.Within (fun i r => i == 0x3800 + n && (r == 2 || r == 4)) s.blk c := hc ▸ refreshDrivers_within hin (by simp [driveObj])
    exact hin'.of_regs rfl rfl

/-- Re-enabled lanes are no longer short-off. -/
theorem driverReenable_served {s : State} {p : Path} {n v m : Nat} (hs : Safety.Serving s) (hn : n < 32) (hm : m < 16)
    (ha : Safety.Accepts s p (0x3800 + n) 6 v) :
    (s.put p (0x3800 + n) 6 v).blk.resp = Resp.plain stOK ∧
      bit ((s.put p (0x3800 + n) 6 v).blk.rd (0x3800 + n) 5) m = (bit (s.blk.rd (0x3800 + n) 5) m && !bit v m) ∧
      Safety.Keeps (fun i r => i == 0x3800 + n && (r == 4 || r == 5)) s (s.put p (0x3800 + n) 6 v) := by
  obtain ⟨o, hrun⟩ := State.put_eq hs ha ((chapterWrite_drive hn (by decide) ..).trans (stimWrite_reenable hn v _)) (by decide)
  have hal := s.blk.counted_alike
  have hoff : s.blk.counted.rd (driveObj n) 5 = s.blk.rd (0x3800 + n) 5 := hal.rd _ _ (by unfold driveObj; omega)
  obtain ⟨w, hw⟩ : ∃ w, w = s.blk.counted.wr (driveObj n) 5 (maskOf ((setBits 16 (s.blk.rd (0x3800 + n) 5)).filter (fun m => !bit v m))) :=
    ⟨_, rfl⟩
  obtain ⟨c, hc⟩ : ∃ c, c = refreshDrivers n w := ⟨_, rfl⟩
  have hcw : driverReenable n v s.blk.counted = c := by rw [hc, hw, driverReenable, hoff]
  rw [hcw] at hrun
  have hc5 : c.rd (0x3800 + n) 5 = maskOf ((setBits 16 (s.blk.rd (0x3800 + n) 5)).filter (fun m => !bit v m)) := by
    rw [hc]
    refine (refreshDrivers_own n w _).trans ?_
    rw [if_neg (by decide), hw, Block.rd_wr_of_lt _ _ _ (maskOf_setBits_lt _ _)]
  rw [hrun]
  refine ⟨by rw [State.run_resp, Block.reply_resp], ?_, Block.Within.keeps ?_⟩
  · rw [State.run_rd_drive _ _ hn (by decide), Block.reply_rd, hc5, bit_maskOf_setBits _ _ _ hm]
  · have hin : Block.Within (fun i r => i == 0x3800 + n && (r == 4 || r == 5)) s.blk w := by
      rw [hw]
      exact (hal.within _).wr _ (by decide) (by simp [driveObj])
    have hin' : Block.Within (fun i r => i == 0x3800 + n && (r == 4 || r == 5)) s.blk c := hc ▸ refreshDrivers_within hin (by simp [driveObj])
    exact hin'.of_regs rfl rfl

/-! ### Idle levels (R305) -/

/-- A lane whose idle level changes rests there, where its driver is enabled and no pattern bit is due. -/
def idleFollow (n v old m : Nat) (b : Block) : Block :=
  if b.driverOn (16 * n + m) && bits old (2 * m) 2 != bits v (2 * m) 2 && !patternOn b n then
    b.setDriver (16 * n + m) { b.driver (16 * n + m) with rest := bits v (2 * m) 2 }
  else b

theorem idleWrite_eq (n v : Nat) (b : Block) :
    idleWrite n v b = forEach (List.range 16) (idleFollow n v (b.rd (driveObj n) 3)) (b.wr (driveObj n) 3 v) := rfl

theorem idleFollow_keeps {γ : Type} {g : Block → γ} (hg : ∀ (b : Block) k x, g (b.setDriver k x) = g b) (n v old m : Nat) (b : Block) :
    g (idleFollow n v old m b) = g b := by
  unfold idleFollow
  split
  · exact hg ..
  · rfl

theorem idleFollow_driver_ne {n v old m l : Nat} (hl : l ≠ 16 * n + m) (b : Block) : (idleFollow n v old m b).driver l = b.driver l := by
  unfold idleFollow
  split
  · exact Block.driver_setDriver_ne _ _ hl
  · rfl

/-- Of the lanes, each is followed once. -/
theorem forEach_idleFollow_driver (n v old m : Nat) (ms : List Nat) (b : Block) (hnd : ms.Nodup) :
    (forEach ms (idleFollow n v old) b).driver (16 * n + m) =
      if m ∈ ms then (idleFollow n v old m b).driver (16 * n + m) else b.driver (16 * n + m) := by
  induction ms generalizing b with
  | nil => rfl
  | cons k ms ih =>
    obtain ⟨hk, hnd⟩ := List.nodup_cons.1 hnd
    refine (ih (idleFollow n v old k b) hnd).trans ?_
    have hon : ∀ l, (idleFollow n v old k b).driverOn l = b.driverOn l := fun l => idleFollow_keeps (g := fun c => c.driverOn l) (by intros; rfl) ..
    have hpat : patternOn (idleFollow n v old k b) n = patternOn b n := idleFollow_keeps (g := fun c => patternOn c n) (by intros; rfl) ..
    by_cases hkm : k = m
    · subst hkm
      rw [if_neg hk, if_pos List.mem_cons_self]
    · have hne : 16 * n + m ≠ 16 * n + k := by omega
      have hd : (idleFollow n v old k b).driver (16 * n + m) = b.driver (16 * n + m) := idleFollow_driver_ne hne b
      have hsame : (idleFollow n v old m (idleFollow n v old k b)).driver (16 * n + m) = (idleFollow n v old m b).driver (16 * n + m) := by
        rw [idleFollow, hon, hpat, hd]
        conv => rhs; rw [idleFollow]
        split
        · rw [Block.driver_setDriver_self, Block.driver_setDriver_self]
        · exact hd
      have hmem : m ∈ k :: ms ↔ m ∈ ms := by
        rw [List.mem_cons]
        exact or_iff_right fun e => hkm e.symm
      simp only [hmem, hsame, hd]

theorem idleLevel_served {s : State} {p : Path} {n v m : Nat} (hs : Safety.Serving s) (hn : n < 32) (hm : m < 16)
    (ha : Safety.Accepts s p (0x3800 + n) 3 v) :
    (s.put p (0x3800 + n) 3 v).blk.resp = Resp.plain stOK ∧ (s.put p (0x3800 + n) 3 v).blk.rd (0x3800 + n) 3 = v ∧
      (s.blk.driverOn (16 * n + m) = true → bits v (2 * m) 2 ≠ bits (s.blk.rd (0x3800 + n) 3) (2 * m) 2 → patternOn s.blk n = false →
        ((s.put p (0x3800 + n) 3 v).blk.driver (16 * n + m)).rest = bits v (2 * m) 2) ∧
      (s.blk.driverOn (16 * n + m) = false → (s.put p (0x3800 + n) 3 v).blk.driver (16 * n + m) = s.blk.driver (16 * n + m)) ∧
      (∀ l, l / 16 ≠ n → (s.put p (0x3800 + n) 3 v).blk.driver l = s.blk.driver l) ∧
      Safety.Keeps (fun i r => i == 0x3800 + n && r == 3) s (s.put p (0x3800 + n) 3 v) := by
  obtain ⟨o, hrun⟩ := State.put_eq hs ha ((chapterWrite_drive hn (by decide) ..).trans (stimWrite_idle hn v _)) (by decide)
  have hal := s.blk.counted_alike
  have hold : s.blk.counted.rd (driveObj n) 3 = s.blk.rd (0x3800 + n) 3 := hal.rd _ _ (by unfold driveObj; omega)
  obtain ⟨w, hw⟩ : ∃ w, w = s.blk.counted.wr (driveObj n) 3 v := ⟨_, rfl⟩
  obtain ⟨c, hc⟩ : ∃ c, c = forEach (List.range 16) (idleFollow n v (s.blk.rd (0x3800 + n) 3)) w := ⟨_, rfl⟩
  have hcw : idleWrite n v s.blk.counted = c := by rw [hc, hw, idleWrite_eq, hold]
  rw [hcw] at hrun
  have hwr : ∀ i r, i * 256 + r ≠ (0x3800 + n) * 256 + 3 → i * 256 + r ≠ 0x1E1001 → w.rd i r = s.blk.rd i r := fun i r h1 h2 => by
    rw [hw, driveObj, Block.rd_wr_of_ne _ _ h1, hal.rd _ _ h2]
  have hwd : ∀ l, w.driver l = s.blk.driver l := fun l => by rw [hw]; rfl
  have hon : w.driverOn (16 * n + m) = s.blk.driverOn (16 * n + m) := congrArg (bit · _) (hwr _ _ (by omega) (by omega))
  have hpat : patternOn w n = patternOn s.blk n := by
    have hdom : w.podDom n = s.blk.podDom n := hwr _ _ (by omega) (by omega)
    have hstim : ∀ t, w.stim t = s.blk.stim t := fun t => by rw [hw]; rfl
    have hdesc : ∀ k, s.blk.podDom n < 8 → w.patDesc (s.blk.podDom n) k = s.blk.patDesc (s.blk.podDom n) k := fun k hk => by
      simp only [Block.patDesc, descObj, hwr _ _ (show (0x3900 + 16 * s.blk.podDom n + k) * 256 + 1 ≠ (0x3800 + n) * 256 + 3 by omega) (by omega),
        hwr _ _ (show (0x3900 + 16 * s.blk.podDom n + k) * 256 + 2 ≠ (0x3800 + n) * 256 + 3 by omega) (by omega),
        hwr _ _ (show (0x3900 + 16 * s.blk.podDom n + k) * 256 + 3 ≠ (0x3800 + n) * 256 + 3 by omega) (by omega),
        hwr _ _ (show (0x3900 + 16 * s.blk.podDom n + k) * 256 + 4 ≠ (0x3800 + n) * 256 + 3 by omega) (by omega),
        hwr _ _ (show (0x3900 + 16 * s.blk.podDom n + k) * 256 + 5 ≠ (0x3800 + n) * 256 + 3 by omega) (by omega)]
    unfold patternOn
    rw [hdom, hstim]
    split
    · by_cases hd : s.blk.podDom n < 8
      · rw [hdesc _ hd]
      · simp [hd]
    · rfl
  have hcd : c.driver (16 * n + m) = (idleFollow n v (s.blk.rd (0x3800 + n) 3) m w).driver (16 * n + m) := by
    rw [hc, forEach_idleFollow_driver _ _ _ _ _ _ List.nodup_range, if_pos (List.mem_range.2 hm)]
  rw [hrun]
  refine ⟨by rw [State.run_resp, Block.reply_resp], ?_, ?_, ?_, ?_, Block.Within.keeps ?_⟩
  · refine (State.run_rd_drive _ _ hn (by decide)).trans ?_
    rw [Block.reply_rd, hc, forEach_keeps (fun d : Block => d.rd (0x3800 + n) 3) (fun m _ d =>
      idleFollow_keeps (g := fun d : Block => d.rd (0x3800 + n) 3) (by intros; rfl) ..) w, hw]
    exact Block.rd_wr_of_lt _ _ _ ha.lt
  · intro h1 h2 h3
    rw [State.run_driver]
    show (c.driver (16 * n + m)).rest = _
    rw [hcd, idleFollow, if_pos (by simp [hon, h1, hpat, h3, h2.symm]), Block.driver_setDriver_self]
  · intro h1
    rw [State.run_driver]
    show c.driver (16 * n + m) = _
    rw [hcd, idleFollow, if_neg (by simp [hon, h1]), hwd]
  · intro l hl
    rw [State.run_driver]
    show c.driver l = _
    rw [hc, ← hwd]
    refine forEach_keeps (fun d : Block => d.driver l) (fun k hk d => idleFollow_driver_ne ?_ d) w
    have := List.mem_range.1 hk
    omega
  · have hin : Block.Within (fun i r => i == 0x3800 + n && r == 3) s.blk w := by
      rw [hw]
      exact (hal.within _).wr _ (by decide) (by simp [driveObj])
    have hin' : Block.Within (fun i r => i == 0x3800 + n && r == 3) s.blk c := by
      rw [hc]
      exact .forEach (fun k _ d => (Block.Within.refl _ d).of_regs (idleFollow_keeps (by intros; rfl) ..) (idleFollow_keeps (by intros; rfl) ..)) hin
    exact hin'.of_regs rfl rfl

end Sys2Proof.Machine

/-! # Shorts, launches and pass ends (R312, R314, R318, R323) -/

namespace Sys2Proof.Machine

/-! ### Shorts (R318) -/

/-- A driver that is short: its lane is latched off, flagged and counted; what follows are stops and reports. -/
theorem driverShort_eq {l : Nat} {b : Block} (hl : l < 512) (hon : b.driverOn l = true) :
    ∃ (t dom : Nat) (stop stopped : Bool) (bytes : List Byte) (c : Block),
      c = (refreshDrivers (l / 16) (b.wrBit (driveObj (l / 16)) 5 (l % 16) true)).flag (driveObj (l / 16)) 7 8 1 ∧
      driverShort l b = emcyEvent 0x2310 3 bytes (postError dom 4 0 l 0 stopped (if stop then faultStop t c else c)) := by
  unfold driverShort
  rw [if_neg (by simp [hon]; omega)]
  exact ⟨_, _, _, _, _, _, rfl, rfl⟩

theorem driverShort_facts {l : Nat} {b : Block} (hl : l < 512) (hon : b.driverOn l = true) :
    bit ((driverShort l b).rd (0x3800 + l / 16) 5) (l % 16) = true ∧ bit ((driverShort l b).rd (0x3800 + l / 16) 4) (l % 16) = false ∧
      (driverShort l b).rd (0x3800 + l / 16) 7 = 1 ∧
      (driverShort l b).rd (0x3800 + l / 16) 8 = satTo 32 (b.rd (0x3800 + l / 16) 8 + 1) := by
  obtain ⟨t, dom, stop, stopped, bytes, c, hc, he⟩ := driverShort_eq hl hon
  obtain ⟨w, hw⟩ : ∃ w, w = b.wrBit (driveObj (l / 16)) 5 (l % 16) true := ⟨_, rfl⟩
  rw [← hw] at hc
  have hend : ∀ r < 256, (driverShort l b).rd (0x3800 + l / 16) r = c.rd (0x3800 + l / 16) r := fun r hr => by
    rw [he, emcyEvent_rd _ _ _ _ hr (by simp [Safety.reporting]; omega), (recordBlind_rd hr (.inl (by omega))).postError]
    split
    · exact (stopBlind_rd (d := t) (i := 0x3800 + l / 16) (r := r) (by omega) (by omega)).requestStop _ _ _ c
    · rfl
  have hown : ∀ r, r ≠ 7 → r ≠ 8 → c.rd (0x3800 + l / 16) r = if r = 4 then driversMay (l / 16) w else w.rd (0x3800 + l / 16) r :=
    fun r h7 h8 => by
      refine (congrArg (fun x : Block => x.rd (0x3800 + l / 16) r) hc).trans ((Block.rd_flag_of_ne _ _ ?_ ?_).trans
        (refreshDrivers_own (l / 16) w r))
      · unfold driveObj; omega
      · unfold driveObj; omega
  have hoff : bit (w.rd (0x3800 + l / 16) 5) (l % 16) = true := by
    rw [hw]
    exact Block.bit_wrBit_true _ _ _ (by omega)
  refine ⟨?_, ?_, ?_, ?_⟩
  · rw [hend _ (by decide), hown 5 (by decide) (by decide), if_neg (by decide), hoff]
  · rw [hend _ (by decide), hown 4 (by decide) (by decide), if_pos rfl, bit_driversMay (by omega), driveObj, hoff, Bool.not_true, Bool.and_false]
  · rw [hend _ (by decide), hc]
    exact Block.rd_flag_self _ _ _ (by decide)
  · rw [hend _ (by decide), hc]
    refine (Block.rd_flag_count _ _ _ (by decide)).trans ?_
    rw [refreshDrivers_own, if_neg (by decide), hw, Block.wrBit, Block.rd_wr_of_ne _ _ (by omega), driveObj]

/-! ### What a pattern engine shows (R312, R314, R323) -/

/-- The registers that show a pattern engine. -/
def isStimReg (t i r : Nat) : Bool := i == 0x3A00 + t && (r == 1 || r == 2 || r == 3 || r == 4 || r == 5)

theorem isStimReg_self {t r : Nat} (hlo : 1 ≤ r) (hhi : r ≤ 5) : isStimReg t (stimObj t) r = true := by
  simp [isStimReg, stimObj]
  omega

theorem recordEnd_within {R : Nat → Nat → Bool} {a b : Block} (h : Block.Within R a b) {t : Nat} (hR : ∀ r, 1 ≤ r → r ≤ 3 → R (stimObj t) r = true)
    (n : Nat) (safe : Bool) : Block.Within R a (recordEnd t n safe b) := by
  unfold recordEnd
  dsimp only
  split
  · split
    · exact h.wr _ (by decide) (hR 1 (by decide) (by decide))
    · exact (h.wr _ (by decide) (hR 1 (by decide) (by decide))).wr _ (by decide) (hR 2 (by decide) (by decide))
  · exact h.wr _ (by decide) (hR 3 (by decide) (by decide))

theorem recordLaunch_within {a b : Block} {t : Nat} (h : Block.Within (isStimReg t) a b) (pos p : Nat) (safe driven : Bool) :
    Block.Within (isStimReg t) a (recordLaunch t pos p safe driven b) := by
  have hR : ∀ r, 1 ≤ r → r ≤ 5 → isStimReg t (stimObj t) r = true := fun _ => isStimReg_self
  have h1 : Block.Within (isStimReg t) a
      (if driven then (b.wr (stimObj t) 4 (b.tsPos pos)).bump 32 (stimObj t) 5 1 else b) := by
    split
    · exact (h.wr _ (by decide) (hR 4 (by decide) (by decide))).bump _ _ (by decide) (hR 5 (by decide) (by decide))
    · exact h
  unfold recordLaunch
  exact ((h1.wr _ (by decide) (hR 1 (by decide) (by decide))).wr _ (by decide) (hR 2 (by decide) (by decide))).wr _ (by decide) (hR 3 (by decide) (by decide))

/-- The records of a pattern engine are registers. -/
theorem recordEnd_keeps {γ : Type} {g : Block → γ} (hg : ∀ (b : Block) i s v, g (b.wr i s v) = g b) (t n : Nat) (safe : Bool) (b : Block) :
    g (recordEnd t n safe b) = g b := by
  unfold recordEnd
  dsimp only
  split
  · split
    · exact hg ..
    · exact (hg ..).trans (hg ..)
  · exact hg ..

theorem recordLaunch_keeps {γ : Type} {g : Block → γ} (hg : ∀ (b : Block) i s v, g (b.wr i s v) = g b) (t pos p : Nat) (safe driven : Bool)
    (b : Block) : g (recordLaunch t pos p safe driven b) = g b := by
  have hd : g (if driven then (b.wr (stimObj t) 4 (b.tsPos pos)).bump 32 (stimObj t) 5 1 else b) = g b := by
    split
    · exact (hg ..).trans (hg ..)
    · rfl
  unfold recordLaunch
  exact (hg ..).trans ((hg ..).trans ((hg ..).trans hd))

/-- A launch recorded with its driver enabled. -/
theorem recordLaunch_shown {t pos p : Nat} (hp : p < 2 ^ 64) (safe : Bool) (b : Block) :
    (recordLaunch t pos p safe true b).rd (0x3A00 + t) 1 = (if safe then 2 else 1) ∧ (recordLaunch t pos p safe true b).rd (0x3A00 + t) 2 = p ∧
      (recordLaunch t pos p safe true b).rd (0x3A00 + t) 3 = 1 ∧ (recordLaunch t pos p safe true b).rd (0x3A00 + t) 4 = b.tsPos pos % 2 ^ 64 ∧
      (recordLaunch t pos p safe true b).rd (0x3A00 + t) 5 = satTo 32 (b.rd (0x3A00 + t) 5 + 1) := by
  have he : recordLaunch t pos p safe true b = ((((b.wr (0x3A00 + t) 4 (b.tsPos pos)).bump 32 (0x3A00 + t) 5 1).wr (0x3A00 + t) 1
      (if safe then 2 else 1)).wr (0x3A00 + t) 2 p).wr (0x3A00 + t) 3 1 := rfl
  rw [he]
  refine ⟨?_, ?_, ?_, ?_, ?_⟩
  · rw [Block.rd_wr_of_ne _ _ (by omega), Block.rd_wr_of_ne _ _ (by omega), Block.rd_wr_of_lt _ _ _ (by split <;> decide)]
  · rw [Block.rd_wr_of_ne _ _ (by omega), Block.rd_wr_of_lt _ _ _ hp]
  · rw [Block.rd_wr_of_lt _ _ _ (by decide)]
  · rw [Block.rd_wr_of_ne _ _ (by omega), Block.rd_wr_of_ne _ _ (by omega), Block.rd_wr_of_ne _ _ (by omega),
      Block.rd_bump_of_ne _ _ _ (by omega), Block.rd_wr_self]
  · rw [Block.rd_wr_of_ne _ _ (by omega), Block.rd_wr_of_ne _ _ (by omega), Block.rd_wr_of_ne _ _ (by omega),
      Block.rd_bump_self _ _ _ _ (by decide), Block.rd_wr_of_ne _ _ (by omega)]

theorem recordEnd_shown (t k : Nat) (safe : Bool) (b : Block) :
    if k ≠ 0 then (recordEnd t k safe b).rd (0x3A00 + t) 3 = satTo 32 k
    else if safe then (recordEnd t k safe b).rd (0x3A00 + t) 1 = 3
    else (recordEnd t k safe b).rd (0x3A00 + t) 1 = 0 ∧ (recordEnd t k safe b).rd (0x3A00 + t) 2 = 0xFF := by
  by_cases hk : k = 0
  · subst hk
    rw [if_neg (by simp)]
    cases safe with
    | true => exact Block.rd_wr_of_lt b (0x3A00 + t) 1 (show 3 < 2 ^ 64 by decide)
    | false =>
      have he : recordEnd t 0 false b = (b.wr (0x3A00 + t) 1 0).wr (0x3A00 + t) 2 0xFF := rfl
      rw [if_neg (by decide), he]
      exact ⟨(Block.rd_wr_of_ne _ _ (by omega)).trans (Block.rd_wr_of_lt _ _ _ (by decide)), Block.rd_wr_of_lt _ _ _ (by decide)⟩
  · have he : recordEnd t k safe b = b.wr (0x3A00 + t) 3 (satTo 32 k) := if_neg hk
    rw [if_pos hk, he]
    exact Block.rd_wr_of_lt _ _ _ (satTo_lt (by decide) k)

/-! ### LAUNCH_AT_CONTACT and PASS_END -/

theorem launchAtContact_facts {d pos p : Nat} {safe : Bool} {rest : List (Nat × Nat × Bool × Bool)} {b : Block} (hp : p < 16)
    (h : (b.stim d).reached = (pos, p, safe, true) :: rest) :
    ((launchAtContact d b).stim d).reached = rest ∧
      (launchAtContact d b).rd (0x3A00 + d) 1 = (if safe then 2 else 1) ∧ (launchAtContact d b).rd (0x3A00 + d) 2 = p ∧
      (launchAtContact d b).rd (0x3A00 + d) 3 = 1 ∧ (launchAtContact d b).rd (0x3A00 + d) 4 = b.tsPos pos % 2 ^ 64 ∧
      (launchAtContact d b).rd (0x3A00 + d) 5 = satTo 32 (b.rd (0x3A00 + d) 5 + 1) ∧ Block.Within (isStimReg d) b (launchAtContact d b) := by
  obtain ⟨w, hw⟩ : ∃ w, w = b.setStim d { b.stim d with reached := rest, ends := (b.stim d).ends.filter (fun e => decide (pos ≤ e.1)) } := ⟨_, rfl⟩
  obtain ⟨c, hc⟩ : ∃ c, c = forEach ((b.stim d).ends.filter (fun e => decide (e.1 < pos))) (fun e c => recordEnd d e.2.1 e.2.2 c) w := ⟨_, rfl⟩
  have he : launchAtContact d b = recordLaunch d pos p safe true c := by
    rw [hc, hw, launchAtContact]
    simp only [h]
  have hkeep : ∀ {γ : Type} (g : Block → γ), (∀ (b : Block) i s v, g (b.wr i s v) = g b) → g c = g w := fun g hg => by
    rw [hc]
    exact forEach_keeps g (fun e _ x => recordEnd_keeps hg d e.2.1 e.2.2 x) w
  have hwin : Block.Within (isStimReg d) b w := by
    rw [hw]
    exact (Block.Within.refl _ b).of_regs rfl rfl
  have hR : ∀ r, 1 ≤ r → r ≤ 3 → isStimReg d (stimObj d) r = true := fun r h1 h3 => isStimReg_self h1 (Nat.le_trans h3 (by decide))
  have hcin : Block.Within (isStimReg d) b c := by
    rw [hc]
    exact .forEach (fun e _ x => recordEnd_within (.refl _ x) hR _ _) hwin
  have h5 : c.rd (0x3A00 + d) 5 = b.rd (0x3A00 + d) 5 := by
    have hends : Block.Within (fun i r => i == 0x3A00 + d && (r == 1 || r == 2 || r == 3)) w c := by
      rw [hc]
      exact .forEach (fun e _ x => recordEnd_within (.refl _ x) (fun r h1 h3 => by
        simp [stimObj]
        omega) _ _) (.refl _ w)
    rw [hends.rd (by decide) (by omega) (by simp), hw]
    rfl
  have hts : c.tsPos pos = b.tsPos pos := (hkeep (fun c => c.tsPos pos) (by intros; rfl)).trans (by rw [hw]; rfl)
  have hstim : (c.stim d).reached = rest := by
    rw [hkeep (fun c => c.stim d) (by intros; rfl), hw, Block.stim_setStim_self]
  obtain ⟨h1, h2, h3, h4, h5'⟩ := recordLaunch_shown (t := d) (pos := pos) (Nat.lt_trans hp (show 16 < 2 ^ 64 by decide)) safe c
  rw [he]
  refine ⟨?_, h1, h2, h3, h4.trans (by rw [hts]), h5'.trans (by rw [h5]), recordLaunch_within hcin _ _ _ _⟩
  rw [recordLaunch_keeps (g := fun c : Block => c.stim d) (by intros; rfl), hstim]

theorem passEnd_facts {d pos k : Nat} {safe : Bool} {rest : List (Nat × Nat × Bool)} {b : Block}
    (h : (b.stim d).ends = (pos, k, safe) :: rest) :
    ((passEnd d b).stim d).ends = rest ∧
      (if k ≠ 0 then (passEnd d b).rd (0x3A00 + d) 3 = satTo 32 k
        else if safe then (passEnd d b).rd (0x3A00 + d) 1 = 3
        else (passEnd d b).rd (0x3A00 + d) 1 = 0 ∧ (passEnd d b).rd (0x3A00 + d) 2 = 0xFF) ∧
      Block.Within (isStimReg d) b (passEnd d b) := by
  obtain ⟨w, hw⟩ : ∃ w, w = b.setStim d { b.stim d with ends := rest, reached := (b.stim d).reached.filter (fun l => decide (pos < l.1)) } := ⟨_, rfl⟩
  obtain ⟨c, hc⟩ : ∃ c, c = forEach ((b.stim d).reached.filter (fun l => decide (l.1 ≤ pos)))
    (fun l c => recordLaunch d l.1 l.2.1 l.2.2.1 l.2.2.2 c) w := ⟨_, rfl⟩
  have he : passEnd d b = recordEnd d k safe c := by
    rw [hc, hw, passEnd]
    simp only [h]
  have hcin : Block.Within (isStimReg d) b c := by
    rw [hc]
    refine .forEach (fun l _ x => recordLaunch_within (.refl _ x) _ _ _ _) ?_
    rw [hw]
    exact (Block.Within.refl _ b).of_regs rfl rfl
  have hstim : (c.stim d).ends = rest := by
    rw [hc, forEach_keeps (fun c : Block => c.stim d) (fun l _ x => recordLaunch_keeps (g := fun c : Block => c.stim d) (by intros; rfl) ..) w,
      hw, Block.stim_setStim_self]
  rw [he]
  refine ⟨?_, recordEnd_shown d k safe c, recordEnd_within hcin (fun r h1 h3 => isStimReg_self h1 (Nat.le_trans h3 (by decide))) k safe⟩
  rw [recordEnd_keeps (g := fun c : Block => c.stim d) (by intros; rfl), hstim]

/-- A register of a pattern engine after a run. -/
theorem State.run_rd_stim (s : State) (f : List Host.Cell → Block → Block) {d r : Nat} (hd : d < 8) (hr : r < 256) :
    (s.run f).blk.rd (0x3A00 + d) r = (f s.mem s.blk).rd (0x3A00 + d) r := State.run_rd_of_ne _ _ _ _ (by omega)

/-- Settles O38: the drivers follow the conditions of R304 lane by lane, and a pattern engine records launches and pass ends. -/
theorem driversAndPatternsTakeEffect : Obligations.DriversAndPatternsTakeEffect := by
  refine ⟨?_, ?_, ?_, ?_, ?_, ?_⟩
  · intro s p n v m hs hn hm ha
    exact ⟨_, State.act_of_on (by simp [Instr.wf, hn]) hs.1 _, driveEnable_served hs hn hm ha⟩
  · intro s p n v m hs hn hm ha
    exact ⟨_, State.act_of_on (by simp [Instr.wf, hn]) hs.1 _, idleLevel_served hs hn hm ha⟩
  · intro s l hon hl hdrv
    obtain ⟨h5, h4, h7, h8⟩ := driverShort_facts hl hdrv
    have hn : l / 16 < 32 := by omega
    refine ⟨_, State.act_of_on (by simp [Instr.wf, hl]) hon _, ?_, ?_, (State.run_rd_drive _ _ hn (by decide)).trans h7,
      (State.run_rd_drive _ _ hn (by decide)).trans h8⟩
    · rw [State.run_rd_drive _ _ hn (by decide), h5]
    · rw [Block.driverOn, State.run_rd_drive _ _ hn (by decide), h4]
  · intro s p n v m hs hn hm ha
    exact ⟨_, State.act_of_on (by simp [Instr.wf, hn]) hs.1 _, driverReenable_served hs hn hm ha⟩
  · intro s d pos p safe rest hon hd hp hr
    obtain ⟨hrest, h1, h2, h3, h4, h5, hin⟩ := launchAtContact_facts hp hr
    refine ⟨_, State.act_of_on (by simp [Instr.wf, hd]) hon _, ?_, (State.run_rd_stim _ _ hd (by decide)).trans h1,
      (State.run_rd_stim _ _ hd (by decide)).trans h2, (State.run_rd_stim _ _ hd (by decide)).trans h3,
      (State.run_rd_stim _ _ hd (by decide)).trans h4, (State.run_rd_stim _ _ hd (by decide)).trans h5, Block.Within.keeps hin⟩
    rw [State.run_stim, hrest]
  · intro s d pos k safe rest hon hd hr
    obtain ⟨hrest, hshown, hin⟩ := passEnd_facts hr
    refine ⟨_, State.act_of_on (by simp [Instr.wf, hd]) hon _, ?_, ?_, Block.Within.keeps hin⟩
    · rw [State.run_stim, hrest]
    · rw [State.run_rd_stim _ _ hd (by decide), State.run_rd_stim _ _ hd (by decide), State.run_rd_stim _ _ hd (by decide)]
      exact hshown

end Sys2Proof.Machine

/-! # Measurement units and mask units (R272, R276, R277, R284 to R291) -/

namespace Sys2Proof.Machine

/-! ### The end of a window (R272) -/

theorem Block.mem_podsOf {b : Block} {d n : Nat} (hn : n < 32) (h : b.podDom n = d) : n ∈ b.podsOf d :=
  List.mem_filter.2 ⟨List.mem_range.2 hn, by simp [h]⟩

theorem Block.podsOf_nodup (b : Block) (d : Nat) : (b.podsOf d).Nodup := List.nodup_range.filter _

theorem Block.podDom_of_mem {b : Block} {d n : Nat} (h : n ∈ b.podsOf d) : b.podDom n = d := by
  simpa using (List.mem_filter.1 h).2

/-- The end of a unit's window changes that unit alone. -/
theorem applyEnd_shape (n : Nat) (b : Block) : ∃ m, applyEnd n b = b.setMeas n m := by
  unfold applyEnd
  dsimp only
  split
  · exact ⟨_, rfl⟩
  · exact ⟨_, rfl⟩

theorem applyEnd_keeps {γ : Type} {g : Block → γ} {n : Nat} (hg : ∀ (b : Block) m, g (b.setMeas n m) = g b) (b : Block) :
    g (applyEnd n b) = g b := by
  obtain ⟨m, hm⟩ := applyEnd_shape n b
  rw [hm]
  exact hg ..

/-- What the end of a window makes of its unit. -/
theorem applyEnd_unit {n p first : Nat} {b : Block} (hend : (b.measUnit n).endDue = some p) (hstart : (b.measUnit n).start = some first) :
    ((applyEnd n b).measUnit n).start = none ∧ ((applyEnd n b).measUnit n).endDue = none ∧
      (b.measured n = [] → ((applyEnd n b).measUnit n).ended = (b.measUnit n).ended) ∧
      (b.measured n ≠ [] → ∃ w, ((applyEnd n b).measUnit n).ended = (b.measUnit n).ended ++ [w] ∧ w.start = first ∧
        w.stop = b.lastReal p ∧ w.accs = (b.measUnit n).accs) := by
  unfold applyEnd
  simp only [hend, hstart, Block.measUnit_setMeas_self]
  refine ⟨trivial, trivial, fun hm => by simp [hm], fun hm => ?_⟩
  rw [if_neg (by simpa using hm)]
  exact ⟨_, rfl, rfl, rfl, rfl⟩

/-- In a run over different units each is changed once, as it stood before. -/
theorem forEach_own_unit {f : Nat → Block → Block} {n : Nat} (hf : ∀ k, k ≠ n → ∀ b, (f k b).measUnit n = b.measUnit n)
    (h : ∀ k, k ≠ n → ∀ b, (f n (f k b)).measUnit n = (f n b).measUnit n) (ks : List Nat) (hnd : ks.Nodup) (hn : n ∈ ks) (b : Block) :
    (forEach ks f b).measUnit n = (f n b).measUnit n := by
  induction ks generalizing b with
  | nil => cases hn
  | cons k ks ih =>
    obtain ⟨hk, hnd⟩ := List.nodup_cons.1 hnd
    by_cases hkn : k = n
    · subst hkn
      exact forEach_keeps (fun c => c.measUnit k) (fun j hj c => hf j (fun e => hk (e ▸ hj)) c) (f k b)
    · have hmem : n ∈ ks := (List.mem_cons.1 hn).resolve_left fun e => hkn e.symm
      exact (ih hnd hmem (f k b)).trans (h k hkn b)

theorem applyEnd_unit_ne {n k : Nat} (h : k ≠ n) (b : Block) : (applyEnd k b).measUnit n = b.measUnit n :=
  applyEnd_keeps (g := fun c : Block => c.measUnit n) (fun _ _ => Block.measUnit_setMeas_ne _ _ h.symm) b

/-- A unit's end reads of the units only its own. -/
theorem applyEnd_congr {n : Nat} {b c : Block} (hu : c.measUnit n = b.measUnit n) (hregs : c.regs = b.regs) (hpk : c.packets = b.packets)
    (heng : ∀ e, c.engOn e = b.engOn e) (hg : ∀ e, c.engG e = b.engG e) :
    (applyEnd n c).measUnit n = (applyEnd n b).measUnit n := by
  have hrd : ∀ i r, c.rd i r = b.rd i r := fun i r => Block.rd_of_regs hregs i r
  have hmeas : c.measured n = b.measured n := by rw [Block.measured, Block.measured, hrd]
  have hreal : ∀ p, c.lastReal p = b.lastReal p := fun p => by rw [Block.lastReal, Block.lastReal, Block.packet?, Block.packet?, hpk]
  have hind : ∀ p, indigoLatch c n p = indigoLatch b n p := fun p => by
    simp only [indigoLatch, hmeas, hrd, funext heng, funext hg]
  have hpod : c.podDom n = b.podDom n := hrd _ _
  unfold applyEnd
  simp only [hu, hmeas, hreal, hind, hpod, hrd]
  split
  · rw [Block.measUnit_setMeas_self, Block.measUnit_setMeas_self]
  · rw [Block.measUnit_setMeas_self, Block.measUnit_setMeas_self]

theorem windowEnd_unit {d n : Nat} {b : Block} (hn : n < 32) (hd : b.podDom n = d) :
    (windowEnd d b).measUnit n = (applyEnd n b).measUnit n :=
  forEach_own_unit (fun _ hk c => applyEnd_unit_ne hk c)
    (fun _ hk c => applyEnd_congr (applyEnd_unit_ne hk c) (applyEnd_keeps (g := Block.regs) (fun _ _ => rfl) c)
      (applyEnd_keeps (g := Block.packets) (fun _ _ => rfl) c) (fun e => applyEnd_keeps (g := fun c : Block => c.engOn e) (fun _ _ => rfl) c)
      (fun e => applyEnd_keeps (g := fun c : Block => c.engG e) (fun _ _ => rfl) c))
    _ (b.podsOf_nodup d) (Block.mem_podsOf hn hd) b

theorem windowEnd_others {d k : Nat} {b : Block} (hk : b.podDom k ≠ d) : (windowEnd d b).measUnit k = b.measUnit k :=
  forEach_keeps (fun c : Block => c.measUnit k) (fun _ hn c => applyEnd_unit_ne (fun e => hk (by rw [← e]; exact Block.podDom_of_mem hn)) c) b

theorem windowEnd_within (R : Nat → Nat → Bool) (d : Nat) (b : Block) : Block.Within R b (windowEnd d b) :=
  .forEach (fun _ _ c => (Block.Within.refl R c).of_regs (applyEnd_keeps (g := Block.regs) (fun _ _ => rfl) c)
    (applyEnd_keeps (g := Block.mops) (fun _ _ => rfl) c)) (.refl R b)

/-! ### The latch (R276, R277) -/

theorem latchWindow_cases {n : Nat} {b : Block} {w : EndedWin} {rest : List EndedWin} (h : (b.measUnit n).ended = w :: rest) :
    ∃ x : Latched, x.compareAt = w.latchAt + 1 ∧ x.lastPos = w.stop ∧ latchWindow n b =
      if 2 ≤ (b.measUnit n).places.length then
        (b.setMeas n { b.measUnit n with ended := rest, latched := (b.measUnit n).latched ++ [x] }).flag (0x6810 + n) 4 5 1
      else b.setMeas n { b.measUnit n with ended := rest, latched := (b.measUnit n).latched ++ [x],
                                            places := (b.measUnit n).places ++ [(w.latchAt + 2, x.recs)] } := by
  unfold latchWindow
  simp only [h]
  exact ⟨_, rfl, rfl, rfl⟩

theorem latchWindow_facts {n : Nat} {b : Block} {w : EndedWin} {rest : List EndedWin} (h : (b.measUnit n).ended = w :: rest) :
    ((latchWindow n b).measUnit n).ended = rest ∧
      (∃ x, ((latchWindow n b).measUnit n).latched = (b.measUnit n).latched ++ [x] ∧ x.compareAt = w.latchAt + 1 ∧ x.lastPos = w.stop ∧
        if 2 ≤ (b.measUnit n).places.length then
          ((latchWindow n b).measUnit n).places = (b.measUnit n).places ∧ (latchWindow n b).rd (0x6810 + n) 4 = 1 ∧
            (latchWindow n b).rd (0x6810 + n) 5 = satTo 32 (b.rd (0x6810 + n) 5 + 1)
        else ((latchWindow n b).measUnit n).places = (b.measUnit n).places ++ [(w.latchAt + 2, x.recs)]) ∧
      (∀ k, k ≠ n → (latchWindow n b).measUnit k = b.measUnit k) ∧
      Block.Within (fun i r => i == 0x6810 + n && (r == 4 || r == 5)) b (latchWindow n b) := by
  obtain ⟨x, hat, hpos, he⟩ := latchWindow_cases h
  by_cases hp : 2 ≤ (b.measUnit n).places.length
  · rw [if_pos hp] at he
    obtain ⟨c, hc⟩ : ∃ c, c = b.setMeas n { b.measUnit n with ended := rest, latched := (b.measUnit n).latched ++ [x] } := ⟨_, rfl⟩
    rw [← hc] at he
    have hu : (latchWindow n b).measUnit n = { b.measUnit n with ended := rest, latched := (b.measUnit n).latched ++ [x] } := by
      rw [he, show ∀ i, (c.flag i 4 5 1).measUnit n = c.measUnit n from fun _ => rfl, hc, Block.measUnit_setMeas_self]
    have hcin : Block.Within (fun i r => i == 0x6810 + n && (r == 4 || r == 5)) b c := by
      rw [hc]
      exact (Block.Within.refl _ b).of_regs rfl rfl
    refine ⟨by rw [hu], ⟨x, by rw [hu], hat, hpos, ?_⟩, fun k hk => ?_, ?_⟩
    · rw [if_pos hp]
      refine ⟨by rw [hu], ?_, ?_⟩
      · rw [he, Block.rd_flag_self _ _ _ (by decide)]
      · rw [he, Block.rd_flag_count _ _ _ (by decide), hc]
        rfl
    · rw [he, show ∀ i, (c.flag i 4 5 1).measUnit k = c.measUnit k from fun _ => rfl, hc, Block.measUnit_setMeas_ne _ _ hk]
    · rw [he]
      exact hcin.flag _ (by decide) (by decide) (by simp) (by simp)
  · rw [if_neg hp] at he
    have hu := Block.measUnit_setMeas_self b n { b.measUnit n with ended := rest, latched := (b.measUnit n).latched ++ [x],
                                                                    places := (b.measUnit n).places ++ [(w.latchAt + 2, x.recs)] }
    rw [← he] at hu
    refine ⟨by rw [hu], ⟨x, by rw [hu], hat, hpos, ?_⟩, fun k hk => ?_, ?_⟩
    · rw [if_neg hp, hu]
    · rw [he, Block.measUnit_setMeas_ne _ _ hk]
    · rw [he]
      exact (Block.Within.refl _ b).of_regs rfl rfl

/-! ### The limit comparison (R276, R285) -/

/-- The latched windows that are due leave their unit. -/
def latchedTaken (n : Nat) (b : Block) : Block :=
  if (b.measUnit n).latched.any (fun l => l.compareAt ≤ b.time.abs) then
    b.setMeas n { b.measUnit n with latched := (b.measUnit n).latched.filter (fun l => b.time.abs < l.compareAt) } else b

theorem latchedTaken_keeps {γ : Type} {g : Block → γ} {n : Nat} (hg : ∀ (b : Block) m, g (b.setMeas n m) = g b) (b : Block) :
    g (latchedTaken n b) = g b := by
  unfold latchedTaken
  split
  · exact hg ..
  · rfl

theorem latchedTaken_unit_ne {n k : Nat} (h : k ≠ n) (b : Block) : (latchedTaken k b).measUnit n = b.measUnit n :=
  latchedTaken_keeps (g := fun c : Block => c.measUnit n) (fun _ _ => Block.measUnit_setMeas_ne _ _ h.symm) b

theorem latchedTaken_latched (n : Nat) (b : Block) :
    ((latchedTaken n b).measUnit n).latched = (b.measUnit n).latched.filter (fun l => b.time.abs < l.compareAt) := by
  unfold latchedTaken
  split
  · rw [Block.measUnit_setMeas_self]
  · next h =>
    rw [eq_comm, List.filter_eq_self]
    intro l hl
    simp only [List.any_eq_true, decide_eq_true_eq, not_exists, not_and] at h
    have := h l hl
    simp
    omega

theorem latchedTaken_congr {n : Nat} {b c : Block} (hu : c.measUnit n = b.measUnit n) (ht : c.time = b.time) :
    (latchedTaken n c).measUnit n = (latchedTaken n b).measUnit n := by
  simp only [latchedTaken, hu, ht]
  split
  · rw [Block.measUnit_setMeas_self, Block.measUnit_setMeas_self]
  · exact hu

/-- The units of a domain after a comparison has taken what was due. -/
def unitsCompared (d : Nat) (b : Block) : Block := forEach (b.podsOf d) latchedTaken b

theorem unitsCompared_keeps {γ : Type} {g : Block → γ} (hg : ∀ (b : Block) n m, g (b.setMeas n m) = g b) (d : Nat) (b : Block) :
    g (unitsCompared d b) = g b :=
  forEach_keeps g (fun n _ c => latchedTaken_keeps (hg · n) c) b

theorem unitsCompared_latched {d n : Nat} {b : Block} (hn : n < 32) (hd : b.podDom n = d) :
    ((unitsCompared d b).measUnit n).latched = (b.measUnit n).latched.filter (fun l => b.time.abs < l.compareAt) := by
  rw [unitsCompared, forEach_own_unit (fun _ hk c => latchedTaken_unit_ne hk c)
    (fun k hk c => latchedTaken_congr (latchedTaken_unit_ne hk c) (latchedTaken_keeps (g := Block.time) (fun _ _ => rfl) c))
    _ (b.podsOf_nodup d) (Block.mem_podsOf hn hd) b]
  exact latchedTaken_latched n b

/-- The violations that a limit comparison finds. -/
def limitFound (d : Nat) (b : Block) : List Violation :=
  if b.maskWorks d then (dueLatched b d).flatMap (latchedViolations b d) else []

theorem limitCompare_eq {d : Nat} {b : Block} (hf : (b.mask d).found = []) :
    limitCompare d b = violations d (limitFound d b) (unitsCompared d b) := by
  obtain ⟨c, hc⟩ : ∃ c, c = unitsCompared d b := ⟨_, rfl⟩
  have hm : (c.mask d).found = [] := by
    rw [hc, unitsCompared_keeps (g := fun c : Block => c.mask d) (fun _ _ _ => rfl), hf]
  have he : limitCompare d b = violations d ((c.mask d).found ++ limitFound d b)
      (if (c.mask d).found.isEmpty then c else c.setMask d { c.mask d with found := [] }) := by
    rw [hc]
    rfl
  rw [he, hm, ← hc]
  rfl

theorem limitCompare_none {d : Nat} {b : Block} (hf : (b.mask d).found = []) (h : limitFound d b = []) :
    limitCompare d b = unitsCompared d b := by
  rw [limitCompare_eq hf, h]
  rfl

theorem limitCompare_one {d : Nat} {v : Violation} {b : Block} (hf : (b.mask d).found = []) (h : limitFound d b = [v]) :
    limitCompare d b = violation d v (unitsCompared d b) := by
  rw [limitCompare_eq hf, h]
  rfl

theorem unitsCompared_within (R : Nat → Nat → Bool) (d : Nat) (b : Block) : Block.Within R b (unitsCompared d b) :=
  (Block.Within.refl R b).of_regs (unitsCompared_keeps (g := Block.regs) (fun _ _ _ => rfl) d b)
    (unitsCompared_keeps (g := Block.mops) (fun _ _ _ => rfl) d b)

/-! ### A violation (R284, R287 to R291) -/

theorem stopBlind_mask (d t : Nat) : StopBlind d (fun b => b.mask t) := {}

/-- A violation is counted and flagged. -/
def violCounted (d : Nat) (b : Block) : Block := (b.wr (0x6840 + d) 6 (satTo 32 (b.rd (0x6840 + d) 6 + 1))).flag (0x6840 + d) 8 9 1

theorem violCounted_shown (d : Nat) (b : Block) :
    (violCounted d b).rd (0x6840 + d) 6 = satTo 32 (b.rd (0x6840 + d) 6 + 1) ∧ (violCounted d b).rd (0x6840 + d) 8 = 1 ∧
      (violCounted d b).rd (0x6840 + d) 9 = satTo 32 (b.rd (0x6840 + d) 9 + 1) := by
  unfold violCounted
  refine ⟨?_, Block.rd_flag_self _ _ _ (by decide), ?_⟩
  · rw [Block.rd_flag_of_ne _ _ (by omega) (by omega), Block.rd_wr_of_lt _ _ _ (satTo_lt (by decide) _)]
  · rw [Block.rd_flag_count _ _ _ (by decide), Block.rd_wr_of_ne _ _ (by omega)]

theorem violCounted_rd {d i r : Nat} (h : i * 256 + r ≠ (0x6840 + d) * 256 + 6 ∧ i * 256 + r ≠ (0x6840 + d) * 256 + 8 ∧
    i * 256 + r ≠ (0x6840 + d) * 256 + 9) (b : Block) : (violCounted d b).rd i r = b.rd i r := by
  rw [violCounted, Block.rd_flag_of_ne _ _ h.2.1 h.2.2, Block.rd_wr_of_ne _ _ h.1]

/-- A violation where none stops: counted, flagged, recorded. -/
theorem violation_plain {d : Nat} {v : Violation} {b : Block} (hN : b.rd (0x6840 + d) 1 = 0) (hroom : (b.mask d).recs.length < 63) :
    ∃ ws, violation d v b = (violCounted d b).setMask d { b.mask d with recs := (b.mask d).recs ++ [ws] } := by
  obtain ⟨c, hc⟩ : ∃ c, c = violCounted d b := ⟨_, rfl⟩
  have hcN : c.rd (0x6840 + d) 1 = 0 := by rw [hc, violCounted_rd (by omega), hN]
  have hcm : c.mask d = b.mask d := by rw [hc]; rfl
  have hfold : (b.wr (maskObj d) 6 (satTo 32 (b.rd (maskObj d) 6 + 1))).flag (maskObj d) 8 9 1 = c := by rw [hc]; rfl
  have hobj : c.rd (maskObj d) 1 = 0 := hcN
  have hall : ∀ l : List (List Nat), l.filter (fun _ => true) = l := fun l => List.filter_eq_self.2 fun _ _ => rfl
  unfold violation
  simp only [hfold, hobj, hcm, bne_self_eq_false, Bool.false_and, Bool.not_false, if_true, if_false, Bool.and_true, Bool.false_or,
    hall, decide_eq_true_eq, Bool.false_eq_true, if_pos hroom]
  rw [← hc]
  exact ⟨_, rfl⟩

/-- The stop that violation N requests is made after the running frame and the holdoff. -/
def maskStop (d : Nat) (v : Violation) (b : Block) : Nat := max ((b.time.abs + 1) * 32 + 31) (v.pos + b.rd (0x6840 + d) 2)

/-- Violation N of an ARMED domain has been seen: time and HOLDOFF are shown, and the unit has requested the stop. -/
def violHeld (d : Nat) (v : Violation) (b : Block) : Block :=
  (((violCounted d b).wr (0x6840 + d) 7 v.ts).wr (0x6840 + d) 5 2).setMask d { b.mask d with requested := true, protect := none }

theorem violation_stops {d : Nat} {v : Violation} {b : Block} (hN : b.rd (0x6840 + d) 1 ≠ 0)
    (hn : b.rd (0x6840 + d) 1 = b.rd (0x6840 + d) 6 + 1) (hopt : b.rd (0x6840 + d) 3 = 0) (hst : b.dstate d = 1)
    (hseg : segmented (b.mode d) = false) :
    ∃ m bytes, m.requested = true ∧ violation d v b =
      (logEntry (0xFF10 + d) bytes (requestStop d (maskStop d v b) srMASK (maskStop d v b / 32) (violHeld d v b))).setMask d m := by
  obtain ⟨c, hc⟩ : ∃ c, c = violCounted d b := ⟨_, rfl⟩
  obtain ⟨e, he⟩ : ∃ e, e = (c.wr (maskObj d) 7 v.ts).wr (maskObj d) 5 2 := ⟨_, rfl⟩
  have hfold : (b.wr (maskObj d) 6 (satTo 32 (b.rd (maskObj d) 6 + 1))).flag (maskObj d) 8 9 1 = c := by rw [hc]; rfl
  have hrd : ∀ r, r ≠ 6 → r ≠ 8 → r ≠ 9 → c.rd (maskObj d) r = b.rd (0x6840 + d) r := fun r h6 h8 h9 => by
    rw [hc]
    exact violCounted_rd (by unfold maskObj; omega) b
  have hisN : (c.rd (maskObj d) 1 != 0 && b.rd (maskObj d) 6 + 1 == c.rd (maskObj d) 1) = true := by
    rw [hrd 1 (by decide) (by decide) (by decide)]
    simp [maskObj, ← hn, hN]
  have hacts : (c.dstate d == 1) = true := by
    have : c.dstate d = b.dstate d := by rw [hc]; exact violCounted_rd (by omega) b
    rw [this, hst]
    rfl
  have hopt' : c.rd (maskObj d) 3 = 0 := (hrd 3 (by decide) (by decide) (by decide)).trans hopt
  have hewr : ∀ i r, i * 256 + r ≠ (0x6840 + d) * 256 + 7 → i * 256 + r ≠ (0x6840 + d) * 256 + 5 → e.rd i r = c.rd i r := fun i r h7 h5 => by
    rw [he, maskObj, Block.rd_wr_of_ne _ _ h5, Block.rd_wr_of_ne _ _ h7]
  have hhold : e.rd (maskObj d) 2 = b.rd (0x6840 + d) 2 :=
    (hewr _ _ (by unfold maskObj; omega) (by unfold maskObj; omega)).trans (hrd 2 (by decide) (by decide) (by decide))
  have hseg' : segmented (e.mode d) = false := by
    have hmode : e.mode d = b.mode d := by
      refine (hewr _ _ (by omega) (by omega)).trans ?_
      rw [hc]
      exact violCounted_rd (by omega) b
    rw [hmode, hseg]
  have hmask : e.mask d = b.mask d := by rw [he, hc]; rfl
  have htime : e.time = b.time := by rw [he, hc]; rfl
  have hheld : violHeld d v b = e.setMask d { b.mask d with requested := true, protect := none } := by rw [he, hc]; rfl
  have h00 : bit 0 0 = false := by decide
  have h01 : bit 0 1 = false := by decide
  unfold violation
  simp only [hfold, hisN, hacts, hopt', h00, h01, Bool.and_true, Bool.and_false, Bool.false_and, Bool.not_true, ← he, hhold,
    hseg', hmask, htime, Bool.false_eq_true, if_false, if_true, Bool.true_or, hheld, maskStop]
  have hkeep : ∀ code bytes p k (x : Block), (logEntry code bytes (requestStop d p srMASK k x)).mask d = x.mask d := fun code bytes p k x => by
    obtain ⟨r, w, hlog⟩ := logEntry_shape code bytes (requestStop d p srMASK k x)
    rw [hlog]
    exact (stopBlind_mask d d).requestStop p srMASK k x
  refine ⟨_, _, ?_, rfl⟩
  exact (congrArg Mask.requested (hkeep ..)).trans (by rw [Block.mask_setMask_self])

theorem logEntry_rd (code : Nat) (bytes : List Byte) (b : Block) {i r : Nat} (hr : r < 256) (h : Safety.reporting i r = false) :
    (logEntry code bytes b).rd i r = b.rd i r := congrArg BitVec.toNat (logEntry_reg code bytes b i r hr h)

/-- The unit that the violation holds off: its domain goes on until the stop becomes known. -/
theorem violHeld_facts {d : Nat} (v : Violation) {b : Block} (hst : b.dstate d = 1) :
    (violHeld d v b).dstate d = 1 ∧ (violHeld d v b).rd (0x6840 + d) 5 = 2 ∧ (violHeld d v b).dom d = b.dom d ∧
      (violHeld d v b).time = b.time := by
  obtain ⟨c, hc⟩ : ∃ c, c = violCounted d b := ⟨_, rfl⟩
  have hcst : c.rd (0x5100 + d) 2 = 1 := by rw [hc]; exact (violCounted_rd (by omega) b).trans hst
  obtain ⟨x, he⟩ : ∃ x, violHeld d v b = ((c.wr (0x6840 + d) 7 v.ts).wr (0x6840 + d) 5 2).setMask d x := ⟨_, by rw [hc]; rfl⟩
  refine ⟨?_, ?_, rfl, rfl⟩
  · rw [he]
    exact (Block.rd_wr_of_ne (c.wr (0x6840 + d) 7 v.ts) 2 (by omega)).trans ((Block.rd_wr_of_ne _ _ (by omega)).trans hcst)
  · rw [he]
    exact Block.rd_wr_of_lt (c.wr (0x6840 + d) 7 v.ts) _ _ (show 2 < 2 ^ 64 by decide)

theorem logEntry_dom (code : Nat) (bytes : List Byte) (b : Block) (d : Nat) : (logEntry code bytes b).dom d = b.dom d := by
  obtain ⟨r, lw, h⟩ := logEntry_shape code bytes b
  rw [h]
  rfl

theorem violation_stops_facts {d : Nat} {v : Violation} {b : Block} (hd : d < 8) (hN : b.rd (0x6840 + d) 1 ≠ 0)
    (hn : b.rd (0x6840 + d) 1 = b.rd (0x6840 + d) 6 + 1) (hopt : b.rd (0x6840 + d) 3 = 0) (hst : b.dstate d = 1)
    (hseg : segmented (b.mode d) = false) (hstop : (b.dom d).stop = none) :
    (violation d v b).rd (0x6840 + d) 5 = 2 ∧ ((violation d v b).mask d).requested = true ∧
      ((violation d v b).dom d).stop =
        some { pos := maskStop d v b, rank := stopRank srMASK, reason := srMASK, known := maskStop d v b / 32 } := by
  obtain ⟨m, bytes, hreq, he⟩ := violation_stops (v := v) hN hn hopt hst hseg
  obtain ⟨hwst, hw5, hwdom, hwtime⟩ := violHeld_facts v hst
  obtain ⟨w, hw⟩ : ∃ w, w = violHeld d v b := ⟨_, rfl⟩
  rw [← hw] at hwst hw5 hwdom hwtime he
  have hlate : w.time.abs < maskStop d v b / 32 := by
    rw [hwtime, maskStop]
    omega
  rw [requestStop_first hwst (by rw [hwdom, hstop]) hlate] at he
  obtain ⟨l, hl⟩ : ∃ l, l = [{ pos := maskStop d v b, rank := stopRank srMASK, reason := srMASK, known := maskStop d v b / 32 : StopReq }] :=
    ⟨_, rfl⟩
  rw [← hl] at he
  obtain ⟨y, hy⟩ : ∃ y, y = logEntry (0xFF10 + d) bytes (w.setDom d { w.dom d with stops := l }) := ⟨_, rfl⟩
  have hydom : y.dom d = { w.dom d with stops := l } := by rw [hy, logEntry_dom, Block.dom_setDom_self]
  have hy5 : y.rd (0x6840 + d) 5 = 2 := by
    rw [hy]
    exact (logEntry_rd _ _ _ (by decide) (by simp [Safety.reporting]; omega)).trans hw5
  rw [← hy] at he
  rw [he]
  refine ⟨hy5, ?_, ?_⟩
  · rw [Block.mask_setMask_self, hreq]
  · refine (congrArg Dom.stop hydom).trans ?_
    rw [hl]
    rfl

/-! ### The end of the holdoff (R284, R288) -/

/-- A write of the value that a register holds. -/
theorem Block.reg_wr_same {b : Block} {i s v : Nat} (h : b.rd i s = v) (j r : Nat) : (b.wr i s v).reg j r = b.reg j r := by
  rw [Block.reg_wr]
  split
  · next hk =>
    have hb : b.reg j r = b.reg i s := by rw [Block.reg, Block.reg, hk]
    rw [hb, ← h, Block.rd, BitVec.ofNat_toNat, BitVec.setWidth_eq]
  · rfl

/-- A stop that is already in force changes nothing when it becomes known again. -/
theorem knowStop_known {d : Nat} {b : Block}
    (h : b.dstate d = 2 → ∀ y, firstStop ((b.dom d).stops.filter (fun y => decide (y.known ≤ b.time.abs))) = some y →
      b.rd (0x5100 + d) 4 = y.reason) (hne : b.dstate d ≠ 1) (i r : Nat) :
    (knowStop d b).reg i r = b.reg i r := by
  unfold knowStop
  split
  · next y hy =>
    split
    · next harm =>
      have h2 : b.dstate d = 2 := by simpa [Block.armed, hne] using harm
      have h4 : (b.wr (0x5100 + d) 2 2).rd (0x5100 + d) 4 = y.reason := by
        rw [Block.rd_wr_of_ne _ _ (by omega), h h2 y hy]
      rw [Block.reg_wr_same h4, Block.reg_wr_same h2]
    · rfl
  · rfl

theorem holdoffEnd_facts {d : Nat} {b : Block} (hstate : b.rd (0x6840 + d) 5 = 2) (hne : b.dstate d ≠ 1)
    (hpast : ∀ x, (b.dom d).stop = some x → x.pos < b.time.abs * 32 + 31)
    (h : b.dstate d = 2 → ∀ y, firstStop ((b.dom d).stops.filter (fun y => decide (y.known ≤ b.time.abs))) = some y →
      b.rd (0x5100 + d) 4 = y.reason) :
    (holdoffEnd d b).rd (0x6840 + d) 5 = 3 ∧ (∀ e, (holdoffEnd d b).mask e = b.mask e) ∧
      Block.Within (fun i r => i == 0x6840 + d && r == 5) b (holdoffEnd d b) := by
  obtain ⟨c, hc⟩ : ∃ c, c = knowStop d b := ⟨_, rfl⟩
  obtain ⟨regs, hshape⟩ := knowStop_shape d b
  rw [← hc] at hshape
  have hreg : ∀ i r, c.reg i r = b.reg i r := fun i r => by rw [hc]; exact knowStop_known h hne i r
  have hrd : ∀ i r, c.rd i r = b.rd i r := fun i r => congrArg BitVec.toNat (hreg i r)
  have hdom : c.dom d = b.dom d := by rw [hshape]; rfl
  have hpassed : stopPassed c d (b.time.abs * 32 + 31) = true := by
    have hst : c.dstate d = b.dstate d := hrd _ _
    rw [stopPassed, hst, hdom]
    cases hs : (b.dom d).stop with
    | none => simp [hne]
    | some x => simp [hne, hpast x hs]
  have hgo : (decide (c.rd (maskObj d) 5 = 2) && stopPassed c d (b.time.abs * 32 + 31)) = true := by
    rw [hpassed, hrd, Bool.and_true, decide_eq_true_eq]
    exact hstate
  have he : holdoffEnd d b = c.wr (0x6840 + d) 5 3 := by
    rw [holdoffEnd, holdoffEndBy, ← hc]
    exact if_pos hgo
  rw [he]
  refine ⟨Block.rd_wr_of_lt _ _ _ (by decide), fun e => by rw [hshape]; rfl, ?_⟩
  have hin : Block.Within (fun i r => i == 0x6840 + d && r == 5) b c := ⟨fun i r _ _ _ => hreg i r, by rw [hshape]⟩
  exact hin.wr _ (by decide) (by simp)

/-- What a comparison of the latched windows leaves of what a violation reads. -/
theorem unitsCompared_rd (d : Nat) (b : Block) (i r : Nat) : (unitsCompared d b).rd i r = b.rd i r :=
  unitsCompared_keeps (g := fun c : Block => c.rd i r) (fun _ _ _ => rfl) d b

/-- A register of a measurement unit after a run. -/
theorem State.run_rd_low (s : State) (f : List Host.Cell → Block → Block) {i r : Nat} (hi : 0x2010 ≤ i ∧ i < 0x8000) (hr : r < 256) :
    (s.run f).blk.rd i r = (f s.mem s.blk).rd i r := State.run_rd_of_ne _ _ _ _ (by omega)

/-- Settles O36: each event changes its own unit; a violation is counted and recorded, and violation N requests its stop. -/
theorem measurementsAndMasks : Obligations.MeasurementsAndMasks := by
  refine ⟨?_, ?_, ?_, ?_, ?_, ?_⟩
  · intro s d n p first hon hd hn hpod hend hstart
    have hu := windowEnd_unit hn hpod
    obtain ⟨h1, h2, h3, h4⟩ := applyEnd_unit hend hstart
    rw [← hu] at h1 h2 h3 h4
    have hrun : ∀ k, (s.run (fun _ b => windowEnd d b)).blk.measUnit k = (windowEnd d s.blk).measUnit k := fun k => State.run_measUnit ..
    refine ⟨_, State.act_of_on (by simp [Instr.wf, hd]) hon _, ?_, ?_, ?_, ?_, ?_, Block.Within.keeps (windowEnd_within _ d s.blk)⟩
    · rw [hrun, h1]
    · rw [hrun, h2]
    · rw [hrun]
      exact h3
    · rw [hrun]
      exact h4
    · intro k hk
      rw [hrun, windowEnd_others hk]
  · intro s n w rest hon hn hended hlate
    have he : resultsLatch n s.blk = latchWindow n s.blk := by
      simp only [resultsLatch, hended, if_pos hlate]
    obtain ⟨h1, ⟨x, hx, hat, hpos, hplaces⟩, hothers, hin⟩ := latchWindow_facts hended
    rw [← he] at h1 hx hplaces hothers hin
    have hrun : ∀ k, (s.run (fun _ b => resultsLatch n b)).blk.measUnit k = (resultsLatch n s.blk).measUnit k := fun k => State.run_measUnit ..
    refine ⟨_, State.act_of_on (by simp [Instr.wf, hn]) hon _, ?_, ⟨x, ?_, hat, hpos, ?_⟩, ?_, Block.Within.keeps hin⟩
    · rw [hrun, h1]
    · rw [hrun, hx]
    · rw [hrun, State.run_rd_low _ _ (by omega) (by decide), State.run_rd_low _ _ (by omega) (by decide)]
      exact hplaces
    · intro k hk
      rw [hrun, hothers k hk]
  · intro s d n hon hd hn hpod hfound hvs
    have hnone : limitFound d s.blk = [] := by
      unfold limitFound
      split
      · next h => exact hvs h
      · rfl
    have he := limitCompare_none hfound hnone
    refine ⟨_, State.act_of_on (by simp [Instr.wf, hd]) hon _, ?_, ?_, Block.Within.keeps ?_⟩
    · rw [State.run_measUnit, he, unitsCompared_latched hn hpod]
    · rw [State.run_mask, he]
      exact unitsCompared_keeps (g := fun c : Block => c.mask d) (fun _ _ _ => rfl) d s.blk
    · rw [he]
      exact unitsCompared_within _ d s.blk
  · intro s d v hon hd hfound hworks hvs hN hroom
    have hone : limitFound d s.blk = [v] := by rw [limitFound, if_pos hworks, hvs]
    obtain ⟨c, hc⟩ : ∃ c, c = unitsCompared d s.blk := ⟨_, rfl⟩
    have hcm : c.mask d = s.blk.mask d := by rw [hc]; exact unitsCompared_keeps (g := fun c : Block => c.mask d) (fun _ _ _ => rfl) d s.blk
    have hcr : ∀ i r, c.rd i r = s.blk.rd i r := fun i r => by rw [hc]; exact unitsCompared_rd d s.blk i r
    obtain ⟨ws, hv⟩ := violation_plain (v := v) ((hcr _ _).trans hN) (by rw [hcm]; exact hroom)
    obtain ⟨e, he'⟩ : ∃ e, e = violCounted d c := ⟨_, rfl⟩
    have he : limitCompare d s.blk = e.setMask d { c.mask d with recs := (c.mask d).recs ++ [ws] } := by
      rw [limitCompare_one hfound hone, ← hc, hv, he']
    obtain ⟨h6, h8, h9⟩ := violCounted_shown d c
    rw [← he', hcr] at h6 h9
    rw [← he'] at h8
    have hrd : ∀ r < 256, (s.run (fun _ b => limitCompare d b)).blk.rd (0x6840 + d) r = e.rd (0x6840 + d) r := fun r hr => by
      rw [State.run_rd_low _ _ (by omega) hr, he]
      rfl
    refine ⟨_, State.act_of_on (by simp [Instr.wf, hd]) hon _, (hrd _ (by decide)).trans h6, (hrd _ (by decide)).trans h8,
      (hrd _ (by decide)).trans h9, ⟨ws, ?_⟩, ?_, Block.Within.keeps ?_⟩
    · rw [State.run_mask, he, Block.mask_setMask_self, hcm]
    · rw [State.run_doms, he]
      show e.doms = _
      rw [he', hc]
      exact unitsCompared_keeps (g := Block.doms) (fun _ _ _ => rfl) d s.blk
    · have hin : Block.Within (fun i r => i == 0x6840 + d && (r == 6 || r == 8 || r == 9)) s.blk c := hc ▸ unitsCompared_within _ d s.blk
      have hin' : Block.Within (fun i r => i == 0x6840 + d && (r == 6 || r == 8 || r == 9)) s.blk e := by
        rw [he']
        exact (hin.wr _ (by decide) (by simp)).flag _ (by decide) (by decide) (by simp) (by simp)
      rw [he]
      exact hin'.of_regs rfl rfl
  · intro s d v hon hd hfound hworks hvs hN hn hopt hst hseg hstop
    have hone : limitFound d s.blk = [v] := by rw [limitFound, if_pos hworks, hvs]
    obtain ⟨c, hc⟩ : ∃ c, c = unitsCompared d s.blk := ⟨_, rfl⟩
    have hcr : ∀ i r, c.rd i r = s.blk.rd i r := fun i r => by rw [hc]; exact unitsCompared_rd d s.blk i r
    have hcd : c.dom d = s.blk.dom d := by rw [hc]; exact unitsCompared_keeps (g := fun c : Block => c.dom d) (fun _ _ _ => rfl) d s.blk
    have hct : c.time = s.blk.time := by rw [hc]; exact unitsCompared_keeps (g := Block.time) (fun _ _ _ => rfl) d s.blk
    have hpos : maskStop d v c = max ((s.blk.time.abs + 1) * 32 + 31) (v.pos + s.blk.rd (0x6840 + d) 2) := by
      rw [maskStop, hct, hcr]
    obtain ⟨h5, hreq, hdom⟩ := violation_stops_facts (v := v) hd (by rw [hcr]; exact hN) (by rw [hcr, hcr]; exact hn)
      (by rw [hcr]; exact hopt) ((hcr _ _).trans hst) (by rw [Block.mode, hcr]; exact hseg) (by rw [hcd]; exact hstop)
    have he : limitCompare d s.blk = violation d v c := by rw [limitCompare_one hfound hone, hc]
    rw [← he] at h5 hreq hdom
    rw [hpos] at hdom
    refine ⟨_, State.act_of_on (by simp [Instr.wf, hd]) hon _, (State.run_rd_low _ _ (by omega) (by decide)).trans h5, ?_, ?_⟩
    · rw [State.run_mask, hreq]
    · rw [State.run_dom, hdom]
  · intro s d hon hd hstate hne hpast hknown
    obtain ⟨h5, hmask, hin⟩ := holdoffEnd_facts hstate hne hpast hknown
    refine ⟨_, State.act_of_on (by simp [Instr.wf, hd]) hon _, (State.run_rd_low _ _ (by omega) (by decide)).trans h5, ?_, Block.Within.keeps hin⟩
    intro e
    rw [State.run_mask, hmask]

end Sys2Proof.Machine

/-! # Commit, high watermark and peak (R18, R220, R235) -/

namespace Sys2Proof.Machine

/-! ### The contents after several writes -/

/-- The changes of the store's contents that runs of words make. -/
def writeOps (ws : List (Nat × List Nat)) : List MemOp := ws.map (fun w => .write w.1 (wordsToLe w.2))

theorem memApply_writeOps_cons (mem : List Host.Cell) (w : Nat × List Nat) (ws : List (Nat × List Nat)) :
    memApply mem (writeOps (w :: ws)) = memApply (memWrite mem w.1 (wordsToLe w.2)) (writeOps ws) := rfl

theorem memRead_writeOps_outside {k : Nat} (ws : List (Nat × List Nat)) (mem : List Host.Cell)
    (h : ∀ w ∈ ws, k < w.1 ∨ w.1 + (wordsToLe w.2).length ≤ k) : memRead (memApply mem (writeOps ws)) k = memRead mem k := by
  induction ws generalizing mem with
  | nil => rfl
  | cons w ws ih =>
    rw [memApply_writeOps_cons, ih _ fun v hv => h v (List.mem_cons_of_mem _ hv), memRead_memWrite_outside (h w List.mem_cons_self)]

/-- Where writes meet the later one holds. -/
theorem memRead_writeOps_at (ws : List (Nat × List Nat)) (mem : List Host.Cell) {j : Nat} (hj : j < ws.length) {i : Nat}
    (hi : i < (wordsToLe (ws.getD j (0, [])).2).length)
    (h : ∀ v ∈ ws.drop (j + 1), (ws.getD j (0, [])).1 + i < v.1 ∨ v.1 + (wordsToLe v.2).length ≤ (ws.getD j (0, [])).1 + i) :
    memRead (memApply mem (writeOps ws)) ((ws.getD j (0, [])).1 + i) = (wordsToLe (ws.getD j (0, [])).2).getD i 0 := by
  induction ws generalizing mem j with
  | nil => cases hj
  | cons w ws ih =>
    rw [memApply_writeOps_cons]
    cases j with
    | zero =>
      rw [List.getD_cons_zero] at hi h ⊢
      rw [memRead_writeOps_outside ws _ h]
      refine memRead_memWrite_at _ _ _ _ _ ?_
      rw [List.getD_eq_getElem?_getD, List.getElem?_eq_getElem hi, Option.getD_some]
    | succ j =>
      rw [List.getD_cons_succ] at hi h ⊢
      exact ih _ (Nat.lt_of_succ_lt_succ hj) hi h

/-! ### STORE_COMMIT (R18, R220) -/

/-- The peak follows the fill. -/
def peakFollows (t : Nat) (b : Block) : Block :=
  if b.rd (0x6400 + t) 5 < b.rd (0x6400 + t) 1 then b.wr (0x6400 + t) 5 (b.rd (0x6400 + t) 1) else b

theorem evalHwm_eq (t : Nat) (was : Bool) (b : Block) : evalHwm t was b =
    if !was && decide ((peakFollows t b).rd (0x6100 + t) 8 ≤ b.rd (0x6400 + t) 1) then (peakFollows t b).flag (0x6400 + t) 2 3 1
    else peakFollows t b := rfl

theorem evalHwm_keeps {γ : Type} {g : Block → γ} (hregs : ∀ (b : Block) r, g { b with regs := r } = g b) (t : Nat) (was : Bool) (b : Block) :
    g (evalHwm t was b) = g b := by
  have hpeak : g (peakFollows t b) = g b := by
    unfold peakFollows
    split
    · exact hregs ..
    · rfl
  rw [evalHwm_eq]
  split
  · exact (hregs _ _).trans ((hregs _ _).trans hpeak)
  · exact hpeak

theorem setFill_keeps {γ : Type} {g : Block → γ} (hregs : ∀ (b : Block) r, g { b with regs := r } = g b) (t : Nat) (b : Block) :
    g (setFill t b) = g b := by
  have hwr : g (b.wr (0x6400 + t) 1 (b.store t).fill) = g b := hregs b _
  exact (evalHwm_keeps hregs t _ _).trans hwr

/-- A frame's words are on their way, and its units and results follow. -/
def committed (t : Nat) (f : StagedFrame) (b : Block) : Block :=
  let c := forEach f.writes (fun w b => fillUnit w.1 b) { b with mops := b.mops ++ writeOps f.writes }
  let u := f.writes.getLast?.map (fun w => w.1 / unitBytes)
  let c := match u with | some u => settleUnits ((c.store t).base / unitBytes) ((c.store t).size / unitBytes) (some u) c | none => c
  let c := match f.nextOff with | some x => c.wr (0x6300 + t) 5 x | none => c
  match f.lastTs with | some x => c.wr (0x6300 + t) 4 x | none => c

theorem commitFrame_eq (t : Nat) (f : StagedFrame) (b : Block) : commitFrame t f b =
    if regionClass ((committed t f b).mode t) = 2 then setFill t ((committed t f b).setStore t { (committed t f b).store t with cpos := f.endPos })
    else committed t f b := rfl

theorem committed_keeps {γ : Type} {g : Block → γ} (hregs : ∀ (b : Block) r, g { b with regs := r } = g b)
    (hunits : ∀ (b : Block) u, g { b with units := u } = g b) (t : Nat) (f : StagedFrame) (b : Block) :
    g (committed t f b) = g { b with mops := b.mops ++ writeOps f.writes } := by
  have hfill : ∀ (w : Nat × List Nat) (c : Block), g (fillUnit w.1 c) = g c := fun w c => by
    unfold fillUnit
    dsimp only
    split
    · exact hunits ..
    · rfl
  have hall := forEach_keeps (f := fun (w : Nat × List Nat) (c : Block) => fillUnit w.1 c) g (xs := f.writes) (fun w _ c => hfill w c)
    { b with mops := b.mops ++ writeOps f.writes }
  unfold committed
  dsimp only
  generalize forEach f.writes (fun w b => fillUnit w.1 b) { b with mops := b.mops ++ writeOps f.writes } = c at hall ⊢
  cases f.writes.getLast? with
  | none =>
    cases f.nextOff with
    | none =>
      cases f.lastTs with
      | none => exact hall
      | some x => exact (hregs c _).trans hall
    | some y =>
      cases f.lastTs with
      | none => exact (hregs c _).trans hall
      | some x => exact (hregs (c.wr (0x6300 + t) 5 y) _).trans ((hregs c _).trans hall)
  | some w =>
    have hset : ∀ lo n u, g (settleUnits lo n u c) = g { b with mops := b.mops ++ writeOps f.writes } := fun lo n u => (hunits c _).trans hall
    cases f.nextOff with
    | none =>
      cases f.lastTs with
      | none => exact hset ..
      | some x => exact (hregs (settleUnits _ _ _ c) _).trans (hset ..)
    | some y =>
      cases f.lastTs with
      | none => exact (hregs (settleUnits _ _ _ c) _).trans (hset ..)
      | some x => exact (hregs ((settleUnits _ _ _ c).wr (0x6300 + t) 5 y) _).trans ((hregs (settleUnits _ _ _ c) _).trans (hset ..))

/-- Beside its words, a commit changes registers, the state of units and the committed position. -/
theorem commitFrame_keeps {γ : Type} {g : Block → γ} {d : Nat} (hregs : ∀ (b : Block) r, g { b with regs := r } = g b)
    (hunits : ∀ (b : Block) u, g { b with units := u } = g b) (hpos : ∀ (b : Block) x, g (b.setStore d { b.store d with cpos := x }) = g b)
    (f : StagedFrame) (b : Block) : g (commitFrame d f b) = g { b with mops := b.mops ++ writeOps f.writes } := by
  rw [commitFrame_eq]
  split
  · exact (setFill_keeps hregs d _).trans ((hpos _ _).trans (committed_keeps hregs hunits d f b))
  · exact committed_keeps hregs hunits d f b

theorem storeCommit_facts {d : Nat} {f : StagedFrame} {rest : List StagedFrame} {b : Block} (hst : (b.store d).staged = f :: rest)
    (hleft : f.left = 0) :
    (storeCommit d b).mops = b.mops ++ writeOps f.writes ∧ ((storeCommit d b).store d).staged = rest := by
  have he : storeCommit d b = commitFrame d f (b.setStore d { b.store d with staged := rest }) := by
    simp only [storeCommit, hst, hleft, if_true]
  rw [he]
  constructor
  · exact commitFrame_keeps (d := d) (g := Block.mops) (fun _ _ => rfl) (fun _ _ => rfl) (fun _ _ => rfl) f _
  · rw [commitFrame_keeps (d := d) (g := fun c : Block => (c.store d).staged) (fun _ _ => rfl) (fun _ _ => rfl)
      (fun c x => by rw [Block.store_setStore_self]) f]
    exact congrArg StoreDom.staged (Block.store_setStore_self ..)

/-! ### The high watermark and the peak (R235) -/

theorem storeMarks_plain : ∀ d < 8, isFlag (0x6100 + d) 8 = false ∧ clearedBy (0x6100 + d) 8 = none ∧ isFlag (0x6400 + d) 6 = false ∧
    clearedBy (0x6400 + d) 6 = none := by
  decide +kernel

theorem chapterWrite_hwm {d : Nat} (hd : d < 8) (p : Path) (mem : List Host.Cell) (v : Nat) (b : Block) :
    chapterWrite p mem (0x6100 + d) 8 v b = (stOK, hwmWrite d v b) := by
  obtain ⟨hflag, hclear, -⟩ := storeMarks_plain d hd
  rw [chapterWrite_of_store hflag hclear p mem v b (by omega), if_pos (by omega), storeObjWrite, if_neg (by omega), if_neg (by omega),
    if_pos (by simp; omega), Nat.add_sub_cancel_left]

theorem chapterWrite_peak {d : Nat} (hd : d < 8) (p : Path) (mem : List Host.Cell) (v : Nat) (b : Block) :
    chapterWrite p mem (0x6400 + d) 6 v b = (stOK, peakReset d v b) := by
  obtain ⟨-, -, hflag, hclear⟩ := storeMarks_plain d hd
  rw [chapterWrite_of_store hflag hclear p mem v b (by omega), if_pos (by omega), storeObjWrite, if_neg (by omega), if_neg (by omega),
    if_neg (by simp), if_pos (by omega), Nat.add_sub_cancel_left]

/-- Bit 4 of a domain's store register resets the peak and clears nothing. -/
theorem regWrite_peak {d : Nat} (hd : d < 8) (mem : List Host.Cell) (b : Block) :
    regWrite mem (0x804 + 0x40 * d) 16 b = (stOK, peakReset d 1 b) := by
  have hflags : ∀ k < 8, flagPlaces (0x804 + 0x40 * k) = [] := by decide +kernel
  have hclear : ∀ k < 8, (clearPlaces (0x804 + 0x40 * k)).filter (bit 16) = [] := by decide +kernel
  have hnone : clearBits (0x804 + 0x40 * d) 16 b = b := by
    rw [clearBits, hflags d hd, hclear d hd]
    rfl
  unfold regWrite
  split
  · omega
  · omega
  · omega
  · omega
  · omega
  · rw [if_neg (by simp [hflags d hd]), if_neg (by simp), if_pos (by simp; omega), hnone, show (0x804 + 0x40 * d - 0x800) / 0x40 = d by omega,
      show bits 16 4 1 = 1 by decide]

/-- What a write of the mark leaves in the registers of the fill. -/
theorem hwmWrite_facts {d v : Nat} (hv : v < 2 ^ 64) (b : Block) :
    (hwmWrite d v b).rd (0x6100 + d) 8 = v ∧ (hwmWrite d v b).rd (0x6400 + d) 1 = b.rd (0x6400 + d) 1 ∧
      (if b.rd (0x6400 + d) 1 < b.rd (0x6100 + d) 8 ∧ v ≤ b.rd (0x6400 + d) 1 then
        (hwmWrite d v b).rd (0x6400 + d) 2 = 1 ∧ (hwmWrite d v b).rd (0x6400 + d) 3 = satTo 32 (b.rd (0x6400 + d) 3 + 1)
       else (hwmWrite d v b).rd (0x6400 + d) 2 = b.rd (0x6400 + d) 2 ∧ (hwmWrite d v b).rd (0x6400 + d) 3 = b.rd (0x6400 + d) 3) := by
  obtain ⟨w, hw⟩ : ∃ w, w = b.wr (0x6100 + d) 8 v := ⟨_, rfl⟩
  obtain ⟨c, hc⟩ : ∃ c, c = peakFollows d w := ⟨_, rfl⟩
  have hwr : ∀ i r, i * 256 + r ≠ (0x6100 + d) * 256 + 8 → w.rd i r = b.rd i r := fun i r h => by rw [hw, Block.rd_wr_of_ne _ _ h]
  have hcr : ∀ i r, i * 256 + r ≠ (0x6400 + d) * 256 + 5 → c.rd i r = w.rd i r := fun i r h => by
    rw [hc, peakFollows]
    split
    · exact Block.rd_wr_of_ne _ _ h
    · rfl
  have h1 : w.rd (0x6400 + d) 1 = b.rd (0x6400 + d) 1 := hwr _ _ (by omega)
  have h8 : w.rd (0x6100 + d) 8 = v := by rw [hw, Block.rd_wr_of_lt _ _ _ hv]
  have he : hwmWrite d v b = if !hwmCond b d && decide (v ≤ b.rd (0x6400 + d) 1) then c.flag (0x6400 + d) 2 3 1 else c := by
    rw [hwmWrite, ← hw, evalHwm_eq, ← hc, hcr _ _ (by omega), h8, h1]
  have hiff : (!hwmCond b d && decide (v ≤ b.rd (0x6400 + d) 1)) = true ↔
      b.rd (0x6400 + d) 1 < b.rd (0x6100 + d) 8 ∧ v ≤ b.rd (0x6400 + d) 1 := by
    simp [hwmCond]
  rw [he]
  by_cases hset : b.rd (0x6400 + d) 1 < b.rd (0x6100 + d) 8 ∧ v ≤ b.rd (0x6400 + d) 1
  · rw [if_pos (hiff.2 hset), if_pos hset]
    refine ⟨?_, ?_, Block.rd_flag_self _ _ _ (by decide), ?_⟩
    · rw [Block.rd_flag_of_ne _ _ (by omega) (by omega), hcr _ _ (by omega), h8]
    · rw [Block.rd_flag_of_ne _ _ (by omega) (by omega), hcr _ _ (by omega), h1]
    · rw [Block.rd_flag_count _ _ _ (by decide), hcr _ _ (by omega), hwr _ _ (by omega)]
  · rw [if_neg (fun h => hset (hiff.1 h)), if_neg hset]
    refine ⟨(hcr _ _ (by omega)).trans h8, (hcr _ _ (by omega)).trans h1, (hcr _ _ (by omega)).trans (hwr _ _ (by omega)),
      (hcr _ _ (by omega)).trans (hwr _ _ (by omega))⟩

/-- Settles O23: a commit's words are read back, a mark is in force at once, and a peak reset takes the fill. -/
theorem framesAreCommittedAndTheFillIsWatched : Obligations.FramesAreCommittedAndTheFillIsWatched := by
  refine ⟨?_, ?_, ?_⟩
  · intro s d f rest hon hd hm hst hleft
    obtain ⟨hmops, hstaged⟩ := storeCommit_facts hst hleft
    have hmem : (s.run (fun _ b => storeCommit d b)).mem = memApply s.mem (writeOps f.writes) := by
      rw [State.run_mem, hmops, hm]
      rfl
    refine ⟨_, State.act_of_on (by simp [Instr.wf, hd]) hon _, ?_, ?_, ?_⟩
    · rw [State.run_store, hstaged]
    · intro j hj w i hi h
      rw [hmem]
      exact memRead_writeOps_at f.writes s.mem hj hi h
    · intro k hk
      rw [hmem]
      exact memRead_writeOps_outside f.writes s.mem hk
  · intro s p d v hs hd ha
    obtain ⟨o, hrun⟩ := State.put_eq hs ha (chapterWrite_hwm hd p s.mem v _) (by decide)
    have hal := s.blk.counted_alike
    obtain ⟨h8, h1, h⟩ := hwmWrite_facts (d := d) ha.lt s.blk.counted
    rw [hal.rd _ _ (by omega)] at h1
    rw [hal.rd (0x6400 + d) 1 (by omega), hal.rd (0x6100 + d) 8 (by omega), hal.rd (0x6400 + d) 2 (by omega), hal.rd (0x6400 + d) 3 (by omega)] at h
    obtain ⟨c, hc⟩ : ∃ c, c = hwmWrite d v s.blk.counted := ⟨_, rfl⟩
    rw [← hc] at hrun h8 h1 h
    have hrd : ∀ i r, 0x6100 ≤ i ∧ i < 0x6500 ∧ r < 256 → (s.put p (0x6100 + d) 8 v).blk.rd i r = c.rd i r := fun i r hi => by
      rw [hrun, State.run_rd_low _ _ (by omega) hi.2.2, Block.reply_rd]
    refine ⟨_, State.act_of_on (by simp [Instr.wf, hd]) hs.1 _, ?_, (hrd _ _ (by omega)).trans h8, (hrd _ _ (by omega)).trans h1, ?_⟩
    · show (s.put p (0x6100 + d) 8 v).blk.resp = _
      rw [hrun, State.run_resp, Block.reply_resp]
    · rw [← hrd _ _ (by omega), ← hrd _ _ (by omega)] at h
      exact h
  · intro s w d hs hd hr
    have hpeak : ∀ b : Block, peakReset d 1 b = b.wr (0x6400 + d) 5 (b.rd (0x6400 + d) 1) := fun _ => rfl
    obtain ⟨b, x, m, o, hb, hrun, hans⟩ := State.via_eq (f := peakReset d 1) (off := 0x804 + 0x40 * d) (word := 16) (st := stOK) hs hr
      (by omega) (by omega) ⟨s.blk.bar, by rw [show 16 % 2 ^ 32 = 16 by decide, regWrite_peak hd]; rfl⟩
      (fun p _ => chapterWrite_peak hd p s.mem 1 _) (by decide)
    refine ⟨_, (State.act_of_on (by simp [Instr.wf, hd]) hs.1 _).trans (congrArg _ hrun), hans, ?_, Block.Within.keeps ?_⟩
    · rw [State.run_rd_low _ _ (by omega) (by decide), Block.reply_rd, hpeak, Block.rd_wr_of_lt _ _ _ (Block.rd_lt ..), hb.rd _ _ (by omega)]
    · have hin : Block.Within (fun i r => i == 0x6400 + d && r == 5) s.blk (peakReset d 1 b) := by
        rw [hpeak]
        exact (hb.within _).wr _ (by decide) (by simp)
      exact hin.of_regs rfl rfl

end Sys2Proof.Machine

/-! # Ends that the capture store reaches by itself (R172, R226, R229, R230) -/

namespace Sys2Proof.Machine

/-! ### A stop that becomes known -/

/-- A stop that comes before every other one requested is in force from its frame on. -/
theorem knowStop_of_known {d : Nat} {b : Block} {x : StopReq} (harm : b.armed d = true) (hx : x ∈ (b.dom d).stops)
    (hbeats : ∀ y ∈ (b.dom d).stops, y ≠ x → x.beats y = true) (hk : x.known ≤ b.time.abs) :
    knowStop d b = (b.wr (0x5100 + d) 2 2).wr (0x5100 + d) 4 x.reason := by
  have hfirst : firstStop ((b.dom d).stops.filter (fun y => decide (y.known ≤ b.time.abs))) = some x :=
    firstStop_of_least (List.mem_filter.2 ⟨hx, decide_eq_true hk⟩) (fun y hy => hbeats y (List.mem_filter.1 hy).1)
  simp only [knowStop, hfirst, harm, if_true]

/-- Before the first of its stops is known a domain goes on. -/
theorem knowStop_of_unknown {d : Nat} {b : Block} (h : ∀ y ∈ (b.dom d).stops, b.time.abs < y.known) : knowStop d b = b := by
  have hnone : firstStop ((b.dom d).stops.filter (fun y => decide (y.known ≤ b.time.abs))) = none := by
    rw [firstStop_eq_none, List.filter_eq_nil_iff]
    intro y hy
    have := h y hy
    simp
    omega
  simp only [knowStop, hnone]

theorem knowStop_within (d : Nat) (b : Block) : Block.Within (fun i r => i == 0x5100 + d && (r == 2 || r == 4)) b (knowStop d b) := by
  unfold knowStop
  split
  · split
    · exact ((Block.Within.refl _ b).wr _ (by decide) (by simp)).wr _ (by decide) (by simp)
    · exact Block.Within.refl _ b
  · exact Block.Within.refl _ b

/-! ### Closing and opening a segment -/

/-- A capture store whose open segment `g` has closed at position `c`. -/
def StoreDom.closedAt (x : StoreDom) (c reason : Nat) (g : Segment) : StoreDom :=
  { x with
    seg := none, closing := some (c, reason, g), hdrDue := true,
    history := (match x.history with | y :: ys => { y with c := some c } :: ys | [] => []) }

theorem closeSegment_eq {d c reason : Nat} {b : Block} {g : Segment} (hseg : (b.store d).seg = some g) :
    ∃ w : Block, w.stores = (b.setStore d ((b.store d).closedAt c reason g)).stores ∧
      (closeSegment d c reason b = w ∨ closeSegment d c reason b = requestStop d c srSTORE (c / 32 + 5) w) := by
  obtain ⟨x, hx⟩ : ∃ x, x = (b.store d).closedAt c reason g := ⟨_, rfl⟩
  obtain ⟨v, hv⟩ : ∃ v, v = b.rd (0x6300 + d) 6 := ⟨_, rfl⟩
  have he : closeSegment d c reason b = if g.slot + 1 = (b.store d).slots && !((b.setStore d x).wr (0x6300 + d) 6 (v + 1)).segWrap d then
      requestStop d c srSTORE (c / 32 + 5) (((b.setStore d x).wr (0x6300 + d) 6 (v + 1)).wrBit (0x6300 + d) 2 3 true)
      else (b.setStore d x).wr (0x6300 + d) 6 (v + 1) := by
    rw [hx, hv]
    simp only [closeSegment, hseg]
    rfl
  rw [he, ← hx]
  split
  · exact ⟨((b.setStore d x).wr (0x6300 + d) 6 (v + 1)).wrBit (0x6300 + d) 2 3 true, rfl, .inr rfl⟩
  · exact ⟨(b.setStore d x).wr (0x6300 + d) 6 (v + 1), rfl, .inl rfl⟩

/-- What the stores are when a segment closes. -/
theorem closeSegment_store {d c reason : Nat} {b : Block} {g : Segment} (hseg : (b.store d).seg = some g) (e : Nat) :
    (closeSegment d c reason b).store e = if e = d then (b.store d).closedAt c reason g else b.store e := by
  obtain ⟨w, hw, h⟩ := closeSegment_eq (d := d) (c := c) (reason := reason) hseg
  have hst : w.store e = if e = d then (b.store d).closedAt c reason g else b.store e := by
    rw [← Block.store_setStore]
    simp only [Block.store, hw]
  rcases h with h | h
  · rw [h, hst]
  · rw [h, (stopBlind_store d e).requestStop, hst]

/-- With no deferred open waiting, a length close that is reached is all that happens. -/
theorem settleSegment_close {d c p : Nat} {b : Block} {g : Segment} (hseg : (b.store d).seg = some g) (hdef : (b.store d).deferred = none)
    (hlen : lengthClose b d g = some c) (hc : c < p) (he : b.evaluates d c = true) :
    settleSegment d p b = closeSegment d c 1 b := by
  have hclose : settleClose d p b = closeSegment d c 1 b := by simp [settleClose, hseg, hlen, hc, he]
  have hst := closeSegment_store (d := d) (c := c) (reason := 1) hseg d
  rw [if_pos rfl] at hst
  rw [settleSegment, hclose, settleOpen, hst]
  simp only [StoreDom.closedAt, hdef]

theorem openSegment_store (d o openTs cls reqTs : Nat) (late : Bool) (b : Block) (e : Nat) (he : e ≠ d) :
    (openSegment d o openTs cls reqTs late b).store e = b.store e :=
  (Block.store_setStore ..).trans (if_neg he)

theorem openSegment_opens (d o openTs cls reqTs : Nat) (late : Bool) (b : Block) :
    ((openSegment d o openTs cls reqTs late b).store d).deferred = none ∧
      ∃ g, ((openSegment d o openTs cls reqTs late b).store d).seg = some g ∧ g.o = o ∧ g.reqTs = reqTs ∧ g.late = late ∧
        g.seq = (b.store d).nextSeq := by
  have hself : ∀ x (c : Block), (c.setStore d x).store d = x := fun x c => Block.store_setStore_self ..
  exact ⟨congrArg StoreDom.deferred (hself _ b), _, congrArg StoreDom.seg (hself _ b), rfl, rfl, rfl, rfl⟩

/-- With no segment open, a deferred open whose position has come is all that happens. -/
theorem settleSegment_open {d p : Nat} {b : Block} {x : Deferred} (hseg : (b.store d).seg = none) (hdef : (b.store d).deferred = some x)
    (hp : x.at_ ≤ p) (he : b.evaluates d x.at_ = true) (hfree : slotProtected b d = false) :
    settleSegment d p b = openSegment d x.at_ (b.tsPos x.at_) clsSAMPLE x.reqTs true b := by
  simp [settleSegment, settleClose, settleOpen, hseg, hdef, hp, he, hfree]

/-- Settles O24: the stop that applies becomes known in its frame; a length close and a deferred open settle alone. -/
theorem theStoreEndsItsUnits : Obligations.TheStoreEndsItsUnits := by
  refine ⟨?_, ?_, ?_⟩
  · intro s d p x hon hd hpost hp harm hxe hx hbeats
    have he : postTriggerStop d s.blk = knowStop d s.blk := by simp [postTriggerStop, hpost, hp]
    have hreason : x.reason = srSTORE := by rw [hxe]
    have hdoms : (knowStop d s.blk).doms = s.blk.doms := by
      obtain ⟨regs, h⟩ := knowStop_shape d s.blk
      rw [h]
    refine ⟨_, State.act_of_on (by simp [Instr.wf, hd]) hon _, ?_, ?_, ?_, fun hk => ?_, fun hk hall => ?_, ?_⟩
    · rw [State.run_doms, he, hdoms]
    · rw [State.run_stores, he]
      obtain ⟨regs, h⟩ := knowStop_shape d s.blk
      rw [h]
    · rw [State.run_dom, he, Block.dom, hdoms]
      exact firstStop_of_least hx hbeats
    · have hrd : ∀ r, r < 256 → (s.run fun _ => postTriggerStop d).blk.rd (0x5100 + d) r =
          ((s.blk.wr (0x5100 + d) 2 2).wr (0x5100 + d) 4 srSTORE).rd (0x5100 + d) r := fun r hr => by
        rw [State.run_rd_low _ _ (by omega) hr, he, knowStop_of_known harm hx hbeats hk, hreason]
      refine ⟨(hrd _ (by decide)).trans ?_, (hrd _ (by decide)).trans (Block.rd_wr_of_lt _ _ _ (by decide))⟩
      rw [Block.rd_wr_of_ne _ _ (by omega), Block.rd_wr_of_lt _ _ _ (by decide)]
    · have hrest : knowStop d s.blk = s.blk := knowStop_of_unknown fun y hy => Nat.lt_of_lt_of_le hk (hall y hy)
      refine (State.run_rd_low _ _ (by omega) (by decide)).trans ?_
      rw [he, hrest]
      rfl
    · exact Block.Within.keeps (he ▸ knowStop_within d s.blk)
  · intro s d c g hon hd hseg hdef hlen hc hev
    have he : segmentLengthClose d s.blk = closeSegment d c 1 s.blk := by
      rw [segmentLengthClose, if_pos (by simp [hseg]), settleSegment_close hseg hdef hlen hc hev]
    have hst : ∀ e, (s.run fun _ => segmentLengthClose d).blk.store e = _ := fun e => by
      rw [State.run_store, he, closeSegment_store hseg e]
    refine ⟨_, State.act_of_on (by simp [Instr.wf, hd]) hon _, ?_, ?_, ?_, fun e hne => ?_⟩
    · rw [hst, if_pos rfl, StoreDom.closedAt]
    · rw [hst, if_pos rfl, StoreDom.closedAt]
    · rw [hst, if_pos rfl, StoreDom.closedAt]
    · rw [hst, if_neg hne]
  · intro s d x hon hd hseg hdef hp hev hfree
    have he : deferredSegmentOpen d s.blk = openSegment d x.at_ (s.blk.tsPos x.at_) clsSAMPLE x.reqTs true s.blk := by
      rw [deferredSegmentOpen, if_pos (by simp [hseg]), settleSegment_open hseg hdef hp hev hfree]
    obtain ⟨hnone, hopen⟩ := openSegment_opens d x.at_ (s.blk.tsPos x.at_) clsSAMPLE x.reqTs true s.blk
    have hst : ∀ e, (s.run fun _ => deferredSegmentOpen d).blk.store e = _ := fun e => (State.run_store ..).trans (congrArg (·.store e) he)
    refine ⟨_, State.act_of_on (by simp [Instr.wf, hd]) hon _, ?_, ?_, fun e hne => ?_⟩
    · rw [hst, hnone]
    · rw [hst]
      exact hopen
    · rw [hst, openSegment_store _ _ _ _ _ _ _ _ hne]

end Sys2Proof.Machine

/-! # What the DMA channels leave alone (R447 to R456) -/

namespace Sys2Proof.Machine

/-- An observation of the block that no single change of the channels' service touches: of the queue manager, of the endpoint and the
registers of BAR0, of what is on its way to the store, of its units, of a poisoned read, and of the fill that a stream leaves. -/
structure DmaBlind {γ : Type} (g : Block → γ) : Prop extends RecordBlind g where
  pcie : ∀ (b : Block) x, g { b with pcie := x } = g b := by intros; rfl
  bset : ∀ b off k v, g (b.bset off k v) = g b := by intros; rfl
  unit : ∀ b u v, g (b.setUnit u v) = g b := by intros; rfl
  written : ∀ (b : Block) l, g { b with mops := l } = g b := by intros; rfl
  poison : ∀ b a, g ((b.flag 0x7011 4 5 1).wr 0x7011 7 a) = g b := by intros; rfl
  drained : ∀ b t r, g (b.setStore t { b.store t with rpos := r }) = g b := by intros; rfl
  fill : ∀ b t, g (setFill t b) = g b

section

variable {γ : Type} {g : Block → γ} (hg : DmaBlind g)
include hg

theorem DmaBlind.setChan (c : Nat) (x : Dma) (b : Block) : g (b.setChan c x) = g b := hg.pcie ..

/-! ### Requests -/

theorem DmaBlind.beginService (c : Nat) (b : Block) : g (beginService c b) = g b := by
  unfold Machine.beginService
  dsimp only
  split
  · split
    · split
      · exact (hg.wakeBank ..).trans (hg.setChan ..)
      · exact hg.setChan ..
    · rfl
  · rfl

theorem DmaBlind.takeTurn (c : Nat) (q : Bool × Nat × Nat × Nat) (b : Block) : g (takeTurn c q b) = g b := by
  unfold Machine.takeTurn Machine.issueRead
  dsimp only
  rw [hg.pcie, hg.emit, hg.pcie]
  split
  · rfl
  · exact hg.setChan ..

theorem DmaBlind.turns (n : Nat) (b : Block) : g (turns n b) = g b := by
  induction n generalizing b with
  | zero => rfl
  | succ n ih =>
    unfold Machine.turns
    split
    · rfl
    · exact (ih _).trans (hg.takeTurn ..)

theorem DmaBlind.pumpAll (b : Block) : g (pumpAll b) = g b :=
  (hg.turns ..).trans (forEach_keeps g (fun c _ b => hg.beginService c b) b)

/-! ### Data to the host -/

theorem DmaBlind.poisoned (b : Block) : g (poisoned b) = g b := (hg.bset ..).trans (hg.bset ..)

theorem DmaBlind.hostPut (addr : Nat) (data : List Byte) (bad : List Nat) (b : Block) : g (hostPut addr data bad b) = g b := by
  refine (hg.pcie ..).trans (forEach_keeps g (fun q _ b => ?_) b)
  dsimp only
  split
  · exact (hg.emit ..).trans (hg.poisoned b)
  · exact hg.emit ..

theorem DmaBlind.poisonedRead (a : Nat) (b : Block) : g (poisonedRead a b) = g b := (hg.postError ..).trans (hg.poison ..)

theorem DmaBlind.popReadable (q n : Nat) (b : Block) : g (popReadable q n b).2 = g b := by
  induction n generalizing b with
  | zero => rfl
  | succ n ih =>
    have hp := hg.qPop q b
    unfold Machine.popReadable
    split
    case h_1 => rfl
    case h_2 p c he =>
      rw [he] at hp
      exact (ih c).trans hp

theorem DmaBlind.putData (mem : List Host.Cell) (bad : List Nat) (c n : Nat) (d : Descriptor) (b : Block) :
    g (putData mem bad c n d b).2.2 = g b := by
  unfold Machine.putData
  dsimp only
  split
  · exact hg.popReadable ..
  · exact forEach_keeps g (fun a _ b => hg.poisonedRead a b) b

theorem DmaBlind.channelTurn (mem : List Host.Cell) (bad : List Nat) (c : Nat) (b : Block) : g (channelTurn mem bad c b) = g b := by
  have hnext : g (match nextRequest c b with | some q => Machine.takeTurn c q b | none => b) = g b := by
    split
    · exact hg.takeTurn ..
    · rfl
  unfold Machine.channelTurn
  dsimp only
  split
  · split
    · exact hnext
    · rw [hg.hostPut, hg.pcie, hg.setChan, hg.putData]
  · exact hnext

theorem DmaBlind.rotations (mem : List Host.Cell) (bad : List Nat) (n : Nat) (b : Block) : g (rotations mem bad n b) = g b := by
  induction n generalizing b with
  | zero => rfl
  | succ n ih =>
    unfold Machine.rotations
    split
    · rfl
    · exact (ih _).trans (forEach_keeps g (fun c _ b => hg.channelTurn mem bad c b) b)

theorem DmaBlind.readQueue (c : Nat) (b : Block) : g (readQueue c b) = g b := by
  unfold Machine.readQueue
  split
  · next q _ =>
    split
    · have hc := hg.qCheck q b
      split
      case h_1 e he =>
        rw [he] at hc
        exact (hg.ringWake ..).trans hc
      case h_2 e he =>
        rw [he] at hc
        exact hc
    · rfl
  · rfl

theorem DmaBlind.runDry (c : Nat) (b : Block) : g (runDry c b) = g b := by
  unfold Machine.runDry
  dsimp only
  split
  · split
    · exact hg.setChan ..
    · rfl
  · rfl

theorem DmaBlind.serveDma (mem : List Host.Cell) (bad : List Nat) (b : Block) : g (serveDma mem bad b) = g b := by
  unfold Machine.serveDma
  dsimp only
  rw [hg.pumpAll, forEach_keeps g (fun c _ b => hg.runDry c b), hg.rotations, forEach_keeps g (fun c _ b => hg.readQueue c b),
    forEach_keeps g (fun c _ b => hg.beginService c b)]

theorem DmaBlind.serveFrame (mem : List Host.Cell) (bad : List Nat) (b : Block) : g (serveFrame mem bad b) = g b := by
  unfold Machine.serveFrame
  split
  · exact hg.serveDma ..
  · rfl

/-! ### A descriptor's end -/

theorem DmaBlind.stopChan (c st cause : Nat) (b : Block) : g (stopChan c st cause b) = g b := by
  unfold Machine.stopChan
  dsimp only
  rw [hg.setChan, hg.pcie]
  split
  · exact hg.qRewind ..
  · rfl

theorem DmaBlind.haltChan (cause c : Nat) (b : Block) : g (haltChan cause c b) = g b := by
  unfold Machine.haltChan
  dsimp only
  split
  · rfl
  · exact (hg.stopChan ..).trans (hg.setChan ..)

theorem DmaBlind.linkUse (b : Block) : g (linkUse b) = g b := by
  unfold Machine.linkUse
  split
  · rfl
  · exact hg.pcie ..

theorem DmaBlind.sendMsix (v : Nat) (b : Block) : g (sendMsix v b) = g b := by
  unfold Machine.sendMsix
  split
  · rfl
  · split
    · exact hg.bset ..
    · exact (hg.linkUse _).trans (hg.emit ..)

theorem DmaBlind.statusWrite (c : Nat) (b : Block) : g (statusWrite c b) = g b := by
  unfold Machine.statusWrite
  dsimp only
  split
  · rfl
  · exact hg.hostPut ..

theorem DmaBlind.completeDesc (c st bytes : Nat) (short ended int : Bool) (b : Block) :
    g (completeDesc c st bytes short ended int b) = g b := by
  have hhalt : ∀ b, g (if st = stOK then b else Machine.haltChan 6 c b) = g b := fun b => by
    split
    · rfl
    · exact hg.haltChan ..
  have hint : ∀ v b, g (if int || st != stOK then Machine.sendMsix v b else b) = g b := fun v b => by
    split
    · exact hg.sendMsix ..
    · rfl
  unfold Machine.completeDesc
  dsimp only
  rw [hhalt, hint, hg.statusWrite, hg.setChan, hg.hostPut]

theorem DmaBlind.storeWritePart (a : Nat) (data : List Byte) (b : Block) : g (storeWritePart a data b) = g b := by
  unfold Machine.storeWritePart Machine.discardWrite
  dsimp only
  split
  · rw [hg.bset, hg.bset, hg.bset]
  · rw [hg.written]
    split
    · exact hg.unit ..
    · rfl

theorem DmaBlind.storeWrite (n a : Nat) (data : List Byte) (b : Block) : g (storeWrite n a data b) = g b := by
  induction n generalizing a data b with
  | zero => rfl
  | succ n ih =>
    unfold Machine.storeWrite
    split
    · rfl
    · exact (ih ..).trans (hg.storeWritePart ..)

theorem DmaBlind.landParts (a need : Nat) (ps : List (Nat × List Byte)) (b : Block) : g (landParts a need ps b) = g b :=
  forEach_keeps g (fun _ _ b => hg.storeWrite _ _ _ b) b

theorem DmaBlind.finishService (c : Nat) (b : Block) : g (finishService c b) = g b := by
  have hpush : ∀ q (p : List (Nat × Nat)) (b : Block), g (match qCheck q b with
      | (false, b) => b
      | (true, b) => pushItems q (dmaAgent c) ((p.head?.map Prod.snd).getD 0) true (p.map Prod.fst) b) = g b := fun q p b => by
    have hc := hg.qCheck q b
    split
    case h_1 e he =>
      rw [he] at hc
      exact hc
    case h_2 e he =>
      rw [he] at hc
      exact (hg.pushItems ..).trans hc
  have hpackets : ∀ q (ps : List (List (Nat × Nat))) (b : Block), g (ps.foldl (fun b p => match qCheck q b with
      | (false, b) => b
      | (true, b) => pushItems q (dmaAgent c) ((p.head?.map Prod.snd).getD 0) true (p.map Prod.fst) b) b) = g b := fun q ps b =>
    List.foldlRecOn ps _ (motive := fun e => g e = g b) rfl (fun e he p _ => (hpush q p e).trans he)
  unfold Machine.finishService
  dsimp only
  split
  · split
    · exact hg.completeDesc ..
    · split
      · rfl
      · split
        · split
          · exact hg.completeDesc ..
          · rfl
        · split
          · rfl
          · exact (hg.completeDesc ..).trans (hg.landParts ..)
        · split
          · exact (hg.qRelease ..).trans (hg.completeDesc ..)
          · rfl
        · split
          · rfl
          · split
            · exact hg.ringWake ..
            · split
              · exact hg.completeDesc ..
              · exact (hg.completeDesc ..).trans (hpackets ..)
        · split
          · rw [hg.fill, hg.drained, hg.setChan, hg.completeDesc]
          · rfl
  · rfl

theorem DmaBlind.descriptorComplete (mem : List Host.Cell) (c : Nat) (bad : List Nat) (b : Block) :
    g (descriptorComplete mem c bad b) = g b := by
  unfold Machine.descriptorComplete
  dsimp only
  split
  · exact hg.serveDma ..
  · rw [hg.pumpAll, hg.finishService, hg.serveDma]

end

theorem dmaBlind_time : DmaBlind Block.time where
  fill b t := setFill_keeps (g := Block.time) (fun _ _ => rfl) t b

end Sys2Proof.Machine

/-! # An arm (R30, R94, R170, R171) -/

namespace Sys2Proof.Machine

/-! ### The checks do not see the count of requests -/

section

variable {b c : Block} (h : c.Alike b)
include h

/-- Registers of objects above 0x1E10. -/
theorem Block.Alike.rd_above {i : Nat} (hi : 0x1E11 ≤ i) (r : Nat) : c.rd i r = b.rd i r := h.rd i r (by omega)

theorem Block.Alike.hist (k : Nat) : c.hist k = b.hist k := (congrArg (fun b : Block => b.hist k) h.shape :)

theorem Block.Alike.podDom_any (n : Nat) : c.podDom n = b.podDom n := h.rd_above (by decide) _
theorem Block.Alike.ptuDom_any (u : Nat) : c.ptuDom u = b.ptuDom u := h.rd_above (by decide) _
theorem Block.Alike.mode_any (t : Nat) : c.mode t = b.mode t := h.rd_above (by decide) _
theorem Block.Alike.dstate_any (t : Nat) : c.dstate t = b.dstate t := h.rd_above (by omega) _
theorem Block.Alike.podsOf (t : Nat) : c.podsOf t = b.podsOf t := by simp only [Block.podsOf, h.podDom_any]
theorem Block.Alike.regionSize (r : Nat) : c.regionSize r = b.regionSize r := by
  simp only [Block.regionSize, h.rd_above (by decide : 0x1E11 ≤ 0x6000)]
theorem Block.Alike.actWord (t l br : Nat) : c.actWord t l br = b.actWord t l br := h.rd_above (by unfold levelObj; omega) _
theorem Block.Alike.safeOn (t : Nat) : c.safeOn t = b.safeOn t := by simp (disch := omega) only [Block.safeOn, h.rd_above]

theorem Block.Alike.usedSlots (t : Nat) : c.usedSlots t = b.usedSlots t := by
  have hcond : ∀ l br, c.condWord t l br = b.condWord t l br := fun l br => h.rd_above (by unfold levelObj; omega) _
  have hslot : ∀ l, c.slotWord t l = b.slotWord t l := fun l => funext fun s => h.rd_above (by unfold levelObj; omega) _
  have hused : ∀ l, c.slotUsed t l = b.slotUsed t l := fun l => funext fun s => by simp only [Block.slotUsed, hcond]
  simp only [Block.usedSlots, hused, hslot]

theorem Block.Alike.slotLanes (t w : Nat) : slotLanes c t w = slotLanes b t w := by
  have hpat : ∀ p, c.patMask t p = b.patMask t p := fun p => by simp (disch := omega) only [Block.patMask, patObj, h.rd_above]
  have hwidth : ∀ k, (c.widthCfg t k).lane = (b.widthCfg t k).lane := fun k => h.rd_above (by unfold widthObj; omega) _
  simp only [Machine.slotLanes, hpat, hwidth]

theorem Block.Alike.ptusOf (t : Nat) : c.ptusOf t = b.ptusOf t := by
  simp (disch := omega) only [Block.ptusOf, Block.unitsOf, h.ptuDom_any, Block.ptuStd, ptuObj, h.rd_above]

theorem Block.Alike.limitsOn (t : Nat) : limitsOn c t = limitsOn b t := by
  simp (disch := omega) only [Machine.limitsOn, limitObj, h.rd_above]

theorem Block.Alike.limitLanes (t : Nat) : limitLanes c t = limitLanes b t := by
  have hword : ∀ e, c.rd (limitObj t e) 1 = b.rd (limitObj t e) 1 := fun e => h.rd_above (by unfold limitObj; omega) _
  unfold Machine.limitLanes
  rw [h.limitsOn]
  congr 1
  funext e
  dsimp only
  rw [hword]

theorem Block.Alike.ptuRole (u r : Nat) : c.ptuRole u r = b.ptuRole u r := by
  have hword : c.rd (ptuObj u) (2 + r) = b.rd (ptuObj u) (2 + r) := h.rd_above (by unfold ptuObj; omega) _
  rw [Block.ptuRole, Block.ptuRole, hword]

theorem Block.Alike.ptuStd (u : Nat) : c.ptuStd u = b.ptuStd u := h.rd_above (by unfold ptuObj; omega) _

theorem Block.Alike.clockWord (t k : Nat) : c.clockWord t k = b.clockWord t k := h.rd_above (by omega) _
theorem Block.Alike.clocksUsed (t : Nat) : c.clocksUsed t = b.clocksUsed t := by simp only [Block.clocksUsed, h.clockWord]

theorem Block.Alike.lanesNamed (t : Nat) : lanesNamed c t = lanesNamed b t := by
  have hslots : Machine.slotLanes c t = Machine.slotLanes b t := funext (h.slotLanes t)
  have hptus : (fun u => (ptuRoles (c.ptuStd u)).filterMap (fun r => c.ptuRole u r)) =
      fun u => (ptuRoles (b.ptuStd u)).filterMap (fun r => b.ptuRole u r) := by simp only [h.ptuStd, h.ptuRole]
  have hclocks : (fun k => ckLane (c.clockWord t k)) = fun k => ckLane (b.clockWord t k) := by simp only [h.clockWord]
  have hamp : ampLanes c t = ampLanes b t := by simp (disch := omega) only [ampLanes, h.rd_above]
  have hword : ∀ e r, c.rd (hObj e) r = b.rd (hObj e) r := fun e r => h.rd_above (by unfold hObj; omega) _
  have hhist : (fun e => c.rd (hObj e) 3 :: (if c.rd (hObj e) 2 = 4 then [c.rd (hObj e) 4] else [])) =
      fun e => b.rd (hObj e) 3 :: (if b.rd (hObj e) 2 = 4 then [b.rd (hObj e) 4] else []) := funext fun e => by rw [hword, hword, hword]
  have hfilter : (fun e => c.rd (hObj e) 1 == t && c.rd (hObj e) 2 != 0) = fun e => b.rd (hObj e) 1 == t && b.rd (hObj e) 2 != 0 := by
    simp only [hword]
  have hon : c.on (0x6900 + t) 1 = b.on (0x6900 + t) 1 := by simp (disch := omega) only [Block.on, h.rd_above]
  unfold Machine.lanesNamed
  dsimp only
  rw [hhist, hfilter, hptus, hclocks, hslots, h.usedSlots, h.ptusOf, h.mode_any, h.clocksUsed, h.limitLanes, hon, hamp]

theorem Block.Alike.lanesOutside (t : Nat) : lanesOutside c t = lanesOutside b t := by
  simp only [Machine.lanesOutside, h.lanesNamed, h.podDom_any, h.ptusOf, h.ptuStd, h.ptuRole, h.usedSlots, h.ptuDom_any]

theorem Block.Alike.patsNamed (t : Nat) : patsNamed c t = patsNamed b t := by
  simp (disch := omega) only [Machine.patsNamed, h.actWord, h.safeOn, h.mode_any, h.rd_above]

theorem Block.Alike.patsInvalid (t : Nat) : patsInvalid c t = patsInvalid b t := by
  have hdesc : ∀ p, c.patDesc t p = b.patDesc t p := fun p => by simp (disch := omega) only [Block.patDesc, descObj, h.rd_above]
  simp only [Machine.patsInvalid, h.patsNamed, Machine.patValid, hdesc, h.regionSize, h.podDom_any, h.mode_any]

theorem Block.Alike.clocksInvalid (t : Nat) : clocksInvalid c t = clocksInvalid b t := by
  simp (disch := omega) only [Machine.clocksInvalid, h.clocksUsed, h.mode_any, h.podsOf, h.rd_above]

theorem Block.Alike.fullLanes : c.fullLanes = b.fullLanes := by
  simp only [Block.fullLanes, h.armedDoms, h.mode_any, h.podsOf]

theorem Block.Alike.charge (t : Nat) : c.charge t = b.charge t := by
  have hon : c.engOn = b.engOn := funext fun e => by simp (disch := omega) only [Block.engOn, eObj, Block.on, h.rd_above]
  simp (disch := omega) only [Block.charge, h.mode_any, h.podsOf, Block.strideK, Block.dataType, Block.enginesOf, hon, Block.engD, eObj, h.safeOn,
    h.rd_above]

theorem Block.Alike.followOk (t : Nat) : followOk c t = followOk b t := by
  have hport : c.portsWith 1 = b.portsWith 1 := by
    simp (disch := omega) only [Block.portsWith, h.sameChain.linkUp, Block.linkRole, portObj, h.rd_above]
  simp (disch := omega) only [Machine.followOk, h.isMember, hport, Block.chainMask, Block.linkVersion, portObj, h.rd_above]

theorem Block.Alike.r30Checks (t : Nat) : r30Checks c t = r30Checks b t := by
  have hcharge : c.charge = b.charge := funext h.charge
  have hfull : c.fullLimit = b.fullLimit := by rw [Block.fullLimit, Block.fullLimit, h.part]
  have hlimit : c.budgetLimit = b.budgetLimit := by rw [Block.budgetLimit, Block.budgetLimit, h.part]
  unfold Machine.r30Checks Block.budgetUsed
  dsimp only
  rw [h.mode_any, h.podsOf, h.lanesOutside, h.regionSize, h.patsInvalid, h.clocksInvalid, h.followOk, hfull, h.fullLanes, hlimit,
    h.armedDoms, hcharge]

theorem Block.Alike.r240Checks (t : Nat) : r240Checks c t = r240Checks b t := by
  simp (disch := omega) only [Machine.r240Checks, h.mode_any, segActions, h.actWord, h.regionSize, h.rd_above]

theorem Block.Alike.r294Checks (t : Nat) : r294Checks c t = r294Checks b t := by
  have hengines : c.enginesAt t = b.enginesAt t := by simp (disch := omega) only [Block.enginesAt, hObj, h.rd_above]
  have hbusy : histBusy c = histBusy b := funext fun k => by simp only [histBusy, h.hist]
  simp (disch := omega) only [Machine.r294Checks, h.mode_any, h.limitsOn, h.limitLanes, unitObj, maskObj, limitObj, Block.on, h.safeOn,
    hengines, hbusy, h.rd_above]

theorem Block.Alike.armChecks (t : Nat) : armChecks c t = armChecks b t := by
  have hpower : c.power = b.power := (congrArg Block.power h.shape :)
  have hpcie : c.pcie = b.pcie := (congrArg Block.pcie h.shape :)
  have hbound : boundChan c t = boundChan b t := by simp only [boundChan, h.chan]
  simp (disch := omega) only [Machine.armChecks, hpower, hpcie, h.dstate_any, h.r30Checks, h.r240Checks, h.r294Checks, h.mode_any, hbound,
    h.rd_above]

theorem Block.Alike.armStatus (t : Nat) : armStatus c t = armStatus b t := by
  have hheld : c.heldBank = b.heldBank := funext fun k => funext fun u => by simp only [Block.heldBank, h.maint]
  have hneed : banksNeeded c t = banksNeeded b t := by
    simp (disch := omega) only [banksNeeded, h.mode_any, Block.driveMode, h.safeOn, hheld, Block.histsOf, Block.recordsMode, hObj, h.rd_above]
  have htake : ∀ n, takeStatus c n = takeStatus b n := fun n => by
    have hun : unownedAtAll c = unownedAtAll b := funext fun k => by simp only [unownedAtAll, h.bank]
    have hq : qualifies c = qualifies b := funext fun k => by simp only [qualifies, h.bank]
    simp only [takeStatus, hun, hq]
  simp only [Machine.armStatus, h.armChecks, hneed, htake]

end

/-! ### What an arm sets stands to its end -/

/-- An observation that sees of an arm only the domain and its own object: no unit, pod or mask, and no register outside the objects
of the domains. -/
structure ArmBlind {γ : Type} (g : Block → γ) : Prop where
  pod : ∀ b n x, g (b.setPod n x) = g b := by intros; rfl
  meas : ∀ b n x, g (b.setMeas n x) = g b := by intros; rfl
  mask : ∀ b t x, g (b.setMask t x) = g b := by intros; rfl
  ptu : ∀ b u x, g (b.setPtu u x) = g b := by intros; rfl
  stim : ∀ b t x, g (b.setStim t x) = g b := by intros; rfl
  wr : ∀ (b : Block) i r v, r < 256 → (i < 0x5100 ∨ 0x5200 ≤ i) → g (b.wr i r v) = g b := by intros; rfl
  wrI : ∀ (b : Block) i r v, r < 256 → (i < 0x5100 ∨ 0x5200 ≤ i) → g (b.wrI i r v) = g b := by intros; rfl

theorem armBlind_rd {d r : Nat} (hd : d < 8) (hr : r < 256) : ArmBlind (fun b => b.rd (0x5100 + d) r) where
  wr b i k v hk hi := Block.rd_wr_of_ne b v (by omega)
  wrI b i k v hk hi := Block.rd_wrI_of_ne b v (by omega)

theorem armBlind_dom (d : Nat) : ArmBlind (fun b => b.dom d) := {}

section

variable {γ : Type} {g : Block → γ} (hg : ArmBlind g)
include hg

theorem ArmBlind.armVisit (n : Nat) (b : Block) : g (armVisit n b) = g b := by
  unfold Machine.armVisit
  split
  · exact hg.pod ..
  · rfl

theorem ArmBlind.maskArm {t : Nat} (b : Block) : g (maskArm t b) = g b := by
  have ho : 0x5200 ≤ maskObj t := by unfold maskObj; omega
  unfold Machine.maskArm
  dsimp only
  rw [hg.wr _ _ _ _ (by decide) (.inr ho), hg.wr _ _ _ _ (by decide) (.inr ho), hg.wr _ _ _ _ (by decide) (.inr ho),
    hg.wr _ _ _ _ (by decide) (.inr ho), hg.mask]

theorem ArmBlind.ptuArm (u first : Nat) (b : Block) : g (ptuArm u first b) = g b := by
  have ho : 0x5200 ≤ ptuStat u := by unfold ptuStat; omega
  unfold Machine.ptuArm
  dsimp only
  rw [hg.wr _ _ _ _ (by decide) (.inr ho), hg.wr _ _ _ _ (by decide) (.inr ho)]
  split
  · exact (hg.wrI _ _ _ _ (by decide) (.inr ho)).trans (hg.ptu ..)
  · exact (hg.wr _ _ _ _ (by decide) (.inr ho)).trans (hg.ptu ..)

theorem ArmBlind.stimArm (mem : List Host.Cell) {t : Nat} (ht : t < 8) (b : Block) : g (stimArm mem t b) = g b := by
  have ho : stimObj t < 0x5100 := by unfold stimObj; omega
  unfold Machine.stimArm
  dsimp only
  split
  · exact (hg.wr _ _ _ _ (by decide) (.inl ho)).trans ((hg.wr _ _ _ _ (by decide) (.inl ho)).trans (hg.stim ..))
  · exact hg.stim ..

theorem ArmBlind.coastedAtArm {t : Nat} (ht : t < 8) (b : Block) : g (coastedAtArm t b) = g b := by
  unfold Machine.coastedAtArm
  split
  · exact (hg.wr _ _ _ _ (by omega) (.inl (by omega))).trans (hg.wr _ _ _ _ (by omega) (.inl (by omega)))
  · rfl

end

/-- The domain that an arm sets up. -/
def armedDom (t : Nat) (b : Block) : Block :=
  let first := b.time.abs + 2
  let b := (b.wr (0x5100 + t) 2 1).wr (0x5100 + t) 4 srNONE
  b.setDom t { b.dom t with first := some first, evaluated := first * 32, stops := [], forced := [], placed := false }

theorem armAccept_keeps {γ : Type} {g : Block → γ} (hg : ArmBlind g) (mem : List Host.Cell) {t : Nat} (ht : t < 8) (b : Block) :
    g (armAccept mem t b) = g (armedDom t (takeArmBanks t (if b.mode t = 7 then streamArm mem t b else b))) := by
  have ho : stimObj t < 0x5100 := by unfold stimObj; omega
  unfold armAccept
  dsimp only
  rw [hg.coastedAtArm ht, hg.wr _ _ _ _ (by decide) (.inl ho), hg.wr _ _ _ _ (by decide) (.inl ho)]
  have hstim : ∀ c : Block, g (if c.driveMode t then stimArm mem t c else c) = g c := fun c => by
    split
    · exact hg.stimArm mem ht c
    · rfl
  rw [hstim, forEach_keeps g (fun u _ c => hg.ptuArm u _ c), hg.maskArm, forEach_keeps g (fun n _ c => hg.armVisit n c),
    forEach_keeps g (fun n _ c => hg.meas ..)]
  rfl

theorem takeBank_time (code unit : Nat) (b : Block) : (takeBank code unit b).time = b.time := by
  unfold takeBank
  split
  · exact recordBlind_time.toQueueBlind.wakeBank ..
  · rfl

theorem takeArmBanks_time (t : Nat) (b : Block) : (takeArmBanks t b).time = b.time := by
  have hhist : ∀ (h : Nat) (c : Block), (takeHistBank h c).time = c.time := fun h c => by
    unfold takeHistBank
    split
    · exact recordBlind_time.toQueueBlind.wakeBank ..
    · rfl
  have hregion : ∀ c : Block, (if needsRegion (c.mode t) then takeBank owSTAGING t c else c).time = c.time := fun c => by
    split
    · exact takeBank_time ..
    · rfl
  have hstim : ∀ c : Block, (if c.driveMode t && (c.heldBank owSTIM t).isNone then
      (match (takeBank owSTIM t c).heldBank owSTIM t with
      | some k => (takeBank owSTIM t c).wr (stimObj t) 0xD k
      | none => takeBank owSTIM t c) else c).time = c.time := fun c => by
    split
    · split
      · exact takeBank_time ..
      · exact takeBank_time ..
    · rfl
  unfold takeArmBanks
  exact (forEach_keeps Block.time (fun h _ c => hhist h c) _).trans ((hstim _).trans (hregion b))

theorem streamArm_time (mem : List Host.Cell) (t : Nat) (b : Block) : (streamArm mem t b).time = b.time := by
  have hdrain : ∀ (k : Nat) (p : Bool), (if p then descriptorComplete mem k [] b else b).time = b.time := fun k p => by
    cases p
    · rfl
    · exact dmaBlind_time.descriptorComplete ..
  unfold streamArm
  split
  · exact (dmaBlind_time.setChan ..).trans (hdrain ..)
  · rfl

theorem armAccept_facts (mem : List Host.Cell) {d : Nat} (hd : d < 8) (b : Block) :
    (armAccept mem d b).rd (0x5100 + d) 2 = 1 ∧ (armAccept mem d b).rd (0x5100 + d) 4 = srNONE ∧
      ((armAccept mem d b).dom d).first = some (b.time.abs + 2) ∧ ((armAccept mem d b).dom d).stop = none := by
  obtain ⟨c, hc⟩ : ∃ c, c = takeArmBanks d (if b.mode d = 7 then streamArm mem d b else b) := ⟨_, rfl⟩
  have htime : c.time = b.time := by
    rw [hc, takeArmBanks_time]
    split
    · exact streamArm_time ..
    · rfl
  have hdom : (armedDom d c).dom d = { c.dom d with
      first := some (c.time.abs + 2), evaluated := (c.time.abs + 2) * 32, stops := [], forced := [], placed := false } :=
    Block.dom_setDom_self ..
  have hkeep := armAccept_keeps (armBlind_dom d) mem hd b
  rw [← hc, hdom] at hkeep
  refine ⟨(armAccept_keeps (armBlind_rd hd (by decide)) mem hd b).trans ?_,
    (armAccept_keeps (armBlind_rd hd (by decide)) mem hd b).trans ?_, ?_, ?_⟩
  · rw [← hc]
    refine (Block.rd_wr_of_ne (c.wr (0x5100 + d) 2 1) _ (by omega)).trans ?_
    exact Block.rd_wr_of_lt _ _ _ (by decide)
  · rw [← hc]
    exact Block.rd_wr_of_lt (c.wr (0x5100 + d) 2 1) _ _ (by decide)
  · rw [hkeep, htime]
  · rw [hkeep]
    rfl

/-! ### The command -/

theorem abandonPods_none {d : Nat} {b : Block} (h : ∀ n ∈ b.podsOf d, b.maint.running.find? (fun a => a.pods.contains n) = none) :
    forEach (b.podsOf d) abandonPod b = b := by
  have hall : ∀ xs : List Nat, (∀ n ∈ xs, b.maint.running.find? (fun a => a.pods.contains n) = none) → forEach xs abandonPod b = b := by
    intro xs
    induction xs with
    | nil => intro _; rfl
    | cons n xs ih =>
      intro hx
      have hn : abandonPod n b = b := by rw [abandonPod, hx n List.mem_cons_self]
      calc forEach (n :: xs) abandonPod b = forEach xs abandonPod (abandonPod n b) := rfl
        _ = b := by rw [hn, ih fun m hm => hx m (List.mem_cons_of_mem _ hm)]
  exact hall _ h

theorem arm_of_free {b c : Block} {d : Nat} (hc : c.Alike b)
    (h : ∀ n ∈ b.podsOf d, b.maint.running.find? (fun a => a.pods.contains n) = none) (mem : List Host.Cell) :
    arm mem d c = if armStatus b d = stOK then (stOK, armAccept mem d c)
      else if armChecks b d = stOK && armStatus b d = stBUSY then (armStatus b d, reclaimUnowned c) else (armStatus b d, c) := by
  have hnone : forEach (c.podsOf d) abandonPod c = c := abandonPods_none fun n hn => by
    rw [hc.maint]
    exact h n (by rwa [hc.podsOf] at hn)
  unfold arm
  dsimp only
  rw [hnone, hc.armStatus, hc.armChecks]
  by_cases hst : armStatus b d = stOK
  · rw [if_pos hst, if_pos hst, hst]
  · rw [if_neg hst, if_neg hst]

/-- A domain that is ARMED or STOPPING is not armed again. -/
theorem armChecks_of_armed {b : Block} {d : Nat} (hlock : b.power.lockWait = false) (hflr : b.pcie.flr = false) (harm : b.armed d = true) :
    armChecks b d = if b.dstate d = 1 then stSTATE else stBUSY := by
  have h12 : b.dstate d = 1 ∨ b.dstate d = 2 := by simpa [Block.armed] using harm
  rcases h12 with h | h <;> simp [armChecks, hlock, hflr, firstFail, h]

/-- Settles O11: what an arm sets stands to its end; a domain that is armed is refused before anything else is looked at. -/
theorem armArmsTheDomain : Obligations.ArmArmsTheDomain := by
  refine ⟨?_, ?_⟩
  · intro s w d hs hd hr hfree hst
    have hcmd : ∀ b : Block, b.Alike s.blk → domainCommand s.mem d 1 b = (stOK, armAccept s.mem d b) := fun b hb =>
      (arm_of_free hb hfree s.mem).trans (if_pos hst)
    obtain ⟨b, x, m, o, hb, hrun, hans⟩ := via_domainCommand hs hd (by decide) (by decide) hr (st := stOK)
      (fun b hb => by rw [hcmd b hb]) (by decide)
    obtain ⟨h2, h4, hfirst, hstop⟩ := armAccept_facts s.mem hd b
    rw [hcmd b hb] at hrun hans
    have hdom : ∀ c : Block, (s.run fun _ _ => c.reply x m o).blk.dom d = c.dom d := fun c => State.run_dom ..
    have hrd : ∀ (c : Block) r, r < 256 → (s.run fun _ _ => c.reply x m o).blk.rd (0x5100 + d) r = c.rd (0x5100 + d) r := fun c r hr =>
      (State.run_rd_low _ _ (by omega) hr).trans (Block.reply_rd ..)
    refine ⟨_, (State.act_of_on (by simp [Instr.wf, hd]) hs.1 _).trans (congrArg _ hrun), ?_, ?_, ?_, ?_, hans⟩
    · exact (hrd _ _ (by decide)).trans h2
    · exact (hrd _ _ (by decide)).trans h4
    · rw [hdom, hfirst, hb.time]
    · rw [hdom, hstop]
  · intro s p d hs hd ha hlock hflr harm hfree
    have hchecks := armChecks_of_armed hlock hflr harm
    have hne : armChecks s.blk d ≠ stOK := by
      rw [hchecks]
      split <;> decide
    have hstatus : armStatus s.blk d = if s.blk.dstate d = 1 then stSTATE else stBUSY := by rw [armStatus, if_neg hne, hchecks]
    have hok : armStatus s.blk d ≠ stOK := by
      rw [hstatus]
      split <;> decide
    have hcmd : chapterWrite p s.mem (0x5100 + d) 1 1 s.blk.counted = (armStatus s.blk d, s.blk.counted) := by
      rw [chapterWrite_domainCommand hd]
      refine (arm_of_free s.blk.counted_alike hfree s.mem).trans ?_
      rw [if_neg hok, if_neg (by simp [hne])]
    obtain ⟨o, hrun⟩ := State.put_eq hs ha hcmd (by rw [hstatus]; split <;> decide)
    refine ⟨_, State.act_of_on (by simp [Instr.wf, hd]) hs.1 _, ?_, ?_, ?_⟩
    · show (s.put p (0x5100 + d) 1 1).blk.resp = _
      rw [hrun, State.run_resp, Block.reply_resp, hstatus]
    · show (s.put p (0x5100 + d) 1 1).blk.dom d = _
      rw [hrun, State.run_dom]
      rfl
    · show (s.put p (0x5100 + d) 1 1).blk.dstate d = _
      rw [hrun]
      refine (State.run_rd_low _ _ (by omega) (by decide)).trans ?_
      exact (Block.reply_rd ..).trans (s.blk.counted_alike.dstate (by omega))

end Sys2Proof.Machine

/-! # The FIR's bank in force (R117, R128, R139)

Of a state the statement O21 does not ask that the bank in force (0x4600 + e, subindex 5) is one of the two banks that an engine has. With
bank 4 the tap count, at subindex 9 + bank, is LINEAR_PHASE, which the decision of an output writes before its FIR is made. -/

namespace Sys2Proof.Machine

/-- A FIR of slot 0 that is due. -/
def firDue : Due := { task := .indigoFir 0 0 0 [1] [0], at_ := 0, by_ := 0 }

/-- Engine 0 makes an output each round with bank 4 in force, which has no taps yet; its first coefficient is 1 (2^14). -/
def bankFour : State :=
  { State.reset with
    blk := { (((State.reset.blk.wr 0x4600 4 1).wr 0x4600 5 4).wr 0x4600 0xD 0).wr 0x4740 1 16384 with due := [firDue] } }

/-- Y of the first output that a task compares. -/
def firstY (d : Due) : Option Int :=
  match d.task with
  | .indigoSlots _ _ _ (o :: _) => some o.y
  | _ => none

/-- LINEAR_PHASE has become 3, so the FIR has three taps and gives its input. -/
theorem bankFour_output : (indigoOutputAll 0 bankFour.blk).due.map firstY = [some 1] := by decide +kernel

/-- In the state before, bank 4 has no taps and gives 0. -/
theorem bankFour_bankOut : bankOut bankFour.blk (bankFour.blk.engBank 0) 0 [1] = (0, false) := by decide +kernel

theorem bankFour_due : takeDue (fun x => isOutputOf 0 x && decide (x.at_ ≤ bankFour.blk.time.abs)) bankFour.blk.due = some (firDue, []) := by
  decide +kernel

/-- Refutes O21: with bank 4 in force the output of a FIR (clause 2) is not that of the state's taps. -/
theorem not_detectorsAndIndigoShowTheirValues : ¬ Obligations.DetectorsAndIndigoShowTheirValues := by
  unfold Obligations.DetectorsAndIndigoShowTheirValues
  intro h
  obtain ⟨-, hfir, -⟩ := h
  have hon : bankFour.blk.power.on = true := by decide +kernel
  obtain ⟨t, ht, -, a, hdue, -, abs, o, htask, hy, -⟩ := hfir bankFour 0 0 0 1 firDue [] [1] hon (by decide) bankFour_due rfl
    (by decide +kernel) (by decide +kernel) (by decide +kernel) (by decide +kernel)
  have hrun : t = bankFour.run (fun _ b => indigoOutputAll 0 b) := by
    have hact := State.act_of_on (ok := (Instr.indigoOutput 0).wf) (by decide) hon (fun _ b => indigoOutputAll 0 b)
    exact (Host.Outcome.next.inj (hact.symm.trans ht)).symm
  have hout := bankFour_output
  have hfirst : firstY a = some 0 := by
    rw [firstY, htask]
    exact congrArg some (hy.trans (congrArg Prod.fst bankFour_bankOut))
  rw [hrun, State.run_due] at hdue
  rw [hdue, List.nil_append, List.map_singleton, hfirst] at hout
  exact absurd hout (by decide)

end Sys2Proof.Machine

/-! # A frame tick that walks no sample (R89, R171, R400)

Of a state the statement O8 does not ask that a maintenance activity that waits names pods that exist. One that names pod 0x1E00 + t marks, when
the tick starts it, lanes out of service at 0x3300 + pod, which is the object of domain t: its state is then neither ARMED nor STOPPING. -/

namespace Sys2Proof.Machine

/-- Domain 0 is ARMED and has been evaluated to the end of frame 0, frame 5 runs, and a recalibration waits for pod 0x1E00. -/
def awayBlock : Block :=
  let b := (State.reset.blk.wr 0x5100 2 1).setDom 0 { Dom.reset with first := some 1, evaluated := 32 }
  { b with
    time := { b.time with abs := 5 }, clk := { b.clk with run := true },
    maint := { b.maint with waiting := [{ probe := false, auto := true, pods := [0x1E00] }] } }

def awayPod : State := { State.reset with blk := awayBlock }

/-- A frame in which nothing comes in. -/
def quietFrame : FrameIn := { lanes := [], trig0 := [], trig1 := [], sync := [], late := [], outer := false, bad := [] }

/-! ### The end of the running frame -/

theorem away_start : indigoSyncReset (timebaseWrap (frameLoad awayBlock)) = awayBlock := by decide +kernel
theorem away_syncIn : forEach (List.range 32) syncInEvent awayBlock = awayBlock := by decide +kernel
theorem away_rounds : settleRounds awayBlock = awayBlock := by decide +kernel
theorem away_detectors : settleDetectors awayBlock = awayBlock := by decide +kernel
theorem away_applyEnd : forEach (List.range 32) applyEnd awayBlock = awayBlock := by decide +kernel
theorem away_latch : forEach (List.range 32) (fun n b => forEach (List.range 4) (fun _ b => resultsLatch n b) b) awayBlock = awayBlock := by
  decide +kernel
theorem away_ptu : forEach (List.range 16) ptuTimeout awayBlock = awayBlock := by decide +kernel
theorem away_settle : forEach (List.range 8) settleDomain awayBlock = awayBlock := by decide +kernel
theorem away_fade : forEach (List.range 64) fadeEnd awayBlock = awayBlock := by decide +kernel
theorem away_readout : forEach (List.range 16) (fun h b => readoutEnd h (readoutStart h b)) awayBlock = awayBlock := by decide +kernel

theorem away_verify : verifyDone (settleActivities awayBlock) = settleActivities awayBlock := by decide +kernel
theorem away_fallback : clockFallback (settleActivities awayBlock) = settleActivities awayBlock := by decide +kernel
theorem away_request : autoRecal (ptmTick awayBlock) = awayBlock := by decide +kernel

/-- All that the end of the frame does is to start the recalibration and to send what the links carry. -/
theorem away_end : endOfFrame awayBlock = sendMessages (settleActivities awayBlock) := by
  unfold endOfFrame
  dsimp only
  rw [away_start, away_syncIn, away_rounds, away_detectors, away_applyEnd, away_latch, away_ptu, away_settle, away_fade, away_readout,
    away_request, away_verify, away_fallback]

/-! ### The frame that follows -/

/-- The new frame from its number to the start of its domains. -/
def begun (inp : FrameIn) (r : Taking × Nat × Block) : Block :=
  forEach (List.range 8) startDomain (marginTick inp.outer (clockTick (stampLog (syncFrame r.1 inp.sync r.2.2))))

theorem frameTick_of_running {mem : List Host.Cell} {inp : FrameIn} {b e : Block} (hrun : b.clk.run = true) (hnext : b.clk.next.isSome = false)
    (hend : endOfFrame (serveFrame mem inp.bad b) = e) (hkeep : (serveFrame mem inp.bad b).clk.next = b.clk.next)
    (hps : (begun inp (nextFrame e)).ps = 0) : frameTick mem inp b =
      let c := forEach (List.range 8) (leaveAtBound mem) (pipeline mem (nextFrame e).1 (nextFrame e).2.1 inp (begun inp (nextFrame e)))
      if c.armedDoms.isEmpty then frameLoad c else c := by
  unfold begun at hps
  unfold frameTick begun
  dsimp only
  rw [hrun, hkeep, hnext, hend]
  simp only [Bool.not_true, Bool.false_eq_true, if_false, hps, if_true]

/-- The frame that the tick begins. -/
def awayTaking : Taking × Nat × Block := nextFrame (sendMessages (settleActivities awayBlock))

/-- The block when the pipeline begins to advance. -/
def awayNext : Block := begun quietFrame awayTaking

theorem awayNext_unarmed : ∀ t < 8, awayNext.armed t = false := by decide +kernel
theorem awayNext_dom : awayNext.dom 0 = awayBlock.dom 0 := by decide +kernel
theorem awayNext_stops : ∀ t < 8, (awayNext.dom t).stop = none := by decide +kernel
theorem awayNext_units : awayNext.stores = [] ∧ awayNext.meas = [] ∧ awayNext.masks = [] ∧ awayNext.ptus = [] ∧ awayNext.hists = [] := by
  decide +kernel
theorem awayNext_abs : awayTaking.1.abs = 6 ∧ awayNext.time.abs = 6 ∧ awayNext.ps = 0 := by decide +kernel
theorem awayNext_sync : awayNext.sync.slipDue = none ∧ awayNext.sync.loadDue = none := by decide +kernel
theorem awayNext_modes : (List.range 8).filter awayNext.driveMode = [] := by decide +kernel

/-! ### The pipeline (R19) -/

/-- What stages F to F + 2 do not change: all but the frames under way, the lanes, the pods, tasks, and the values of the trigger inputs. -/
def Block.behind (b : Block) : Block :=
  { b with packets := [], lanes := [], pods := [], due := [], sync := { b.sync with trig0 := false, trig1 := false } }

theorem dom_of_behind {b c : Block} (h : c.behind = b.behind) (t : Nat) : c.dom t = b.dom t := (congrArg (fun b : Block => b.dom t) h :)

theorem stageF_behind (tk : Taking) (dith lane : Nat) (x : Option LaneIn) (b : Block) : (stageF b tk dith lane x).behind = b.behind := by
  unfold stageF
  dsimp only
  split <;> rfl

theorem stageF1_behind (lane : Nat) (b : Block) : (stageF1 lane b).behind = b.behind := by
  unfold stageF1
  split <;> rfl

theorem detectLane_behind (l a tau : Nat) (b : Block) : (detectLane l a tau b).behind = b.behind := by
  unfold detectLane
  split
  · rfl
  · dsimp only
    split <;> rfl

theorem detectPod_behind (a n : Nat) (b : Block) : (detectPod a n b).behind = b.behind := by
  have hlanes : (forEach (List.range 16) (fun m b => detectLane (16 * n + m) a (b.rd (0x4100 + n) 2) b) b).behind = b.behind :=
    forEach_keeps Block.behind (fun _ _ c => detectLane_behind _ _ _ c) b
  unfold detectPod
  dsimp only
  generalize forEach (List.range 16) (fun m b => detectLane (16 * n + m) a (b.rd (0x4100 + n) 2) b) b = c at hlanes ⊢
  split
  · exact hlanes
  · have hif : ∀ (p : Bool) (d : Block) task x y, (if p then d else d.addDue task x y).behind = d.behind := fun p d task x y => by
      cases p <;> rfl
    refine (hif ..).trans ((forEach_keeps Block.behind (fun _ _ _ => ?_) _).trans hlanes)
    rfl

theorem takeX_behind (j : Nat) (b : Block) : (takeX j b).behind = b.behind := by
  unfold takeX
  dsimp only
  split
  · rfl
  · refine forEach_keeps Block.behind (fun _ _ _ => ?_) b
    rfl

theorem podStage_behind (tk : Taking) (inp : FrameIn) (n : Nat) (b : Block) : (podStage tk inp n b).behind = b.behind :=
  (forEach_keeps Block.behind (fun _ _ c => stageF_behind _ _ _ _ c) _).trans rfl

theorem frontEnd_behind (tk : Taking) (v : Nat) (inp : FrameIn) (b : Block) : (frontEnd tk v inp b).behind = b.behind := by
  have hdetect : ∀ c : Block, (if 2 ≤ tk.abs then forEach (List.range 32) (detectPod (tk.abs - 2)) c else c).behind = c.behind := fun c => by
    split
    · exact forEach_keeps Block.behind (fun n _ d => detectPod_behind _ n d) c
    · rfl
  unfold frontEnd
  dsimp only
  rw [forEach_keeps Block.behind (fun j _ d => takeX_behind j d), hdetect, forEach_keeps Block.behind (fun n _ d => stageF1_behind n d),
    forEach_keeps Block.behind (fun n _ d => podStage_behind tk inp n d)]
  rfl

/-- A loop of steps that change nothing changes nothing. -/
theorem forEach_same {α β : Type} {f : α → β → β} {xs : List α} {b : β} (h : ∀ x ∈ xs, f x b = b) : forEach xs f b = b := by
  induction xs with
  | nil => rfl
  | cons x xs ih =>
    calc forEach (x :: xs) f b = forEach xs f (f x b) := rfl
      _ = b := by rw [h x List.mem_cons_self, ih fun y hy => h y (List.mem_cons_of_mem _ hy)]

/-- A block in which no domain is armed, no record waits and no pattern is driven. -/
structure Block.Idle (b : Block) : Prop where
  unarmed : ∀ t < 8, b.armed t = false
  stops : ∀ t < 8, (b.dom t).stop = none
  stores : b.stores = []
  meas : b.meas = []
  masks : b.masks = []
  ptus : b.ptus = []
  hists : b.hists = []
  early : b.time.abs < 24
  still : (List.range 8).filter b.driveMode = []
  slip : b.sync.slipDue = none
  load : b.sync.loadDue = none

/-- Idleness is a matter of what stages F to F + 2 do not change. -/
theorem Block.Idle.of_behind {b c : Block} (h : b.Idle) (hc : c.behind = b.behind) : c.Idle where
  unarmed t ht := (congrArg (fun b : Block => b.armed t) hc : _).trans (h.unarmed t ht)
  stops t ht := (congrArg (fun b : Block => (b.dom t).stop) hc : _).trans (h.stops t ht)
  stores := (congrArg Block.stores hc : _).trans h.stores
  meas := (congrArg Block.meas hc : _).trans h.meas
  masks := (congrArg Block.masks hc : _).trans h.masks
  ptus := (congrArg Block.ptus hc : _).trans h.ptus
  hists := (congrArg Block.hists hc : _).trans h.hists
  early := Nat.lt_of_le_of_lt (Nat.le_of_eq (congrArg (fun b : Block => b.time.abs) hc : _)) h.early
  still := (congrArg (fun b : Block => (List.range 8).filter b.driveMode) hc : _).trans h.still
  slip := (congrArg (fun b : Block => b.sync.slipDue) hc : _).trans h.slip
  load := (congrArg (fun b : Block => b.sync.loadDue) hc : _).trans h.load

section

variable {b : Block} (h : b.Idle)
include h

theorem Block.Idle.drain : drain b = b := by
  have hstaged : ∀ t, (b.store t).staged = [] := fun t => by rw [Block.store, h.stores]; rfl
  have hneeds : ((List.range 8).map (fun t => (t, ((b.store t).staged.map (·.left)).sum, 0))).filter (fun x => x.2.1 != 0) = [] := by
    simp [hstaged]
  have hshares : ∀ cap, shares 16 cap [] = [] := fun cap => by simp [shares]
  unfold Machine.drain
  dsimp only
  rw [hneeds, hshares]
  rfl

theorem Block.Idle.records (n : Nat) : writeMeas n b = b ∧ writeViol n (handEmcy n b) = b ∧ ampCompare n b = b := by
  have hm : b.measUnit n = Meas.reset := by rw [Block.measUnit, h.meas]; rfl
  have hk : b.mask n = Mask.reset := by rw [Block.mask, h.masks]; rfl
  have hemcy : handEmcy n b = b := by
    unfold handEmcy
    rw [hk]
    rfl
  refine ⟨?_, ?_, ?_⟩
  · unfold writeMeas
    rw [hm]
    rfl
  · rw [hemcy]
    unfold writeViol
    rw [hk]
    rfl
  · unfold ampCompare
    rw [hk]
    rfl

theorem Block.Idle.domainFrame (a : Nat) {t : Nat} (ht : t < 8) : domainFrame a t b = b := by
  unfold Machine.domainFrame
  rw [h.unarmed t ht]
  rfl

theorem Block.Idle.storePath : storePath b = b := by
  have hdecode : ∀ u, writeDecode u b = b := fun u => by
    have hp : b.ptu u = Ptu.reset := by rw [Block.ptu, h.ptus]; rfl
    unfold writeDecode
    rw [hp]
    rfl
  have hhist : ∀ k, readoutFrame k (histLate k b) = b := fun k => by
    have hx : b.hist k = Hist.reset := by rw [Block.hist, h.hists]; rfl
    have hlate : histLate k b = b := by
      unfold histLate
      rw [hx]
      rfl
    rw [hlate]
    unfold readoutFrame
    rw [hx]
    rfl
  unfold Machine.storePath
  dsimp only
  rw [forEach_same (f := writeDecode) fun u _ => hdecode u, forEach_same (f := fun h b => readoutFrame h (histLate h b)) fun k _ => hhist k,
    if_pos h.early]

/-- At the contacts only the trigger outputs go on. -/
theorem Block.Idle.contacts (mem : List Host.Cell) (tk : Taking) (v : Nat) (late : List Nat) :
    ∃ o, contacts mem tk v late b = { b with outs := o } := by
  unfold Machine.contacts
  rw [h.still]
  have hpulse : ∀ o q (c : Block), ∃ x, pulseEnd o q c = { c with outs := x } := fun o q c => by
    unfold pulseEnd
    dsimp only
    split <;> exact ⟨_, rfl⟩
  have hdrive : ∀ o (c : Block), ∃ x, driveTrigOut tk v o (pulseEnd o tk.phys c) = { c with outs := x } := fun o c => by
    obtain ⟨x, hx⟩ := hpulse o tk.phys c
    rw [hx]
    exact ⟨_, rfl⟩
  obtain ⟨x, hx⟩ := hdrive 0 b
  obtain ⟨y, hy⟩ := hdrive 1 { b with outs := x }
  exact ⟨y, (congrArg (fun c => driveTrigOut tk v 1 (pulseEnd 1 tk.phys c)) hx).trans hy⟩

theorem Block.Idle.pipeline (mem : List Host.Cell) (tk : Taking) (v : Nat) (inp : FrameIn) (c : Block) (hc : (frontEnd tk v inp c) = b) :
    ∃ o, Machine.pipeline mem tk v inp c = { b with outs := o } := by
  have hdomain : (if 5 ≤ tk.abs then forEach (List.range 8) (Machine.domainFrame (tk.abs - 5)) b else b) = b := by
    split
    · exact forEach_same fun t ht => h.domainFrame _ (List.mem_range.1 ht)
    · rfl
  unfold Machine.pipeline
  dsimp only
  rw [hc, h.drain, forEach_same (f := writeMeas) fun n _ => (h.records n).1,
    forEach_same (f := fun t b => writeViol t (handEmcy t b)) fun t _ => (h.records t).2.1,
    forEach_same (f := ampCompare) fun t _ => (h.records t).2.2, hdomain, h.storePath]
  exact h.contacts ..

theorem Block.Idle.leaveAtBound (mem : List Host.Cell) : forEach (List.range 8) (leaveAtBound mem) b = b :=
  forEach_same fun t ht => by
    unfold Machine.leaveAtBound
    rw [h.stops t (List.mem_range.1 ht)]

theorem Block.Idle.frameLoad : frameLoad b = b := by
  have hslip : syncSlip b = b := by
    unfold syncSlip
    rw [h.slip]
  unfold Machine.frameLoad
  dsimp only
  rw [hslip, h.load]

end

theorem awayNext_idle : awayNext.Idle :=
  let ⟨hstores, hmeas, hmasks, hptus, hhists⟩ := awayNext_units
  { unarmed := awayNext_unarmed, stops := awayNext_stops, stores := hstores, meas := hmeas, masks := hmasks, ptus := hptus, hists := hhists,
    early := by rw [awayNext_abs.2.1]; decide, still := awayNext_modes, slip := awayNext_sync.1, load := awayNext_sync.2 }

/-- The tick leaves domain 0 as it was. -/
theorem away_tick : (frameTick [] quietFrame awayBlock).dom 0 = awayBlock.dom 0 := by
  obtain ⟨c, hc⟩ : ∃ c, frontEnd awayTaking.1 awayTaking.2.1 quietFrame awayNext = c := ⟨_, rfl⟩
  have hbehind : c.behind = awayNext.behind := hc ▸ frontEnd_behind ..
  have hidle : c.Idle := awayNext_idle.of_behind hbehind
  obtain ⟨o, ho⟩ := hidle.pipeline [] awayTaking.1 awayTaking.2.1 quietFrame awayNext hc
  have hout : ({ c with outs := o } : Block).Idle :=
    ⟨hidle.unarmed, hidle.stops, hidle.stores, hidle.meas, hidle.masks, hidle.ptus, hidle.hists, hidle.early, hidle.still, hidle.slip, hidle.load⟩
  have hserve : serveFrame [] quietFrame.bad awayBlock = awayBlock := by decide +kernel
  have hend : endOfFrame (serveFrame [] quietFrame.bad awayBlock) = sendMessages (settleActivities awayBlock) := by rw [hserve, away_end]
  have htick : frameTick [] quietFrame awayBlock = { c with outs := o } := by
    refine (frameTick_of_running (by decide +kernel) (by decide +kernel) hend (by rw [hserve]) awayNext_abs.2.2).trans ?_
    have hleave : forEach (List.range 8) (leaveAtBound []) (pipeline [] awayTaking.1 awayTaking.2.1 quietFrame awayNext) = { c with outs := o } :=
      (congrArg (forEach (List.range 8) (leaveAtBound [])) ho).trans (hout.leaveAtBound [])
    refine (congrArg (fun c : Block => if c.armedDoms.isEmpty then frameLoad c else c) hleave).trans ?_
    rw [hout.frameLoad, ite_self]
  rw [htick]
  exact (dom_of_behind hbehind 0).trans awayNext_dom

theorem awayPod_walks : Safety.Walks awayPod quietFrame 0 1 :=
  ⟨by decide, by decide +kernel, by decide +kernel, by decide +kernel, by decide +kernel, by decide +kernel, by decide +kernel, by decide +kernel,
    by decide, by decide, by decide +kernel, by decide +kernel, by decide +kernel, by decide +kernel, 1, by decide, by decide +kernel⟩

/-- Refutes O8: a waiting activity that names pod 0x1E00 spoils the state of domain 0, so the tick walks none of its samples (clause 8). -/
theorem not_frameTickAdvancesTheFrameNumber : ¬ Obligations.FrameTickAdvancesTheFrameNumber := by
  unfold Obligations.FrameTickAdvancesTheFrameNumber
  intro h
  obtain ⟨-, -, -, -, -, -, -, hwalk, -⟩ := h
  obtain ⟨t, ht, hevaluated⟩ := hwalk awayPod quietFrame 0 1 awayPod_walks
  have hact := State.act_of_on (ok := (Instr.frameTick quietFrame).wf) (by decide) awayPod_walks.2.1 (fun mem b => frameTick mem quietFrame b)
  have hrun : t = awayPod.run (fun mem b => frameTick mem quietFrame b) := (Host.Outcome.next.inj (hact.symm.trans ht)).symm
  have hdom : t.blk.dom 0 = awayBlock.dom 0 := by
    rw [hrun, State.run_dom]
    exact away_tick
  rw [hdom] at hevaluated
  exact absurd hevaluated (by decide +kernel)

end Sys2Proof.Machine
